-- ==== Sys2Proof/Word.lean ====
section
/-!
DEFINITION. Numbers, bits and sparse tables.

Registers are 32-bit words with fields (R2, R5 of 00_scope.md). A field is held as the number its
bits spell; quantities with a sign (R3) are integers. `Tbl` is the one representation of sparse
indexed storage: a list of (index, value) pairs with strictly rising indices.
-/

namespace Sys2Proof

/-- A register word (R5, 00_scope.md). -/
abbrev Word := BitVec 32

/-- Sparse storage: pairs of an index and a value, indices strictly rising. -/
abbrev Tbl (α : Type) := List (Nat × α)

/-- The value held at index `k`, or `d` where the table lists nothing. -/
def Tbl.get {α : Type} (d : α) (k : Nat) : Tbl α → α
  | [] => d
  | (i, v) :: t => if i = k then v else Tbl.get d k t

/-- The entry at index `k`, if the table lists one. -/
def Tbl.find {α : Type} (k : Nat) : Tbl α → Option α
  | [] => none
  | (i, v) :: t => if i = k then some v else Tbl.find k t

/-- The table without any entry at index `k`. -/
def Tbl.erase {α : Type} (k : Nat) : Tbl α → Tbl α
  | [] => []
  | (i, v) :: t => if i = k then Tbl.erase k t else (i, v) :: Tbl.erase k t

/-- Inserts an entry before the first entry of a higher index. -/
def Tbl.ins {α : Type} (k : Nat) (v : α) : Tbl α → Tbl α
  | [] => [(k, v)]
  | (i, w) :: t => if k < i then (k, v) :: (i, w) :: t else (i, w) :: Tbl.ins k v t

/-- Stores an entry, whatever its value. -/
def Tbl.put {α : Type} (k : Nat) (v : α) (t : Tbl α) : Tbl α := Tbl.ins k v (Tbl.erase k t)

/-- Stores a number in a table whose unlisted entries read as `d`: storing `d` removes the entry,
so that equal contents are equal data. -/
def Tbl.set (d : Nat) (k : Nat) (v : Nat) (t : Tbl Nat) : Tbl Nat :=
  if v = d then Tbl.erase k t else Tbl.put k v t

/-- The canonical form: indices strictly rising. -/
def Tbl.sorted {α : Type} : Tbl α → Bool
  | [] => true
  | (_, _) :: [] => true
  | (i, _) :: (j, w) :: t => decide (i < j) && Tbl.sorted ((j, w) :: t)

/-- The canonical form of a table over a single default value: indices strictly rising, and no
entry equal to what an unlisted index reads as. -/
def Tbl.wf (d : Nat) (t : Tbl Nat) : Bool := t.sorted && t.all (fun e => decide (e.2 ≠ d))

/-- Bits `lo` to `lo + len - 1` of a number. -/
def bitsOf (w lo len : Nat) : Nat := (w / 2 ^ lo) % 2 ^ len

/-- One bit of a number. -/
def bitOf (w n : Nat) : Bool := (w / 2 ^ n) % 2 == 1

/-- `w` with bits `lo` to `lo + len - 1` replaced by `v`. -/
def putBits (w lo len v : Nat) : Nat :=
  w - bitsOf w lo len * 2 ^ lo + (v % 2 ^ len) * 2 ^ lo

/-- A truth value as a bit. -/
def b2n (b : Bool) : Nat := if b then 1 else 0

/-- The two's-complement reading of an `n`-bit number. -/
def sx (n v : Nat) : Int := if v % 2 ^ n < 2 ^ (n - 1) then ((v % 2 ^ n : Nat) : Int) else ((v % 2 ^ n : Nat) : Int) - 2 ^ n

/-- The `n`-bit two's-complement pattern of an integer. -/
def ux (n : Nat) (x : Int) : Nat := (x % 2 ^ n).toNat

/-- Saturation to a signed `n`-bit range (R4, 00_scope.md). -/
def satS (n : Nat) (x : Int) : Int := max (-(2 ^ (n - 1))) (min (2 ^ (n - 1) - 1) x)

/-- Saturation to an unsigned `n`-bit range (R4, 00_scope.md). -/
def satU (n : Nat) (x : Int) : Nat := (max 0 (min (2 ^ n - 1) x)).toNat

/-- Division rounded to the nearest integer, ties to even (R4, 00_scope.md). A zero divisor gives 0. -/
def rneDiv (x : Int) (d : Nat) : Int :=
  if d = 0 then 0
  else
    let q := x / d
    let r := x % d
    if 2 * r < d then q else if (d : Int) < 2 * r then q + 1 else if q % 2 = 0 then q else q + 1

/-- Division by a power of two, rounded to nearest, ties to even (R4). -/
def rneShr (x : Int) (k : Nat) : Int := rneDiv x (2 ^ k)

/-- Division by an integer of either sign, rounded to nearest, ties to even (R4). -/
def rneDivI (x d : Int) : Int := if 0 ≤ d then rneDiv x d.toNat else rneDiv (-x) (-d).toNat

/-- Adds with saturation at the top of an unsigned `n`-bit counter. -/
def satAdd (n a b : Nat) : Nat := min (2 ^ n - 1) (a + b)

end Sys2Proof
end

