-- ==== Sys2Proof/Config.lean ====
section
/-!
DEFINITION. What the spec leaves open, as constants without a body: nothing in Lean can evaluate them,
so a statement holds for every value they may have.
-/

namespace Sys2Proof

/-- A free value: the `n`-th value the spec does not fix (notes/assumptions/2.md). -/
opaque Config.free : Nat → Nat

/-- The error of the machine's sin of an angle given as an unsigned Q0.32 fraction of a cycle, in units of 2^-40; `sinAt` holds it
within the bound of R152 (notes/assumptions/3.md). -/
opaque Config.sinErr : Nat → Int

/-- The error of cos, as `Config.sinErr` (R152). -/
opaque Config.cosErr : Nat → Int

/-- What the machine's 16-bit angle of a vector takes before its fraction is dropped, in units of 2^-48 cycle; `angle16` holds it
within the bound of R238 (notes/assumptions/3.md). -/
opaque Config.angleErr : Int → Int → Int

/-- The angle of the zero vector, for which the spec states none (R142, R238; notes/assumptions/3.md). -/
opaque Config.angleZero : Nat

end Sys2Proof
end

