-- ==== Sys2Proof/Machine/RegTypes.lean ====
section
/-!
DEFINITION. The shape of the register map: what a field and a register are.

A register is one 32-bit word (R5, 00_scope.md); a field has a place in it, an access code (R8) and a
reset value (R12). The map itself, read off the chapters' tables, is Machine/RegMap.lean.
-/

namespace Sys2Proof.Machine

/-- The blocks that own registers (01_line_and_tick.md, "Blocks and their paths"). -/
inductive Blk where
  | glb
  | rst
  | evr
  | mgt
  | saf
  | tim
  | net
  | can
  | chk
  | fio
  | fbk
  | leg
  | sns
  | axs
  | gaf
  | gth
  | pnt
deriving DecidableEq, Repr

/-- Field access codes (R8, 00_scope.md). `img` marks a field that only the configuration step
writes (R399, 16_power_reset_boot.md). -/
inductive Acc where
  | rw | ro | wo | w1c | w1s | rwo | rwd | rc | img
deriving DecidableEq, Repr

/-- Who owns the RWO and RWD fields of a register (R8): an axis, the axes of a leg, one loop of an
axis (`loop` 0 to 3 position, velocity, current 0, current 1; `loopc` the two current loops; `loopq`
velocity and the current loops; `pos`, `vel`, `cur` by name), or a lane. -/
inductive Own where
  | none
  | ax
  | cur
  | lane
  | leg
  | loop
  | loopc
  | loopq
  | pos
  | vel
deriving DecidableEq, Repr

/-- Fields whose value is computed from the block's state when it is read. -/
inductive Live where
  | glbStatus_devstate
  | glbStatus_tblock
  | glbStatus_axfault
  | glbStatus_axlive
  | glbTags_inflight
  | glbQfill_fill0
  | glbQfill_fill1
  | glbQfill_fill2
  | glbQfill_fill3
  | pwrVdrv_set
  | pwrVdrv_strap
  | pwrVdrv_level
  | fuseW_value
  | evrWin_word
  | evrCursor_seq
  | evrStat_fill
  | evrOldest_seq
  | evrFloldest_seq
  | mgtMbout_word
  | safTest_age
  | netDup_sources
  | canRxnewlo_new
  | canRxnewhi_new
  | chkResult_result
  | chkStat_busy
  | fioRb_drive
  | foSt_cur
  | fioIn_valid
  | faWordlo_w
  | faWordhi_w
  | faLead_lead
  | fqCntlo_v
  | fqCnthi_v
  | fqIdxlo_v
  | fqIdxhi_v
  | ltQposlo_x
  | ltQposhi_x
  | ltQsec_sec
  | ltQns_ns
  | ltQinfo_valid
  | ltQinfo_extrap
  | ltQinfo_old
  | ltQinfo_fill
  | ltQinfo_frac
  | snsIfs_ifs
  | snsBst_age
  | snsLat_l
  | axPtgtlo_v
  | axPtgthi_v
  | axPposlo_v
  | axPposhi_v
  | axPvello_v
  | axPvelhi_v
  | axPacclo_v
  | axPacchi_v
  | axGremlo_remlo
  | axGremhi_remhi
  | axEnglaglo_v
  | axEnglaghi_v
  | axCacclo_v
  | axCacchi_v
  | axScntlo_n
  | axScnthi_n
  | axSidx_index
  | axLoopst_pos
  | axLoopst_vel
  | axLoopst_cur0
  | axLoopst_cur1
  | lpIlo_v
  | lpIhi_v
  | lpOutlo_v
  | lpOuthi_v
  | axSeloutlo_w
  | axSelouthi_w
  | gmStat_fill
  | gmPoslo_v
  | gmPoshi_v
  | gmVello_v
  | gmVelhi_v
  | gmAcclo_v
  | gmAcchi_v
  | plStat_running
deriving DecidableEq, Repr

/-- Registers with a rule of their own for a read or a write. -/
inductive Sp where
  | plain
  | axBlend
  | axCamsel
  | axCfg
  | axCmd
  | axCper
  | axCpl
  | axCplCfg
  | axCplImm
  | axEcmd
  | camDesc
  | canBt
  | canCtrl
  | canTxabort
  | canTxreq
  | chkAlvcfg
  | chkAlvin
  | chkCfg
  | chkCmd
  | chkData
  | chkParam
  | chkRead
  | chkVal
  | cmpCtrl
  | cmpPoshi
  | evrCmd
  | evrCursor
  | evrWin
  | faCfg
  | faLdly
  | fiCfg
  | fioCfg
  | fioOut
  | fioWd
  | fioWdTimeout
  | fqCfg
  | fqCmd
  | fqm
  | fuse
  | fuseKey
  | fusePcmd
  | gmCtrl
  | gmGrace
  | gthCfg
  | gthCmd
  | gthSrc
  | hiCommit
  | lchCtrl
  | lchPer
  | lchTns
  | lchTsec
  | legBrk
  | legCfg
  | legChop
  | legFlt
  | legIsc
  | legReg
  | legSup
  | limHi
  | limLo
  | lmshift
  | loopcfg
  | loopctl
  | lpLimHi
  | lqLim
  | ltCfg
  | ltQinfo
  | ltReg
  | mbout
  | mdio
  | netCycle
  | netPCtrl
  | netSt
  | netStcfg
  | plCtrl
  | plOuten
  | pwrVdrv
  | rxoId
  | rxoWord
  | sensctl
  | snsCfg
  | stallcfg
  | tbCtrl
  | tbPtp
  | tbRate
  | tbRlim
  | tripCfg
  | tsfr
  | txo
deriving DecidableEq, Repr

/-- One field of a family of registers at `base + i * s1 + j * s2`. -/
structure Fld where
  blk : Blk
  base : Nat
  s1 : Nat := 0
  s2 : Nat := 0
  lo : Nat
  len : Nat
  acc : Acc
  reset : Nat := 0
  sgn : Bool := false
  rng : Option (Int × Int) := none
  live : Option Live := none
deriving DecidableEq, Repr

/-- One family of registers: `n1` by `n2` words at `base + i * s1 + j * s2`. -/
structure RegDef where
  blk : Blk
  base : Nat
  n1 : Nat := 1
  s1 : Nat := 4
  n2 : Nat := 1
  s2 : Nat := 4
  sp : Sp := .plain
  own : Own := .none
  flds : List Fld
deriving DecidableEq, Repr

end Sys2Proof.Machine
end

