-- ==== Sys2Proof/Machine/RegMap.lean ====
section
/-!
DEFINITION. The register map, field by field: address, place in the word, access code, reset value and
range, as the register tables of the chapters give them (R8, R12, R35). `F.<register>_<field>` is a
field, `R.<register>` a register, `regs<Block>` the registers of a block.
-/

namespace Sys2Proof.Machine

/-! Registers of GLB (chapter 01). -/

/-- GLB_ID [7:0]. -/
def F.glbId_family : Fld := { blk := .glb, base := 0, lo := 0, len := 8, acc := .ro, reset := 1 }
/-- GLB_ID [15:8]. -/
def F.glbId_step : Fld := { blk := .glb, base := 0, lo := 8, len := 8, acc := .ro, reset := 1 }
/-- GLB_ID [31:16]. -/
def F.glbId_part : Fld := { blk := .glb, base := 0, lo := 16, len := 16, acc := .ro, reset := 0x824 }
/-- The register GLB_ID. -/
def R.glbId : RegDef :=
  { blk := .glb, base := 0,
    flds := [F.glbId_family, F.glbId_step, F.glbId_part] }

/-- GLB_STATUS [2:0]. -/
def F.glbStatus_devstate : Fld := { blk := .glb, base := 4, lo := 0, len := 3, acc := .ro, live := some .glbStatus_devstate }
/-- GLB_STATUS [7:4]. -/
def F.glbStatus_tblock : Fld := { blk := .glb, base := 4, lo := 4, len := 4, acc := .ro, live := some .glbStatus_tblock }
/-- GLB_STATUS [15:8]. -/
def F.glbStatus_axfault : Fld := { blk := .glb, base := 4, lo := 8, len := 8, acc := .ro, live := some .glbStatus_axfault }
/-- GLB_STATUS [23:16]. -/
def F.glbStatus_axlive : Fld := { blk := .glb, base := 4, lo := 16, len := 8, acc := .ro, live := some .glbStatus_axlive }
/-- The register GLB_STATUS. -/
def R.glbStatus : RegDef :=
  { blk := .glb, base := 4,
    flds := [F.glbStatus_devstate, F.glbStatus_tblock, F.glbStatus_axfault, F.glbStatus_axlive] }

/-- GLB_TAGS [7:0]. -/
def F.glbTags_inflight : Fld := { blk := .glb, base := 8, lo := 0, len := 8, acc := .ro, live := some .glbTags_inflight }
/-- GLB_TAGS [15:8]. -/
def F.glbTags_peak : Fld := { blk := .glb, base := 8, lo := 8, len := 8, acc := .rc }
/-- The register GLB_TAGS. -/
def R.glbTags : RegDef :=
  { blk := .glb, base := 8,
    flds := [F.glbTags_inflight, F.glbTags_peak] }

/-- GLB_MARV [15:0]. -/
def F.glbMarv_busyLast : Fld := { blk := .glb, base := 0xC, lo := 0, len := 16, acc := .ro }
/-- GLB_MARV [31:16]. -/
def F.glbMarv_busyMax : Fld := { blk := .glb, base := 0xC, lo := 16, len := 16, acc := .rc }
/-- The register GLB_MARV. -/
def R.glbMarv : RegDef :=
  { blk := .glb, base := 0xC,
    flds := [F.glbMarv_busyLast, F.glbMarv_busyMax] }

/-- GLB_QFILL_k [7:0]. -/
def F.glbQfill_fill0 : Fld := { blk := .glb, base := 0x40, s1 := 4, lo := 0, len := 8, acc := .ro, live := some .glbQfill_fill0 }
/-- GLB_QFILL_k [15:8]. -/
def F.glbQfill_fill1 : Fld := { blk := .glb, base := 0x40, s1 := 4, lo := 8, len := 8, acc := .ro, live := some .glbQfill_fill1 }
/-- GLB_QFILL_k [23:16]. -/
def F.glbQfill_fill2 : Fld := { blk := .glb, base := 0x40, s1 := 4, lo := 16, len := 8, acc := .ro, live := some .glbQfill_fill2 }
/-- GLB_QFILL_k [31:24]. -/
def F.glbQfill_fill3 : Fld := { blk := .glb, base := 0x40, s1 := 4, lo := 24, len := 8, acc := .ro, live := some .glbQfill_fill3 }
/-- The register GLB_QFILL_k. -/
def R.glbQfill : RegDef :=
  { blk := .glb, base := 0x40, n1 := 8, s1 := 4,
    flds := [F.glbQfill_fill0, F.glbQfill_fill1, F.glbQfill_fill2, F.glbQfill_fill3] }

/-- The registers of GLB. -/
def regsGlb : List RegDef :=
  [R.glbId, R.glbStatus, R.glbTags, R.glbMarv, R.glbQfill]

/-! Registers of RST (chapter 16). -/

/-- RST_EVIDENCE [0]. -/
def F.rstEvidence_resetn : Fld := { blk := .rst, base := 0x10000, lo := 0, len := 1, acc := .ro }
/-- RST_EVIDENCE [1]. -/
def F.rstEvidence_porcore : Fld := { blk := .rst, base := 0x10000, lo := 1, len := 1, acc := .ro }
/-- RST_EVIDENCE [2]. -/
def F.rstEvidence_porio : Fld := { blk := .rst, base := 0x10000, lo := 2, len := 1, acc := .ro }
/-- RST_EVIDENCE [3]. -/
def F.rstEvidence_pora : Fld := { blk := .rst, base := 0x10000, lo := 3, len := 1, acc := .ro }
/-- RST_EVIDENCE [4]. -/
def F.rstEvidence_pordrv : Fld := { blk := .rst, base := 0x10000, lo := 4, len := 1, acc := .ro }
/-- RST_EVIDENCE [5]. -/
def F.rstEvidence_bpor : Fld := { blk := .rst, base := 0x10000, lo := 5, len := 1, acc := .ro, reset := 1 }
/-- RST_EVIDENCE [6]. -/
def F.rstEvidence_restart : Fld := { blk := .rst, base := 0x10000, lo := 6, len := 1, acc := .ro }
/-- RST_EVIDENCE [7]. -/
def F.rstEvidence_stopped : Fld := { blk := .rst, base := 0x10000, lo := 7, len := 1, acc := .w1c }
/-- RST_EVIDENCE [11:8]. -/
def F.rstEvidence_stopstep : Fld := { blk := .rst, base := 0x10000, lo := 8, len := 4, acc := .w1c }
/-- The register RST_EVIDENCE. -/
def R.rstEvidence : RegDef :=
  { blk := .rst, base := 0x10000,
    flds := [F.rstEvidence_resetn, F.rstEvidence_porcore, F.rstEvidence_porio, F.rstEvidence_pora, F.rstEvidence_pordrv, F.rstEvidence_bpor, F.rstEvidence_restart, F.rstEvidence_stopped, F.rstEvidence_stopstep] }

/-- RST_COUNT [31:0]. -/
def F.rstCount_count : Fld := { blk := .rst, base := 0x10004, lo := 0, len := 32, acc := .ro }
/-- The register RST_COUNT. -/
def R.rstCount : RegDef :=
  { blk := .rst, base := 0x10004,
    flds := [F.rstCount_count] }

/-- RST_PWRCYC [31:0]. -/
def F.rstPwrcyc_pwrcyc : Fld := { blk := .rst, base := 0x10008, lo := 0, len := 32, acc := .ro }
/-- The register RST_PWRCYC. -/
def R.rstPwrcyc : RegDef :=
  { blk := .rst, base := 0x10008,
    flds := [F.rstPwrcyc_pwrcyc] }

/-- RST_BOOT [0]. -/
def F.rstBoot_fwslot : Fld := { blk := .rst, base := 0x1000C, lo := 0, len := 1, acc := .ro }
/-- RST_BOOT [1]. -/
def F.rstBoot_imgslot : Fld := { blk := .rst, base := 0x1000C, lo := 1, len := 1, acc := .ro }
/-- RST_BOOT [5:2]. -/
def F.rstBoot_bad : Fld := { blk := .rst, base := 0x1000C, lo := 2, len := 4, acc := .ro }
/-- RST_BOOT [15:8]. -/
def F.rstBoot_fwreason : Fld := { blk := .rst, base := 0x1000C, lo := 8, len := 8, acc := .ro }
/-- RST_BOOT [23:16]. -/
def F.rstBoot_imgreason : Fld := { blk := .rst, base := 0x1000C, lo := 16, len := 8, acc := .ro }
/-- The register RST_BOOT. -/
def R.rstBoot : RegDef :=
  { blk := .rst, base := 0x1000C,
    flds := [F.rstBoot_fwslot, F.rstBoot_imgslot, F.rstBoot_bad, F.rstBoot_fwreason, F.rstBoot_imgreason] }

/-- RST_GAP [10:0]. -/
def F.rstGap_gap : Fld := { blk := .rst, base := 0x10010, lo := 0, len := 11, acc := .ro, reset := 0x40 }
/-- The register RST_GAP. -/
def R.rstGap : RegDef :=
  { blk := .rst, base := 0x10010,
    flds := [F.rstGap_gap] }

/-- CLK_STAT [0]. -/
def F.clkStat_oscgood : Fld := { blk := .rst, base := 0x10020, lo := 0, len := 1, acc := .ro }
/-- CLK_STAT [1]. -/
def F.clkStat_srcgood : Fld := { blk := .rst, base := 0x10020, lo := 1, len := 1, acc := .ro }
/-- CLK_STAT [2]. -/
def F.clkStat_plllock : Fld := { blk := .rst, base := 0x10020, lo := 2, len := 1, acc := .ro }
/-- CLK_STAT [3]. -/
def F.clkStat_refonsrc : Fld := { blk := .rst, base := 0x10020, lo := 3, len := 1, acc := .ro }
/-- The register CLK_STAT. -/
def R.clkStat : RegDef :=
  { blk := .rst, base := 0x10020,
    flds := [F.clkStat_oscgood, F.clkStat_srcgood, F.clkStat_plllock, F.clkStat_refonsrc] }

/-- CLK_GOOD [13:0]. -/
def F.clkGood_clkgood : Fld := { blk := .rst, base := 0x10024, lo := 0, len := 14, acc := .ro }
/-- The register CLK_GOOD. -/
def R.clkGood : RegDef :=
  { blk := .rst, base := 0x10024,
    flds := [F.clkGood_clkgood] }

/-- PWR_VDRV [6:0]. -/
def F.pwrVdrv_set : Fld := { blk := .rst, base := 0x10040, lo := 0, len := 7, acc := .rw, live := some .pwrVdrv_set }
/-- PWR_VDRV [14:8]. -/
def F.pwrVdrv_strap : Fld := { blk := .rst, base := 0x10040, lo := 8, len := 7, acc := .ro, live := some .pwrVdrv_strap }
/-- PWR_VDRV [22:16]. -/
def F.pwrVdrv_level : Fld := { blk := .rst, base := 0x10040, lo := 16, len := 7, acc := .ro, live := some .pwrVdrv_level }
/-- The register PWR_VDRV. -/
def R.pwrVdrv : RegDef :=
  { blk := .rst, base := 0x10040, sp := .pwrVdrv,
    flds := [F.pwrVdrv_set, F.pwrVdrv_strap, F.pwrVdrv_level] }

/-- FUSE_PADDR [5:0]. -/
def F.fusePaddr_word : Fld := { blk := .rst, base := 0x10300, lo := 0, len := 6, acc := .rw }
/-- The register FUSE_PADDR. -/
def R.fusePaddr : RegDef :=
  { blk := .rst, base := 0x10300, sp := .fuse,
    flds := [F.fusePaddr_word] }

/-- FUSE_PDATA [31:0]. -/
def F.fusePdata_bits : Fld := { blk := .rst, base := 0x10304, lo := 0, len := 32, acc := .rw }
/-- The register FUSE_PDATA. -/
def R.fusePdata : RegDef :=
  { blk := .rst, base := 0x10304, sp := .fuse,
    flds := [F.fusePdata_bits] }

/-- FUSE_KEY [31:0]. -/
def F.fuseKey_key : Fld := { blk := .rst, base := 0x10308, lo := 0, len := 32, acc := .wo }
/-- The register FUSE_KEY. -/
def R.fuseKey : RegDef :=
  { blk := .rst, base := 0x10308, sp := .fuseKey,
    flds := [F.fuseKey_key] }

/-- FUSE_PCMD [0]. -/
def F.fusePcmd_go : Fld := { blk := .rst, base := 0x1030C, lo := 0, len := 1, acc := .wo }
/-- The register FUSE_PCMD. -/
def R.fusePcmd : RegDef :=
  { blk := .rst, base := 0x1030C, sp := .fusePcmd,
    flds := [F.fusePcmd_go] }

/-- FUSE_PSTAT [0]. -/
def F.fusePstat_busy : Fld := { blk := .rst, base := 0x10310, lo := 0, len := 1, acc := .ro }
/-- FUSE_PSTAT [1]. -/
def F.fusePstat_ok : Fld := { blk := .rst, base := 0x10310, lo := 1, len := 1, acc := .ro }
/-- The register FUSE_PSTAT. -/
def R.fusePstat : RegDef :=
  { blk := .rst, base := 0x10310,
    flds := [F.fusePstat_busy, F.fusePstat_ok] }

/-- FUSE_w [31:0]. -/
def F.fuseW_value : Fld := { blk := .rst, base := 0x10400, s1 := 4, lo := 0, len := 32, acc := .ro, live := some .fuseW_value }
/-- The register FUSE_w. -/
def R.fuseW : RegDef :=
  { blk := .rst, base := 0x10400, n1 := 64, s1 := 4,
    flds := [F.fuseW_value] }

/-- The registers of RST. -/
def regsRst : List RegDef :=
  [R.rstEvidence, R.rstCount, R.rstPwrcyc, R.rstBoot, R.rstGap, R.clkStat, R.clkGood, R.pwrVdrv, R.fusePaddr, R.fusePdata, R.fuseKey, R.fusePcmd] ++
  [R.fusePstat, R.fuseW]

/-! Registers of EVR (chapter 17). -/

/-- EVR_WIN_w [31:0]. -/
def F.evrWin_word : Fld := { blk := .evr, base := 0x20000, s1 := 4, lo := 0, len := 32, acc := .ro, live := some .evrWin_word }
/-- The register EVR_WIN_w. -/
def R.evrWin : RegDef :=
  { blk := .evr, base := 0x20000, n1 := 8, s1 := 4, sp := .evrWin,
    flds := [F.evrWin_word] }

/-- EVR_CURSOR [31:0]. -/
def F.evrCursor_seq : Fld := { blk := .evr, base := 0x20020, lo := 0, len := 32, acc := .rw, live := some .evrCursor_seq }
/-- The register EVR_CURSOR. -/
def R.evrCursor : RegDef :=
  { blk := .evr, base := 0x20020, sp := .evrCursor,
    flds := [F.evrCursor_seq] }

/-- EVR_STAT [12:0]. -/
def F.evrStat_fill : Fld := { blk := .evr, base := 0x20024, lo := 0, len := 13, acc := .ro, live := some .evrStat_fill }
/-- EVR_STAT [13]. -/
def F.evrStat_pend : Fld := { blk := .evr, base := 0x20024, lo := 13, len := 1, acc := .ro }
/-- EVR_STAT [14]. -/
def F.evrStat_erasing : Fld := { blk := .evr, base := 0x20024, lo := 14, len := 1, acc := .ro }
/-- The register EVR_STAT. -/
def R.evrStat : RegDef :=
  { blk := .evr, base := 0x20024,
    flds := [F.evrStat_fill, F.evrStat_pend, F.evrStat_erasing] }

/-- EVR_NEWEST [31:0]. -/
def F.evrNewest_seq : Fld := { blk := .evr, base := 0x20028, lo := 0, len := 32, acc := .ro }
/-- The register EVR_NEWEST. -/
def R.evrNewest : RegDef :=
  { blk := .evr, base := 0x20028,
    flds := [F.evrNewest_seq] }

/-- EVR_OLDEST [31:0]. -/
def F.evrOldest_seq : Fld := { blk := .evr, base := 0x2002C, lo := 0, len := 32, acc := .ro, live := some .evrOldest_seq }
/-- The register EVR_OLDEST. -/
def R.evrOldest : RegDef :=
  { blk := .evr, base := 0x2002C,
    flds := [F.evrOldest_seq] }

/-- EVR_FLOLDEST [31:0]. -/
def F.evrFloldest_seq : Fld := { blk := .evr, base := 0x20030, lo := 0, len := 32, acc := .ro, live := some .evrFloldest_seq }
/-- The register EVR_FLOLDEST. -/
def R.evrFloldest : RegDef :=
  { blk := .evr, base := 0x20030,
    flds := [F.evrFloldest_seq] }

/-- EVR_CMD [0]. -/
def F.evrCmd_clear : Fld := { blk := .evr, base := 0x20034, lo := 0, len := 1, acc := .wo }
/-- EVR_CMD [15:8]. -/
def F.evrCmd_key : Fld := { blk := .evr, base := 0x20034, lo := 8, len := 8, acc := .wo }
/-- The register EVR_CMD. -/
def R.evrCmd : RegDef :=
  { blk := .evr, base := 0x20034, sp := .evrCmd,
    flds := [F.evrCmd_clear, F.evrCmd_key] }

/-- EVR_RL [7:0]. -/
def F.evrRl_burst : Fld := { blk := .evr, base := 0x20038, lo := 0, len := 8, acc := .rw, reset := 8, rng := some (1, 255) }
/-- EVR_RL [12:8]. -/
def F.evrRl_exempt : Fld := { blk := .evr, base := 0x20038, lo := 8, len := 5, acc := .rw, reset := 0x18 }
/-- EVR_RL [31:16]. -/
def F.evrRl_ivl : Fld := { blk := .evr, base := 0x20038, lo := 16, len := 16, acc := .rw, reset := 0x3E8, rng := some (1, 65535) }
/-- The register EVR_RL. -/
def R.evrRl : RegDef :=
  { blk := .evr, base := 0x20038,
    flds := [F.evrRl_burst, F.evrRl_exempt, F.evrRl_ivl] }

/-- EVR_DROP_s [15:0]. -/
def F.evrDrop_drop : Fld := { blk := .evr, base := 0x20040, s1 := 4, lo := 0, len := 16, acc := .rc }
/-- The register EVR_DROP_s. -/
def R.evrDrop : RegDef :=
  { blk := .evr, base := 0x20040, n1 := 5, s1 := 4,
    flds := [F.evrDrop_drop] }

/-- EVR_LOST [15:0]. -/
def F.evrLost_mirlost : Fld := { blk := .evr, base := 0x20054, lo := 0, len := 16, acc := .rc }
/-- EVR_LOST [31:16]. -/
def F.evrLost_lostq : Fld := { blk := .evr, base := 0x20054, lo := 16, len := 16, acc := .rc }
/-- The register EVR_LOST. -/
def R.evrLost : RegDef :=
  { blk := .evr, base := 0x20054,
    flds := [F.evrLost_mirlost, F.evrLost_lostq] }

/-- The registers of EVR. -/
def regsEvr : List RegDef :=
  [R.evrWin, R.evrCursor, R.evrStat, R.evrNewest, R.evrOldest, R.evrFloldest, R.evrCmd, R.evrRl, R.evrDrop, R.evrLost]

/-! Registers of MGT (chapter 17). -/

/-- MGT_STATE [1:0]. -/
def F.mgtState_core : Fld := { blk := .mgt, base := 0x30000, lo := 0, len := 2, acc := .ro }
/-- MGT_STATE [15:8]. -/
def F.mgtState_recycles : Fld := { blk := .mgt, base := 0x30000, lo := 8, len := 8, acc := .rc }
/-- The register MGT_STATE. -/
def R.mgtState : RegDef :=
  { blk := .mgt, base := 0x30000,
    flds := [F.mgtState_core, F.mgtState_recycles] }

/-- MGT_FWGEN [31:0]. -/
def F.mgtFwgen_gen : Fld := { blk := .mgt, base := 0x30004, lo := 0, len := 32, acc := .ro }
/-- The register MGT_FWGEN. -/
def R.mgtFwgen : RegDef :=
  { blk := .mgt, base := 0x30004,
    flds := [F.mgtFwgen_gen] }

/-- MGT_OPSEC [31:0]. -/
def F.mgtOpsec_opsec : Fld := { blk := .mgt, base := 0x30008, lo := 0, len := 32, acc := .ro }
/-- The register MGT_OPSEC. -/
def R.mgtOpsec : RegDef :=
  { blk := .mgt, base := 0x30008,
    flds := [F.mgtOpsec_opsec] }

/-- MGT_MBCFG [0]. -/
def F.mgtMbcfg_results : Fld := { blk := .mgt, base := 0x3000C, lo := 0, len := 1, acc := .rw }
/-- The register MGT_MBCFG. -/
def R.mgtMbcfg : RegDef :=
  { blk := .mgt, base := 0x3000C,
    flds := [F.mgtMbcfg_results] }

/-- MGT_MBOUT_w [31:0]. -/
def F.mgtMbout_word : Fld := { blk := .mgt, base := 0x30010, s1 := 4, lo := 0, len := 32, acc := .ro, live := some .mgtMbout_word }
/-- The register MGT_MBOUT_w. -/
def R.mgtMbout : RegDef :=
  { blk := .mgt, base := 0x30010, n1 := 8, s1 := 4, sp := .mbout,
    flds := [F.mgtMbout_word] }

/-- MGT_UPD [0]. -/
def F.mgtUpd_open : Fld := { blk := .mgt, base := 0x30040, lo := 0, len := 1, acc := .ro }
/-- MGT_UPD [1]. -/
def F.mgtUpd_kind : Fld := { blk := .mgt, base := 0x30040, lo := 1, len := 1, acc := .ro }
/-- MGT_UPD [2]. -/
def F.mgtUpd_slot : Fld := { blk := .mgt, base := 0x30040, lo := 2, len := 1, acc := .ro }
/-- MGT_UPD [3]. -/
def F.mgtUpd_broken : Fld := { blk := .mgt, base := 0x30040, lo := 3, len := 1, acc := .ro }
/-- MGT_UPD [5:4]. -/
def F.mgtUpd_ver : Fld := { blk := .mgt, base := 0x30040, lo := 4, len := 2, acc := .ro }
/-- MGT_UPD [31:16]. -/
def F.mgtUpd_stream : Fld := { blk := .mgt, base := 0x30040, lo := 16, len := 16, acc := .ro }
/-- The register MGT_UPD. -/
def R.mgtUpd : RegDef :=
  { blk := .mgt, base := 0x30040,
    flds := [F.mgtUpd_open, F.mgtUpd_kind, F.mgtUpd_slot, F.mgtUpd_broken, F.mgtUpd_ver, F.mgtUpd_stream] }

/-- MGT_UPDBYTES [31:0]. -/
def F.mgtUpdbytes_bytes : Fld := { blk := .mgt, base := 0x30044, lo := 0, len := 32, acc := .ro }
/-- The register MGT_UPDBYTES. -/
def R.mgtUpdbytes : RegDef :=
  { blk := .mgt, base := 0x30044,
    flds := [F.mgtUpdbytes_bytes] }

/-- MGT_UPDREF [15:0]. -/
def F.mgtUpdref_refused : Fld := { blk := .mgt, base := 0x30048, lo := 0, len := 16, acc := .rc }
/-- The register MGT_UPDREF. -/
def R.mgtUpdref : RegDef :=
  { blk := .mgt, base := 0x30048,
    flds := [F.mgtUpdref_refused] }

/-- MGT_AXIMG [7:0]. -/
def F.mgtAximg_slot : Fld := { blk := .mgt, base := 0x3004C, lo := 0, len := 8, acc := .ro }
/-- MGT_AXIMG [15:8]. -/
def F.mgtAximg_noact : Fld := { blk := .mgt, base := 0x3004C, lo := 8, len := 8, acc := .ro }
/-- The register MGT_AXIMG. -/
def R.mgtAximg : RegDef :=
  { blk := .mgt, base := 0x3004C,
    flds := [F.mgtAximg_slot, F.mgtAximg_noact] }

/-- MGT_XTAL [0]. -/
def F.mgtXtal_fail : Fld := { blk := .mgt, base := 0x30050, lo := 0, len := 1, acc := .ro }
/-- MGT_XTAL [1]. -/
def F.mgtXtal_ppmvalid : Fld := { blk := .mgt, base := 0x30050, lo := 1, len := 1, acc := .ro }
/-- MGT_XTAL [31:16]. -/
def F.mgtXtal_ppm : Fld := { blk := .mgt, base := 0x30050, lo := 16, len := 16, acc := .ro }
/-- The register MGT_XTAL. -/
def R.mgtXtal : RegDef :=
  { blk := .mgt, base := 0x30050,
    flds := [F.mgtXtal_fail, F.mgtXtal_ppmvalid, F.mgtXtal_ppm] }

/-- MGT_SENSCTL [0]. -/
def F.mgtSensctl_clr : Fld := { blk := .mgt, base := 0x30054, lo := 0, len := 1, acc := .wo }
/-- The register MGT_SENSCTL. -/
def R.mgtSensctl : RegDef :=
  { blk := .mgt, base := 0x30054, sp := .sensctl,
    flds := [F.mgtSensctl_clr] }

/-- MGT_TELE [0]. -/
def F.mgtTele_en : Fld := { blk := .mgt, base := 0x30058, lo := 0, len := 1, acc := .rw }
/-- The register MGT_TELE. -/
def R.mgtTele : RegDef :=
  { blk := .mgt, base := 0x30058,
    flds := [F.mgtTele_en] }

/-- MGT_SENS_k_NOW [31:0]. -/
def F.mgtSensNow_value : Fld := { blk := .mgt, base := 0x30100, s1 := 0x10, lo := 0, len := 32, acc := .ro }
/-- The register MGT_SENS_k_NOW. -/
def R.mgtSensNow : RegDef :=
  { blk := .mgt, base := 0x30100, n1 := 14, s1 := 0x10,
    flds := [F.mgtSensNow_value] }

/-- MGT_SENS_k_MIN [31:0]. -/
def F.mgtSensMin_value : Fld := { blk := .mgt, base := 0x30104, s1 := 0x10, lo := 0, len := 32, acc := .ro }
/-- The register MGT_SENS_k_MIN. -/
def R.mgtSensMin : RegDef :=
  { blk := .mgt, base := 0x30104, n1 := 14, s1 := 0x10,
    flds := [F.mgtSensMin_value] }

/-- MGT_SENS_k_MAX [31:0]. -/
def F.mgtSensMax_value : Fld := { blk := .mgt, base := 0x30108, s1 := 0x10, lo := 0, len := 32, acc := .ro }
/-- The register MGT_SENS_k_MAX. -/
def R.mgtSensMax : RegDef :=
  { blk := .mgt, base := 0x30108, n1 := 14, s1 := 0x10,
    flds := [F.mgtSensMax_value] }

/-- MGT_BSTMIN_n [15:0]. -/
def F.mgtBstmin_min : Fld := { blk := .mgt, base := 0x30200, s1 := 4, lo := 0, len := 16, acc := .ro, reset := 0xFFFF }
/-- The register MGT_BSTMIN_n. -/
def R.mgtBstmin : RegDef :=
  { blk := .mgt, base := 0x30200, n1 := 24, s1 := 4,
    flds := [F.mgtBstmin_min] }

/-- LEHR_SCRUB [15:0]. -/
def F.lehrScrub_passms : Fld := { blk := .mgt, base := 0x31000, lo := 0, len := 16, acc := .ro }
/-- LEHR_SCRUB [31:16]. -/
def F.lehrScrub_errs : Fld := { blk := .mgt, base := 0x31000, lo := 16, len := 16, acc := .rc }
/-- The register LEHR_SCRUB. -/
def R.lehrScrub : RegDef :=
  { blk := .mgt, base := 0x31000,
    flds := [F.lehrScrub_passms, F.lehrScrub_errs] }

/-- LEHR_JRN [16:0]. -/
def F.lehrJrn_fill : Fld := { blk := .mgt, base := 0x31004, lo := 0, len := 17, acc := .ro }
/-- LEHR_JRN [31:24]. -/
def F.lehrJrn_nosrc : Fld := { blk := .mgt, base := 0x31004, lo := 24, len := 8, acc := .rc }
/-- The register LEHR_JRN. -/
def R.lehrJrn : RegDef :=
  { blk := .mgt, base := 0x31004,
    flds := [F.lehrJrn_fill, F.lehrJrn_nosrc] }

/-- LEHR_STARVE [5:0]. -/
def F.lehrStarve_mask : Fld := { blk := .mgt, base := 0x31008, lo := 0, len := 6, acc := .ro }
/-- The register LEHR_STARVE. -/
def R.lehrStarve : RegDef :=
  { blk := .mgt, base := 0x31008,
    flds := [F.lehrStarve_mask] }

/-- The registers of MGT. -/
def regsMgt : List RegDef :=
  [R.mgtState, R.mgtFwgen, R.mgtOpsec, R.mgtMbcfg, R.mgtMbout, R.mgtUpd, R.mgtUpdbytes, R.mgtUpdref, R.mgtAximg, R.mgtXtal, R.mgtSensctl, R.mgtTele] ++
  [R.mgtSensNow, R.mgtSensMin, R.mgtSensMax, R.mgtBstmin, R.lehrScrub, R.lehrJrn, R.lehrStarve]

/-! Registers of SAF (chapter 14). -/

/-- SAF_STAT [2:0]. -/
def F.safStat_state : Fld := { blk := .saf, base := 0x40000, lo := 0, len := 3, acc := .ro }
/-- SAF_STAT [6:4]. -/
def F.safStat_demand : Fld := { blk := .saf, base := 0x40000, lo := 4, len := 3, acc := .ro }
/-- SAF_STAT [13:8]. -/
def F.safStat_latch : Fld := { blk := .saf, base := 0x40000, lo := 8, len := 6, acc := .ro }
/-- SAF_STAT [21:16]. -/
def F.safStat_gen : Fld := { blk := .saf, base := 0x40000, lo := 16, len := 6, acc := .ro }
/-- The register SAF_STAT. -/
def R.safStat : RegDef :=
  { blk := .saf, base := 0x40000,
    flds := [F.safStat_state, F.safStat_demand, F.safStat_latch, F.safStat_gen] }

/-- SAF_CFG [0]. -/
def F.safCfg_autorel : Fld := { blk := .saf, base := 0x40004, lo := 0, len := 1, acc := .img }
/-- SAF_CFG [1]. -/
def F.safCfg_fen : Fld := { blk := .saf, base := 0x40004, lo := 1, len := 1, acc := .img }
/-- SAF_CFG [2]. -/
def F.safCfg_react : Fld := { blk := .saf, base := 0x40004, lo := 2, len := 1, acc := .img }
/-- SAF_CFG [3]. -/
def F.safCfg_ageen : Fld := { blk := .saf, base := 0x40004, lo := 3, len := 1, acc := .img }
/-- SAF_CFG [4]. -/
def F.safCfg_tpexp : Fld := { blk := .saf, base := 0x40004, lo := 4, len := 1, acc := .img }
/-- The register SAF_CFG. -/
def R.safCfg : RegDef :=
  { blk := .saf, base := 0x40004,
    flds := [F.safCfg_autorel, F.safCfg_fen, F.safCfg_react, F.safCfg_ageen, F.safCfg_tpexp] }

/-- SAF_TP [9:0]. -/
def F.safTp_tpw : Fld := { blk := .saf, base := 0x40008, lo := 0, len := 10, acc := .img, rng := some (0, 1000) }
/-- SAF_TP [31:16]. -/
def F.safTp_tpper : Fld := { blk := .saf, base := 0x40008, lo := 16, len := 16, acc := .img, reset := 0x3E8, rng := some (1, 65535) }
/-- The register SAF_TP. -/
def R.safTp : RegDef :=
  { blk := .saf, base := 0x40008,
    flds := [F.safTp_tpw, F.safTp_tpper] }

/-- SAF_SS1 [15:0]. -/
def F.safSs1_ss1t : Fld := { blk := .saf, base := 0x4000C, lo := 0, len := 16, acc := .img, reset := 0x3E8, rng := some (1, 65535) }
/-- SAF_SS1 [23:16]. -/
def F.safSs1_axmask : Fld := { blk := .saf, base := 0x4000C, lo := 16, len := 8, acc := .img, reset := 0xFF }
/-- The register SAF_SS1. -/
def R.safSs1 : RegDef :=
  { blk := .saf, base := 0x4000C,
    flds := [F.safSs1_ss1t, F.safSs1_axmask] }

/-- SAF_WIN [15:0]. -/
def F.safWin_win : Fld := { blk := .saf, base := 0x40010, lo := 0, len := 16, acc := .img, reset := 0x64, rng := some (1, 10000) }
/-- SAF_WIN [23:16]. -/
def F.safWin_maxjump : Fld := { blk := .saf, base := 0x40010, lo := 16, len := 8, acc := .img, reset := 4, rng := some (1, 255) }
/-- The register SAF_WIN. -/
def R.safWin : RegDef :=
  { blk := .saf, base := 0x40010,
    flds := [F.safWin_win, F.safWin_maxjump] }

/-- SAF_TO [15:0]. -/
def F.safTo_to : Fld := { blk := .saf, base := 0x40014, lo := 0, len := 16, acc := .img, reset := 0x14, rng := some (1, 65535) }
/-- The register SAF_TO. -/
def R.safTo : RegDef :=
  { blk := .saf, base := 0x40014,
    flds := [F.safTo_to] }

/-- SAF_AGE [31:0]. -/
def F.safAge_age : Fld := { blk := .saf, base := 0x40018, lo := 0, len := 32, acc := .img, reset := 0x3E8 }
/-- The register SAF_AGE. -/
def R.safAge : RegDef :=
  { blk := .saf, base := 0x40018,
    flds := [F.safAge_age] }

/-- SAF_SEAL [7:0]. -/
def F.safSeal_addr : Fld := { blk := .saf, base := 0x4001C, lo := 0, len := 8, acc := .ro }
/-- SAF_SEAL [15:8]. -/
def F.safSeal_imgaddr : Fld := { blk := .saf, base := 0x4001C, lo := 8, len := 8, acc := .ro }
/-- SAF_SEAL [16]. -/
def F.safSeal_valid : Fld := { blk := .saf, base := 0x4001C, lo := 16, len := 1, acc := .ro }
/-- The register SAF_SEAL. -/
def R.safSeal : RegDef :=
  { blk := .saf, base := 0x4001C,
    flds := [F.safSeal_addr, F.safSeal_imgaddr, F.safSeal_valid] }

/-- SAF_FAIL [3:0]. -/
def F.safFail_cause : Fld := { blk := .saf, base := 0x40020, lo := 0, len := 4, acc := .ro }
/-- SAF_FAIL [31:16]. -/
def F.safFail_fails : Fld := { blk := .saf, base := 0x40020, lo := 16, len := 16, acc := .rc }
/-- The register SAF_FAIL. -/
def R.safFail : RegDef :=
  { blk := .saf, base := 0x40020,
    flds := [F.safFail_cause, F.safFail_fails] }

/-- SAF_CNT [15:0]. -/
def F.safCnt_pairs : Fld := { blk := .saf, base := 0x40024, lo := 0, len := 16, acc := .ro }
/-- SAF_CNT [23:16]. -/
def F.safCnt_tpulses : Fld := { blk := .saf, base := 0x40024, lo := 16, len := 8, acc := .rc }
/-- SAF_CNT [27:24]. -/
def F.safCnt_resets : Fld := { blk := .saf, base := 0x40024, lo := 24, len := 4, acc := .rc }
/-- SAF_CNT [31:28]. -/
def F.safCnt_ignored : Fld := { blk := .saf, base := 0x40024, lo := 28, len := 4, acc := .rc }
/-- The register SAF_CNT. -/
def R.safCnt : RegDef :=
  { blk := .saf, base := 0x40024,
    flds := [F.safCnt_pairs, F.safCnt_tpulses, F.safCnt_resets, F.safCnt_ignored] }

/-- SAF_ALIVE [15:0]. -/
def F.safAlive_rxalive : Fld := { blk := .saf, base := 0x40028, lo := 0, len := 16, acc := .ro }
/-- SAF_ALIVE [31:16]. -/
def F.safAlive_txalive : Fld := { blk := .saf, base := 0x40028, lo := 16, len := 16, acc := .ro }
/-- The register SAF_ALIVE. -/
def R.safAlive : RegDef :=
  { blk := .saf, base := 0x40028,
    flds := [F.safAlive_rxalive, F.safAlive_txalive] }

/-- SAF_TEST [5:0]. -/
def F.safTest_passed : Fld := { blk := .saf, base := 0x4002C, lo := 0, len := 6, acc := .ro }
/-- SAF_TEST [6]. -/
def F.safTest_startok : Fld := { blk := .saf, base := 0x4002C, lo := 6, len := 1, acc := .ro }
/-- SAF_TEST [15:7]. -/
def F.safTest_maxage : Fld := { blk := .saf, base := 0x4002C, lo := 7, len := 9, acc := .rw, reset := 0x18, rng := some (1, 511) }
/-- SAF_TEST [31:16]. -/
def F.safTest_age : Fld := { blk := .saf, base := 0x4002C, lo := 16, len := 16, acc := .ro, live := some .safTest_age }
/-- The register SAF_TEST. -/
def R.safTest : RegDef :=
  { blk := .saf, base := 0x4002C,
    flds := [F.safTest_passed, F.safTest_startok, F.safTest_maxage, F.safTest_age] }

/-- SAF_RXDAT_k [31:0]. -/
def F.safRxdat_data : Fld := { blk := .saf, base := 0x40040, s1 := 4, lo := 0, len := 32, acc := .ro }
/-- The register SAF_RXDAT_k. -/
def R.safRxdat : RegDef :=
  { blk := .saf, base := 0x40040, n1 := 8, s1 := 4,
    flds := [F.safRxdat_data] }

/-- SAF_TXUSR_k [31:0]. -/
def F.safTxusr_data : Fld := { blk := .saf, base := 0x40060, s1 := 4, lo := 0, len := 32, acc := .rw }
/-- The register SAF_TXUSR_k. -/
def R.safTxusr : RegDef :=
  { blk := .saf, base := 0x40060, n1 := 6, s1 := 4,
    flds := [F.safTxusr_data] }

/-- The registers of SAF. -/
def regsSaf : List RegDef :=
  [R.safStat, R.safCfg, R.safTp, R.safSs1, R.safWin, R.safTo, R.safAge, R.safSeal, R.safFail, R.safCnt, R.safAlive, R.safTest] ++
  [R.safRxdat, R.safTxusr]

/-! Registers of TIM (chapter 02). -/

/-- TB_n_CTRL [1:0]. -/
def F.tbCtrl_src : Fld := { blk := .tim, base := 0x50000, s1 := 0x100, lo := 0, len := 2, acc := .rw, rng := some (0, 2) }
/-- TB_n_CTRL [2]. -/
def F.tbCtrl_port : Fld := { blk := .tim, base := 0x50000, s1 := 0x100, lo := 2, len := 1, acc := .rw }
/-- TB_n_CTRL [3]. -/
def F.tbCtrl_gm : Fld := { blk := .tim, base := 0x50000, s1 := 0x100, lo := 3, len := 1, acc := .rw }
/-- TB_n_CTRL [4]. -/
def F.tbCtrl_manual : Fld := { blk := .tim, base := 0x50000, s1 := 0x100, lo := 4, len := 1, acc := .rw }
/-- TB_n_CTRL [5]. -/
def F.tbCtrl_rearm : Fld := { blk := .tim, base := 0x50000, s1 := 0x100, lo := 5, len := 1, acc := .wo }
/-- TB_n_CTRL [6]. -/
def F.tbCtrl_load : Fld := { blk := .tim, base := 0x50000, s1 := 0x100, lo := 6, len := 1, acc := .wo }
/-- TB_n_CTRL [15:8]. -/
def F.tbCtrl_loststop : Fld := { blk := .tim, base := 0x50000, s1 := 0x100, lo := 8, len := 8, acc := .rw }
/-- The register TB_n_CTRL. -/
def R.tbCtrl : RegDef :=
  { blk := .tim, base := 0x50000, n1 := 4, s1 := 0x100, sp := .tbCtrl,
    flds := [F.tbCtrl_src, F.tbCtrl_port, F.tbCtrl_gm, F.tbCtrl_manual, F.tbCtrl_rearm, F.tbCtrl_load, F.tbCtrl_loststop] }

/-- TB_n_PTP [7:0]. -/
def F.tbPtp_domain : Fld := { blk := .tim, base := 0x50004, s1 := 0x100, lo := 0, len := 8, acc := .rw }
/-- TB_n_PTP [15:8]. -/
def F.tbPtp_minorsdo : Fld := { blk := .tim, base := 0x50004, s1 := 0x100, lo := 8, len := 8, acc := .rw }
/-- TB_n_PTP [19:16]. -/
def F.tbPtp_majorsdo : Fld := { blk := .tim, base := 0x50004, s1 := 0x100, lo := 16, len := 4, acc := .rw }
/-- The register TB_n_PTP. -/
def R.tbPtp : RegDef :=
  { blk := .tim, base := 0x50004, n1 := 4, s1 := 0x100, sp := .tbPtp,
    flds := [F.tbPtp_domain, F.tbPtp_minorsdo, F.tbPtp_majorsdo] }

/-- TB_n_STATE [2:0]. -/
def F.tbState_state : Fld := { blk := .tim, base := 0x50008, s1 := 0x100, lo := 0, len := 3, acc := .ro }
/-- TB_n_STATE [3]. -/
def F.tbState_stepok : Fld := { blk := .tim, base := 0x50008, s1 := 0x100, lo := 3, len := 1, acc := .ro, reset := 1 }
/-- TB_n_STATE [4]. -/
def F.tbState_atlimit : Fld := { blk := .tim, base := 0x50008, s1 := 0x100, lo := 4, len := 1, acc := .ro }
/-- TB_n_STATE [5]. -/
def F.tbState_nosrc : Fld := { blk := .tim, base := 0x50008, s1 := 0x100, lo := 5, len := 1, acc := .ro }
/-- TB_n_STATE [31:16]. -/
def F.tbState_meascnt : Fld := { blk := .tim, base := 0x50008, s1 := 0x100, lo := 16, len := 16, acc := .ro }
/-- The register TB_n_STATE. -/
def R.tbState : RegDef :=
  { blk := .tim, base := 0x50008, n1 := 4, s1 := 0x100,
    flds := [F.tbState_state, F.tbState_stepok, F.tbState_atlimit, F.tbState_nosrc, F.tbState_meascnt] }

/-- TB_n_OFFSET [31:0]. -/
def F.tbOffset_offset : Fld := { blk := .tim, base := 0x5000C, s1 := 0x100, lo := 0, len := 32, acc := .ro }
/-- The register TB_n_OFFSET. -/
def R.tbOffset : RegDef :=
  { blk := .tim, base := 0x5000C, n1 := 4, s1 := 0x100,
    flds := [F.tbOffset_offset] }

/-- TB_n_TSFR [15:0]. -/
def F.tbTsfr_frac : Fld := { blk := .tim, base := 0x50010, s1 := 0x100, lo := 0, len := 16, acc := .ro }
/-- TB_n_TSFR [31:16]. -/
def F.tbTsfr_sechi : Fld := { blk := .tim, base := 0x50010, s1 := 0x100, lo := 16, len := 16, acc := .ro }
/-- The register TB_n_TSFR. -/
def R.tbTsfr : RegDef :=
  { blk := .tim, base := 0x50010, n1 := 4, s1 := 0x100, sp := .tsfr,
    flds := [F.tbTsfr_frac, F.tbTsfr_sechi] }

/-- TB_n_TNS [31:0]. -/
def F.tbTns_ns : Fld := { blk := .tim, base := 0x50014, s1 := 0x100, lo := 0, len := 32, acc := .ro }
/-- The register TB_n_TNS. -/
def R.tbTns : RegDef :=
  { blk := .tim, base := 0x50014, n1 := 4, s1 := 0x100,
    flds := [F.tbTns_ns] }

/-- TB_n_TSEC [31:0]. -/
def F.tbTsec_seclo : Fld := { blk := .tim, base := 0x50018, s1 := 0x100, lo := 0, len := 32, acc := .ro }
/-- The register TB_n_TSEC. -/
def R.tbTsec : RegDef :=
  { blk := .tim, base := 0x50018, n1 := 4, s1 := 0x100,
    flds := [F.tbTsec_seclo] }

/-- TB_n_LDHI [15:0]. -/
def F.tbLdhi_sechi : Fld := { blk := .tim, base := 0x5001C, s1 := 0x100, lo := 0, len := 16, acc := .rw }
/-- The register TB_n_LDHI. -/
def R.tbLdhi : RegDef :=
  { blk := .tim, base := 0x5001C, n1 := 4, s1 := 0x100,
    flds := [F.tbLdhi_sechi] }

/-- TB_n_LDSEC [31:0]. -/
def F.tbLdsec_seclo : Fld := { blk := .tim, base := 0x50020, s1 := 0x100, lo := 0, len := 32, acc := .rw }
/-- The register TB_n_LDSEC. -/
def R.tbLdsec : RegDef :=
  { blk := .tim, base := 0x50020, n1 := 4, s1 := 0x100,
    flds := [F.tbLdsec_seclo] }

/-- TB_n_LDNS [29:0]. -/
def F.tbLdns_ns : Fld := { blk := .tim, base := 0x50024, s1 := 0x100, lo := 0, len := 30, acc := .rw, rng := some (0, 999999999) }
/-- The register TB_n_LDNS. -/
def R.tbLdns : RegDef :=
  { blk := .tim, base := 0x50024, n1 := 4, s1 := 0x100,
    flds := [F.tbLdns_ns] }

/-- TB_n_RATE [31:0]. -/
def F.tbRate_rate : Fld := { blk := .tim, base := 0x50028, s1 := 0x100, lo := 0, len := 32, acc := .rw }
/-- The register TB_n_RATE. -/
def R.tbRate : RegDef :=
  { blk := .tim, base := 0x50028, n1 := 4, s1 := 0x100, sp := .tbRate,
    flds := [F.tbRate_rate] }

/-- TB_n_RLIM [30:0]. -/
def F.tbRlim_rlim : Fld := { blk := .tim, base := 0x5002C, s1 := 0x100, lo := 0, len := 31, acc := .rw, reset := 0x68DB8BB, rng := some (1, 2147483647) }
/-- The register TB_n_RLIM. -/
def R.tbRlim : RegDef :=
  { blk := .tim, base := 0x5002C, n1 := 4, s1 := 0x100, sp := .tbRlim,
    flds := [F.tbRlim_rlim] }

/-- TB_n_KP [31:0]. -/
def F.tbKp_kp : Fld := { blk := .tim, base := 0x50030, s1 := 0x100, lo := 0, len := 32, acc := .rw, reset := 0x112E0000, rng := some (0, 2147483647) }
/-- The register TB_n_KP. -/
def R.tbKp : RegDef :=
  { blk := .tim, base := 0x50030, n1 := 4, s1 := 0x100,
    flds := [F.tbKp_kp] }

/-- TB_n_KI [31:0]. -/
def F.tbKi_ki : Fld := { blk := .tim, base := 0x50034, s1 := 0x100, lo := 0, len := 32, acc := .rw, reset := 0x112E000, rng := some (0, 2147483647) }
/-- The register TB_n_KI. -/
def R.tbKi : RegDef :=
  { blk := .tim, base := 0x50034, n1 := 4, s1 := 0x100,
    flds := [F.tbKi_ki] }

/-- TB_n_LOCK [23:0]. -/
def F.tbLock_win : Fld := { blk := .tim, base := 0x50038, s1 := 0x100, lo := 0, len := 24, acc := .rw, reset := 0x3E8 }
/-- TB_n_LOCK [31:24]. -/
def F.tbLock_cnt : Fld := { blk := .tim, base := 0x50038, s1 := 0x100, lo := 24, len := 8, acc := .rw, reset := 8, rng := some (1, 255) }
/-- The register TB_n_LOCK. -/
def R.tbLock : RegDef :=
  { blk := .tim, base := 0x50038, n1 := 4, s1 := 0x100,
    flds := [F.tbLock_win, F.tbLock_cnt] }

/-- TB_n_SRCTO [31:0]. -/
def F.tbSrcto_srcto : Fld := { blk := .tim, base := 0x5003C, s1 := 0x100, lo := 0, len := 32, acc := .rw, reset := 0xB2D05E00, rng := some (1000000, 4294967295) }
/-- The register TB_n_SRCTO. -/
def R.tbSrcto : RegDef :=
  { blk := .tim, base := 0x5003C, n1 := 4, s1 := 0x100,
    flds := [F.tbSrcto_srcto] }

/-- TB_n_STEPTHR [31:0]. -/
def F.tbStepthr_stepthr : Fld := { blk := .tim, base := 0x50040, s1 := 0x100, lo := 0, len := 32, acc := .rw, reset := 0x3E8 }
/-- The register TB_n_STEPTHR. -/
def R.tbStepthr : RegDef :=
  { blk := .tim, base := 0x50040, n1 := 4, s1 := 0x100,
    flds := [F.tbStepthr_stepthr] }

/-- TB_0_GM [0]. -/
def F.tbGm_onp1 : Fld := { blk := .tim, base := 0x50080, lo := 0, len := 1, acc := .rw }
/-- TB_0_GM [1]. -/
def F.tbGm_onp2 : Fld := { blk := .tim, base := 0x50080, lo := 1, len := 1, acc := .rw }
/-- TB_0_GM [15:8]. -/
def F.tbGm_prio1 : Fld := { blk := .tim, base := 0x50080, lo := 8, len := 8, acc := .rw, reset := 0x80 }
/-- TB_0_GM [23:16]. -/
def F.tbGm_class : Fld := { blk := .tim, base := 0x50080, lo := 16, len := 8, acc := .rw, reset := 0xF8 }
/-- TB_0_GM [31:24]. -/
def F.tbGm_logsync : Fld := { blk := .tim, base := 0x50080, lo := 24, len := 8, acc := .rw, reset := 0xFD, sgn := true, rng := some (-7, 0) }
/-- The register TB_0_GM. -/
def R.tbGm : RegDef :=
  { blk := .tim, base := 0x50080,
    flds := [F.tbGm_onp1, F.tbGm_onp2, F.tbGm_prio1, F.tbGm_class, F.tbGm_logsync] }

/-- LCH_n_CTRL [0]. -/
def F.lchCtrl_en : Fld := { blk := .tim, base := 0x51000, s1 := 0x20, lo := 0, len := 1, acc := .rw }
/-- LCH_n_CTRL [2:1]. -/
def F.lchCtrl_tb : Fld := { blk := .tim, base := 0x51000, s1 := 0x20, lo := 1, len := 2, acc := .rw }
/-- LCH_n_CTRL [7:4]. -/
def F.lchCtrl_kind : Fld := { blk := .tim, base := 0x51000, s1 := 0x20, lo := 4, len := 4, acc := .rw, rng := some (0, 7) }
/-- LCH_n_CTRL [15:8]. -/
def F.lchCtrl_arg : Fld := { blk := .tim, base := 0x51000, s1 := 0x20, lo := 8, len := 8, acc := .rw }
/-- LCH_n_CTRL [23:16]. -/
def F.lchCtrl_width : Fld := { blk := .tim, base := 0x51000, s1 := 0x20, lo := 16, len := 8, acc := .rw }
/-- The register LCH_n_CTRL. -/
def R.lchCtrl : RegDef :=
  { blk := .tim, base := 0x51000, n1 := 16, s1 := 0x20, sp := .lchCtrl,
    flds := [F.lchCtrl_en, F.lchCtrl_tb, F.lchCtrl_kind, F.lchCtrl_arg, F.lchCtrl_width] }

/-- LCH_n_TSEC [31:0]. -/
def F.lchTsec_sec : Fld := { blk := .tim, base := 0x51004, s1 := 0x20, lo := 0, len := 32, acc := .rw }
/-- The register LCH_n_TSEC. -/
def R.lchTsec : RegDef :=
  { blk := .tim, base := 0x51004, n1 := 16, s1 := 0x20, sp := .lchTsec,
    flds := [F.lchTsec_sec] }

/-- LCH_n_TNS [29:0]. -/
def F.lchTns_ns : Fld := { blk := .tim, base := 0x51008, s1 := 0x20, lo := 0, len := 30, acc := .rw, rng := some (0, 999999999) }
/-- The register LCH_n_TNS. -/
def R.lchTns : RegDef :=
  { blk := .tim, base := 0x51008, n1 := 16, s1 := 0x20, sp := .lchTns,
    flds := [F.lchTns_ns] }

/-- LCH_n_PER [31:0]. -/
def F.lchPer_per : Fld := { blk := .tim, base := 0x5100C, s1 := 0x20, lo := 0, len := 32, acc := .rw }
/-- The register LCH_n_PER. -/
def R.lchPer : RegDef :=
  { blk := .tim, base := 0x5100C, n1 := 16, s1 := 0x20, sp := .lchPer,
    flds := [F.lchPer_per] }

/-- LCH_n_STAT [15:0]. -/
def F.lchStat_fired : Fld := { blk := .tim, base := 0x51010, s1 := 0x20, lo := 0, len := 16, acc := .rc }
/-- LCH_n_STAT [16]. -/
def F.lchStat_late : Fld := { blk := .tim, base := 0x51010, s1 := 0x20, lo := 16, len := 1, acc := .w1c }
/-- LCH_n_STAT [17]. -/
def F.lchStat_armed : Fld := { blk := .tim, base := 0x51010, s1 := 0x20, lo := 17, len := 1, acc := .ro }
/-- The register LCH_n_STAT. -/
def R.lchStat : RegDef :=
  { blk := .tim, base := 0x51010, n1 := 16, s1 := 0x20,
    flds := [F.lchStat_fired, F.lchStat_late, F.lchStat_armed] }

/-- TSU_p_CTRL [0]. -/
def F.tsuCtrl_tc : Fld := { blk := .tim, base := 0x52040, s1 := 0x40, lo := 0, len := 1, acc := .rw, reset := 1 }
/-- TSU_p_CTRL [1]. -/
def F.tsuCtrl_pdly : Fld := { blk := .tim, base := 0x52040, s1 := 0x40, lo := 1, len := 1, acc := .rw, reset := 1 }
/-- TSU_p_CTRL [15:8]. -/
def F.tsuCtrl_logpdly : Fld := { blk := .tim, base := 0x52040, s1 := 0x40, lo := 8, len := 8, acc := .rw, sgn := true, rng := some (-3, 3) }
/-- The register TSU_p_CTRL. -/
def R.tsuCtrl : RegDef :=
  { blk := .tim, base := 0x52040, n1 := 2, s1 := 0x40,
    flds := [F.tsuCtrl_tc, F.tsuCtrl_pdly, F.tsuCtrl_logpdly] }

/-- TSU_p_LINKDLY [31:0]. -/
def F.tsuLinkdly_d : Fld := { blk := .tim, base := 0x52044, s1 := 0x40, lo := 0, len := 32, acc := .ro }
/-- The register TSU_p_LINKDLY. -/
def R.tsuLinkdly : RegDef :=
  { blk := .tim, base := 0x52044, n1 := 2, s1 := 0x40,
    flds := [F.tsuLinkdly_d] }

/-- TSU_p_LAT [15:0]. -/
def F.tsuLat_inlat : Fld := { blk := .tim, base := 0x52048, s1 := 0x40, lo := 0, len := 16, acc := .rw }
/-- TSU_p_LAT [31:16]. -/
def F.tsuLat_eglat : Fld := { blk := .tim, base := 0x52048, s1 := 0x40, lo := 16, len := 16, acc := .rw }
/-- The register TSU_p_LAT. -/
def R.tsuLat : RegDef :=
  { blk := .tim, base := 0x52048, n1 := 2, s1 := 0x40,
    flds := [F.tsuLat_inlat, F.tsuLat_eglat] }

/-- TIM_ROOT [0]. -/
def F.timRoot_src : Fld := { blk := .tim, base := 0x53000, lo := 0, len := 1, acc := .ro }
/-- TIM_ROOT [1]. -/
def F.timRoot_syncok : Fld := { blk := .tim, base := 0x53000, lo := 1, len := 1, acc := .ro }
/-- TIM_ROOT [2]. -/
def F.timRoot_holdover : Fld := { blk := .tim, base := 0x53000, lo := 2, len := 1, acc := .ro }
/-- The register TIM_ROOT. -/
def R.timRoot : RegDef :=
  { blk := .tim, base := 0x53000,
    flds := [F.timRoot_src, F.timRoot_syncok, F.timRoot_holdover] }

/-- The registers of TIM. -/
def regsTim : List RegDef :=
  [R.tbCtrl, R.tbPtp, R.tbState, R.tbOffset, R.tbTsfr, R.tbTns, R.tbTsec, R.tbLdhi, R.tbLdsec, R.tbLdns, R.tbRate, R.tbRlim] ++
  [R.tbKp, R.tbKi, R.tbLock, R.tbSrcto, R.tbStepthr, R.tbGm, R.lchCtrl, R.lchTsec, R.lchTns, R.lchPer, R.lchStat, R.tsuCtrl] ++
  [R.tsuLinkdly, R.tsuLat, R.timRoot]

/-! Registers of NET (chapter 11). -/

/-- NET_CTRL [1:0]. -/
def F.netCtrl_mode : Fld := { blk := .net, base := 0x60000, lo := 0, len := 2, acc := .img, rng := some (0, 2) }
/-- NET_CTRL [31:16]. -/
def F.netCtrl_etype : Fld := { blk := .net, base := 0x60000, lo := 16, len := 16, acc := .img, reset := 0x88B5 }
/-- The register NET_CTRL. -/
def R.netCtrl : RegDef :=
  { blk := .net, base := 0x60000,
    flds := [F.netCtrl_mode, F.netCtrl_etype] }

/-- NET_STATION [11:0]. -/
def F.netStation_station : Fld := { blk := .net, base := 0x60004, lo := 0, len := 12, acc := .img }
/-- The register NET_STATION. -/
def R.netStation : RegDef :=
  { blk := .net, base := 0x60004,
    flds := [F.netStation_station] }

/-- NET_MACLO [31:0]. -/
def F.netMaclo_mac : Fld := { blk := .net, base := 0x60008, lo := 0, len := 32, acc := .img }
/-- The register NET_MACLO. -/
def R.netMaclo : RegDef :=
  { blk := .net, base := 0x60008,
    flds := [F.netMaclo_mac] }

/-- NET_MACHI [15:0]. -/
def F.netMachi_mac : Fld := { blk := .net, base := 0x6000C, lo := 0, len := 16, acc := .img }
/-- The register NET_MACHI. -/
def R.netMachi : RegDef :=
  { blk := .net, base := 0x6000C,
    flds := [F.netMachi_mac] }

/-- NET_MCLO [31:0]. -/
def F.netMclo_mc : Fld := { blk := .net, base := 0x60010, lo := 0, len := 32, acc := .img }
/-- The register NET_MCLO. -/
def R.netMclo : RegDef :=
  { blk := .net, base := 0x60010,
    flds := [F.netMclo_mc] }

/-- NET_MCHI [15:0]. -/
def F.netMchi_mc : Fld := { blk := .net, base := 0x60014, lo := 0, len := 16, acc := .img }
/-- The register NET_MCHI. -/
def R.netMchi : RegDef :=
  { blk := .net, base := 0x60014,
    flds := [F.netMchi_mc] }

/-- NET_CYCLE [31:0]. -/
def F.netCycle_cycle : Fld := { blk := .net, base := 0x60018, lo := 0, len := 32, acc := .img, reset := 0x1E848 }
/-- The register NET_CYCLE. -/
def R.netCycle : RegDef :=
  { blk := .net, base := 0x60018, sp := .netCycle,
    flds := [F.netCycle_cycle] }

/-- NET_STOFS [31:0]. -/
def F.netStofs_offset : Fld := { blk := .net, base := 0x6001C, lo := 0, len := 32, acc := .rw }
/-- The register NET_STOFS. -/
def R.netStofs : RegDef :=
  { blk := .net, base := 0x6001C, sp := .netSt,
    flds := [F.netStofs_offset] }

/-- NET_STPER [31:0]. -/
def F.netStper_period : Fld := { blk := .net, base := 0x60020, lo := 0, len := 32, acc := .rw, reset := 0x3D090 }
/-- The register NET_STPER. -/
def R.netStper : RegDef :=
  { blk := .net, base := 0x60020, sp := .netSt,
    flds := [F.netStper_period] }

/-- NET_STCFG [0]. -/
def F.netStcfg_en : Fld := { blk := .net, base := 0x60024, lo := 0, len := 1, acc := .rw }
/-- NET_STCFG [2:1]. -/
def F.netStcfg_ports : Fld := { blk := .net, base := 0x60024, lo := 1, len := 2, acc := .rw, reset := 1 }
/-- NET_STCFG [8:3]. -/
def F.netStcfg_nlist : Fld := { blk := .net, base := 0x60024, lo := 3, len := 6, acc := .rw }
/-- The register NET_STCFG. -/
def R.netStcfg : RegDef :=
  { blk := .net, base := 0x60024, sp := .netStcfg,
    flds := [F.netStcfg_en, F.netStcfg_ports, F.netStcfg_nlist] }

/-- NET_EVCFG [0]. -/
def F.netEvcfg_en : Fld := { blk := .net, base := 0x60028, lo := 0, len := 1, acc := .rw }
/-- NET_EVCFG [3:1]. -/
def F.netEvcfg_minsev : Fld := { blk := .net, base := 0x60028, lo := 1, len := 3, acc := .rw, reset := 2 }
/-- NET_EVCFG [6:4]. -/
def F.netEvcfg_dest : Fld := { blk := .net, base := 0x60028, lo := 4, len := 3, acc := .rw, rng := some (0, 3) }
/-- The register NET_EVCFG. -/
def R.netEvcfg : RegDef :=
  { blk := .net, base := 0x60028,
    flds := [F.netEvcfg_en, F.netEvcfg_minsev, F.netEvcfg_dest] }

/-- NET_STAT [0]. -/
def F.netStat_stgated : Fld := { blk := .net, base := 0x6002C, lo := 0, len := 1, acc := .ro, reset := 1 }
/-- NET_STAT [1]. -/
def F.netStat_stlate : Fld := { blk := .net, base := 0x6002C, lo := 1, len := 1, acc := .w1c }
/-- NET_STAT [31:16]. -/
def F.netStat_stsent : Fld := { blk := .net, base := 0x6002C, lo := 16, len := 16, acc := .ro }
/-- The register NET_STAT. -/
def R.netStat : RegDef :=
  { blk := .net, base := 0x6002C,
    flds := [F.netStat_stgated, F.netStat_stlate, F.netStat_stsent] }

/-- NET_DUP [6:0]. -/
def F.netDup_sources : Fld := { blk := .net, base := 0x60030, lo := 0, len := 7, acc := .ro, live := some .netDup_sources }
/-- NET_DUP [15:8]. -/
def F.netDup_ovf : Fld := { blk := .net, base := 0x60030, lo := 8, len := 8, acc := .rc }
/-- The register NET_DUP. -/
def R.netDup : RegDef :=
  { blk := .net, base := 0x60030,
    flds := [F.netDup_sources, F.netDup_ovf] }

/-- NET_QUOTA [7:0]. -/
def F.netQuota_q0 : Fld := { blk := .net, base := 0x60034, lo := 0, len := 8, acc := .img, reset := 0x20, rng := some (0, 32) }
/-- NET_QUOTA [15:8]. -/
def F.netQuota_q1 : Fld := { blk := .net, base := 0x60034, lo := 8, len := 8, acc := .img, reset := 0x20, rng := some (0, 32) }
/-- NET_QUOTA [23:16]. -/
def F.netQuota_q2 : Fld := { blk := .net, base := 0x60034, lo := 16, len := 8, acc := .img, reset := 0x10, rng := some (0, 32) }
/-- NET_QUOTA [31:24]. -/
def F.netQuota_q3 : Fld := { blk := .net, base := 0x60034, lo := 24, len := 8, acc := .img, reset := 8, rng := some (0, 32) }
/-- The register NET_QUOTA. -/
def R.netQuota : RegDef :=
  { blk := .net, base := 0x60034,
    flds := [F.netQuota_q0, F.netQuota_q1, F.netQuota_q2, F.netQuota_q3] }

/-- NET_GMAP_n [7:0]. -/
def F.netGmap_master : Fld := { blk := .net, base := 0x60040, s1 := 4, lo := 0, len := 8, acc := .rw }
/-- NET_GMAP_n [8]. -/
def F.netGmap_en : Fld := { blk := .net, base := 0x60040, s1 := 4, lo := 8, len := 1, acc := .rw }
/-- NET_GMAP_n [10:9]. -/
def F.netGmap_ports : Fld := { blk := .net, base := 0x60040, s1 := 4, lo := 9, len := 2, acc := .rw, reset := 3 }
/-- The register NET_GMAP_n. -/
def R.netGmap : RegDef :=
  { blk := .net, base := 0x60040, n1 := 8, s1 := 4,
    flds := [F.netGmap_master, F.netGmap_en, F.netGmap_ports] }

/-- NET_VIOL_ADDR_k [31:0]. -/
def F.netViol_addr : Fld := { blk := .net, base := 0x60080, s1 := 4, lo := 0, len := 32, acc := .ro }
/-- The register NET_VIOL_ADDR_k. -/
def R.netViol : RegDef :=
  { blk := .net, base := 0x60080, n1 := 4, s1 := 4,
    flds := [F.netViol_addr] }

/-- NET_HOST [15:0]. -/
def F.netHost_aborts : Fld := { blk := .net, base := 0x60090, lo := 0, len := 16, acc := .rc }
/-- The register NET_HOST. -/
def R.netHost : RegDef :=
  { blk := .net, base := 0x60090,
    flds := [F.netHost_aborts] }

/-- NET_SVC [15:0]. -/
def F.netSvc_baud : Fld := { blk := .net, base := 0x60094, lo := 0, len := 16, acc := .rw, reset := 0x87A, rng := some (25, 65535) }
/-- NET_SVC [31:16]. -/
def F.netSvc_badcrc : Fld := { blk := .net, base := 0x60094, lo := 16, len := 16, acc := .rc }
/-- The register NET_SVC. -/
def R.netSvc : RegDef :=
  { blk := .net, base := 0x60094,
    flds := [F.netSvc_baud, F.netSvc_badcrc] }

/-- NET_STLIST_k [31:0]. -/
def F.netStlist_addr : Fld := { blk := .net, base := 0x60100, s1 := 4, lo := 0, len := 32, acc := .rw }
/-- The register NET_STLIST_k. -/
def R.netStlist : RegDef :=
  { blk := .net, base := 0x60100, n1 := 48, s1 := 4, sp := .netSt,
    flds := [F.netStlist_addr] }

/-- NET_p_CTRL [0]. -/
def F.netPCtrl_anen : Fld := { blk := .net, base := 0x60900, s1 := 0x100, lo := 0, len := 1, acc := .rw, reset := 1 }
/-- NET_p_CTRL [1]. -/
def F.netPCtrl_restart : Fld := { blk := .net, base := 0x60900, s1 := 0x100, lo := 1, len := 1, acc := .wo }
/-- NET_p_CTRL [5:4]. -/
def F.netPCtrl_tb : Fld := { blk := .net, base := 0x60900, s1 := 0x100, lo := 4, len := 2, acc := .img }
/-- NET_p_CTRL [15:8]. -/
def F.netPCtrl_updly : Fld := { blk := .net, base := 0x60900, s1 := 0x100, lo := 8, len := 8, acc := .rw, reset := 1, rng := some (1, 255) }
/-- The register NET_p_CTRL. -/
def R.netPCtrl : RegDef :=
  { blk := .net, base := 0x60900, n1 := 2, s1 := 0x100, sp := .netPCtrl,
    flds := [F.netPCtrl_anen, F.netPCtrl_restart, F.netPCtrl_tb, F.netPCtrl_updly] }

/-- NET_p_LINK [0]. -/
def F.netPLink_up : Fld := { blk := .net, base := 0x60904, s1 := 0x100, lo := 0, len := 1, acc := .ro }
/-- NET_p_LINK [1]. -/
def F.netPLink_sync : Fld := { blk := .net, base := 0x60904, s1 := 0x100, lo := 1, len := 1, acc := .ro }
/-- NET_p_LINK [2]. -/
def F.netPLink_andone : Fld := { blk := .net, base := 0x60904, s1 := 0x100, lo := 2, len := 1, acc := .ro }
/-- NET_p_LINK [3]. -/
def F.netPLink_rfault : Fld := { blk := .net, base := 0x60904, s1 := 0x100, lo := 3, len := 1, acc := .ro }
/-- NET_p_LINK [31:16]. -/
def F.netPLink_downs : Fld := { blk := .net, base := 0x60904, s1 := 0x100, lo := 16, len := 16, acc := .rc }
/-- The register NET_p_LINK. -/
def R.netPLink : RegDef :=
  { blk := .net, base := 0x60904, n1 := 2, s1 := 0x100,
    flds := [F.netPLink_up, F.netPLink_sync, F.netPLink_andone, F.netPLink_rfault, F.netPLink_downs] }

/-- NET_p_DSTLO [31:0]. -/
def F.netPDstlo_dst : Fld := { blk := .net, base := 0x60908, s1 := 0x100, lo := 0, len := 32, acc := .img }
/-- The register NET_p_DSTLO. -/
def R.netPDstlo : RegDef :=
  { blk := .net, base := 0x60908, n1 := 2, s1 := 0x100,
    flds := [F.netPDstlo_dst] }

/-- NET_p_DSTHI [15:0]. -/
def F.netPDsthi_dst : Fld := { blk := .net, base := 0x6090C, s1 := 0x100, lo := 0, len := 16, acc := .img }
/-- The register NET_p_DSTHI. -/
def R.netPDsthi : RegDef :=
  { blk := .net, base := 0x6090C, n1 := 2, s1 := 0x100,
    flds := [F.netPDsthi_dst] }

/-- NET_p_CNT [7:0]. -/
def F.netPCnt_fcs : Fld := { blk := .net, base := 0x60910, s1 := 0x100, lo := 0, len := 8, acc := .rc }
/-- NET_p_CNT [15:8]. -/
def F.netPCnt_drop : Fld := { blk := .net, base := 0x60910, s1 := 0x100, lo := 8, len := 8, acc := .rc }
/-- NET_p_CNT [23:16]. -/
def F.netPCnt_malformed : Fld := { blk := .net, base := 0x60910, s1 := 0x100, lo := 16, len := 8, acc := .rc }
/-- NET_p_CNT [31:24]. -/
def F.netPCnt_dup : Fld := { blk := .net, base := 0x60910, s1 := 0x100, lo := 24, len := 8, acc := .rc }
/-- The register NET_p_CNT. -/
def R.netPCnt : RegDef :=
  { blk := .net, base := 0x60910, n1 := 2, s1 := 0x100,
    flds := [F.netPCnt_fcs, F.netPCnt_drop, F.netPCnt_malformed, F.netPCnt_dup] }

/-- NET_p_MDIO [15:0]. -/
def F.netPMdio_data : Fld := { blk := .net, base := 0x60914, s1 := 0x100, lo := 0, len := 16, acc := .rw }
/-- NET_p_MDIO [20:16]. -/
def F.netPMdio_regad : Fld := { blk := .net, base := 0x60914, s1 := 0x100, lo := 16, len := 5, acc := .rw }
/-- NET_p_MDIO [25:21]. -/
def F.netPMdio_phyad : Fld := { blk := .net, base := 0x60914, s1 := 0x100, lo := 21, len := 5, acc := .rw }
/-- NET_p_MDIO [27:26]. -/
def F.netPMdio_op : Fld := { blk := .net, base := 0x60914, s1 := 0x100, lo := 26, len := 2, acc := .rw }
/-- NET_p_MDIO [31]. -/
def F.netPMdio_busy : Fld := { blk := .net, base := 0x60914, s1 := 0x100, lo := 31, len := 1, acc := .ro }
/-- The register NET_p_MDIO. -/
def R.netPMdio : RegDef :=
  { blk := .net, base := 0x60914, n1 := 2, s1 := 0x100, sp := .mdio,
    flds := [F.netPMdio_data, F.netPMdio_regad, F.netPMdio_phyad, F.netPMdio_op, F.netPMdio_busy] }

/-- The registers of NET. -/
def regsNet : List RegDef :=
  [R.netCtrl, R.netStation, R.netMaclo, R.netMachi, R.netMclo, R.netMchi, R.netCycle, R.netStofs, R.netStper, R.netStcfg, R.netEvcfg, R.netStat] ++
  [R.netDup, R.netQuota, R.netGmap, R.netViol, R.netHost, R.netSvc, R.netStlist, R.netPCtrl, R.netPLink, R.netPDstlo, R.netPDsthi, R.netPCnt] ++
  [R.netPMdio]

/-! Registers of CAN (chapter 12). -/

/-- CAN_CTRL [0]. -/
def F.canCtrl_en : Fld := { blk := .can, base := 0x70000, lo := 0, len := 1, acc := .rw }
/-- CAN_CTRL [2:1]. -/
def F.canCtrl_mode : Fld := { blk := .can, base := 0x70000, lo := 1, len := 2, acc := .rw, rng := some (0, 2) }
/-- CAN_CTRL [4:3]. -/
def F.canCtrl_tb : Fld := { blk := .can, base := 0x70000, lo := 3, len := 2, acc := .rw }
/-- CAN_CTRL [5]. -/
def F.canCtrl_wake : Fld := { blk := .can, base := 0x70000, lo := 5, len := 1, acc := .rw }
/-- CAN_CTRL [6]. -/
def F.canCtrl_stbsleep : Fld := { blk := .can, base := 0x70000, lo := 6, len := 1, acc := .rw, reset := 1 }
/-- CAN_CTRL [15:8]. -/
def F.canCtrl_wfilt : Fld := { blk := .can, base := 0x70000, lo := 8, len := 8, acc := .rw, reset := 0xA, rng := some (1, 255) }
/-- CAN_CTRL [23:16]. -/
def F.canCtrl_elim : Fld := { blk := .can, base := 0x70000, lo := 16, len := 8, acc := .rw, reset := 0xC0, rng := some (129, 255) }
/-- The register CAN_CTRL. -/
def R.canCtrl : RegDef :=
  { blk := .can, base := 0x70000, sp := .canCtrl,
    flds := [F.canCtrl_en, F.canCtrl_mode, F.canCtrl_tb, F.canCtrl_wake, F.canCtrl_stbsleep, F.canCtrl_wfilt, F.canCtrl_elim] }

/-- CAN_NBT [5:0]. -/
def F.canNbt_brp : Fld := { blk := .can, base := 0x70004, lo := 0, len := 6, acc := .rw, reset := 2, rng := some (1, 32) }
/-- CAN_NBT [13:6]. -/
def F.canNbt_tseg1 : Fld := { blk := .can, base := 0x70004, lo := 6, len := 8, acc := .rw, reset := 0x3F, rng := some (2, 128) }
/-- CAN_NBT [20:14]. -/
def F.canNbt_tseg2 : Fld := { blk := .can, base := 0x70004, lo := 14, len := 7, acc := .rw, reset := 0x10, rng := some (1, 64) }
/-- CAN_NBT [27:21]. -/
def F.canNbt_sjw : Fld := { blk := .can, base := 0x70004, lo := 21, len := 7, acc := .rw, reset := 0x10, rng := some (1, 64) }
/-- The register CAN_NBT. -/
def R.canNbt : RegDef :=
  { blk := .can, base := 0x70004, sp := .canBt,
    flds := [F.canNbt_brp, F.canNbt_tseg1, F.canNbt_tseg2, F.canNbt_sjw] }

/-- CAN_DBT [4:0]. -/
def F.canDbt_brp : Fld := { blk := .can, base := 0x70008, lo := 0, len := 5, acc := .rw, reset := 1, rng := some (1, 16) }
/-- CAN_DBT [10:5]. -/
def F.canDbt_tseg1 : Fld := { blk := .can, base := 0x70008, lo := 5, len := 6, acc := .rw, reset := 0x1F, rng := some (1, 32) }
/-- CAN_DBT [15:11]. -/
def F.canDbt_tseg2 : Fld := { blk := .can, base := 0x70008, lo := 11, len := 5, acc := .rw, reset := 8, rng := some (1, 16) }
/-- CAN_DBT [20:16]. -/
def F.canDbt_sjw : Fld := { blk := .can, base := 0x70008, lo := 16, len := 5, acc := .rw, reset := 8, rng := some (1, 16) }
/-- CAN_DBT [21]. -/
def F.canDbt_tdcen : Fld := { blk := .can, base := 0x70008, lo := 21, len := 1, acc := .rw, reset := 1 }
/-- CAN_DBT [29:22]. -/
def F.canDbt_sspoff : Fld := { blk := .can, base := 0x70008, lo := 22, len := 8, acc := .rw, reset := 0x20 }
/-- The register CAN_DBT. -/
def R.canDbt : RegDef :=
  { blk := .can, base := 0x70008, sp := .canBt,
    flds := [F.canDbt_brp, F.canDbt_tseg1, F.canDbt_tseg2, F.canDbt_sjw, F.canDbt_tdcen, F.canDbt_sspoff] }

/-- CAN_ERR [8:0]. -/
def F.canErr_tec : Fld := { blk := .can, base := 0x7000C, lo := 0, len := 9, acc := .ro }
/-- CAN_ERR [23:16]. -/
def F.canErr_rec : Fld := { blk := .can, base := 0x7000C, lo := 16, len := 8, acc := .ro }
/-- CAN_ERR [25:24]. -/
def F.canErr_estate : Fld := { blk := .can, base := 0x7000C, lo := 24, len := 2, acc := .ro }
/-- CAN_ERR [26]. -/
def F.canErr_ewarn : Fld := { blk := .can, base := 0x7000C, lo := 26, len := 1, acc := .ro }
/-- The register CAN_ERR. -/
def R.canErr : RegDef :=
  { blk := .can, base := 0x7000C,
    flds := [F.canErr_tec, F.canErr_rec, F.canErr_estate, F.canErr_ewarn] }

/-- CAN_CNT [7:0]. -/
def F.canCnt_recov : Fld := { blk := .can, base := 0x70010, lo := 0, len := 8, acc := .ro }
/-- CAN_CNT [15:8]. -/
def F.canCnt_nomatch : Fld := { blk := .can, base := 0x70010, lo := 8, len := 8, acc := .rc }
/-- CAN_CNT [23:16]. -/
def F.canCnt_refskip : Fld := { blk := .can, base := 0x70010, lo := 16, len := 8, acc := .rc }
/-- CAN_CNT [31:24]. -/
def F.canCnt_busoffs : Fld := { blk := .can, base := 0x70010, lo := 24, len := 8, acc := .rc }
/-- The register CAN_CNT. -/
def R.canCnt : RegDef :=
  { blk := .can, base := 0x70010,
    flds := [F.canCnt_recov, F.canCnt_nomatch, F.canCnt_refskip, F.canCnt_busoffs] }

/-- CAN_TXPEND [15:0]. -/
def F.canTxpend_pend : Fld := { blk := .can, base := 0x70014, lo := 0, len := 16, acc := .ro }
/-- The register CAN_TXPEND. -/
def R.canTxpend : RegDef :=
  { blk := .can, base := 0x70014,
    flds := [F.canTxpend_pend] }

/-- CAN_TXREQ [15:0]. -/
def F.canTxreq_req : Fld := { blk := .can, base := 0x70018, lo := 0, len := 16, acc := .w1s }
/-- The register CAN_TXREQ. -/
def R.canTxreq : RegDef :=
  { blk := .can, base := 0x70018, sp := .canTxreq,
    flds := [F.canTxreq_req] }

/-- CAN_TXABORT [15:0]. -/
def F.canTxabort_abort : Fld := { blk := .can, base := 0x7001C, lo := 0, len := 16, acc := .w1s }
/-- The register CAN_TXABORT. -/
def R.canTxabort : RegDef :=
  { blk := .can, base := 0x7001C, sp := .canTxabort,
    flds := [F.canTxabort_abort] }

/-- CAN_TXDONE [15:0]. -/
def F.canTxdone_done : Fld := { blk := .can, base := 0x70020, lo := 0, len := 16, acc := .w1c }
/-- The register CAN_TXDONE. -/
def R.canTxdone : RegDef :=
  { blk := .can, base := 0x70020,
    flds := [F.canTxdone_done] }

/-- CAN_TXDISC [15:0]. -/
def F.canTxdisc_disc : Fld := { blk := .can, base := 0x70024, lo := 0, len := 16, acc := .w1c }
/-- The register CAN_TXDISC. -/
def R.canTxdisc : RegDef :=
  { blk := .can, base := 0x70024,
    flds := [F.canTxdisc_disc] }

/-- CAN_RXNEWLO [31:0]. -/
def F.canRxnewlo_new : Fld := { blk := .can, base := 0x70028, lo := 0, len := 32, acc := .ro, live := some .canRxnewlo_new }
/-- The register CAN_RXNEWLO. -/
def R.canRxnewlo : RegDef :=
  { blk := .can, base := 0x70028,
    flds := [F.canRxnewlo_new] }

/-- CAN_RXNEWHI [31:0]. -/
def F.canRxnewhi_new : Fld := { blk := .can, base := 0x7002C, lo := 0, len := 32, acc := .ro, live := some .canRxnewhi_new }
/-- The register CAN_RXNEWHI. -/
def R.canRxnewhi : RegDef :=
  { blk := .can, base := 0x7002C,
    flds := [F.canRxnewhi_new] }

/-- CAN_WAKEID [28:0]. -/
def F.canWakeid_id : Fld := { blk := .can, base := 0x70030, lo := 0, len := 29, acc := .rw }
/-- CAN_WAKEID [29]. -/
def F.canWakeid_ide : Fld := { blk := .can, base := 0x70030, lo := 29, len := 1, acc := .rw }
/-- The register CAN_WAKEID. -/
def R.canWakeid : RegDef :=
  { blk := .can, base := 0x70030,
    flds := [F.canWakeid_id, F.canWakeid_ide] }

/-- CAN_WAKEMASK [28:0]. -/
def F.canWakemask_mask : Fld := { blk := .can, base := 0x70034, lo := 0, len := 29, acc := .rw, reset := 0x1FFFFFFF }
/-- The register CAN_WAKEMASK. -/
def R.canWakemask : RegDef :=
  { blk := .can, base := 0x70034,
    flds := [F.canWakemask_mask] }

/-- RXO_k_ID [28:0]. -/
def F.rxoId_id : Fld := { blk := .can, base := 0x71000, s1 := 0x80, lo := 0, len := 29, acc := .rw }
/-- RXO_k_ID [29]. -/
def F.rxoId_ide : Fld := { blk := .can, base := 0x71000, s1 := 0x80, lo := 29, len := 1, acc := .rw }
/-- RXO_k_ID [30]. -/
def F.rxoId_en : Fld := { blk := .can, base := 0x71000, s1 := 0x80, lo := 30, len := 1, acc := .rw }
/-- The register RXO_k_ID. -/
def R.rxoId : RegDef :=
  { blk := .can, base := 0x71000, n1 := 64, s1 := 0x80, sp := .rxoId,
    flds := [F.rxoId_id, F.rxoId_ide, F.rxoId_en] }

/-- RXO_k_CTL [3:0]. -/
def F.rxoCtl_dlc : Fld := { blk := .can, base := 0x71004, s1 := 0x80, lo := 0, len := 4, acc := .ro }
/-- RXO_k_CTL [4]. -/
def F.rxoCtl_fdf : Fld := { blk := .can, base := 0x71004, s1 := 0x80, lo := 4, len := 1, acc := .ro }
/-- RXO_k_CTL [5]. -/
def F.rxoCtl_brs : Fld := { blk := .can, base := 0x71004, s1 := 0x80, lo := 5, len := 1, acc := .ro }
/-- RXO_k_CTL [6]. -/
def F.rxoCtl_esi : Fld := { blk := .can, base := 0x71004, s1 := 0x80, lo := 6, len := 1, acc := .ro }
/-- RXO_k_CTL [8]. -/
def F.rxoCtl_new : Fld := { blk := .can, base := 0x71004, s1 := 0x80, lo := 8, len := 1, acc := .ro }
/-- RXO_k_CTL [9]. -/
def F.rxoCtl_lost : Fld := { blk := .can, base := 0x71004, s1 := 0x80, lo := 9, len := 1, acc := .ro }
/-- RXO_k_CTL [10]. -/
def F.rxoCtl_locked : Fld := { blk := .can, base := 0x71004, s1 := 0x80, lo := 10, len := 1, acc := .ro }
/-- The register RXO_k_CTL. -/
def R.rxoCtl : RegDef :=
  { blk := .can, base := 0x71004, n1 := 64, s1 := 0x80, sp := .rxoWord,
    flds := [F.rxoCtl_dlc, F.rxoCtl_fdf, F.rxoCtl_brs, F.rxoCtl_esi, F.rxoCtl_new, F.rxoCtl_lost, F.rxoCtl_locked] }

/-- RXO_k_TSEC [31:0]. -/
def F.rxoTsec_tsec : Fld := { blk := .can, base := 0x71008, s1 := 0x80, lo := 0, len := 32, acc := .ro }
/-- The register RXO_k_TSEC. -/
def R.rxoTsec : RegDef :=
  { blk := .can, base := 0x71008, n1 := 64, s1 := 0x80, sp := .rxoWord,
    flds := [F.rxoTsec_tsec] }

/-- RXO_k_TNS [29:0]. -/
def F.rxoTns_tns : Fld := { blk := .can, base := 0x7100C, s1 := 0x80, lo := 0, len := 30, acc := .ro }
/-- The register RXO_k_TNS. -/
def R.rxoTns : RegDef :=
  { blk := .can, base := 0x7100C, n1 := 64, s1 := 0x80, sp := .rxoWord,
    flds := [F.rxoTns_tns] }

/-- RXO_k_DATA_i [31:0]. -/
def F.rxoData_data : Fld := { blk := .can, base := 0x71010, s1 := 0x80, s2 := 4, lo := 0, len := 32, acc := .ro }
/-- The register RXO_k_DATA_i. -/
def R.rxoData : RegDef :=
  { blk := .can, base := 0x71010, n1 := 64, s1 := 0x80, n2 := 16, s2 := 4, sp := .rxoWord,
    flds := [F.rxoData_data] }

/-- TXO_k_ID [28:0]. -/
def F.txoId_id : Fld := { blk := .can, base := 0x74000, s1 := 0x80, lo := 0, len := 29, acc := .rw }
/-- TXO_k_ID [29]. -/
def F.txoId_ide : Fld := { blk := .can, base := 0x74000, s1 := 0x80, lo := 29, len := 1, acc := .rw }
/-- The register TXO_k_ID. -/
def R.txoId : RegDef :=
  { blk := .can, base := 0x74000, n1 := 16, s1 := 0x80, sp := .txo,
    flds := [F.txoId_id, F.txoId_ide] }

/-- TXO_k_CTL [3:0]. -/
def F.txoCtl_dlc : Fld := { blk := .can, base := 0x74004, s1 := 0x80, lo := 0, len := 4, acc := .rw }
/-- TXO_k_CTL [4]. -/
def F.txoCtl_fdf : Fld := { blk := .can, base := 0x74004, s1 := 0x80, lo := 4, len := 1, acc := .rw }
/-- TXO_k_CTL [5]. -/
def F.txoCtl_brs : Fld := { blk := .can, base := 0x74004, s1 := 0x80, lo := 5, len := 1, acc := .rw }
/-- TXO_k_CTL [7]. -/
def F.txoCtl_tref : Fld := { blk := .can, base := 0x74004, s1 := 0x80, lo := 7, len := 1, acc := .rw }
/-- The register TXO_k_CTL. -/
def R.txoCtl : RegDef :=
  { blk := .can, base := 0x74004, n1 := 16, s1 := 0x80, sp := .txo,
    flds := [F.txoCtl_dlc, F.txoCtl_fdf, F.txoCtl_brs, F.txoCtl_tref] }

/-- TXO_k_TSEC [31:0]. -/
def F.txoTsec_tsec : Fld := { blk := .can, base := 0x74008, s1 := 0x80, lo := 0, len := 32, acc := .ro }
/-- The register TXO_k_TSEC. -/
def R.txoTsec : RegDef :=
  { blk := .can, base := 0x74008, n1 := 16, s1 := 0x80, sp := .txo,
    flds := [F.txoTsec_tsec] }

/-- TXO_k_TNS [29:0]. -/
def F.txoTns_tns : Fld := { blk := .can, base := 0x7400C, s1 := 0x80, lo := 0, len := 30, acc := .ro }
/-- The register TXO_k_TNS. -/
def R.txoTns : RegDef :=
  { blk := .can, base := 0x7400C, n1 := 16, s1 := 0x80, sp := .txo,
    flds := [F.txoTns_tns] }

/-- TXO_k_DATA_i [31:0]. -/
def F.txoData_data : Fld := { blk := .can, base := 0x74010, s1 := 0x80, s2 := 4, lo := 0, len := 32, acc := .rw }
/-- The register TXO_k_DATA_i. -/
def R.txoData : RegDef :=
  { blk := .can, base := 0x74010, n1 := 16, s1 := 0x80, n2 := 16, s2 := 4, sp := .txo,
    flds := [F.txoData_data] }

/-- The registers of CAN. -/
def regsCan : List RegDef :=
  [R.canCtrl, R.canNbt, R.canDbt, R.canErr, R.canCnt, R.canTxpend, R.canTxreq, R.canTxabort, R.canTxdone, R.canTxdisc, R.canRxnewlo, R.canRxnewhi] ++
  [R.canWakeid, R.canWakemask, R.rxoId, R.rxoCtl, R.rxoTsec, R.rxoTns, R.rxoData, R.txoId, R.txoCtl, R.txoTsec, R.txoTns, R.txoData]

/-! Registers of CHK (chapter 15). -/

/-- CHK_k_CFG [5:0]. -/
def F.chkCfg_width : Fld := { blk := .chk, base := 0x80000, s1 := 0x40, lo := 0, len := 6, acc := .rw, reset := 0x20, rng := some (1, 32) }
/-- CHK_k_CFG [6]. -/
def F.chkCfg_refin : Fld := { blk := .chk, base := 0x80000, s1 := 0x40, lo := 6, len := 1, acc := .rw, reset := 1 }
/-- CHK_k_CFG [7]. -/
def F.chkCfg_refout : Fld := { blk := .chk, base := 0x80000, s1 := 0x40, lo := 7, len := 1, acc := .rw, reset := 1 }
/-- CHK_k_CFG [11:8]. -/
def F.chkCfg_preset : Fld := { blk := .chk, base := 0x80000, s1 := 0x40, lo := 8, len := 4, acc := .wo, rng := some (0, 3) }
/-- The register CHK_k_CFG. -/
def R.chkCfg : RegDef :=
  { blk := .chk, base := 0x80000, n1 := 4, s1 := 0x40, sp := .chkCfg,
    flds := [F.chkCfg_width, F.chkCfg_refin, F.chkCfg_refout, F.chkCfg_preset] }

/-- CHK_k_POLY [31:0]. -/
def F.chkPoly_poly : Fld := { blk := .chk, base := 0x80004, s1 := 0x40, lo := 0, len := 32, acc := .rw, reset := 0x4C11DB7 }
/-- The register CHK_k_POLY. -/
def R.chkPoly : RegDef :=
  { blk := .chk, base := 0x80004, n1 := 4, s1 := 0x40, sp := .chkParam,
    flds := [F.chkPoly_poly] }

/-- CHK_k_INIT [31:0]. -/
def F.chkInit_init : Fld := { blk := .chk, base := 0x80008, s1 := 0x40, lo := 0, len := 32, acc := .rw, reset := 0xFFFFFFFF }
/-- The register CHK_k_INIT. -/
def R.chkInit : RegDef :=
  { blk := .chk, base := 0x80008, n1 := 4, s1 := 0x40, sp := .chkParam,
    flds := [F.chkInit_init] }

/-- CHK_k_XOR [31:0]. -/
def F.chkXor_xorout : Fld := { blk := .chk, base := 0x8000C, s1 := 0x40, lo := 0, len := 32, acc := .rw, reset := 0xFFFFFFFF }
/-- The register CHK_k_XOR. -/
def R.chkXor : RegDef :=
  { blk := .chk, base := 0x8000C, n1 := 4, s1 := 0x40, sp := .chkParam,
    flds := [F.chkXor_xorout] }

/-- CHK_k_CMD [0]. -/
def F.chkCmd_start : Fld := { blk := .chk, base := 0x80010, s1 := 0x40, lo := 0, len := 1, acc := .wo }
/-- The register CHK_k_CMD. -/
def R.chkCmd : RegDef :=
  { blk := .chk, base := 0x80010, n1 := 4, s1 := 0x40, sp := .chkCmd,
    flds := [F.chkCmd_start] }

/-- CHK_k_DATA [31:0]. -/
def F.chkData_data : Fld := { blk := .chk, base := 0x80014, s1 := 0x40, lo := 0, len := 32, acc := .wo }
/-- The register CHK_k_DATA. -/
def R.chkData : RegDef :=
  { blk := .chk, base := 0x80014, n1 := 4, s1 := 0x40, sp := .chkData,
    flds := [F.chkData_data] }

/-- CHK_k_VAL [31:0]. -/
def F.chkVal_v : Fld := { blk := .chk, base := 0x80018, s1 := 0x40, lo := 0, len := 32, acc := .rw, reset := 0xFFFFFFFF }
/-- The register CHK_k_VAL. -/
def R.chkVal : RegDef :=
  { blk := .chk, base := 0x80018, n1 := 4, s1 := 0x40, sp := .chkVal,
    flds := [F.chkVal_v] }

/-- CHK_k_RESULT [31:0]. -/
def F.chkResult_result : Fld := { blk := .chk, base := 0x8001C, s1 := 0x40, lo := 0, len := 32, acc := .ro, live := some .chkResult_result }
/-- The register CHK_k_RESULT. -/
def R.chkResult : RegDef :=
  { blk := .chk, base := 0x8001C, n1 := 4, s1 := 0x40, sp := .chkRead,
    flds := [F.chkResult_result] }

/-- CHK_k_STAT [0]. -/
def F.chkStat_busy : Fld := { blk := .chk, base := 0x80020, s1 := 0x40, lo := 0, len := 1, acc := .ro, live := some .chkStat_busy }
/-- The register CHK_k_STAT. -/
def R.chkStat : RegDef :=
  { blk := .chk, base := 0x80020, n1 := 4, s1 := 0x40,
    flds := [F.chkStat_busy] }

/-- CHK_k_ALVCFG [4:0]. -/
def F.chkAlvcfg_width : Fld := { blk := .chk, base := 0x80024, s1 := 0x40, lo := 0, len := 5, acc := .rw, reset := 0x10, rng := some (1, 16) }
/-- CHK_k_ALVCFG [8]. -/
def F.chkAlvcfg_arm : Fld := { blk := .chk, base := 0x80024, s1 := 0x40, lo := 8, len := 1, acc := .wo }
/-- The register CHK_k_ALVCFG. -/
def R.chkAlvcfg : RegDef :=
  { blk := .chk, base := 0x80024, n1 := 4, s1 := 0x40, sp := .chkAlvcfg,
    flds := [F.chkAlvcfg_width, F.chkAlvcfg_arm] }

/-- CHK_k_ALVIN [15:0]. -/
def F.chkAlvin_c : Fld := { blk := .chk, base := 0x80028, s1 := 0x40, lo := 0, len := 16, acc := .wo }
/-- The register CHK_k_ALVIN. -/
def R.chkAlvin : RegDef :=
  { blk := .chk, base := 0x80028, n1 := 4, s1 := 0x40, sp := .chkAlvin,
    flds := [F.chkAlvin_c] }

/-- CHK_k_ALVST [15:0]. -/
def F.chkAlvst_last : Fld := { blk := .chk, base := 0x8002C, s1 := 0x40, lo := 0, len := 16, acc := .ro }
/-- CHK_k_ALVST [16]. -/
def F.chkAlvst_repeat : Fld := { blk := .chk, base := 0x8002C, s1 := 0x40, lo := 16, len := 1, acc := .w1c }
/-- CHK_k_ALVST [17]. -/
def F.chkAlvst_jump : Fld := { blk := .chk, base := 0x8002C, s1 := 0x40, lo := 17, len := 1, acc := .w1c }
/-- CHK_k_ALVST [18]. -/
def F.chkAlvst_first : Fld := { blk := .chk, base := 0x8002C, s1 := 0x40, lo := 18, len := 1, acc := .ro, reset := 1 }
/-- CHK_k_ALVST [25:20]. -/
def F.chkAlvst_repeats : Fld := { blk := .chk, base := 0x8002C, s1 := 0x40, lo := 20, len := 6, acc := .rc }
/-- CHK_k_ALVST [31:26]. -/
def F.chkAlvst_jumps : Fld := { blk := .chk, base := 0x8002C, s1 := 0x40, lo := 26, len := 6, acc := .rc }
/-- The register CHK_k_ALVST. -/
def R.chkAlvst : RegDef :=
  { blk := .chk, base := 0x8002C, n1 := 4, s1 := 0x40, sp := .chkRead,
    flds := [F.chkAlvst_last, F.chkAlvst_repeat, F.chkAlvst_jump, F.chkAlvst_first, F.chkAlvst_repeats, F.chkAlvst_jumps] }

/-- The registers of CHK. -/
def regsChk : List RegDef :=
  [R.chkCfg, R.chkPoly, R.chkInit, R.chkXor, R.chkCmd, R.chkData, R.chkVal, R.chkResult, R.chkStat, R.chkAlvcfg, R.chkAlvin, R.chkAlvst]

/-! Registers of FIO (chapter 13). -/

/-- FIO_OUT [7:0]. -/
def F.fioOut_cmd : Fld := { blk := .fio, base := 0x88000, lo := 0, len := 8, acc := .rw }
/-- The register FIO_OUT. -/
def R.fioOut : RegDef :=
  { blk := .fio, base := 0x88000, sp := .fioOut,
    flds := [F.fioOut_cmd] }

/-- FIO_OUTSET [7:0]. -/
def F.fioOutset_set : Fld := { blk := .fio, base := 0x88004, lo := 0, len := 8, acc := .wo }
/-- The register FIO_OUTSET. -/
def R.fioOutset : RegDef :=
  { blk := .fio, base := 0x88004, sp := .fioOut,
    flds := [F.fioOutset_set] }

/-- FIO_OUTCLR [7:0]. -/
def F.fioOutclr_clr : Fld := { blk := .fio, base := 0x88008, lo := 0, len := 8, acc := .wo }
/-- The register FIO_OUTCLR. -/
def R.fioOutclr : RegDef :=
  { blk := .fio, base := 0x88008, sp := .fioOut,
    flds := [F.fioOutclr_clr] }

/-- FIO_CFG [1:0]. -/
def F.fioCfg_parlo : Fld := { blk := .fio, base := 0x8800C, lo := 0, len := 2, acc := .rw, rng := some (0, 2) }
/-- FIO_CFG [3:2]. -/
def F.fioCfg_parhi : Fld := { blk := .fio, base := 0x8800C, lo := 2, len := 2, acc := .rw, rng := some (0, 2) }
/-- FIO_CFG [15:8]. -/
def F.fioCfg_owen : Fld := { blk := .fio, base := 0x8800C, lo := 8, len := 8, acc := .rw }
/-- The register FIO_CFG. -/
def R.fioCfg : RegDef :=
  { blk := .fio, base := 0x8800C, sp := .fioCfg,
    flds := [F.fioCfg_parlo, F.fioCfg_parhi, F.fioCfg_owen] }

/-- FIO_DIAGT [15:0]. -/
def F.fioDiagt_olt : Fld := { blk := .fio, base := 0x88010, lo := 0, len := 16, acc := .rw, reset := 0xC8, rng := some (10, 65535) }
/-- FIO_DIAGT [23:16]. -/
def F.fioDiagt_owt : Fld := { blk := .fio, base := 0x88010, lo := 16, len := 8, acc := .rw, reset := 0xA, rng := some (1, 255) }
/-- FIO_DIAGT [31:24]. -/
def F.fioDiagt_diagblk : Fld := { blk := .fio, base := 0x88010, lo := 24, len := 8, acc := .rw, reset := 0x14, rng := some (1, 255) }
/-- The register FIO_DIAGT. -/
def R.fioDiagt : RegDef :=
  { blk := .fio, base := 0x88010,
    flds := [F.fioDiagt_olt, F.fioDiagt_owt, F.fioDiagt_diagblk] }

/-- FIO_RB [7:0]. -/
def F.fioRb_level : Fld := { blk := .fio, base := 0x88014, lo := 0, len := 8, acc := .ro }
/-- FIO_RB [15:8]. -/
def F.fioRb_drive : Fld := { blk := .fio, base := 0x88014, lo := 8, len := 8, acc := .ro, live := some .fioRb_drive }
/-- The register FIO_RB. -/
def R.fioRb : RegDef :=
  { blk := .fio, base := 0x88014,
    flds := [F.fioRb_level, F.fioRb_drive] }

/-- FO_k_ST [0]. -/
def F.foSt_overload : Fld := { blk := .fio, base := 0x88020, s1 := 4, lo := 0, len := 1, acc := .ro }
/-- FO_k_ST [1]. -/
def F.foSt_openWire : Fld := { blk := .fio, base := 0x88020, s1 := 4, lo := 1, len := 1, acc := .ro }
/-- FO_k_ST [2]. -/
def F.foSt_overtemp : Fld := { blk := .fio, base := 0x88020, s1 := 4, lo := 2, len := 1, acc := .ro }
/-- FO_k_ST [3]. -/
def F.foSt_shortToVf : Fld := { blk := .fio, base := 0x88020, s1 := 4, lo := 3, len := 1, acc := .ro }
/-- FO_k_ST [11:8]. -/
def F.foSt_sticky : Fld := { blk := .fio, base := 0x88020, s1 := 4, lo := 8, len := 4, acc := .w1c }
/-- FO_k_ST [31:16]. -/
def F.foSt_cur : Fld := { blk := .fio, base := 0x88020, s1 := 4, lo := 16, len := 16, acc := .ro, live := some .foSt_cur }
/-- The register FO_k_ST. -/
def R.foSt : RegDef :=
  { blk := .fio, base := 0x88020, n1 := 8, s1 := 4,
    flds := [F.foSt_overload, F.foSt_openWire, F.foSt_overtemp, F.foSt_shortToVf, F.foSt_sticky, F.foSt_cur] }

/-- FIO_SAFE [7:0]. -/
def F.fioSafe_pattern : Fld := { blk := .fio, base := 0x88040, lo := 0, len := 8, acc := .rw }
/-- The register FIO_SAFE. -/
def R.fioSafe : RegDef :=
  { blk := .fio, base := 0x88040,
    flds := [F.fioSafe_pattern] }

/-- FIO_WD [0]. -/
def F.fioWd_kick : Fld := { blk := .fio, base := 0x88044, lo := 0, len := 1, acc := .wo }
/-- FIO_WD [1]. -/
def F.fioWd_resume : Fld := { blk := .fio, base := 0x88044, lo := 1, len := 1, acc := .wo }
/-- FIO_WD [4:2]. -/
def F.fioWd_src : Fld := { blk := .fio, base := 0x88044, lo := 2, len := 3, acc := .rw, rng := some (0, 3) }
/-- FIO_WD [8]. -/
def F.fioWd_wdtrip : Fld := { blk := .fio, base := 0x88044, lo := 8, len := 1, acc := .ro }
/-- The register FIO_WD. -/
def R.fioWd : RegDef :=
  { blk := .fio, base := 0x88044, sp := .fioWd,
    flds := [F.fioWd_kick, F.fioWd_resume, F.fioWd_src, F.fioWd_wdtrip] }

/-- FIO_WD_TIMEOUT [31:0]. -/
def F.fioWdTimeout_timeout : Fld := { blk := .fio, base := 0x88048, lo := 0, len := 32, acc := .rw }
/-- The register FIO_WD_TIMEOUT. -/
def R.fioWdTimeout : RegDef :=
  { blk := .fio, base := 0x88048, sp := .fioWdTimeout,
    flds := [F.fioWdTimeout_timeout] }

/-- FIO_IN [15:0]. -/
def F.fioIn_level : Fld := { blk := .fio, base := 0x88080, lo := 0, len := 16, acc := .ro }
/-- FIO_IN [16]. -/
def F.fioIn_valid : Fld := { blk := .fio, base := 0x88080, lo := 16, len := 1, acc := .ro, live := some .fioIn_valid }
/-- The register FIO_IN. -/
def R.fioIn : RegDef :=
  { blk := .fio, base := 0x88080,
    flds := [F.fioIn_level, F.fioIn_valid] }

/-- FIO_INST [15:0]. -/
def F.fioInst_wireBreak : Fld := { blk := .fio, base := 0x88084, lo := 0, len := 16, acc := .ro }
/-- FIO_INST [31:16]. -/
def F.fioInst_sticky : Fld := { blk := .fio, base := 0x88084, lo := 16, len := 16, acc := .w1c }
/-- The register FIO_INST. -/
def R.fioInst : RegDef :=
  { blk := .fio, base := 0x88084,
    flds := [F.fioInst_wireBreak, F.fioInst_sticky] }

/-- FIO_VF [1:0]. -/
def F.fioVf_state : Fld := { blk := .fio, base := 0x88088, lo := 0, len := 2, acc := .ro, reset := 3 }
/-- The register FIO_VF. -/
def R.fioVf : RegDef :=
  { blk := .fio, base := 0x88088,
    flds := [F.fioVf_state] }

/-- FI_n_CFG [0]. -/
def F.fiCfg_type : Fld := { blk := .fio, base := 0x88100, s1 := 4, lo := 0, len := 1, acc := .rw }
/-- FI_n_CFG [1]. -/
def F.fiCfg_inv : Fld := { blk := .fio, base := 0x88100, s1 := 4, lo := 1, len := 1, acc := .rw }
/-- FI_n_CFG [2]. -/
def F.fiCfg_wben : Fld := { blk := .fio, base := 0x88100, s1 := 4, lo := 2, len := 1, acc := .rw }
/-- FI_n_CFG [3]. -/
def F.fiCfg_fast : Fld := { blk := .fio, base := 0x88100, s1 := 4, lo := 3, len := 1, acc := .rw }
/-- FI_n_CFG [17:4]. -/
def F.fiCfg_filt : Fld := { blk := .fio, base := 0x88100, s1 := 4, lo := 4, len := 14, acc := .rw, reset := 0x3E8 }
/-- FI_n_CFG [27:20]. -/
def F.fiCfg_wbt : Fld := { blk := .fio, base := 0x88100, s1 := 4, lo := 20, len := 8, acc := .rw, reset := 0x32, rng := some (1, 255) }
/-- The register FI_n_CFG. -/
def R.fiCfg : RegDef :=
  { blk := .fio, base := 0x88100, n1 := 16, s1 := 4, sp := .fiCfg,
    flds := [F.fiCfg_type, F.fiCfg_inv, F.fiCfg_wben, F.fiCfg_fast, F.fiCfg_filt, F.fiCfg_wbt] }

/-- The registers of FIO. -/
def regsFio : List RegDef :=
  [R.fioOut, R.fioOutset, R.fioOutclr, R.fioCfg, R.fioDiagt, R.fioRb, R.foSt, R.fioSafe, R.fioWd, R.fioWdTimeout, R.fioIn, R.fioInst] ++
  [R.fioVf, R.fiCfg]

/-! Registers of FBK (chapter 08). -/

/-- FA_n_CTRL [0]. -/
def F.faCtrl_en : Fld := { blk := .fbk, base := 0x90000, s1 := 0x80, lo := 0, len := 1, acc := .rw }
/-- FA_n_CTRL [3:1]. -/
def F.faCtrl_axis : Fld := { blk := .fbk, base := 0x90000, s1 := 0x80, lo := 1, len := 3, acc := .rw }
/-- FA_n_CTRL [15:4]. -/
def F.faCtrl_div : Fld := { blk := .fbk, base := 0x90000, s1 := 0x80, lo := 4, len := 12, acc := .rw, reset := 0x28, rng := some (25, 4000) }
/-- FA_n_CTRL [19:16]. -/
def F.faCtrl_latchedge : Fld := { blk := .fbk, base := 0x90000, s1 := 0x80, lo := 16, len := 4, acc := .rw }
/-- FA_n_CTRL [20]. -/
def F.faCtrl_start : Fld := { blk := .fbk, base := 0x90000, s1 := 0x80, lo := 20, len := 1, acc := .rw, reset := 1 }
/-- FA_n_CTRL [21]. -/
def F.faCtrl_gray : Fld := { blk := .fbk, base := 0x90000, s1 := 0x80, lo := 21, len := 1, acc := .rw }
/-- FA_n_CTRL [22]. -/
def F.faCtrl_lsbfirst : Fld := { blk := .fbk, base := 0x90000, s1 := 0x80, lo := 22, len := 1, acc := .rw }
/-- FA_n_CTRL [23]. -/
def F.faCtrl_signed : Fld := { blk := .fbk, base := 0x90000, s1 := 0x80, lo := 23, len := 1, acc := .rw }
/-- The register FA_n_CTRL. -/
def R.faCtrl : RegDef :=
  { blk := .fbk, base := 0x90000, n1 := 8, s1 := 0x80, sp := .faCfg,
    flds := [F.faCtrl_en, F.faCtrl_axis, F.faCtrl_div, F.faCtrl_latchedge, F.faCtrl_start, F.faCtrl_gray, F.faCtrl_lsbfirst, F.faCtrl_signed] }

/-- FA_n_FRM [3:0]. -/
def F.faFrm_cmdlen : Fld := { blk := .fbk, base := 0x90004, s1 := 0x80, lo := 0, len := 4, acc := .rw, rng := some (0, 8) }
/-- FA_n_FRM [11:4]. -/
def F.faFrm_cmd : Fld := { blk := .fbk, base := 0x90004, s1 := 0x80, lo := 4, len := 8, acc := .rw }
/-- FA_n_FRM [15:12]. -/
def F.faFrm_ackmax : Fld := { blk := .fbk, base := 0x90004, s1 := 0x80, lo := 12, len := 4, acc := .rw, reset := 4, rng := some (1, 15) }
/-- FA_n_FRM [21:16]. -/
def F.faFrm_rlen : Fld := { blk := .fbk, base := 0x90004, s1 := 0x80, lo := 16, len := 6, acc := .rw, reset := 0x20, rng := some (1, 63) }
/-- The register FA_n_FRM. -/
def R.faFrm : RegDef :=
  { blk := .fbk, base := 0x90004, n1 := 8, s1 := 0x80, sp := .faCfg,
    flds := [F.faFrm_cmdlen, F.faFrm_cmd, F.faFrm_ackmax, F.faFrm_rlen] }

/-- FA_n_FLD [5:0]. -/
def F.faFld_posofs : Fld := { blk := .fbk, base := 0x90008, s1 := 0x80, lo := 0, len := 6, acc := .rw }
/-- FA_n_FLD [11:6]. -/
def F.faFld_poslen : Fld := { blk := .fbk, base := 0x90008, s1 := 0x80, lo := 6, len := 6, acc := .rw, reset := 0x20, rng := some (8, 48) }
/-- FA_n_FLD [17:12]. -/
def F.faFld_stofs : Fld := { blk := .fbk, base := 0x90008, s1 := 0x80, lo := 12, len := 6, acc := .rw }
/-- FA_n_FLD [21:18]. -/
def F.faFld_stlen : Fld := { blk := .fbk, base := 0x90008, s1 := 0x80, lo := 18, len := 4, acc := .rw, rng := some (0, 8) }
/-- FA_n_FLD [29:22]. -/
def F.faFld_errmask : Fld := { blk := .fbk, base := 0x90008, s1 := 0x80, lo := 22, len := 8, acc := .rw }
/-- The register FA_n_FLD. -/
def R.faFld : RegDef :=
  { blk := .fbk, base := 0x90008, n1 := 8, s1 := 0x80, sp := .faCfg,
    flds := [F.faFld_posofs, F.faFld_poslen, F.faFld_stofs, F.faFld_stlen, F.faFld_errmask] }

/-- FA_n_CRC [0]. -/
def F.faCrc_en : Fld := { blk := .fbk, base := 0x9000C, s1 := 0x80, lo := 0, len := 1, acc := .rw }
/-- FA_n_CRC [2:1]. -/
def F.faCrc_unit : Fld := { blk := .fbk, base := 0x9000C, s1 := 0x80, lo := 1, len := 2, acc := .rw }
/-- FA_n_CRC [3]. -/
def F.faCrc_inv : Fld := { blk := .fbk, base := 0x9000C, s1 := 0x80, lo := 3, len := 1, acc := .rw }
/-- FA_n_CRC [9:4]. -/
def F.faCrc_crcofs : Fld := { blk := .fbk, base := 0x9000C, s1 := 0x80, lo := 4, len := 6, acc := .rw }
/-- FA_n_CRC [15:10]. -/
def F.faCrc_crclen : Fld := { blk := .fbk, base := 0x9000C, s1 := 0x80, lo := 10, len := 6, acc := .rw, reset := 6, rng := some (1, 32) }
/-- FA_n_CRC [21:16]. -/
def F.faCrc_from : Fld := { blk := .fbk, base := 0x9000C, s1 := 0x80, lo := 16, len := 6, acc := .rw }
/-- The register FA_n_CRC. -/
def R.faCrc : RegDef :=
  { blk := .fbk, base := 0x9000C, n1 := 8, s1 := 0x80, sp := .faCfg,
    flds := [F.faCrc_en, F.faCrc_unit, F.faCrc_inv, F.faCrc_crcofs, F.faCrc_crclen, F.faCrc_from] }

/-- FA_n_TIM [15:0]. -/
def F.faTim_tmono : Fld := { blk := .fbk, base := 0x90010, s1 := 0x80, lo := 0, len := 16, acc := .rw, reset := 0x7D0 }
/-- FA_n_TIM [31:16]. -/
def F.faTim_tsens : Fld := { blk := .fbk, base := 0x90010, s1 := 0x80, lo := 16, len := 16, acc := .rw }
/-- The register FA_n_TIM. -/
def R.faTim : RegDef :=
  { blk := .fbk, base := 0x90010, n1 := 8, s1 := 0x80, sp := .faCfg,
    flds := [F.faTim_tmono, F.faTim_tsens] }

/-- FA_n_LDLY [11:0]. -/
def F.faLdly_ldly : Fld := { blk := .fbk, base := 0x90014, s1 := 0x80, lo := 0, len := 12, acc := .rw }
/-- FA_n_LDLY [23:16]. -/
def F.faLdly_asym : Fld := { blk := .fbk, base := 0x90014, s1 := 0x80, lo := 16, len := 8, acc := .rw }
/-- FA_n_LDLY [31]. -/
def F.faLdly_measured : Fld := { blk := .fbk, base := 0x90014, s1 := 0x80, lo := 31, len := 1, acc := .ro }
/-- The register FA_n_LDLY. -/
def R.faLdly : RegDef :=
  { blk := .fbk, base := 0x90014, n1 := 8, s1 := 0x80, sp := .faLdly,
    flds := [F.faLdly_ldly, F.faLdly_asym, F.faLdly_measured] }

/-- FA_n_WORDLO [31:0]. -/
def F.faWordlo_w : Fld := { blk := .fbk, base := 0x90018, s1 := 0x80, lo := 0, len := 32, acc := .ro, live := some .faWordlo_w }
/-- The register FA_n_WORDLO. -/
def R.faWordlo : RegDef :=
  { blk := .fbk, base := 0x90018, n1 := 8, s1 := 0x80,
    flds := [F.faWordlo_w] }

/-- FA_n_WORDHI [15:0]. -/
def F.faWordhi_w : Fld := { blk := .fbk, base := 0x9001C, s1 := 0x80, lo := 0, len := 16, acc := .ro, live := some .faWordhi_w }
/-- The register FA_n_WORDHI. -/
def R.faWordhi : RegDef :=
  { blk := .fbk, base := 0x9001C, n1 := 8, s1 := 0x80,
    flds := [F.faWordhi_w] }

/-- FA_n_TS [29:0]. -/
def F.faTs_ns : Fld := { blk := .fbk, base := 0x90020, s1 := 0x80, lo := 0, len := 30, acc := .ro }
/-- The register FA_n_TS. -/
def R.faTs : RegDef :=
  { blk := .fbk, base := 0x90020, n1 := 8, s1 := 0x80,
    flds := [F.faTs_ns] }

/-- FA_n_ST [0]. -/
def F.faSt_crcerr : Fld := { blk := .fbk, base := 0x90024, s1 := 0x80, lo := 0, len := 1, acc := .w1c }
/-- FA_n_ST [1]. -/
def F.faSt_timeout : Fld := { blk := .fbk, base := 0x90024, s1 := 0x80, lo := 1, len := 1, acc := .w1c }
/-- FA_n_ST [2]. -/
def F.faSt_senserr : Fld := { blk := .fbk, base := 0x90024, s1 := 0x80, lo := 2, len := 1, acc := .w1c }
/-- FA_n_ST [3]. -/
def F.faSt_drift : Fld := { blk := .fbk, base := 0x90024, s1 := 0x80, lo := 3, len := 1, acc := .w1c }
/-- FA_n_ST [11:4]. -/
def F.faSt_status : Fld := { blk := .fbk, base := 0x90024, s1 := 0x80, lo := 4, len := 8, acc := .ro }
/-- FA_n_ST [31:16]. -/
def F.faSt_errs : Fld := { blk := .fbk, base := 0x90024, s1 := 0x80, lo := 16, len := 16, acc := .rc }
/-- The register FA_n_ST. -/
def R.faSt : RegDef :=
  { blk := .fbk, base := 0x90024, n1 := 8, s1 := 0x80,
    flds := [F.faSt_crcerr, F.faSt_timeout, F.faSt_senserr, F.faSt_drift, F.faSt_status, F.faSt_errs] }

/-- FA_n_LEAD [31:0]. -/
def F.faLead_lead : Fld := { blk := .fbk, base := 0x90028, s1 := 0x80, lo := 0, len := 32, acc := .ro, live := some .faLead_lead }
/-- The register FA_n_LEAD. -/
def R.faLead : RegDef :=
  { blk := .fbk, base := 0x90028, n1 := 8, s1 := 0x80,
    flds := [F.faLead_lead] }

/-- FQ_q_CTRL [2:0]. -/
def F.fqCtrl_mode : Fld := { blk := .fbk, base := 0x90400, s1 := 0x80, lo := 0, len := 3, acc := .rw, rng := some (0, 4) }
/-- FQ_q_CTRL [3]. -/
def F.fqCtrl_swap : Fld := { blk := .fbk, base := 0x90400, s1 := 0x80, lo := 3, len := 1, acc := .rw }
/-- FQ_q_CTRL [4]. -/
def F.fqCtrl_inva : Fld := { blk := .fbk, base := 0x90400, s1 := 0x80, lo := 4, len := 1, acc := .rw }
/-- FQ_q_CTRL [5]. -/
def F.fqCtrl_invb : Fld := { blk := .fbk, base := 0x90400, s1 := 0x80, lo := 5, len := 1, acc := .rw }
/-- FQ_q_CTRL [6]. -/
def F.fqCtrl_invz : Fld := { blk := .fbk, base := 0x90400, s1 := 0x80, lo := 6, len := 1, acc := .rw }
/-- FQ_q_CTRL [7]. -/
def F.fqCtrl_idxchk : Fld := { blk := .fbk, base := 0x90400, s1 := 0x80, lo := 7, len := 1, acc := .rw }
/-- FQ_q_CTRL [15:8]. -/
def F.fqCtrl_filt : Fld := { blk := .fbk, base := 0x90400, s1 := 0x80, lo := 8, len := 8, acc := .rw, reset := 4 }
/-- FQ_q_CTRL [18:16]. -/
def F.fqCtrl_axis : Fld := { blk := .fbk, base := 0x90400, s1 := 0x80, lo := 16, len := 3, acc := .rw }
/-- FQ_q_CTRL [19]. -/
def F.fqCtrl_en : Fld := { blk := .fbk, base := 0x90400, s1 := 0x80, lo := 19, len := 1, acc := .rw }
/-- The register FQ_q_CTRL. -/
def R.fqCtrl : RegDef :=
  { blk := .fbk, base := 0x90400, n1 := 4, s1 := 0x80, sp := .fqCfg,
    flds := [F.fqCtrl_mode, F.fqCtrl_swap, F.fqCtrl_inva, F.fqCtrl_invb, F.fqCtrl_invz, F.fqCtrl_idxchk, F.fqCtrl_filt, F.fqCtrl_axis, F.fqCtrl_en] }

/-- FQ_q_IDX [15:0]. -/
def F.fqIdx_lines : Fld := { blk := .fbk, base := 0x90404, s1 := 0x80, lo := 0, len := 16, acc := .rw }
/-- FQ_q_IDX [31:16]. -/
def F.fqIdx_tol : Fld := { blk := .fbk, base := 0x90404, s1 := 0x80, lo := 16, len := 16, acc := .rw }
/-- The register FQ_q_IDX. -/
def R.fqIdx : RegDef :=
  { blk := .fbk, base := 0x90404, n1 := 4, s1 := 0x80, sp := .fqCfg,
    flds := [F.fqIdx_lines, F.fqIdx_tol] }

/-- FQ_q_QERR [3:0]. -/
def F.fqQerr_k : Fld := { blk := .fbk, base := 0x90408, s1 := 0x80, lo := 0, len := 4, acc := .rw, reset := 4, rng := some (1, 15) }
/-- FQ_q_QERR [31:16]. -/
def F.fqQerr_qwin : Fld := { blk := .fbk, base := 0x90408, s1 := 0x80, lo := 16, len := 16, acc := .rw, reset := 0x3E8, rng := some (1, 65535) }
/-- The register FQ_q_QERR. -/
def R.fqQerr : RegDef :=
  { blk := .fbk, base := 0x90408, n1 := 4, s1 := 0x80, sp := .fqCfg,
    flds := [F.fqQerr_k, F.fqQerr_qwin] }

/-- FQ_q_ZSTO [31:0]. -/
def F.fqZsto_zsto : Fld := { blk := .fbk, base := 0x9040C, s1 := 0x80, lo := 0, len := 32, acc := .rw, reset := 0x989680, rng := some (1000, 4294967295) }
/-- The register FQ_q_ZSTO. -/
def R.fqZsto : RegDef :=
  { blk := .fbk, base := 0x9040C, n1 := 4, s1 := 0x80, sp := .fqCfg,
    flds := [F.fqZsto_zsto] }

/-- FQ_q_CNTLO [31:0]. -/
def F.fqCntlo_v : Fld := { blk := .fbk, base := 0x90410, s1 := 0x80, lo := 0, len := 32, acc := .ro, live := some .fqCntlo_v }
/-- The register FQ_q_CNTLO. -/
def R.fqCntlo : RegDef :=
  { blk := .fbk, base := 0x90410, n1 := 4, s1 := 0x80,
    flds := [F.fqCntlo_v] }

/-- FQ_q_CNTHI [31:0]. -/
def F.fqCnthi_v : Fld := { blk := .fbk, base := 0x90414, s1 := 0x80, lo := 0, len := 32, acc := .ro, live := some .fqCnthi_v }
/-- The register FQ_q_CNTHI. -/
def R.fqCnthi : RegDef :=
  { blk := .fbk, base := 0x90414, n1 := 4, s1 := 0x80,
    flds := [F.fqCnthi_v] }

/-- FQ_q_IDXLO [31:0]. -/
def F.fqIdxlo_v : Fld := { blk := .fbk, base := 0x90418, s1 := 0x80, lo := 0, len := 32, acc := .ro, live := some .fqIdxlo_v }
/-- The register FQ_q_IDXLO. -/
def R.fqIdxlo : RegDef :=
  { blk := .fbk, base := 0x90418, n1 := 4, s1 := 0x80,
    flds := [F.fqIdxlo_v] }

/-- FQ_q_IDXHI [31:0]. -/
def F.fqIdxhi_v : Fld := { blk := .fbk, base := 0x9041C, s1 := 0x80, lo := 0, len := 32, acc := .ro, live := some .fqIdxhi_v }
/-- The register FQ_q_IDXHI. -/
def R.fqIdxhi : RegDef :=
  { blk := .fbk, base := 0x9041C, n1 := 4, s1 := 0x80,
    flds := [F.fqIdxhi_v] }

/-- FQ_q_ST [0]. -/
def F.fqSt_illegal : Fld := { blk := .fbk, base := 0x90420, s1 := 0x80, lo := 0, len := 1, acc := .w1c }
/-- FQ_q_ST [1]. -/
def F.fqSt_dirchg : Fld := { blk := .fbk, base := 0x90420, s1 := 0x80, lo := 1, len := 1, acc := .w1c }
/-- FQ_q_ST [2]. -/
def F.fqSt_indexErr : Fld := { blk := .fbk, base := 0x90420, s1 := 0x80, lo := 2, len := 1, acc := .w1c }
/-- FQ_q_ST [3]. -/
def F.fqSt_ampl : Fld := { blk := .fbk, base := 0x90420, s1 := 0x80, lo := 3, len := 1, acc := .w1c }
/-- FQ_q_ST [4]. -/
def F.fqSt_mismatch : Fld := { blk := .fbk, base := 0x90420, s1 := 0x80, lo := 4, len := 1, acc := .w1c }
/-- FQ_q_ST [5]. -/
def F.fqSt_fallback : Fld := { blk := .fbk, base := 0x90420, s1 := 0x80, lo := 5, len := 1, acc := .ro }
/-- FQ_q_ST [6]. -/
def F.fqSt_fault : Fld := { blk := .fbk, base := 0x90420, s1 := 0x80, lo := 6, len := 1, acc := .ro }
/-- FQ_q_ST [7]. -/
def F.fqSt_dir : Fld := { blk := .fbk, base := 0x90420, s1 := 0x80, lo := 7, len := 1, acc := .ro }
/-- FQ_q_ST [8]. -/
def F.fqSt_ready : Fld := { blk := .fbk, base := 0x90420, s1 := 0x80, lo := 8, len := 1, acc := .ro }
/-- FQ_q_ST [31:16]. -/
def F.fqSt_qerr : Fld := { blk := .fbk, base := 0x90420, s1 := 0x80, lo := 16, len := 16, acc := .rc }
/-- The register FQ_q_ST. -/
def R.fqSt : RegDef :=
  { blk := .fbk, base := 0x90420, n1 := 4, s1 := 0x80,
    flds := [F.fqSt_illegal, F.fqSt_dirchg, F.fqSt_indexErr, F.fqSt_ampl, F.fqSt_mismatch, F.fqSt_fallback, F.fqSt_fault, F.fqSt_dir, F.fqSt_ready, F.fqSt_qerr] }

/-- FQ_q_CMD [0]. -/
def F.fqCmd_mainret : Fld := { blk := .fbk, base := 0x90424, s1 := 0x80, lo := 0, len := 1, acc := .wo }
/-- FQ_q_CMD [1]. -/
def F.fqCmd_clrflt : Fld := { blk := .fbk, base := 0x90424, s1 := 0x80, lo := 1, len := 1, acc := .wo }
/-- The register FQ_q_CMD. -/
def R.fqCmd : RegDef :=
  { blk := .fbk, base := 0x90424, n1 := 4, s1 := 0x80, sp := .fqCmd,
    flds := [F.fqCmd_mainret, F.fqCmd_clrflt] }

/-- FQ_q_SC [3:0]. -/
def F.fqSc_ibits : Fld := { blk := .fbk, base := 0x90428, s1 := 0x80, lo := 0, len := 4, acc := .rw, reset := 0xA, rng := some (2, 12) }
/-- FQ_q_SC [11:4]. -/
def F.fqSc_hyst : Fld := { blk := .fbk, base := 0x90428, s1 := 0x80, lo := 4, len := 8, acc := .rw, reset := 8 }
/-- The register FQ_q_SC. -/
def R.fqSc : RegDef :=
  { blk := .fbk, base := 0x90428, n1 := 4, s1 := 0x80, sp := .fqCfg,
    flds := [F.fqSc_ibits, F.fqSc_hyst] }

/-- FQ_q_SCOFS [15:0]. -/
def F.fqScofs_sofs : Fld := { blk := .fbk, base := 0x9042C, s1 := 0x80, lo := 0, len := 16, acc := .rw }
/-- FQ_q_SCOFS [31:16]. -/
def F.fqScofs_cofs : Fld := { blk := .fbk, base := 0x9042C, s1 := 0x80, lo := 16, len := 16, acc := .rw }
/-- The register FQ_q_SCOFS. -/
def R.fqScofs : RegDef :=
  { blk := .fbk, base := 0x9042C, n1 := 4, s1 := 0x80, sp := .fqCfg,
    flds := [F.fqScofs_sofs, F.fqScofs_cofs] }

/-- FQ_q_SCAMP [15:0]. -/
def F.fqScamp_amin : Fld := { blk := .fbk, base := 0x90430, s1 := 0x80, lo := 0, len := 16, acc := .rw, reset := 0x4000 }
/-- FQ_q_SCAMP [31:16]. -/
def F.fqScamp_amax : Fld := { blk := .fbk, base := 0x90430, s1 := 0x80, lo := 16, len := 16, acc := .rw, reset := 0xE000 }
/-- The register FQ_q_SCAMP. -/
def R.fqScamp : RegDef :=
  { blk := .fbk, base := 0x90430, n1 := 4, s1 := 0x80, sp := .fqCfg,
    flds := [F.fqScamp_amin, F.fqScamp_amax] }

/-- FQ_q_SCMEAS [15:0]. -/
def F.fqScmeas_a : Fld := { blk := .fbk, base := 0x90434, s1 := 0x80, lo := 0, len := 16, acc := .ro }
/-- FQ_q_SCMEAS [31:16]. -/
def F.fqScmeas_phi : Fld := { blk := .fbk, base := 0x90434, s1 := 0x80, lo := 16, len := 16, acc := .ro }
/-- The register FQ_q_SCMEAS. -/
def R.fqScmeas : RegDef :=
  { blk := .fbk, base := 0x90434, n1 := 4, s1 := 0x80,
    flds := [F.fqScmeas_a, F.fqScmeas_phi] }

/-- LT_s_CFG [0]. -/
def F.ltCfg_en : Fld := { blk := .fbk, base := 0x90800, s1 := 0x40, lo := 0, len := 1, acc := .rw }
/-- LT_s_CFG [2:1]. -/
def F.ltCfg_edge : Fld := { blk := .fbk, base := 0x90800, s1 := 0x40, lo := 1, len := 2, acc := .rw, rng := some (0, 2) }
/-- LT_s_CFG [6:4]. -/
def F.ltCfg_axis : Fld := { blk := .fbk, base := 0x90800, s1 := 0x40, lo := 4, len := 3, acc := .rw }
/-- LT_s_CFG [7]. -/
def F.ltCfg_mode : Fld := { blk := .fbk, base := 0x90800, s1 := 0x40, lo := 7, len := 1, acc := .rw }
/-- LT_s_CFG [8]. -/
def F.ltCfg_winen : Fld := { blk := .fbk, base := 0x90800, s1 := 0x40, lo := 8, len := 1, acc := .rw }
/-- LT_s_CFG [17:10]. -/
def F.ltCfg_filt : Fld := { blk := .fbk, base := 0x90800, s1 := 0x40, lo := 10, len := 8, acc := .rw }
/-- The register LT_s_CFG. -/
def R.ltCfg : RegDef :=
  { blk := .fbk, base := 0x90800, n1 := 8, s1 := 0x40, sp := .ltCfg,
    flds := [F.ltCfg_en, F.ltCfg_edge, F.ltCfg_axis, F.ltCfg_mode, F.ltCfg_winen, F.ltCfg_filt] }

/-- LT_s_DLY [31:0]. -/
def F.ltDly_dly : Fld := { blk := .fbk, base := 0x90804, s1 := 0x40, lo := 0, len := 32, acc := .rw }
/-- The register LT_s_DLY. -/
def R.ltDly : RegDef :=
  { blk := .fbk, base := 0x90804, n1 := 8, s1 := 0x40, sp := .ltReg,
    flds := [F.ltDly_dly] }

/-- LT_s_WMINLO [31:0]. -/
def F.ltWminlo_v : Fld := { blk := .fbk, base := 0x90808, s1 := 0x40, lo := 0, len := 32, acc := .rw }
/-- The register LT_s_WMINLO. -/
def R.ltWminlo : RegDef :=
  { blk := .fbk, base := 0x90808, n1 := 8, s1 := 0x40, sp := .ltReg,
    flds := [F.ltWminlo_v] }

/-- LT_s_WMINHI [31:0]. -/
def F.ltWminhi_v : Fld := { blk := .fbk, base := 0x9080C, s1 := 0x40, lo := 0, len := 32, acc := .rw }
/-- The register LT_s_WMINHI. -/
def R.ltWminhi : RegDef :=
  { blk := .fbk, base := 0x9080C, n1 := 8, s1 := 0x40, sp := .ltReg,
    flds := [F.ltWminhi_v] }

/-- LT_s_WMAXLO [31:0]. -/
def F.ltWmaxlo_v : Fld := { blk := .fbk, base := 0x90810, s1 := 0x40, lo := 0, len := 32, acc := .rw }
/-- The register LT_s_WMAXLO. -/
def R.ltWmaxlo : RegDef :=
  { blk := .fbk, base := 0x90810, n1 := 8, s1 := 0x40, sp := .ltReg,
    flds := [F.ltWmaxlo_v] }

/-- LT_s_WMAXHI [31:0]. -/
def F.ltWmaxhi_v : Fld := { blk := .fbk, base := 0x90814, s1 := 0x40, lo := 0, len := 32, acc := .rw }
/-- The register LT_s_WMAXHI. -/
def R.ltWmaxhi : RegDef :=
  { blk := .fbk, base := 0x90814, n1 := 8, s1 := 0x40, sp := .ltReg,
    flds := [F.ltWmaxhi_v] }

/-- LT_s_WPERLO [31:0]. -/
def F.ltWperlo_v : Fld := { blk := .fbk, base := 0x90818, s1 := 0x40, lo := 0, len := 32, acc := .rw }
/-- The register LT_s_WPERLO. -/
def R.ltWperlo : RegDef :=
  { blk := .fbk, base := 0x90818, n1 := 8, s1 := 0x40, sp := .ltReg,
    flds := [F.ltWperlo_v] }

/-- LT_s_WPERHI [31:0]. -/
def F.ltWperhi_v : Fld := { blk := .fbk, base := 0x9081C, s1 := 0x40, lo := 0, len := 32, acc := .rw, rng := some (0, 2147483647) }
/-- The register LT_s_WPERHI. -/
def R.ltWperhi : RegDef :=
  { blk := .fbk, base := 0x9081C, n1 := 8, s1 := 0x40, sp := .ltReg,
    flds := [F.ltWperhi_v] }

/-- LT_s_QPOSLO [31:0]. -/
def F.ltQposlo_x : Fld := { blk := .fbk, base := 0x90820, s1 := 0x40, lo := 0, len := 32, acc := .ro, live := some .ltQposlo_x }
/-- The register LT_s_QPOSLO. -/
def R.ltQposlo : RegDef :=
  { blk := .fbk, base := 0x90820, n1 := 8, s1 := 0x40,
    flds := [F.ltQposlo_x] }

/-- LT_s_QPOSHI [31:0]. -/
def F.ltQposhi_x : Fld := { blk := .fbk, base := 0x90824, s1 := 0x40, lo := 0, len := 32, acc := .ro, live := some .ltQposhi_x }
/-- The register LT_s_QPOSHI. -/
def R.ltQposhi : RegDef :=
  { blk := .fbk, base := 0x90824, n1 := 8, s1 := 0x40,
    flds := [F.ltQposhi_x] }

/-- LT_s_QSEC [31:0]. -/
def F.ltQsec_sec : Fld := { blk := .fbk, base := 0x90828, s1 := 0x40, lo := 0, len := 32, acc := .ro, live := some .ltQsec_sec }
/-- The register LT_s_QSEC. -/
def R.ltQsec : RegDef :=
  { blk := .fbk, base := 0x90828, n1 := 8, s1 := 0x40,
    flds := [F.ltQsec_sec] }

/-- LT_s_QNS [29:0]. -/
def F.ltQns_ns : Fld := { blk := .fbk, base := 0x9082C, s1 := 0x40, lo := 0, len := 30, acc := .ro, live := some .ltQns_ns }
/-- The register LT_s_QNS. -/
def R.ltQns : RegDef :=
  { blk := .fbk, base := 0x9082C, n1 := 8, s1 := 0x40,
    flds := [F.ltQns_ns] }

/-- LT_s_QINFO [0]. -/
def F.ltQinfo_valid : Fld := { blk := .fbk, base := 0x90830, s1 := 0x40, lo := 0, len := 1, acc := .rc, live := some .ltQinfo_valid }
/-- LT_s_QINFO [1]. -/
def F.ltQinfo_extrap : Fld := { blk := .fbk, base := 0x90830, s1 := 0x40, lo := 1, len := 1, acc := .ro, live := some .ltQinfo_extrap }
/-- LT_s_QINFO [2]. -/
def F.ltQinfo_old : Fld := { blk := .fbk, base := 0x90830, s1 := 0x40, lo := 2, len := 1, acc := .ro, live := some .ltQinfo_old }
/-- LT_s_QINFO [6:4]. -/
def F.ltQinfo_fill : Fld := { blk := .fbk, base := 0x90830, s1 := 0x40, lo := 4, len := 3, acc := .ro, live := some .ltQinfo_fill }
/-- LT_s_QINFO [31:16]. -/
def F.ltQinfo_frac : Fld := { blk := .fbk, base := 0x90830, s1 := 0x40, lo := 16, len := 16, acc := .ro, live := some .ltQinfo_frac }
/-- The register LT_s_QINFO. -/
def R.ltQinfo : RegDef :=
  { blk := .fbk, base := 0x90830, n1 := 8, s1 := 0x40, sp := .ltQinfo,
    flds := [F.ltQinfo_valid, F.ltQinfo_extrap, F.ltQinfo_old, F.ltQinfo_fill, F.ltQinfo_frac] }

/-- LT_s_ST [7:0]. -/
def F.ltSt_overflow : Fld := { blk := .fbk, base := 0x90834, s1 := 0x40, lo := 0, len := 8, acc := .rc }
/-- LT_s_ST [15:8]. -/
def F.ltSt_lost : Fld := { blk := .fbk, base := 0x90834, s1 := 0x40, lo := 8, len := 8, acc := .rc }
/-- LT_s_ST [23:16]. -/
def F.ltSt_rejected : Fld := { blk := .fbk, base := 0x90834, s1 := 0x40, lo := 16, len := 8, acc := .rc }
/-- The register LT_s_ST. -/
def R.ltSt : RegDef :=
  { blk := .fbk, base := 0x90834, n1 := 8, s1 := 0x40,
    flds := [F.ltSt_overflow, F.ltSt_lost, F.ltSt_rejected] }

/-- FBK_AX_n_SEL [3:0]. -/
def F.fbkSel_src : Fld := { blk := .fbk, base := 0x9F000, s1 := 0x20, lo := 0, len := 4, acc := .rwd, rng := some (0, 13) }
/-- FBK_AX_n_SEL [4]. -/
def F.fbkSel_neg : Fld := { blk := .fbk, base := 0x9F000, s1 := 0x20, lo := 4, len := 1, acc := .rwd }
/-- FBK_AX_n_SEL [11:8]. -/
def F.fbkSel_vfilt : Fld := { blk := .fbk, base := 0x9F000, s1 := 0x20, lo := 8, len := 4, acc := .rwd }
/-- FBK_AX_n_SEL [15:12]. -/
def F.fbkSel_maxmiss : Fld := { blk := .fbk, base := 0x9F000, s1 := 0x20, lo := 12, len := 4, acc := .rwd, reset := 2, rng := some (1, 15) }
/-- The register FBK_AX_n_SEL. -/
def R.fbkSel : RegDef :=
  { blk := .fbk, base := 0x9F000, n1 := 8, s1 := 0x20, own := .ax,
    flds := [F.fbkSel_src, F.fbkSel_neg, F.fbkSel_vfilt, F.fbkSel_maxmiss] }

/-- FBK_AX_n_OFSLO [31:0]. -/
def F.fbkOfslo_ofs : Fld := { blk := .fbk, base := 0x9F004, s1 := 0x20, lo := 0, len := 32, acc := .rwd }
/-- The register FBK_AX_n_OFSLO. -/
def R.fbkOfslo : RegDef :=
  { blk := .fbk, base := 0x9F004, n1 := 8, s1 := 0x20, own := .ax,
    flds := [F.fbkOfslo_ofs] }

/-- FBK_AX_n_OFSHI [31:0]. -/
def F.fbkOfshi_ofs : Fld := { blk := .fbk, base := 0x9F008, s1 := 0x20, lo := 0, len := 32, acc := .rwd }
/-- The register FBK_AX_n_OFSHI. -/
def R.fbkOfshi : RegDef :=
  { blk := .fbk, base := 0x9F008, n1 := 8, s1 := 0x20, own := .ax,
    flds := [F.fbkOfshi_ofs] }

/-- FBK_AX_n_ST [0]. -/
def F.fbkSt_late : Fld := { blk := .fbk, base := 0x9F00C, s1 := 0x20, lo := 0, len := 1, acc := .w1c }
/-- FBK_AX_n_ST [1]. -/
def F.fbkSt_fbfault : Fld := { blk := .fbk, base := 0x9F00C, s1 := 0x20, lo := 1, len := 1, acc := .ro }
/-- FBK_AX_n_ST [15:8]. -/
def F.fbkSt_miss : Fld := { blk := .fbk, base := 0x9F00C, s1 := 0x20, lo := 8, len := 8, acc := .ro }
/-- FBK_AX_n_ST [31:16]. -/
def F.fbkSt_latecnt : Fld := { blk := .fbk, base := 0x9F00C, s1 := 0x20, lo := 16, len := 16, acc := .rc }
/-- The register FBK_AX_n_ST. -/
def R.fbkSt : RegDef :=
  { blk := .fbk, base := 0x9F00C, n1 := 8, s1 := 0x20,
    flds := [F.fbkSt_late, F.fbkSt_fbfault, F.fbkSt_miss, F.fbkSt_latecnt] }

/-- The registers of FBK. -/
def regsFbk : List RegDef :=
  [R.faCtrl, R.faFrm, R.faFld, R.faCrc, R.faTim, R.faLdly, R.faWordlo, R.faWordhi, R.faTs, R.faSt, R.faLead, R.fqCtrl] ++
  [R.fqIdx, R.fqQerr, R.fqZsto, R.fqCntlo, R.fqCnthi, R.fqIdxlo, R.fqIdxhi, R.fqSt, R.fqCmd, R.fqSc, R.fqScofs, R.fqScamp] ++
  [R.fqScmeas, R.ltCfg, R.ltDly, R.ltWminlo, R.ltWminhi, R.ltWmaxlo, R.ltWmaxhi, R.ltWperlo, R.ltWperhi, R.ltQposlo, R.ltQposhi, R.ltQsec] ++
  [R.ltQns, R.ltQinfo, R.ltSt, R.fbkSel, R.fbkOfslo, R.fbkOfshi, R.fbkSt]

/-! Registers of LEG (chapter 06). -/

/-- LEG_n_CFG [2:0]. -/
def F.legCfg_use : Fld := { blk := .leg, base := 0xA0000, s1 := 0x800, lo := 0, len := 3, acc := .rwd, rng := some (0, 3) }
/-- LEG_n_CFG [6:4]. -/
def F.legCfg_axis : Fld := { blk := .leg, base := 0xA0000, s1 := 0x800, lo := 4, len := 3, acc := .rwd }
/-- LEG_n_CFG [9:8]. -/
def F.legCfg_slot : Fld := { blk := .leg, base := 0xA0000, s1 := 0x800, lo := 8, len := 2, acc := .rwd }
/-- The register LEG_n_CFG. -/
def R.legCfg : RegDef :=
  { blk := .leg, base := 0xA0000, n1 := 24, s1 := 0x800, sp := .legCfg,
    flds := [F.legCfg_use, F.legCfg_axis, F.legCfg_slot] }

/-- LEG_n_DT [11:0]. -/
def F.legDt_dt : Fld := { blk := .leg, base := 0xA0004, s1 := 0x800, lo := 0, len := 12, acc := .rwd, reset := 0x190, rng := some (40, 4000) }
/-- The register LEG_n_DT. -/
def R.legDt : RegDef :=
  { blk := .leg, base := 0xA0004, n1 := 24, s1 := 0x800, sp := .legReg,
    flds := [F.legDt_dt] }

/-- LEG_n_TMIN [12:0]. -/
def F.legTmin_tmin : Fld := { blk := .leg, base := 0xA0008, s1 := 0x800, lo := 0, len := 13, acc := .rwd, reset := 0x190, rng := some (40, 8000) }
/-- The register LEG_n_TMIN. -/
def R.legTmin : RegDef :=
  { blk := .leg, base := 0xA0008, n1 := 24, s1 := 0x800, sp := .legReg,
    flds := [F.legTmin_tmin] }

/-- LEG_n_TBLANK [10:0]. -/
def F.legTblank_tblank : Fld := { blk := .leg, base := 0xA000C, s1 := 0x800, lo := 0, len := 11, acc := .rwd, reset := 0xFA, rng := some (50, 2000) }
/-- The register LEG_n_TBLANK. -/
def R.legTblank : RegDef :=
  { blk := .leg, base := 0xA000C, n1 := 24, s1 := 0x800, sp := .legReg,
    flds := [F.legTblank_tblank] }

/-- LEG_n_ISC [11:0]. -/
def F.legIsc_soft : Fld := { blk := .leg, base := 0xA0010, s1 := 0x800, lo := 0, len := 12, acc := .rwd, reset := 0x400, rng := some (64, 4095) }
/-- LEG_n_ISC [27:16]. -/
def F.legIsc_hard : Fld := { blk := .leg, base := 0xA0010, s1 := 0x800, lo := 16, len := 12, acc := .rwd, reset := 0x600, rng := some (64, 4095) }
/-- The register LEG_n_ISC. -/
def R.legIsc : RegDef :=
  { blk := .leg, base := 0xA0010, n1 := 24, s1 := 0x800, sp := .legIsc,
    flds := [F.legIsc_soft, F.legIsc_hard] }

/-- LEG_n_BST [7:0]. -/
def F.legBst_refn : Fld := { blk := .leg, base := 0xA0014, s1 := 0x800, lo := 0, len := 8, acc := .rwd }
/-- LEG_n_BST [19:8]. -/
def F.legBst_refw : Fld := { blk := .leg, base := 0xA0014, s1 := 0x800, lo := 8, len := 12, acc := .rwd, reset := 0x320, rng := some (40, 4000) }
/-- LEG_n_BST [21:20]. -/
def F.legBst_uvsel : Fld := { blk := .leg, base := 0xA0014, s1 := 0x800, lo := 20, len := 2, acc := .rwd, reset := 1 }
/-- The register LEG_n_BST. -/
def R.legBst : RegDef :=
  { blk := .leg, base := 0xA0014, n1 := 24, s1 := 0x800, sp := .legReg,
    flds := [F.legBst_refn, F.legBst_refw, F.legBst_uvsel] }

/-- LEG_n_CMPA [31:0]. -/
def F.legCmpa_cmp : Fld := { blk := .leg, base := 0xA0018, s1 := 0x800, lo := 0, len := 32, acc := .ro, reset := 0xFFFFFFFF }
/-- The register LEG_n_CMPA. -/
def R.legCmpa : RegDef :=
  { blk := .leg, base := 0xA0018, n1 := 24, s1 := 0x800,
    flds := [F.legCmpa_cmp] }

/-- LEG_n_CMPB [31:0]. -/
def F.legCmpb_cmp : Fld := { blk := .leg, base := 0xA001C, s1 := 0x800, lo := 0, len := 32, acc := .ro, reset := 0xFFFFFFFF }
/-- The register LEG_n_CMPB. -/
def R.legCmpb : RegDef :=
  { blk := .leg, base := 0xA001C, n1 := 24, s1 := 0x800,
    flds := [F.legCmpb_cmp] }

/-- LEG_n_SCMPA [31:0]. -/
def F.legScmpa_scmp : Fld := { blk := .leg, base := 0xA0020, s1 := 0x800, lo := 0, len := 32, acc := .ro, reset := 0xFFFFFFFF }
/-- The register LEG_n_SCMPA. -/
def R.legScmpa : RegDef :=
  { blk := .leg, base := 0xA0020, n1 := 24, s1 := 0x800,
    flds := [F.legScmpa_scmp] }

/-- LEG_n_SCMPB [31:0]. -/
def F.legScmpb_scmp : Fld := { blk := .leg, base := 0xA0024, s1 := 0x800, lo := 0, len := 32, acc := .ro, reset := 0xFFFFFFFF }
/-- The register LEG_n_SCMPB. -/
def R.legScmpb : RegDef :=
  { blk := .leg, base := 0xA0024, n1 := 24, s1 := 0x800,
    flds := [F.legScmpb_scmp] }

/-- LEG_n_CARRY [31:0]. -/
def F.legCarry_c : Fld := { blk := .leg, base := 0xA0028, s1 := 0x800, lo := 0, len := 32, acc := .ro }
/-- The register LEG_n_CARRY. -/
def R.legCarry : RegDef :=
  { blk := .leg, base := 0xA0028, n1 := 24, s1 := 0x800,
    flds := [F.legCarry_c] }

/-- LEG_n_FLT [0]. -/
def F.legFlt_scH : Fld := { blk := .leg, base := 0xA002C, s1 := 0x800, lo := 0, len := 1, acc := .ro }
/-- LEG_n_FLT [1]. -/
def F.legFlt_scL : Fld := { blk := .leg, base := 0xA002C, s1 := 0x800, lo := 1, len := 1, acc := .ro }
/-- LEG_n_FLT [2]. -/
def F.legFlt_hard : Fld := { blk := .leg, base := 0xA002C, s1 := 0x800, lo := 2, len := 1, acc := .ro }
/-- LEG_n_FLT [3]. -/
def F.legFlt_hsk : Fld := { blk := .leg, base := 0xA002C, s1 := 0x800, lo := 3, len := 1, acc := .ro }
/-- LEG_n_FLT [4]. -/
def F.legFlt_bstUv : Fld := { blk := .leg, base := 0xA002C, s1 := 0x800, lo := 4, len := 1, acc := .ro }
/-- LEG_n_FLT [12:8]. -/
def F.legFlt_sticky : Fld := { blk := .leg, base := 0xA002C, s1 := 0x800, lo := 8, len := 5, acc := .w1c }
/-- LEG_n_FLT [16]. -/
def F.legFlt_rearm : Fld := { blk := .leg, base := 0xA002C, s1 := 0x800, lo := 16, len := 1, acc := .wo }
/-- LEG_n_FLT [17]. -/
def F.legFlt_refreshActive : Fld := { blk := .leg, base := 0xA002C, s1 := 0x800, lo := 17, len := 1, acc := .ro }
/-- LEG_n_FLT [18]. -/
def F.legFlt_lockout : Fld := { blk := .leg, base := 0xA002C, s1 := 0x800, lo := 18, len := 1, acc := .ro }
/-- The register LEG_n_FLT. -/
def R.legFlt : RegDef :=
  { blk := .leg, base := 0xA002C, n1 := 24, s1 := 0x800, sp := .legFlt,
    flds := [F.legFlt_scH, F.legFlt_scL, F.legFlt_hard, F.legFlt_hsk, F.legFlt_bstUv, F.legFlt_sticky, F.legFlt_rearm, F.legFlt_refreshActive, F.legFlt_lockout] }

/-- LEG_n_STAT [1:0]. -/
def F.legStat_mode : Fld := { blk := .leg, base := 0xA0030, s1 := 0x800, lo := 0, len := 2, acc := .ro }
/-- LEG_n_STAT [15:8]. -/
def F.legStat_suppr : Fld := { blk := .leg, base := 0xA0030, s1 := 0x800, lo := 8, len := 8, acc := .rc }
/-- LEG_n_STAT [31:16]. -/
def F.legStat_refreshes : Fld := { blk := .leg, base := 0xA0030, s1 := 0x800, lo := 16, len := 16, acc := .rc }
/-- The register LEG_n_STAT. -/
def R.legStat : RegDef :=
  { blk := .leg, base := 0xA0030, n1 := 24, s1 := 0x800,
    flds := [F.legStat_mode, F.legStat_suppr, F.legStat_refreshes] }

/-- LEG_n_CHOP [9:0]. -/
def F.legChop_chon : Fld := { blk := .leg, base := 0xA0040, s1 := 0x800, lo := 0, len := 10, acc := .rw, reset := 0x1D0 }
/-- LEG_n_CHOP [25:16]. -/
def F.legChop_choff : Fld := { blk := .leg, base := 0xA0040, s1 := 0x800, lo := 16, len := 10, acc := .rw, reset := 0x1C0 }
/-- LEG_n_CHOP [31]. -/
def F.legChop_en : Fld := { blk := .leg, base := 0xA0040, s1 := 0x800, lo := 31, len := 1, acc := .rw }
/-- The register LEG_n_CHOP. -/
def R.legChop : RegDef :=
  { blk := .leg, base := 0xA0040, n1 := 24, s1 := 0x800, sp := .legChop,
    flds := [F.legChop_chon, F.legChop_choff, F.legChop_en] }

/-- LEG_n_CHOP2 [9:0]. -/
def F.legChop2_chfull : Fld := { blk := .leg, base := 0xA0044, s1 := 0x800, lo := 0, len := 10, acc := .rw, reset := 0x200 }
/-- LEG_n_CHOP2 [31:16]. -/
def F.legChop2_chmax : Fld := { blk := .leg, base := 0xA0044, s1 := 0x800, lo := 16, len := 16, acc := .rw, reset := 0xFFFF }
/-- The register LEG_n_CHOP2. -/
def R.legChop2 : RegDef :=
  { blk := .leg, base := 0xA0044, n1 := 24, s1 := 0x800, sp := .legChop,
    flds := [F.legChop2_chfull, F.legChop2_chmax] }

/-- LEG_n_BRK [9:0]. -/
def F.legBrk_vpull : Fld := { blk := .leg, base := 0xA0048, s1 := 0x800, lo := 0, len := 10, acc := .rw, reset := 0xC0 }
/-- LEG_n_BRK [25:16]. -/
def F.legBrk_vhold : Fld := { blk := .leg, base := 0xA0048, s1 := 0x800, lo := 16, len := 10, acc := .rw, reset := 0x80 }
/-- LEG_n_BRK [27:26]. -/
def F.legBrk_mode : Fld := { blk := .leg, base := 0xA0048, s1 := 0x800, lo := 26, len := 2, acc := .rw, rng := some (0, 2) }
/-- LEG_n_BRK [28]. -/
def F.legBrk_sync : Fld := { blk := .leg, base := 0xA0048, s1 := 0x800, lo := 28, len := 1, acc := .rw }
/-- LEG_n_BRK [29]. -/
def F.legBrk_stillrel : Fld := { blk := .leg, base := 0xA0048, s1 := 0x800, lo := 29, len := 1, acc := .rw }
/-- The register LEG_n_BRK. -/
def R.legBrk : RegDef :=
  { blk := .leg, base := 0xA0048, n1 := 24, s1 := 0x800, sp := .legBrk,
    flds := [F.legBrk_vpull, F.legBrk_vhold, F.legBrk_mode, F.legBrk_sync, F.legBrk_stillrel] }

/-- LEG_n_BRKT [15:0]. -/
def F.legBrkt_tpull : Fld := { blk := .leg, base := 0xA004C, s1 := 0x800, lo := 0, len := 16, acc := .rw, reset := 0x64, rng := some (1, 65535) }
/-- The register LEG_n_BRKT. -/
def R.legBrkt : RegDef :=
  { blk := .leg, base := 0xA004C, n1 := 24, s1 := 0x800,
    flds := [F.legBrkt_tpull] }

/-- LEG_n_BRKST [0]. -/
def F.legBrkst_released : Fld := { blk := .leg, base := 0xA0050, s1 := 0x800, lo := 0, len := 1, acc := .ro }
/-- LEG_n_BRKST [1]. -/
def F.legBrkst_pulling : Fld := { blk := .leg, base := 0xA0050, s1 := 0x800, lo := 1, len := 1, acc := .ro }
/-- The register LEG_n_BRKST. -/
def R.legBrkst : RegDef :=
  { blk := .leg, base := 0xA0050, n1 := 24, s1 := 0x800,
    flds := [F.legBrkst_released, F.legBrkst_pulling] }

/-- LG_g_OT [7:0]. -/
def F.lgOt_thresh : Fld := { blk := .leg, base := 0xA0400, s1 := 0x2000, lo := 0, len := 8, acc := .rw, reset := 0x82, rng := some (80, 150) }
/-- LG_g_OT [15:8]. -/
def F.lgOt_hyst : Fld := { blk := .leg, base := 0xA0400, s1 := 0x2000, lo := 8, len := 8, acc := .rw, reset := 0xA, rng := some (1, 40) }
/-- LG_g_OT [23:16]. -/
def F.lgOt_temp : Fld := { blk := .leg, base := 0xA0400, s1 := 0x2000, lo := 16, len := 8, acc := .ro }
/-- The register LG_g_OT. -/
def R.lgOt : RegDef :=
  { blk := .leg, base := 0xA0400, n1 := 6, s1 := 0x2000,
    flds := [F.lgOt_thresh, F.lgOt_hyst, F.lgOt_temp] }

/-- TRIP_k_CFG [9:0]. -/
def F.tripCfg_filt : Fld := { blk := .leg, base := 0xA0C00, s1 := 4, lo := 0, len := 10, acc := .rw }
/-- TRIP_k_CFG [10]. -/
def F.tripCfg_pol : Fld := { blk := .leg, base := 0xA0C00, s1 := 4, lo := 10, len := 1, acc := .rw }
/-- TRIP_k_CFG [11]. -/
def F.tripCfg_en : Fld := { blk := .leg, base := 0xA0C00, s1 := 4, lo := 11, len := 1, acc := .rw }
/-- TRIP_k_CFG [23:16]. -/
def F.tripCfg_axmask : Fld := { blk := .leg, base := 0xA0C00, s1 := 4, lo := 16, len := 8, acc := .rw }
/-- TRIP_k_CFG [24]. -/
def F.tripCfg_chopbrk : Fld := { blk := .leg, base := 0xA0C00, s1 := 4, lo := 24, len := 1, acc := .rw }
/-- The register TRIP_k_CFG. -/
def R.tripCfg : RegDef :=
  { blk := .leg, base := 0xA0C00, n1 := 4, s1 := 4, sp := .tripCfg,
    flds := [F.tripCfg_filt, F.tripCfg_pol, F.tripCfg_en, F.tripCfg_axmask, F.tripCfg_chopbrk] }

/-- TRIP_STAT [12:0]. -/
def F.tripStat_level : Fld := { blk := .leg, base := 0xA0C10, lo := 0, len := 13, acc := .ro }
/-- TRIP_STAT [28:16]. -/
def F.tripStat_sticky : Fld := { blk := .leg, base := 0xA0C10, lo := 16, len := 13, acc := .w1c }
/-- The register TRIP_STAT. -/
def R.tripStat : RegDef :=
  { blk := .leg, base := 0xA0C10,
    flds := [F.tripStat_level, F.tripStat_sticky] }

/-- LEG_SUP [9:0]. -/
def F.legSup_ov : Fld := { blk := .leg, base := 0xA0C14, lo := 0, len := 10, acc := .rw, reset := 0x2A0, rng := some (0, 800) }
/-- LEG_SUP [25:16]. -/
def F.legSup_uv : Fld := { blk := .leg, base := 0xA0C14, lo := 16, len := 10, acc := .rw, reset := 0xE0 }
/-- The register LEG_SUP. -/
def R.legSup : RegDef :=
  { blk := .leg, base := 0xA0C14, sp := .legSup,
    flds := [F.legSup_ov, F.legSup_uv] }

/-- The registers of LEG. -/
def regsLeg : List RegDef :=
  [R.legCfg, R.legDt, R.legTmin, R.legTblank, R.legIsc, R.legBst, R.legCmpa, R.legCmpb, R.legScmpa, R.legScmpb, R.legCarry, R.legFlt] ++
  [R.legStat, R.legChop, R.legChop2, R.legBrk, R.legBrkt, R.legBrkst, R.lgOt, R.tripCfg, R.tripStat, R.legSup]

/-! Registers of SNS (chapter 07). -/

/-- SNS_LG_g_CFG [15:0]. -/
def F.snsCfg_ratio : Fld := { blk := .sns, base := 0xAC000, s1 := 0x40, lo := 0, len := 16, acc := .rwd, reset := 0x2710, rng := some (2000, 50000) }
/-- SNS_LG_g_CFG [18:16]. -/
def F.snsCfg_irange : Fld := { blk := .sns, base := 0xAC000, s1 := 0x40, lo := 16, len := 3, acc := .rwd, reset := 2, rng := some (0, 5) }
/-- The register SNS_LG_g_CFG. -/
def R.snsCfg : RegDef :=
  { blk := .sns, base := 0xAC000, n1 := 6, s1 := 0x40, sp := .snsCfg,
    flds := [F.snsCfg_ratio, F.snsCfg_irange] }

/-- SNS_LG_g_IFS [31:0]. -/
def F.snsIfs_ifs : Fld := { blk := .sns, base := 0xAC004, s1 := 0x40, lo := 0, len := 32, acc := .ro, reset := 0x280000, live := some .snsIfs_ifs }
/-- The register SNS_LG_g_IFS. -/
def R.snsIfs : RegDef :=
  { blk := .sns, base := 0xAC004, n1 := 6, s1 := 0x40,
    flds := [F.snsIfs_ifs] }

/-- SNS_LG_g_GINJ [31:0]. -/
def F.snsGinj_ginj : Fld := { blk := .sns, base := 0xAC008, s1 := 0x40, lo := 0, len := 32, acc := .ro, reset := 0x40000000 }
/-- The register SNS_LG_g_GINJ. -/
def R.snsGinj : RegDef :=
  { blk := .sns, base := 0xAC008, n1 := 6, s1 := 0x40,
    flds := [F.snsGinj_ginj] }

/-- SNS_LG_g_TC [15:0]. -/
def F.snsTc_tc : Fld := { blk := .sns, base := 0xAC00C, s1 := 0x40, lo := 0, len := 16, acc := .rw }
/-- The register SNS_LG_g_TC. -/
def R.snsTc : RegDef :=
  { blk := .sns, base := 0xAC00C, n1 := 6, s1 := 0x40,
    flds := [F.snsTc_tc] }

/-- SNS_LG_g_GEFF [31:0]. -/
def F.snsGeff_geff : Fld := { blk := .sns, base := 0xAC010, s1 := 0x40, lo := 0, len := 32, acc := .ro, reset := 0x40000000 }
/-- The register SNS_LG_g_GEFF. -/
def R.snsGeff : RegDef :=
  { blk := .sns, base := 0xAC010, n1 := 6, s1 := 0x40,
    flds := [F.snsGeff_geff] }

/-- SNS_LG_g_CAL [0]. -/
def F.snsCal_ofsen : Fld := { blk := .sns, base := 0xAC014, s1 := 0x40, lo := 0, len := 1, acc := .rw, reset := 1 }
/-- SNS_LG_g_CAL [1]. -/
def F.snsCal_injen : Fld := { blk := .sns, base := 0xAC014, s1 := 0x40, lo := 1, len := 1, acc := .rw, reset := 1 }
/-- SNS_LG_g_CAL [2]. -/
def F.snsCal_tcen : Fld := { blk := .sns, base := 0xAC014, s1 := 0x40, lo := 2, len := 1, acc := .rw }
/-- SNS_LG_g_CAL [7:4]. -/
def F.snsCal_ofsk : Fld := { blk := .sns, base := 0xAC014, s1 := 0x40, lo := 4, len := 4, acc := .rw, reset := 4, rng := some (1, 8) }
/-- The register SNS_LG_g_CAL. -/
def R.snsCal : RegDef :=
  { blk := .sns, base := 0xAC014, n1 := 6, s1 := 0x40,
    flds := [F.snsCal_ofsen, F.snsCal_injen, F.snsCal_tcen, F.snsCal_ofsk] }

/-- SNS_LG_g_STAT [0]. -/
def F.snsStat_late : Fld := { blk := .sns, base := 0xAC018, s1 := 0x40, lo := 0, len := 1, acc := .w1c }
/-- SNS_LG_g_STAT [1]. -/
def F.snsStat_calrange : Fld := { blk := .sns, base := 0xAC018, s1 := 0x40, lo := 1, len := 1, acc := .w1c }
/-- SNS_LG_g_STAT [31:16]. -/
def F.snsStat_sets : Fld := { blk := .sns, base := 0xAC018, s1 := 0x40, lo := 16, len := 16, acc := .ro }
/-- The register SNS_LG_g_STAT. -/
def R.snsStat : RegDef :=
  { blk := .sns, base := 0xAC018, n1 := 6, s1 := 0x40,
    flds := [F.snsStat_late, F.snsStat_calrange, F.snsStat_sets] }

/-- SNS_LEG_n_SMP [0]. -/
def F.snsSmp_en : Fld := { blk := .sns, base := 0xAD000, s1 := 0x20, lo := 0, len := 1, acc := .rwd }
/-- SNS_LEG_n_SMP [7:1]. -/
def F.snsSmp_navg : Fld := { blk := .sns, base := 0xAD000, s1 := 0x20, lo := 1, len := 7, acc := .rwd, reset := 4, rng := some (1, 64) }
/-- SNS_LEG_n_SMP [19:8]. -/
def F.snsSmp_space : Fld := { blk := .sns, base := 0xAD000, s1 := 0x20, lo := 8, len := 12, acc := .rwd, reset := 0xC8, rng := some (200, 4000) }
/-- SNS_LEG_n_SMP [27:20]. -/
def F.snsSmp_settle : Fld := { blk := .sns, base := 0xAD000, s1 := 0x20, lo := 20, len := 8, acc := .rwd, reset := 0xD }
/-- The register SNS_LEG_n_SMP. -/
def R.snsSmp : RegDef :=
  { blk := .sns, base := 0xAD000, n1 := 24, s1 := 0x20, own := .leg,
    flds := [F.snsSmp_en, F.snsSmp_navg, F.snsSmp_space, F.snsSmp_settle] }

/-- SNS_LEG_n_SPOS [19:0]. -/
def F.snsSpos_spos : Fld := { blk := .sns, base := 0xAD004, s1 := 0x20, lo := 0, len := 20, acc := .rwd }
/-- The register SNS_LEG_n_SPOS. -/
def R.snsSpos : RegDef :=
  { blk := .sns, base := 0xAD004, n1 := 24, s1 := 0x20, own := .leg,
    flds := [F.snsSpos_spos] }

/-- SNS_LEG_n_OFS [31:0]. -/
def F.snsOfs_ofs : Fld := { blk := .sns, base := 0xAD008, s1 := 0x20, lo := 0, len := 32, acc := .ro }
/-- The register SNS_LEG_n_OFS. -/
def R.snsOfs : RegDef :=
  { blk := .sns, base := 0xAD008, n1 := 24, s1 := 0x20,
    flds := [F.snsOfs_ofs] }

/-- SNS_LEG_n_I [31:0]. -/
def F.snsI_i : Fld := { blk := .sns, base := 0xAD00C, s1 := 0x20, lo := 0, len := 32, acc := .ro }
/-- The register SNS_LEG_n_I. -/
def R.snsI : RegDef :=
  { blk := .sns, base := 0xAD00C, n1 := 24, s1 := 0x20,
    flds := [F.snsI_i] }

/-- SNS_LEG_n_ST [6:0]. -/
def F.snsSt_nv : Fld := { blk := .sns, base := 0xAD010, s1 := 0x20, lo := 0, len := 7, acc := .ro }
/-- SNS_LEG_n_ST [7]. -/
def F.snsSt_clip : Fld := { blk := .sns, base := 0xAD010, s1 := 0x20, lo := 7, len := 1, acc := .w1c }
/-- SNS_LEG_n_ST [15:8]. -/
def F.snsSt_skip : Fld := { blk := .sns, base := 0xAD010, s1 := 0x20, lo := 8, len := 8, acc := .rc }
/-- SNS_LEG_n_ST [16]. -/
def F.snsSt_recon : Fld := { blk := .sns, base := 0xAD010, s1 := 0x20, lo := 16, len := 1, acc := .w1c }
/-- SNS_LEG_n_ST [17]. -/
def F.snsSt_inv : Fld := { blk := .sns, base := 0xAD010, s1 := 0x20, lo := 17, len := 1, acc := .w1c }
/-- SNS_LEG_n_ST [18]. -/
def F.snsSt_ofsstale : Fld := { blk := .sns, base := 0xAD010, s1 := 0x20, lo := 18, len := 1, acc := .ro }
/-- The register SNS_LEG_n_ST. -/
def R.snsSt : RegDef :=
  { blk := .sns, base := 0xAD010, n1 := 24, s1 := 0x20,
    flds := [F.snsSt_nv, F.snsSt_clip, F.snsSt_skip, F.snsSt_recon, F.snsSt_inv, F.snsSt_ofsstale] }

/-- SNS_VBUS [31:0]. -/
def F.snsVbus_v : Fld := { blk := .sns, base := 0xAE000, lo := 0, len := 32, acc := .ro }
/-- The register SNS_VBUS. -/
def R.snsVbus : RegDef :=
  { blk := .sns, base := 0xAE000,
    flds := [F.snsVbus_v] }

/-- SNS_VDRV [31:0]. -/
def F.snsVdrv_v : Fld := { blk := .sns, base := 0xAE004, lo := 0, len := 32, acc := .ro }
/-- The register SNS_VDRV. -/
def R.snsVdrv : RegDef :=
  { blk := .sns, base := 0xAE004,
    flds := [F.snsVdrv_v] }

/-- SNS_VFIELD [31:0]. -/
def F.snsVfield_v : Fld := { blk := .sns, base := 0xAE008, lo := 0, len := 32, acc := .ro }
/-- The register SNS_VFIELD. -/
def R.snsVfield : RegDef :=
  { blk := .sns, base := 0xAE008,
    flds := [F.snsVfield_v] }

/-- SNS_AIN_k [31:0]. -/
def F.snsAin_ain : Fld := { blk := .sns, base := 0xAE010, s1 := 4, lo := 0, len := 32, acc := .ro }
/-- The register SNS_AIN_k. -/
def R.snsAin : RegDef :=
  { blk := .sns, base := 0xAE010, n1 := 4, s1 := 4,
    flds := [F.snsAin_ain] }

/-- SNS_TLG_g [15:0]. -/
def F.snsTlg_t : Fld := { blk := .sns, base := 0xAE020, s1 := 4, lo := 0, len := 16, acc := .ro }
/-- The register SNS_TLG_g. -/
def R.snsTlg : RegDef :=
  { blk := .sns, base := 0xAE020, n1 := 6, s1 := 4,
    flds := [F.snsTlg_t] }

/-- SNS_TCORE [15:0]. -/
def F.snsTcore_t : Fld := { blk := .sns, base := 0xAE038, lo := 0, len := 16, acc := .ro }
/-- The register SNS_TCORE. -/
def R.snsTcore : RegDef :=
  { blk := .sns, base := 0xAE038,
    flds := [F.snsTcore_t] }

/-- SNS_BST_n [15:0]. -/
def F.snsBst_v : Fld := { blk := .sns, base := 0xAE100, s1 := 4, lo := 0, len := 16, acc := .ro }
/-- SNS_BST_n [31:16]. -/
def F.snsBst_age : Fld := { blk := .sns, base := 0xAE100, s1 := 4, lo := 16, len := 16, acc := .ro, reset := 0xFFFF, live := some .snsBst_age }
/-- The register SNS_BST_n. -/
def R.snsBst : RegDef :=
  { blk := .sns, base := 0xAE100, n1 := 24, s1 := 4,
    flds := [F.snsBst_v, F.snsBst_age] }

/-- SNS_AX_n_LAT [15:0]. -/
def F.snsLat_l : Fld := { blk := .sns, base := 0xAE800, s1 := 4, lo := 0, len := 16, acc := .ro, reset := 0x4D, live := some .snsLat_l }
/-- The register SNS_AX_n_LAT. -/
def R.snsLat : RegDef :=
  { blk := .sns, base := 0xAE800, n1 := 8, s1 := 4,
    flds := [F.snsLat_l] }

/-- The registers of SNS. -/
def regsSns : List RegDef :=
  [R.snsCfg, R.snsIfs, R.snsGinj, R.snsTc, R.snsGeff, R.snsCal, R.snsStat, R.snsSmp, R.snsSpos, R.snsOfs, R.snsI, R.snsSt] ++
  [R.snsVbus, R.snsVdrv, R.snsVfield, R.snsAin, R.snsTlg, R.snsTcore, R.snsBst, R.snsLat]

/-! Registers of AXS (chapter 01, 04 and 05). -/

/-- AX_n_STATE [2:0]. -/
def F.axState_state : Fld := { blk := .axs, base := 0xB0000, s1 := 0x2000, lo := 0, len := 3, acc := .ro }
/-- AX_n_STATE [15:8]. -/
def F.axState_cause : Fld := { blk := .axs, base := 0xB0000, s1 := 0x2000, lo := 8, len := 8, acc := .ro }
/-- AX_n_STATE [16]. -/
def F.axState_indexLost : Fld := { blk := .axs, base := 0xB0000, s1 := 0x2000, lo := 16, len := 1, acc := .w1c }
/-- AX_n_STATE [17]. -/
def F.axState_stalled : Fld := { blk := .axs, base := 0xB0000, s1 := 0x2000, lo := 17, len := 1, acc := .w1c }
/-- The register AX_n_STATE. -/
def R.axState : RegDef :=
  { blk := .axs, base := 0xB0000, n1 := 8, s1 := 0x2000,
    flds := [F.axState_state, F.axState_cause, F.axState_indexLost, F.axState_stalled] }

/-- AX_n_CMD [2:0]. -/
def F.axCmd_cmd : Fld := { blk := .axs, base := 0xB0004, s1 := 0x2000, lo := 0, len := 3, acc := .wo, rng := some (1, 6) }
/-- The register AX_n_CMD. -/
def R.axCmd : RegDef :=
  { blk := .axs, base := 0xB0004, n1 := 8, s1 := 0x2000, sp := .axCmd,
    flds := [F.axCmd_cmd] }

/-- AX_n_CFG [2:0]. -/
def F.axCfg_kind : Fld := { blk := .axs, base := 0xB0008, s1 := 0x2000, lo := 0, len := 3, acc := .rwd, rng := some (0, 5) }
/-- AX_n_CFG [4:3]. -/
def F.axCfg_still : Fld := { blk := .axs, base := 0xB0008, s1 := 0x2000, lo := 3, len := 2, acc := .rw, rng := some (0, 2) }
/-- AX_n_CFG [5]. -/
def F.axCfg_index : Fld := { blk := .axs, base := 0xB0008, s1 := 0x2000, lo := 5, len := 1, acc := .rw }
/-- AX_n_CFG [6]. -/
def F.axCfg_stopend : Fld := { blk := .axs, base := 0xB0008, s1 := 0x2000, lo := 6, len := 1, acc := .rw }
/-- AX_n_CFG [7]. -/
def F.axCfg_autostill : Fld := { blk := .axs, base := 0xB0008, s1 := 0x2000, lo := 7, len := 1, acc := .rw }
/-- AX_n_CFG [15:8]. -/
def F.axCfg_stilldly : Fld := { blk := .axs, base := 0xB0008, s1 := 0x2000, lo := 8, len := 8, acc := .rw, reset := 0x10, rng := some (1, 255) }
/-- The register AX_n_CFG. -/
def R.axCfg : RegDef :=
  { blk := .axs, base := 0xB0008, n1 := 8, s1 := 0x2000, sp := .axCfg, own := .ax,
    flds := [F.axCfg_kind, F.axCfg_still, F.axCfg_index, F.axCfg_stopend, F.axCfg_autostill, F.axCfg_stilldly] }

/-- AX_n_STOPTO [31:0]. -/
def F.axStopto_stopto : Fld := { blk := .axs, base := 0xB000C, s1 := 0x2000, lo := 0, len := 32, acc := .rw, reset := 0x77359400, rng := some (1000000, 4294967295) }
/-- The register AX_n_STOPTO. -/
def R.axStopto : RegDef :=
  { blk := .axs, base := 0xB000C, n1 := 8, s1 := 0x2000,
    flds := [F.axStopto_stopto] }

/-- AX_n_TICK [0]. -/
def F.axTick_dbl : Fld := { blk := .axs, base := 0xB0010, s1 := 0x2000, lo := 0, len := 1, acc := .rwd }
/-- AX_n_TICK [3:1]. -/
def F.axTick_cdiv : Fld := { blk := .axs, base := 0xB0010, s1 := 0x2000, lo := 1, len := 3, acc := .rwd, reset := 1, rng := some (1, 4) }
/-- AX_n_TICK [7:4]. -/
def F.axTick_vdiv : Fld := { blk := .axs, base := 0xB0010, s1 := 0x2000, lo := 4, len := 4, acc := .rwd, reset := 1, rng := some (1, 15) }
/-- AX_n_TICK [11:8]. -/
def F.axTick_pdiv : Fld := { blk := .axs, base := 0xB0010, s1 := 0x2000, lo := 8, len := 4, acc := .rwd, reset := 1, rng := some (1, 15) }
/-- AX_n_TICK [13:12]. -/
def F.axTick_tb : Fld := { blk := .axs, base := 0xB0010, s1 := 0x2000, lo := 12, len := 2, acc := .rwd }
/-- AX_n_TICK [31:16]. -/
def F.axTick_outer : Fld := { blk := .axs, base := 0xB0010, s1 := 0x2000, lo := 16, len := 16, acc := .rwd, reset := 0x1F4, rng := some (100, 65535) }
/-- The register AX_n_TICK. -/
def R.axTick : RegDef :=
  { blk := .axs, base := 0xB0010, n1 := 8, s1 := 0x2000, own := .ax,
    flds := [F.axTick_dbl, F.axTick_cdiv, F.axTick_vdiv, F.axTick_pdiv, F.axTick_tb, F.axTick_outer] }

/-- AX_n_CPER [18:0]. -/
def F.axCper_per : Fld := { blk := .axs, base := 0xB0014, s1 := 0x2000, lo := 0, len := 19, acc := .rwd, reset := 0x186A0, rng := some (20000, 500000) }
/-- The register AX_n_CPER. -/
def R.axCper : RegDef :=
  { blk := .axs, base := 0xB0014, n1 := 8, s1 := 0x2000, sp := .axCper, own := .ax,
    flds := [F.axCper_per] }

/-- AX_n_CPHASE [18:0]. -/
def F.axCphase_phase : Fld := { blk := .axs, base := 0xB0018, s1 := 0x2000, lo := 0, len := 19, acc := .rwd }
/-- The register AX_n_CPHASE. -/
def R.axCphase : RegDef :=
  { blk := .axs, base := 0xB0018, n1 := 8, s1 := 0x2000, own := .ax,
    flds := [F.axCphase_phase] }

/-- AX_n_PSTAT [1:0]. -/
def F.axPstat_mode : Fld := { blk := .axs, base := 0xB0100, s1 := 0x2000, lo := 0, len := 2, acc := .ro }
/-- AX_n_PSTAT [2]. -/
def F.axPstat_inpos : Fld := { blk := .axs, base := 0xB0100, s1 := 0x2000, lo := 2, len := 1, acc := .ro, reset := 1 }
/-- AX_n_PSTAT [3]. -/
def F.axPstat_vclamp : Fld := { blk := .axs, base := 0xB0100, s1 := 0x2000, lo := 3, len := 1, acc := .w1c }
/-- AX_n_PSTAT [4]. -/
def F.axPstat_vmaxAbove : Fld := { blk := .axs, base := 0xB0100, s1 := 0x2000, lo := 4, len := 1, acc := .ro }
/-- AX_n_PSTAT [5]. -/
def F.axPstat_reversal : Fld := { blk := .axs, base := 0xB0100, s1 := 0x2000, lo := 5, len := 1, acc := .w1c }
/-- AX_n_PSTAT [6]. -/
def F.axPstat_overshoot : Fld := { blk := .axs, base := 0xB0100, s1 := 0x2000, lo := 6, len := 1, acc := .w1c }
/-- AX_n_PSTAT [7]. -/
def F.axPstat_jerkStep : Fld := { blk := .axs, base := 0xB0100, s1 := 0x2000, lo := 7, len := 1, acc := .w1c }
/-- AX_n_PSTAT [31:16]. -/
def F.axPstat_lastid : Fld := { blk := .axs, base := 0xB0100, s1 := 0x2000, lo := 16, len := 16, acc := .ro }
/-- The register AX_n_PSTAT. -/
def R.axPstat : RegDef :=
  { blk := .axs, base := 0xB0100, n1 := 8, s1 := 0x2000,
    flds := [F.axPstat_mode, F.axPstat_inpos, F.axPstat_vclamp, F.axPstat_vmaxAbove, F.axPstat_reversal, F.axPstat_overshoot, F.axPstat_jerkStep, F.axPstat_lastid] }

/-- AX_n_VMAXLO [31:0]. -/
def F.axVmaxlo_v : Fld := { blk := .axs, base := 0xB0104, s1 := 0x2000, lo := 0, len := 32, acc := .rw, reset := 0x42400000 }
/-- The register AX_n_VMAXLO. -/
def R.axVmaxlo : RegDef :=
  { blk := .axs, base := 0xB0104, n1 := 8, s1 := 0x2000, sp := .limLo,
    flds := [F.axVmaxlo_v] }

/-- AX_n_VMAXHI [31:0]. -/
def F.axVmaxhi_v : Fld := { blk := .axs, base := 0xB0108, s1 := 0x2000, lo := 0, len := 32, acc := .rw, reset := 0xF }
/-- The register AX_n_VMAXHI. -/
def R.axVmaxhi : RegDef :=
  { blk := .axs, base := 0xB0108, n1 := 8, s1 := 0x2000, sp := .limHi,
    flds := [F.axVmaxhi_v] }

/-- AX_n_AMAXLO [31:0]. -/
def F.axAmaxlo_v : Fld := { blk := .axs, base := 0xB010C, s1 := 0x2000, lo := 0, len := 32, acc := .rw, reset := 0x96800000 }
/-- The register AX_n_AMAXLO. -/
def R.axAmaxlo : RegDef :=
  { blk := .axs, base := 0xB010C, n1 := 8, s1 := 0x2000, sp := .limLo,
    flds := [F.axAmaxlo_v] }

/-- AX_n_AMAXHI [31:0]. -/
def F.axAmaxhi_v : Fld := { blk := .axs, base := 0xB0110, s1 := 0x2000, lo := 0, len := 32, acc := .rw, reset := 0x98 }
/-- The register AX_n_AMAXHI. -/
def R.axAmaxhi : RegDef :=
  { blk := .axs, base := 0xB0110, n1 := 8, s1 := 0x2000, sp := .limHi,
    flds := [F.axAmaxhi_v] }

/-- AX_n_DMAXLO [31:0]. -/
def F.axDmaxlo_v : Fld := { blk := .axs, base := 0xB0114, s1 := 0x2000, lo := 0, len := 32, acc := .rw, reset := 0x96800000 }
/-- The register AX_n_DMAXLO. -/
def R.axDmaxlo : RegDef :=
  { blk := .axs, base := 0xB0114, n1 := 8, s1 := 0x2000, sp := .limLo,
    flds := [F.axDmaxlo_v] }

/-- AX_n_DMAXHI [31:0]. -/
def F.axDmaxhi_v : Fld := { blk := .axs, base := 0xB0118, s1 := 0x2000, lo := 0, len := 32, acc := .rw, reset := 0x98 }
/-- The register AX_n_DMAXHI. -/
def R.axDmaxhi : RegDef :=
  { blk := .axs, base := 0xB0118, n1 := 8, s1 := 0x2000, sp := .limHi,
    flds := [F.axDmaxhi_v] }

/-- AX_n_JMAXLO [31:0]. -/
def F.axJmaxlo_v : Fld := { blk := .axs, base := 0xB011C, s1 := 0x2000, lo := 0, len := 32, acc := .rw, reset := 0xCA000000 }
/-- The register AX_n_JMAXLO. -/
def R.axJmaxlo : RegDef :=
  { blk := .axs, base := 0xB011C, n1 := 8, s1 := 0x2000, sp := .limLo,
    flds := [F.axJmaxlo_v] }

/-- AX_n_JMAXHI [31:0]. -/
def F.axJmaxhi_v : Fld := { blk := .axs, base := 0xB0120, s1 := 0x2000, lo := 0, len := 32, acc := .rw, reset := 0x3B9A }
/-- The register AX_n_JMAXHI. -/
def R.axJmaxhi : RegDef :=
  { blk := .axs, base := 0xB0120, n1 := 8, s1 := 0x2000, sp := .limHi,
    flds := [F.axJmaxhi_v] }

/-- AX_n_DSTOPLO [31:0]. -/
def F.axDstoplo_v : Fld := { blk := .axs, base := 0xB0124, s1 := 0x2000, lo := 0, len := 32, acc := .rw, reset := 0x96800000 }
/-- The register AX_n_DSTOPLO. -/
def R.axDstoplo : RegDef :=
  { blk := .axs, base := 0xB0124, n1 := 8, s1 := 0x2000, sp := .limLo,
    flds := [F.axDstoplo_v] }

/-- AX_n_DSTOPHI [31:0]. -/
def F.axDstophi_v : Fld := { blk := .axs, base := 0xB0128, s1 := 0x2000, lo := 0, len := 32, acc := .rw, reset := 0x98 }
/-- The register AX_n_DSTOPHI. -/
def R.axDstophi : RegDef :=
  { blk := .axs, base := 0xB0128, n1 := 8, s1 := 0x2000, sp := .limHi,
    flds := [F.axDstophi_v] }

/-- AX_n_JSTOPLO [31:0]. -/
def F.axJstoplo_v : Fld := { blk := .axs, base := 0xB012C, s1 := 0x2000, lo := 0, len := 32, acc := .rw, reset := 0xCA000000 }
/-- The register AX_n_JSTOPLO. -/
def R.axJstoplo : RegDef :=
  { blk := .axs, base := 0xB012C, n1 := 8, s1 := 0x2000, sp := .limLo,
    flds := [F.axJstoplo_v] }

/-- AX_n_JSTOPHI [31:0]. -/
def F.axJstophi_v : Fld := { blk := .axs, base := 0xB0130, s1 := 0x2000, lo := 0, len := 32, acc := .rw, reset := 0x3B9A }
/-- The register AX_n_JSTOPHI. -/
def R.axJstophi : RegDef :=
  { blk := .axs, base := 0xB0130, n1 := 8, s1 := 0x2000, sp := .limHi,
    flds := [F.axJstophi_v] }

/-- AX_n_PTGTLO [31:0]. -/
def F.axPtgtlo_v : Fld := { blk := .axs, base := 0xB0134, s1 := 0x2000, lo := 0, len := 32, acc := .ro, live := some .axPtgtlo_v }
/-- The register AX_n_PTGTLO. -/
def R.axPtgtlo : RegDef :=
  { blk := .axs, base := 0xB0134, n1 := 8, s1 := 0x2000,
    flds := [F.axPtgtlo_v] }

/-- AX_n_PTGTHI [31:0]. -/
def F.axPtgthi_v : Fld := { blk := .axs, base := 0xB0138, s1 := 0x2000, lo := 0, len := 32, acc := .ro, live := some .axPtgthi_v }
/-- The register AX_n_PTGTHI. -/
def R.axPtgthi : RegDef :=
  { blk := .axs, base := 0xB0138, n1 := 8, s1 := 0x2000,
    flds := [F.axPtgthi_v] }

/-- AX_n_PPOSLO [31:0]. -/
def F.axPposlo_v : Fld := { blk := .axs, base := 0xB013C, s1 := 0x2000, lo := 0, len := 32, acc := .ro, live := some .axPposlo_v }
/-- The register AX_n_PPOSLO. -/
def R.axPposlo : RegDef :=
  { blk := .axs, base := 0xB013C, n1 := 8, s1 := 0x2000,
    flds := [F.axPposlo_v] }

/-- AX_n_PPOSHI [31:0]. -/
def F.axPposhi_v : Fld := { blk := .axs, base := 0xB0140, s1 := 0x2000, lo := 0, len := 32, acc := .ro, live := some .axPposhi_v }
/-- The register AX_n_PPOSHI. -/
def R.axPposhi : RegDef :=
  { blk := .axs, base := 0xB0140, n1 := 8, s1 := 0x2000,
    flds := [F.axPposhi_v] }

/-- AX_n_PVELLO [31:0]. -/
def F.axPvello_v : Fld := { blk := .axs, base := 0xB0144, s1 := 0x2000, lo := 0, len := 32, acc := .ro, live := some .axPvello_v }
/-- The register AX_n_PVELLO. -/
def R.axPvello : RegDef :=
  { blk := .axs, base := 0xB0144, n1 := 8, s1 := 0x2000,
    flds := [F.axPvello_v] }

/-- AX_n_PVELHI [31:0]. -/
def F.axPvelhi_v : Fld := { blk := .axs, base := 0xB0148, s1 := 0x2000, lo := 0, len := 32, acc := .ro, live := some .axPvelhi_v }
/-- The register AX_n_PVELHI. -/
def R.axPvelhi : RegDef :=
  { blk := .axs, base := 0xB0148, n1 := 8, s1 := 0x2000,
    flds := [F.axPvelhi_v] }

/-- AX_n_PACCLO [31:0]. -/
def F.axPacclo_v : Fld := { blk := .axs, base := 0xB014C, s1 := 0x2000, lo := 0, len := 32, acc := .ro, live := some .axPacclo_v }
/-- The register AX_n_PACCLO. -/
def R.axPacclo : RegDef :=
  { blk := .axs, base := 0xB014C, n1 := 8, s1 := 0x2000,
    flds := [F.axPacclo_v] }

/-- AX_n_PACCHI [31:0]. -/
def F.axPacchi_v : Fld := { blk := .axs, base := 0xB0150, s1 := 0x2000, lo := 0, len := 32, acc := .ro, live := some .axPacchi_v }
/-- The register AX_n_PACCHI. -/
def R.axPacchi : RegDef :=
  { blk := .axs, base := 0xB0150, n1 := 8, s1 := 0x2000,
    flds := [F.axPacchi_v] }

/-- AX_n_CMPc_CTRL [0]. -/
def F.cmpCtrl_armed : Fld := { blk := .axs, base := 0xB0180, s1 := 0x2000, s2 := 0x10, lo := 0, len := 1, acc := .ro }
/-- AX_n_CMPc_CTRL [1]. -/
def F.cmpCtrl_src : Fld := { blk := .axs, base := 0xB0180, s1 := 0x2000, s2 := 0x10, lo := 1, len := 1, acc := .rw }
/-- AX_n_CMPc_CTRL [3:2]. -/
def F.cmpCtrl_dir : Fld := { blk := .axs, base := 0xB0180, s1 := 0x2000, s2 := 0x10, lo := 2, len := 2, acc := .rw, rng := some (0, 2) }
/-- AX_n_CMPc_CTRL [7:4]. -/
def F.cmpCtrl_action : Fld := { blk := .axs, base := 0xB0180, s1 := 0x2000, s2 := 0x10, lo := 4, len := 4, acc := .rw, rng := some (0, 6) }
/-- AX_n_CMPc_CTRL [11:8]. -/
def F.cmpCtrl_arg : Fld := { blk := .axs, base := 0xB0180, s1 := 0x2000, s2 := 0x10, lo := 8, len := 4, acc := .rw }
/-- AX_n_CMPc_CTRL [19:12]. -/
def F.cmpCtrl_width : Fld := { blk := .axs, base := 0xB0180, s1 := 0x2000, s2 := 0x10, lo := 12, len := 8, acc := .rw }
/-- AX_n_CMPc_CTRL [20]. -/
def F.cmpCtrl_behind : Fld := { blk := .axs, base := 0xB0180, s1 := 0x2000, s2 := 0x10, lo := 20, len := 1, acc := .w1c }
/-- AX_n_CMPc_CTRL [21]. -/
def F.cmpCtrl_fired : Fld := { blk := .axs, base := 0xB0180, s1 := 0x2000, s2 := 0x10, lo := 21, len := 1, acc := .w1c }
/-- AX_n_CMPc_CTRL [22]. -/
def F.cmpCtrl_disarm : Fld := { blk := .axs, base := 0xB0180, s1 := 0x2000, s2 := 0x10, lo := 22, len := 1, acc := .wo }
/-- The register AX_n_CMPc_CTRL. -/
def R.cmpCtrl : RegDef :=
  { blk := .axs, base := 0xB0180, n1 := 8, s1 := 0x2000, n2 := 4, s2 := 0x10, sp := .cmpCtrl,
    flds := [F.cmpCtrl_armed, F.cmpCtrl_src, F.cmpCtrl_dir, F.cmpCtrl_action, F.cmpCtrl_arg, F.cmpCtrl_width, F.cmpCtrl_behind, F.cmpCtrl_fired, F.cmpCtrl_disarm] }

/-- AX_n_CMPc_POSLO [31:0]. -/
def F.cmpPoslo_pos : Fld := { blk := .axs, base := 0xB0184, s1 := 0x2000, s2 := 0x10, lo := 0, len := 32, acc := .rw }
/-- The register AX_n_CMPc_POSLO. -/
def R.cmpPoslo : RegDef :=
  { blk := .axs, base := 0xB0184, n1 := 8, s1 := 0x2000, n2 := 4, s2 := 0x10,
    flds := [F.cmpPoslo_pos] }

/-- AX_n_CMPc_POSHI [31:0]. -/
def F.cmpPoshi_pos : Fld := { blk := .axs, base := 0xB0188, s1 := 0x2000, s2 := 0x10, lo := 0, len := 32, acc := .rw }
/-- The register AX_n_CMPc_POSHI. -/
def R.cmpPoshi : RegDef :=
  { blk := .axs, base := 0xB0188, n1 := 8, s1 := 0x2000, n2 := 4, s2 := 0x10, sp := .cmpPoshi,
    flds := [F.cmpPoshi_pos] }

/-- AX_n_CMPc_PER [31:0]. -/
def F.cmpPer_per : Fld := { blk := .axs, base := 0xB018C, s1 := 0x2000, s2 := 0x10, lo := 0, len := 32, acc := .rw }
/-- The register AX_n_CMPc_PER. -/
def R.cmpPer : RegDef :=
  { blk := .axs, base := 0xB018C, n1 := 8, s1 := 0x2000, n2 := 4, s2 := 0x10,
    flds := [F.cmpPer_per] }

/-- AX_n_CPL [4:0]. -/
def F.axCpl_msrc : Fld := { blk := .axs, base := 0xB0200, s1 := 0x2000, lo := 0, len := 5, acc := .rw, rng := some (0, 19) }
/-- AX_n_CPL [6:5]. -/
def F.axCpl_mode : Fld := { blk := .axs, base := 0xB0200, s1 := 0x2000, lo := 5, len := 2, acc := .rw, rng := some (0, 2) }
/-- The register AX_n_CPL. -/
def R.axCpl : RegDef :=
  { blk := .axs, base := 0xB0200, n1 := 8, s1 := 0x2000, sp := .axCpl,
    flds := [F.axCpl_msrc, F.axCpl_mode] }

/-- AX_n_GNUM [31:0]. -/
def F.axGnum_num : Fld := { blk := .axs, base := 0xB0204, s1 := 0x2000, lo := 0, len := 32, acc := .rw, reset := 1 }
/-- The register AX_n_GNUM. -/
def R.axGnum : RegDef :=
  { blk := .axs, base := 0xB0204, n1 := 8, s1 := 0x2000, sp := .axCplCfg,
    flds := [F.axGnum_num] }

/-- AX_n_GDEN [31:0]. -/
def F.axGden_den : Fld := { blk := .axs, base := 0xB0208, s1 := 0x2000, lo := 0, len := 32, acc := .rw, reset := 1, rng := some (1, 4294967295) }
/-- The register AX_n_GDEN. -/
def R.axGden : RegDef :=
  { blk := .axs, base := 0xB0208, n1 := 8, s1 := 0x2000, sp := .axCplCfg,
    flds := [F.axGden_den] }

/-- AX_n_GREMLO [31:0]. -/
def F.axGremlo_remlo : Fld := { blk := .axs, base := 0xB020C, s1 := 0x2000, lo := 0, len := 32, acc := .ro, live := some .axGremlo_remlo }
/-- The register AX_n_GREMLO. -/
def R.axGremlo : RegDef :=
  { blk := .axs, base := 0xB020C, n1 := 8, s1 := 0x2000,
    flds := [F.axGremlo_remlo] }

/-- AX_n_GREMHI [15:0]. -/
def F.axGremhi_remhi : Fld := { blk := .axs, base := 0xB0210, s1 := 0x2000, lo := 0, len := 16, acc := .ro, live := some .axGremhi_remhi }
/-- The register AX_n_GREMHI. -/
def R.axGremhi : RegDef :=
  { blk := .axs, base := 0xB0210, n1 := 8, s1 := 0x2000,
    flds := [F.axGremhi_remhi] }

/-- AX_n_CAMSEL [3:0]. -/
def F.axCamsel_cur : Fld := { blk := .axs, base := 0xB0214, s1 := 0x2000, lo := 0, len := 4, acc := .rw }
/-- AX_n_CAMSEL [7:4]. -/
def F.axCamsel_next : Fld := { blk := .axs, base := 0xB0214, s1 := 0x2000, lo := 4, len := 4, acc := .rw }
/-- AX_n_CAMSEL [8]. -/
def F.axCamsel_nxv : Fld := { blk := .axs, base := 0xB0214, s1 := 0x2000, lo := 8, len := 1, acc := .rw }
/-- The register AX_n_CAMSEL. -/
def R.axCamsel : RegDef :=
  { blk := .axs, base := 0xB0214, n1 := 8, s1 := 0x2000, sp := .axCamsel,
    flds := [F.axCamsel_cur, F.axCamsel_next, F.axCamsel_nxv] }

/-- AX_n_CORIG [31:0]. -/
def F.axCorig_origin : Fld := { blk := .axs, base := 0xB0218, s1 := 0x2000, lo := 0, len := 32, acc := .rw }
/-- The register AX_n_CORIG. -/
def R.axCorig : RegDef :=
  { blk := .axs, base := 0xB0218, n1 := 8, s1 := 0x2000, sp := .axCplCfg,
    flds := [F.axCorig_origin] }

/-- AX_n_EPOSLO [31:0]. -/
def F.axEposlo_epos : Fld := { blk := .axs, base := 0xB021C, s1 := 0x2000, lo := 0, len := 32, acc := .rw }
/-- The register AX_n_EPOSLO. -/
def R.axEposlo : RegDef :=
  { blk := .axs, base := 0xB021C, n1 := 8, s1 := 0x2000, sp := .axCplImm,
    flds := [F.axEposlo_epos] }

/-- AX_n_EPOSHI [31:0]. -/
def F.axEposhi_epos : Fld := { blk := .axs, base := 0xB0220, s1 := 0x2000, lo := 0, len := 32, acc := .rw }
/-- The register AX_n_EPOSHI. -/
def R.axEposhi : RegDef :=
  { blk := .axs, base := 0xB0220, n1 := 8, s1 := 0x2000, sp := .axCplImm,
    flds := [F.axEposhi_epos] }

/-- AX_n_BLENDLO [31:0]. -/
def F.axBlendlo_blend : Fld := { blk := .axs, base := 0xB0224, s1 := 0x2000, lo := 0, len := 32, acc := .rw }
/-- The register AX_n_BLENDLO. -/
def R.axBlendlo : RegDef :=
  { blk := .axs, base := 0xB0224, n1 := 8, s1 := 0x2000, sp := .axBlend,
    flds := [F.axBlendlo_blend] }

/-- AX_n_BLENDHI [31:0]. -/
def F.axBlendhi_blend : Fld := { blk := .axs, base := 0xB0228, s1 := 0x2000, lo := 0, len := 32, acc := .rw }
/-- The register AX_n_BLENDHI. -/
def R.axBlendhi : RegDef :=
  { blk := .axs, base := 0xB0228, n1 := 8, s1 := 0x2000, sp := .axBlend,
    flds := [F.axBlendhi_blend] }

/-- AX_n_ECMD [0]. -/
def F.axEcmd_engage : Fld := { blk := .axs, base := 0xB022C, s1 := 0x2000, lo := 0, len := 1, acc := .wo }
/-- AX_n_ECMD [1]. -/
def F.axEcmd_disengage : Fld := { blk := .axs, base := 0xB022C, s1 := 0x2000, lo := 1, len := 1, acc := .wo }
/-- AX_n_ECMD [2]. -/
def F.axEcmd_abort : Fld := { blk := .axs, base := 0xB022C, s1 := 0x2000, lo := 2, len := 1, acc := .wo }
/-- AX_n_ECMD [3]. -/
def F.axEcmd_phase : Fld := { blk := .axs, base := 0xB022C, s1 := 0x2000, lo := 3, len := 1, acc := .wo }
/-- The register AX_n_ECMD. -/
def R.axEcmd : RegDef :=
  { blk := .axs, base := 0xB022C, n1 := 8, s1 := 0x2000, sp := .axEcmd,
    flds := [F.axEcmd_engage, F.axEcmd_disengage, F.axEcmd_abort, F.axEcmd_phase] }

/-- AX_n_CSTAT [2:0]. -/
def F.axCstat_cstate : Fld := { blk := .axs, base := 0xB0230, s1 := 0x2000, lo := 0, len := 3, acc := .ro }
/-- AX_n_CSTAT [8]. -/
def F.axCstat_camSwitched : Fld := { blk := .axs, base := 0xB0230, s1 := 0x2000, lo := 8, len := 1, acc := .w1c }
/-- AX_n_CSTAT [9]. -/
def F.axCstat_aborted : Fld := { blk := .axs, base := 0xB0230, s1 := 0x2000, lo := 9, len := 1, acc := .w1c }
/-- The register AX_n_CSTAT. -/
def R.axCstat : RegDef :=
  { blk := .axs, base := 0xB0230, n1 := 8, s1 := 0x2000,
    flds := [F.axCstat_cstate, F.axCstat_camSwitched, F.axCstat_aborted] }

/-- AX_n_ENGLAGLO [31:0]. -/
def F.axEnglaglo_v : Fld := { blk := .axs, base := 0xB0234, s1 := 0x2000, lo := 0, len := 32, acc := .ro, live := some .axEnglaglo_v }
/-- The register AX_n_ENGLAGLO. -/
def R.axEnglaglo : RegDef :=
  { blk := .axs, base := 0xB0234, n1 := 8, s1 := 0x2000,
    flds := [F.axEnglaglo_v] }

/-- AX_n_ENGLAGHI [31:0]. -/
def F.axEnglaghi_v : Fld := { blk := .axs, base := 0xB0238, s1 := 0x2000, lo := 0, len := 32, acc := .ro, live := some .axEnglaghi_v }
/-- The register AX_n_ENGLAGHI. -/
def R.axEnglaghi : RegDef :=
  { blk := .axs, base := 0xB0238, n1 := 8, s1 := 0x2000,
    flds := [F.axEnglaghi_v] }

/-- AX_n_CACCLO [31:0]. -/
def F.axCacclo_v : Fld := { blk := .axs, base := 0xB023C, s1 := 0x2000, lo := 0, len := 32, acc := .ro, live := some .axCacclo_v }
/-- The register AX_n_CACCLO. -/
def R.axCacclo : RegDef :=
  { blk := .axs, base := 0xB023C, n1 := 8, s1 := 0x2000,
    flds := [F.axCacclo_v] }

/-- AX_n_CACCHI [31:0]. -/
def F.axCacchi_v : Fld := { blk := .axs, base := 0xB0240, s1 := 0x2000, lo := 0, len := 32, acc := .ro, live := some .axCacchi_v }
/-- The register AX_n_CACCHI. -/
def R.axCacchi : RegDef :=
  { blk := .axs, base := 0xB0240, n1 := 8, s1 := 0x2000,
    flds := [F.axCacchi_v] }

/-- AX_n_LMSHIFT [5:0]. -/
def F.axLmshift_shift : Fld := { blk := .axs, base := 0xB0244, s1 := 0x2000, lo := 0, len := 6, acc := .rw, rng := some (0, 47) }
/-- The register AX_n_LMSHIFT. -/
def R.axLmshift : RegDef :=
  { blk := .axs, base := 0xB0244, n1 := 8, s1 := 0x2000, sp := .lmshift,
    flds := [F.axLmshift_shift] }

/-- AX_n_STEP [0]. -/
def F.axStep_outen : Fld := { blk := .axs, base := 0xB0300, s1 := 0x2000, lo := 0, len := 1, acc := .rwd }
/-- AX_n_STEP [2:1]. -/
def F.axStep_fq : Fld := { blk := .axs, base := 0xB0300, s1 := 0x2000, lo := 1, len := 2, acc := .rwd }
/-- AX_n_STEP [3]. -/
def F.axStep_dirpol : Fld := { blk := .axs, base := 0xB0300, s1 := 0x2000, lo := 3, len := 1, acc := .rwd }
/-- AX_n_STEP [11:4]. -/
def F.axStep_stepw : Fld := { blk := .axs, base := 0xB0300, s1 := 0x2000, lo := 4, len := 8, acc := .rwd, reset := 0xA, rng := some (2, 255) }
/-- AX_n_STEP [19:12]. -/
def F.axStep_dirsu : Fld := { blk := .axs, base := 0xB0300, s1 := 0x2000, lo := 12, len := 8, acc := .rwd, reset := 0xA, rng := some (1, 255) }
/-- AX_n_STEP [27:20]. -/
def F.axStep_dirh : Fld := { blk := .axs, base := 0xB0300, s1 := 0x2000, lo := 20, len := 8, acc := .rwd, reset := 0xA, rng := some (1, 255) }
/-- The register AX_n_STEP. -/
def R.axStep : RegDef :=
  { blk := .axs, base := 0xB0300, n1 := 8, s1 := 0x2000, own := .ax,
    flds := [F.axStep_outen, F.axStep_fq, F.axStep_dirpol, F.axStep_stepw, F.axStep_dirsu, F.axStep_dirh] }

/-- AX_n_SCUR [15:0]. -/
def F.axScur_irun : Fld := { blk := .axs, base := 0xB0304, s1 := 0x2000, lo := 0, len := 16, acc := .rw }
/-- AX_n_SCUR [31:16]. -/
def F.axScur_ihold : Fld := { blk := .axs, base := 0xB0304, s1 := 0x2000, lo := 16, len := 16, acc := .rw }
/-- The register AX_n_SCUR. -/
def R.axScur : RegDef :=
  { blk := .axs, base := 0xB0304, n1 := 8, s1 := 0x2000,
    flds := [F.axScur_irun, F.axScur_ihold] }

/-- AX_n_SCNTLO [31:0]. -/
def F.axScntlo_n : Fld := { blk := .axs, base := 0xB0308, s1 := 0x2000, lo := 0, len := 32, acc := .ro, live := some .axScntlo_n }
/-- The register AX_n_SCNTLO. -/
def R.axScntlo : RegDef :=
  { blk := .axs, base := 0xB0308, n1 := 8, s1 := 0x2000,
    flds := [F.axScntlo_n] }

/-- AX_n_SCNTHI [31:0]. -/
def F.axScnthi_n : Fld := { blk := .axs, base := 0xB030C, s1 := 0x2000, lo := 0, len := 32, acc := .ro, live := some .axScnthi_n }
/-- The register AX_n_SCNTHI. -/
def R.axScnthi : RegDef :=
  { blk := .axs, base := 0xB030C, n1 := 8, s1 := 0x2000,
    flds := [F.axScnthi_n] }

/-- AX_n_SIVL [31:0]. -/
def F.axSivl_ivl : Fld := { blk := .axs, base := 0xB0310, s1 := 0x2000, lo := 0, len := 32, acc := .ro }
/-- The register AX_n_SIVL. -/
def R.axSivl : RegDef :=
  { blk := .axs, base := 0xB0310, n1 := 8, s1 := 0x2000,
    flds := [F.axSivl_ivl] }

/-- AX_n_SIDX [11:0]. -/
def F.axSidx_index : Fld := { blk := .axs, base := 0xB0314, s1 := 0x2000, lo := 0, len := 12, acc := .ro, live := some .axSidx_index }
/-- AX_n_SIDX [12]. -/
def F.axSidx_overrate : Fld := { blk := .axs, base := 0xB0314, s1 := 0x2000, lo := 12, len := 1, acc := .w1c }
/-- AX_n_SIDX [13]. -/
def F.axSidx_idle : Fld := { blk := .axs, base := 0xB0314, s1 := 0x2000, lo := 13, len := 1, acc := .ro, reset := 1 }
/-- The register AX_n_SIDX. -/
def R.axSidx : RegDef :=
  { blk := .axs, base := 0xB0314, n1 := 8, s1 := 0x2000,
    flds := [F.axSidx_index, F.axSidx_overrate, F.axSidx_idle] }

/-- AX_n_STALLCFG [0]. -/
def F.axStallcfg_en : Fld := { blk := .axs, base := 0xB0340, s1 := 0x2000, lo := 0, len := 1, acc := .rw }
/-- AX_n_STALLCFG [2:1]. -/
def F.axStallcfg_react : Fld := { blk := .axs, base := 0xB0340, s1 := 0x2000, lo := 1, len := 2, acc := .rw, rng := some (0, 2) }
/-- AX_n_STALLCFG [15:8]. -/
def F.axStallcfg_n : Fld := { blk := .axs, base := 0xB0340, s1 := 0x2000, lo := 8, len := 8, acc := .rw, reset := 8, rng := some (1, 255) }
/-- AX_n_STALLCFG [31:16]. -/
def F.axStallcfg_thresh : Fld := { blk := .axs, base := 0xB0340, s1 := 0x2000, lo := 16, len := 16, acc := .rw, reset := 0x4000 }
/-- The register AX_n_STALLCFG. -/
def R.axStallcfg : RegDef :=
  { blk := .axs, base := 0xB0340, n1 := 8, s1 := 0x2000, sp := .stallcfg,
    flds := [F.axStallcfg_en, F.axStallcfg_react, F.axStallcfg_n, F.axStallcfg_thresh] }

/-- AX_n_STALLVMIN [31:0]. -/
def F.axStallvmin_vmin : Fld := { blk := .axs, base := 0xB0344, s1 := 0x2000, lo := 0, len := 32, acc := .rw, reset := 0x5000 }
/-- The register AX_n_STALLVMIN. -/
def R.axStallvmin : RegDef :=
  { blk := .axs, base := 0xB0344, n1 := 8, s1 := 0x2000,
    flds := [F.axStallvmin_vmin] }

/-- AX_n_STALLR [31:0]. -/
def F.axStallr_r : Fld := { blk := .axs, base := 0xB0348, s1 := 0x2000, lo := 0, len := 32, acc := .rwd }
/-- The register AX_n_STALLR. -/
def R.axStallr : RegDef :=
  { blk := .axs, base := 0xB0348, n1 := 8, s1 := 0x2000, own := .ax,
    flds := [F.axStallr_r] }

/-- AX_n_STALLL [31:0]. -/
def F.axStalll_l : Fld := { blk := .axs, base := 0xB034C, s1 := 0x2000, lo := 0, len := 32, acc := .rwd }
/-- The register AX_n_STALLL. -/
def R.axStalll : RegDef :=
  { blk := .axs, base := 0xB034C, n1 := 8, s1 := 0x2000, own := .ax,
    flds := [F.axStalll_l] }

/-- AX_n_LOADANG [15:0]. -/
def F.axLoadang_delta : Fld := { blk := .axs, base := 0xB0350, s1 := 0x2000, lo := 0, len := 16, acc := .ro }
/-- AX_n_LOADANG [16]. -/
def F.axLoadang_valid : Fld := { blk := .axs, base := 0xB0350, s1 := 0x2000, lo := 16, len := 1, acc := .ro }
/-- The register AX_n_LOADANG. -/
def R.axLoadang : RegDef :=
  { blk := .axs, base := 0xB0350, n1 := 8, s1 := 0x2000,
    flds := [F.axLoadang_delta, F.axLoadang_valid] }

/-- AX_n_LOOPST [1:0]. -/
def F.axLoopst_pos : Fld := { blk := .axs, base := 0xB0400, s1 := 0x2000, lo := 0, len := 2, acc := .ro, live := some .axLoopst_pos }
/-- AX_n_LOOPST [3:2]. -/
def F.axLoopst_vel : Fld := { blk := .axs, base := 0xB0400, s1 := 0x2000, lo := 2, len := 2, acc := .ro, live := some .axLoopst_vel }
/-- AX_n_LOOPST [5:4]. -/
def F.axLoopst_cur0 : Fld := { blk := .axs, base := 0xB0400, s1 := 0x2000, lo := 4, len := 2, acc := .ro, live := some .axLoopst_cur0 }
/-- AX_n_LOOPST [7:6]. -/
def F.axLoopst_cur1 : Fld := { blk := .axs, base := 0xB0400, s1 := 0x2000, lo := 6, len := 2, acc := .ro, live := some .axLoopst_cur1 }
/-- AX_n_LOOPST [8]. -/
def F.axLoopst_holdrun : Fld := { blk := .axs, base := 0xB0400, s1 := 0x2000, lo := 8, len := 1, acc := .ro }
/-- The register AX_n_LOOPST. -/
def R.axLoopst : RegDef :=
  { blk := .axs, base := 0xB0400, n1 := 8, s1 := 0x2000,
    flds := [F.axLoopst_pos, F.axLoopst_vel, F.axLoopst_cur0, F.axLoopst_cur1, F.axLoopst_holdrun] }

/-- AX_n_LOOPCTL [0]. -/
def F.axLoopctl_closeCur : Fld := { blk := .axs, base := 0xB0404, s1 := 0x2000, lo := 0, len := 1, acc := .wo }
/-- AX_n_LOOPCTL [1]. -/
def F.axLoopctl_closeVel : Fld := { blk := .axs, base := 0xB0404, s1 := 0x2000, lo := 1, len := 1, acc := .wo }
/-- AX_n_LOOPCTL [2]. -/
def F.axLoopctl_closePos : Fld := { blk := .axs, base := 0xB0404, s1 := 0x2000, lo := 2, len := 1, acc := .wo }
/-- AX_n_LOOPCTL [3]. -/
def F.axLoopctl_openCur : Fld := { blk := .axs, base := 0xB0404, s1 := 0x2000, lo := 3, len := 1, acc := .wo }
/-- AX_n_LOOPCTL [4]. -/
def F.axLoopctl_openVel : Fld := { blk := .axs, base := 0xB0404, s1 := 0x2000, lo := 4, len := 1, acc := .wo }
/-- AX_n_LOOPCTL [5]. -/
def F.axLoopctl_openPos : Fld := { blk := .axs, base := 0xB0404, s1 := 0x2000, lo := 5, len := 1, acc := .wo }
/-- The register AX_n_LOOPCTL. -/
def R.axLoopctl : RegDef :=
  { blk := .axs, base := 0xB0404, n1 := 8, s1 := 0x2000, sp := .loopctl,
    flds := [F.axLoopctl_closeCur, F.axLoopctl_closeVel, F.axLoopctl_closePos, F.axLoopctl_openCur, F.axLoopctl_openVel, F.axLoopctl_openPos] }

/-- AX_n_LOOPCFG [0]. -/
def F.axLoopcfg_enclCur : Fld := { blk := .axs, base := 0xB0408, s1 := 0x2000, lo := 0, len := 1, acc := .rwd, reset := 1 }
/-- AX_n_LOOPCFG [1]. -/
def F.axLoopcfg_enclVel : Fld := { blk := .axs, base := 0xB0408, s1 := 0x2000, lo := 1, len := 1, acc := .rwd, reset := 1 }
/-- AX_n_LOOPCFG [2]. -/
def F.axLoopcfg_enclPos : Fld := { blk := .axs, base := 0xB0408, s1 := 0x2000, lo := 2, len := 1, acc := .rwd, reset := 1 }
/-- AX_n_LOOPCFG [3]. -/
def F.axLoopcfg_dmeasPos : Fld := { blk := .axs, base := 0xB0408, s1 := 0x2000, lo := 3, len := 1, acc := .rwd }
/-- AX_n_LOOPCFG [4]. -/
def F.axLoopcfg_dmeasVel : Fld := { blk := .axs, base := 0xB0408, s1 := 0x2000, lo := 4, len := 1, acc := .rwd }
/-- The register AX_n_LOOPCFG. -/
def R.axLoopcfg : RegDef :=
  { blk := .axs, base := 0xB0408, n1 := 8, s1 := 0x2000, sp := .loopcfg, own := .ax,
    flds := [F.axLoopcfg_enclCur, F.axLoopcfg_enclVel, F.axLoopcfg_enclPos, F.axLoopcfg_dmeasPos, F.axLoopcfg_dmeasVel] }

/-- AX_n_LOOPSTAT [4:0]. -/
def F.axLoopstat_pos : Fld := { blk := .axs, base := 0xB040C, s1 := 0x2000, lo := 0, len := 5, acc := .w1c }
/-- AX_n_LOOPSTAT [9:5]. -/
def F.axLoopstat_vel : Fld := { blk := .axs, base := 0xB040C, s1 := 0x2000, lo := 5, len := 5, acc := .w1c }
/-- AX_n_LOOPSTAT [14:10]. -/
def F.axLoopstat_cur0 : Fld := { blk := .axs, base := 0xB040C, s1 := 0x2000, lo := 10, len := 5, acc := .w1c }
/-- AX_n_LOOPSTAT [19:15]. -/
def F.axLoopstat_cur1 : Fld := { blk := .axs, base := 0xB040C, s1 := 0x2000, lo := 15, len := 5, acc := .w1c }
/-- AX_n_LOOPSTAT [20]. -/
def F.axLoopstat_lateupd : Fld := { blk := .axs, base := 0xB040C, s1 := 0x2000, lo := 20, len := 1, acc := .w1c }
/-- AX_n_LOOPSTAT [21]. -/
def F.axLoopstat_replayed : Fld := { blk := .axs, base := 0xB040C, s1 := 0x2000, lo := 21, len := 1, acc := .w1c }
/-- AX_n_LOOPSTAT [22]. -/
def F.axLoopstat_reused : Fld := { blk := .axs, base := 0xB040C, s1 := 0x2000, lo := 22, len := 1, acc := .w1c }
/-- The register AX_n_LOOPSTAT. -/
def R.axLoopstat : RegDef :=
  { blk := .axs, base := 0xB040C, n1 := 8, s1 := 0x2000,
    flds := [F.axLoopstat_pos, F.axLoopstat_vel, F.axLoopstat_cur0, F.axLoopstat_cur1, F.axLoopstat_lateupd, F.axLoopstat_replayed, F.axLoopstat_reused] }

/-- AX_n_HOLD [12:0]. -/
def F.axHold_ticks : Fld := { blk := .axs, base := 0xB0410, s1 := 0x2000, lo := 0, len := 13, acc := .rw, reset := 0x1000, rng := some (1, 4096) }
/-- AX_n_HOLD [28:16]. -/
def F.axHold_remain : Fld := { blk := .axs, base := 0xB0410, s1 := 0x2000, lo := 16, len := 13, acc := .ro }
/-- The register AX_n_HOLD. -/
def R.axHold : RegDef :=
  { blk := .axs, base := 0xB0410, n1 := 8, s1 := 0x2000,
    flds := [F.axHold_ticks, F.axHold_remain] }

/-- AX_n_HOLDV [31:0]. -/
def F.axHoldv_vmov : Fld := { blk := .axs, base := 0xB0414, s1 := 0x2000, lo := 0, len := 32, acc := .rw, reset := 0x400 }
/-- The register AX_n_HOLDV. -/
def R.axHoldv : RegDef :=
  { blk := .axs, base := 0xB0414, n1 := 8, s1 := 0x2000,
    flds := [F.axHoldv_vmov] }

/-- AX_n_<loop>_KP [31:0]. -/
def F.lpKp_kp : Fld := { blk := .axs, base := 0xB0440, s1 := 0x2000, s2 := 0x40, lo := 0, len := 32, acc := .rwo, rng := some (0, 2147483647) }
/-- The register AX_n_<loop>_KP. -/
def R.lpKp : RegDef :=
  { blk := .axs, base := 0xB0440, n1 := 8, s1 := 0x2000, n2 := 4, s2 := 0x40, own := .loop,
    flds := [F.lpKp_kp] }

/-- AX_n_<loop>_KITS [31:0]. -/
def F.lpKits_kits : Fld := { blk := .axs, base := 0xB0444, s1 := 0x2000, s2 := 0x40, lo := 0, len := 32, acc := .rwo, rng := some (0, 2147483647) }
/-- The register AX_n_<loop>_KITS. -/
def R.lpKits : RegDef :=
  { blk := .axs, base := 0xB0444, n1 := 8, s1 := 0x2000, n2 := 4, s2 := 0x40, own := .loop,
    flds := [F.lpKits_kits] }

/-- AX_n_<loop>_KDTS [31:0]. -/
def F.lpKdts_kdts : Fld := { blk := .axs, base := 0xB0448, s1 := 0x2000, s2 := 0x40, lo := 0, len := 32, acc := .rwo, rng := some (0, 2147483647) }
/-- The register AX_n_<loop>_KDTS. -/
def R.lpKdts : RegDef :=
  { blk := .axs, base := 0xB0448, n1 := 8, s1 := 0x2000, n2 := 2, s2 := 0x40, own := .loop,
    flds := [F.lpKdts_kdts] }

/-- The register AX_n_CURx_KDTS. -/
def R.lpKdtsC : RegDef :=
  { blk := .axs, base := 0xB04C8, n1 := 8, s1 := 0x2000, n2 := 2, s2 := 0x40,
    flds := [] }

/-- AX_n_<loop>_CFG [15:0]. -/
def F.lpCfg_alpha : Fld := { blk := .axs, base := 0xB044C, s1 := 0x2000, s2 := 0x40, lo := 0, len := 16, acc := .rwo }
/-- AX_n_<loop>_CFG [21:16]. -/
def F.lpCfg_shift : Fld := { blk := .axs, base := 0xB044C, s1 := 0x2000, s2 := 0x40, lo := 16, len := 6, acc := .rwo, rng := some (0, 47) }
/-- AX_n_<loop>_CFG [29:24]. -/
def F.lpCfg_ffshift : Fld := { blk := .axs, base := 0xB044C, s1 := 0x2000, s2 := 0x40, lo := 24, len := 6, acc := .rwo, rng := some (0, 47) }
/-- The register AX_n_<loop>_CFG. -/
def R.lpCfg : RegDef :=
  { blk := .axs, base := 0xB044C, n1 := 8, s1 := 0x2000, n2 := 2, s2 := 0x40, own := .loop,
    flds := [F.lpCfg_alpha, F.lpCfg_shift, F.lpCfg_ffshift] }

/-- AX_n_CURx_CFG [21:16]. -/
def F.lpCfgC_shift : Fld := { blk := .axs, base := 0xB04CC, s1 := 0x2000, s2 := 0x40, lo := 16, len := 6, acc := .rwo, rng := some (0, 47) }
/-- The register AX_n_CURx_CFG. -/
def R.lpCfgC : RegDef :=
  { blk := .axs, base := 0xB04CC, n1 := 8, s1 := 0x2000, n2 := 2, s2 := 0x40, own := .loopc,
    flds := [F.lpCfgC_shift] }

/-- AX_n_POS_OUTMAXLO [31:0]. -/
def F.lpOutmaxlo_v : Fld := { blk := .axs, base := 0xB0450, s1 := 0x2000, lo := 0, len := 32, acc := .rwo, reset := 0xFFFFFFFF }
/-- The register AX_n_POS_OUTMAXLO. -/
def R.lpOutmaxlo : RegDef :=
  { blk := .axs, base := 0xB0450, n1 := 8, s1 := 0x2000, own := .pos,
    flds := [F.lpOutmaxlo_v] }

/-- AX_n_POS_OUTMAXHI [31:0]. -/
def F.lpOutmaxhi_v : Fld := { blk := .axs, base := 0xB0454, s1 := 0x2000, lo := 0, len := 32, acc := .rwo, reset := 0x7FFFFFFF }
/-- The register AX_n_POS_OUTMAXHI. -/
def R.lpOutmaxhi : RegDef :=
  { blk := .axs, base := 0xB0454, n1 := 8, s1 := 0x2000, sp := .lpLimHi, own := .pos,
    flds := [F.lpOutmaxhi_v] }

/-- AX_n_POS_OUTMINLO [31:0]. -/
def F.lpOutminlo_v : Fld := { blk := .axs, base := 0xB0458, s1 := 0x2000, lo := 0, len := 32, acc := .rwo }
/-- The register AX_n_POS_OUTMINLO. -/
def R.lpOutminlo : RegDef :=
  { blk := .axs, base := 0xB0458, n1 := 8, s1 := 0x2000, own := .pos,
    flds := [F.lpOutminlo_v] }

/-- AX_n_POS_OUTMINHI [31:0]. -/
def F.lpOutminhi_v : Fld := { blk := .axs, base := 0xB045C, s1 := 0x2000, lo := 0, len := 32, acc := .rwo, reset := 0x80000000 }
/-- The register AX_n_POS_OUTMINHI. -/
def R.lpOutminhi : RegDef :=
  { blk := .axs, base := 0xB045C, n1 := 8, s1 := 0x2000, sp := .lpLimHi, own := .pos,
    flds := [F.lpOutminhi_v] }

/-- AX_n_POS_IMAXLO [31:0]. -/
def F.lpImaxlo_v : Fld := { blk := .axs, base := 0xB0460, s1 := 0x2000, lo := 0, len := 32, acc := .rwo, reset := 0xFFFFFFFF }
/-- The register AX_n_POS_IMAXLO. -/
def R.lpImaxlo : RegDef :=
  { blk := .axs, base := 0xB0460, n1 := 8, s1 := 0x2000, own := .pos,
    flds := [F.lpImaxlo_v] }

/-- AX_n_POS_IMAXHI [31:0]. -/
def F.lpImaxhi_v : Fld := { blk := .axs, base := 0xB0464, s1 := 0x2000, lo := 0, len := 32, acc := .rwo, reset := 0x7FFFFFFF }
/-- The register AX_n_POS_IMAXHI. -/
def R.lpImaxhi : RegDef :=
  { blk := .axs, base := 0xB0464, n1 := 8, s1 := 0x2000, sp := .lpLimHi, own := .pos,
    flds := [F.lpImaxhi_v] }

/-- AX_n_<loop>_OUTMAXLO [31:0]. -/
def F.lqOutmaxlo_v : Fld := { blk := .axs, base := 0xB0490, s1 := 0x2000, s2 := 0x40, lo := 0, len := 32, acc := .rwo, reset := 0x7FFFFFFF }
/-- The register AX_n_<loop>_OUTMAXLO. -/
def R.lqOutmaxlo : RegDef :=
  { blk := .axs, base := 0xB0490, n1 := 8, s1 := 0x2000, n2 := 3, s2 := 0x40, sp := .lqLim, own := .loopq,
    flds := [F.lqOutmaxlo_v] }

/-- The register AX_n_<loop>_OUTMAXHI. -/
def R.lqOutmaxhi : RegDef :=
  { blk := .axs, base := 0xB0494, n1 := 8, s1 := 0x2000, n2 := 3, s2 := 0x40,
    flds := [] }

/-- AX_n_<loop>_OUTMINLO [31:0]. -/
def F.lqOutminlo_v : Fld := { blk := .axs, base := 0xB0498, s1 := 0x2000, s2 := 0x40, lo := 0, len := 32, acc := .rwo, reset := 0x80000000 }
/-- The register AX_n_<loop>_OUTMINLO. -/
def R.lqOutminlo : RegDef :=
  { blk := .axs, base := 0xB0498, n1 := 8, s1 := 0x2000, n2 := 3, s2 := 0x40, sp := .lqLim, own := .loopq,
    flds := [F.lqOutminlo_v] }

/-- The register AX_n_<loop>_OUTMINHI. -/
def R.lqOutminhi : RegDef :=
  { blk := .axs, base := 0xB049C, n1 := 8, s1 := 0x2000, n2 := 3, s2 := 0x40,
    flds := [] }

/-- AX_n_<loop>_IMAXLO [31:0]. -/
def F.lqImaxlo_v : Fld := { blk := .axs, base := 0xB04A0, s1 := 0x2000, s2 := 0x40, lo := 0, len := 32, acc := .rwo, reset := 0x7FFFFFFF }
/-- The register AX_n_<loop>_IMAXLO. -/
def R.lqImaxlo : RegDef :=
  { blk := .axs, base := 0xB04A0, n1 := 8, s1 := 0x2000, n2 := 3, s2 := 0x40, sp := .lqLim, own := .loopq,
    flds := [F.lqImaxlo_v] }

/-- The register AX_n_<loop>_IMAXHI. -/
def R.lqImaxhi : RegDef :=
  { blk := .axs, base := 0xB04A4, n1 := 8, s1 := 0x2000, n2 := 3, s2 := 0x40,
    flds := [] }

/-- AX_n_<loop>_KT [31:0]. -/
def F.lpKt_kt : Fld := { blk := .axs, base := 0xB0468, s1 := 0x2000, s2 := 0x40, lo := 0, len := 32, acc := .rwo, reset := 0x10000, rng := some (1, 65536) }
/-- The register AX_n_<loop>_KT. -/
def R.lpKt : RegDef :=
  { blk := .axs, base := 0xB0468, n1 := 8, s1 := 0x2000, n2 := 4, s2 := 0x40, own := .loop,
    flds := [F.lpKt_kt] }

/-- AX_n_<loop>_KFF [31:0]. -/
def F.lpKff_kff : Fld := { blk := .axs, base := 0xB046C, s1 := 0x2000, s2 := 0x40, lo := 0, len := 32, acc := .rwo }
/-- The register AX_n_<loop>_KFF. -/
def R.lpKff : RegDef :=
  { blk := .axs, base := 0xB046C, n1 := 8, s1 := 0x2000, n2 := 2, s2 := 0x40, own := .loop,
    flds := [F.lpKff_kff] }

/-- The register AX_n_CURx_KFF. -/
def R.lpKffC : RegDef :=
  { blk := .axs, base := 0xB04EC, n1 := 8, s1 := 0x2000, n2 := 2, s2 := 0x40,
    flds := [] }

/-- AX_n_<loop>_ILO [31:0]. -/
def F.lpIlo_v : Fld := { blk := .axs, base := 0xB0470, s1 := 0x2000, s2 := 0x40, lo := 0, len := 32, acc := .ro, live := some .lpIlo_v }
/-- The register AX_n_<loop>_ILO. -/
def R.lpIlo : RegDef :=
  { blk := .axs, base := 0xB0470, n1 := 8, s1 := 0x2000, n2 := 4, s2 := 0x40,
    flds := [F.lpIlo_v] }

/-- AX_n_<loop>_IHI [31:0]. -/
def F.lpIhi_v : Fld := { blk := .axs, base := 0xB0474, s1 := 0x2000, s2 := 0x40, lo := 0, len := 32, acc := .ro, live := some .lpIhi_v }
/-- The register AX_n_<loop>_IHI. -/
def R.lpIhi : RegDef :=
  { blk := .axs, base := 0xB0474, n1 := 8, s1 := 0x2000, n2 := 4, s2 := 0x40,
    flds := [F.lpIhi_v] }

/-- AX_n_<loop>_OUTLO [31:0]. -/
def F.lpOutlo_v : Fld := { blk := .axs, base := 0xB0478, s1 := 0x2000, s2 := 0x40, lo := 0, len := 32, acc := .ro, live := some .lpOutlo_v }
/-- The register AX_n_<loop>_OUTLO. -/
def R.lpOutlo : RegDef :=
  { blk := .axs, base := 0xB0478, n1 := 8, s1 := 0x2000, n2 := 4, s2 := 0x40,
    flds := [F.lpOutlo_v] }

/-- AX_n_<loop>_OUTHI [31:0]. -/
def F.lpOuthi_v : Fld := { blk := .axs, base := 0xB047C, s1 := 0x2000, s2 := 0x40, lo := 0, len := 32, acc := .ro, live := some .lpOuthi_v }
/-- The register AX_n_<loop>_OUTHI. -/
def R.lpOuthi : RegDef :=
  { blk := .axs, base := 0xB047C, n1 := 8, s1 := 0x2000, n2 := 4, s2 := 0x40,
    flds := [F.lpOuthi_v] }

/-- AX_n_SELCFG [0]. -/
def F.axSelcfg_en0 : Fld := { blk := .axs, base := 0xB0540, s1 := 0x2000, lo := 0, len := 1, acc := .ro, reset := 1 }
/-- AX_n_SELCFG [3:1]. -/
def F.axSelcfg_en : Fld := { blk := .axs, base := 0xB0540, s1 := 0x2000, lo := 1, len := 3, acc := .rwo }
/-- AX_n_SELCFG [4]. -/
def F.axSelcfg_c1src : Fld := { blk := .axs, base := 0xB0540, s1 := 0x2000, lo := 4, len := 1, acc := .rwo }
/-- AX_n_SELCFG [6:5]. -/
def F.axSelcfg_ain : Fld := { blk := .axs, base := 0xB0540, s1 := 0x2000, lo := 5, len := 2, acc := .rwo }
/-- AX_n_SELCFG [13:8]. -/
def F.axSelcfg_c1shift : Fld := { blk := .axs, base := 0xB0540, s1 := 0x2000, lo := 8, len := 6, acc := .rwo, rng := some (0, 47) }
/-- The register AX_n_SELCFG. -/
def R.axSelcfg : RegDef :=
  { blk := .axs, base := 0xB0540, n1 := 8, s1 := 0x2000, own := .vel,
    flds := [F.axSelcfg_en0, F.axSelcfg_en, F.axSelcfg_c1src, F.axSelcfg_ain, F.axSelcfg_c1shift] }

/-- AX_n_SEL [1:0]. -/
def F.axSel_win : Fld := { blk := .axs, base := 0xB0544, s1 := 0x2000, lo := 0, len := 2, acc := .ro }
/-- AX_n_SEL [15:8]. -/
def F.axSel_changes : Fld := { blk := .axs, base := 0xB0544, s1 := 0x2000, lo := 8, len := 8, acc := .rc }
/-- The register AX_n_SEL. -/
def R.axSel : RegDef :=
  { blk := .axs, base := 0xB0544, n1 := 8, s1 := 0x2000,
    flds := [F.axSel_win, F.axSel_changes] }

/-- AX_n_VLIMLO [31:0]. -/
def F.axVlimlo_v : Fld := { blk := .axs, base := 0xB0548, s1 := 0x2000, lo := 0, len := 32, acc := .rw }
/-- The register AX_n_VLIMLO. -/
def R.axVlimlo : RegDef :=
  { blk := .axs, base := 0xB0548, n1 := 8, s1 := 0x2000,
    flds := [F.axVlimlo_v] }

/-- AX_n_VLIMHI [31:0]. -/
def F.axVlimhi_v : Fld := { blk := .axs, base := 0xB054C, s1 := 0x2000, lo := 0, len := 32, acc := .rw }
/-- The register AX_n_VLIMHI. -/
def R.axVlimhi : RegDef :=
  { blk := .axs, base := 0xB054C, n1 := 8, s1 := 0x2000, sp := .hiCommit,
    flds := [F.axVlimhi_v] }

/-- AX_n_EXTDEMLO [31:0]. -/
def F.axExtdemlo_v : Fld := { blk := .axs, base := 0xB0550, s1 := 0x2000, lo := 0, len := 32, acc := .rw }
/-- The register AX_n_EXTDEMLO. -/
def R.axExtdemlo : RegDef :=
  { blk := .axs, base := 0xB0550, n1 := 8, s1 := 0x2000,
    flds := [F.axExtdemlo_v] }

/-- AX_n_EXTDEMHI [31:0]. -/
def F.axExtdemhi_v : Fld := { blk := .axs, base := 0xB0554, s1 := 0x2000, lo := 0, len := 32, acc := .rw }
/-- The register AX_n_EXTDEMHI. -/
def R.axExtdemhi : RegDef :=
  { blk := .axs, base := 0xB0554, n1 := 8, s1 := 0x2000, sp := .hiCommit,
    flds := [F.axExtdemhi_v] }

/-- AX_n_C1GAIN [31:0]. -/
def F.axC1gain_gain : Fld := { blk := .axs, base := 0xB0558, s1 := 0x2000, lo := 0, len := 32, acc := .rwo }
/-- The register AX_n_C1GAIN. -/
def R.axC1gain : RegDef :=
  { blk := .axs, base := 0xB0558, n1 := 8, s1 := 0x2000, own := .vel,
    flds := [F.axC1gain_gain] }

/-- AX_n_SELOUTLO [31:0]. -/
def F.axSeloutlo_w : Fld := { blk := .axs, base := 0xB055C, s1 := 0x2000, lo := 0, len := 32, acc := .ro, live := some .axSeloutlo_w }
/-- The register AX_n_SELOUTLO. -/
def R.axSeloutlo : RegDef :=
  { blk := .axs, base := 0xB055C, n1 := 8, s1 := 0x2000,
    flds := [F.axSeloutlo_w] }

/-- AX_n_SELOUTHI [31:0]. -/
def F.axSelouthi_w : Fld := { blk := .axs, base := 0xB0560, s1 := 0x2000, lo := 0, len := 32, acc := .ro, live := some .axSelouthi_w }
/-- The register AX_n_SELOUTHI. -/
def R.axSelouthi : RegDef :=
  { blk := .axs, base := 0xB0560, n1 := 8, s1 := 0x2000,
    flds := [F.axSelouthi_w] }

/-- AX_n_FFCFG [0]. -/
def F.axFfcfg_fricen : Fld := { blk := .axs, base := 0xB0580, s1 := 0x2000, lo := 0, len := 1, acc := .rwo }
/-- AX_n_FFCFG [1]. -/
def F.axFfcfg_cogen : Fld := { blk := .axs, base := 0xB0580, s1 := 0x2000, lo := 1, len := 1, acc := .rwo }
/-- AX_n_FFCFG [7:4]. -/
def F.axFfcfg_frlog2n : Fld := { blk := .axs, base := 0xB0580, s1 := 0x2000, lo := 4, len := 4, acc := .rwo, reset := 0xC, rng := some (2, 12) }
/-- AX_n_FFCFG [11:8]. -/
def F.axFfcfg_cglog2n : Fld := { blk := .axs, base := 0xB0580, s1 := 0x2000, lo := 8, len := 4, acc := .rwo, reset := 0xC, rng := some (2, 12) }
/-- The register AX_n_FFCFG. -/
def R.axFfcfg : RegDef :=
  { blk := .axs, base := 0xB0580, n1 := 8, s1 := 0x2000, own := .vel,
    flds := [F.axFfcfg_fricen, F.axFfcfg_cogen, F.axFfcfg_frlog2n, F.axFfcfg_cglog2n] }

/-- AX_n_FRDB [31:0]. -/
def F.axFrdb_db : Fld := { blk := .axs, base := 0xB0584, s1 := 0x2000, lo := 0, len := 32, acc := .rwo }
/-- The register AX_n_FRDB. -/
def R.axFrdb : RegDef :=
  { blk := .axs, base := 0xB0584, n1 := 8, s1 := 0x2000, own := .vel,
    flds := [F.axFrdb_db] }

/-- AX_n_CPR [31:0]. -/
def F.axCpr_cpr : Fld := { blk := .axs, base := 0xB0588, s1 := 0x2000, lo := 0, len := 32, acc := .rwd, reset := 0x10000, rng := some (4, 4294967295) }
/-- The register AX_n_CPR. -/
def R.axCpr : RegDef :=
  { blk := .axs, base := 0xB0588, n1 := 8, s1 := 0x2000, own := .ax,
    flds := [F.axCpr_cpr] }

/-- AX_n_EZERO [31:0]. -/
def F.axEzero_ezero : Fld := { blk := .axs, base := 0xB058C, s1 := 0x2000, lo := 0, len := 32, acc := .rwd }
/-- The register AX_n_EZERO. -/
def R.axEzero : RegDef :=
  { blk := .axs, base := 0xB058C, n1 := 8, s1 := 0x2000, own := .ax,
    flds := [F.axEzero_ezero] }

/-- AX_n_POLES [7:0]. -/
def F.axPoles_poles : Fld := { blk := .axs, base := 0xB0590, s1 := 0x2000, lo := 0, len := 8, acc := .rwd, reset := 1, rng := some (1, 255) }
/-- The register AX_n_POLES. -/
def R.axPoles : RegDef :=
  { blk := .axs, base := 0xB0590, n1 := 8, s1 := 0x2000, own := .ax,
    flds := [F.axPoles_poles] }

/-- AX_n_CADV [15:0]. -/
def F.axCadv_adv : Fld := { blk := .axs, base := 0xB0594, s1 := 0x2000, lo := 0, len := 16, acc := .rwo, reset := 0x180 }
/-- The register AX_n_CADV. -/
def R.axCadv : RegDef :=
  { blk := .axs, base := 0xB0594, n1 := 8, s1 := 0x2000, own := .cur,
    flds := [F.axCadv_adv] }

/-- AX_n_CLCFG [0]. -/
def F.axClcfg_decen : Fld := { blk := .axs, base := 0xB0598, s1 := 0x2000, lo := 0, len := 1, acc := .rwo }
/-- The register AX_n_CLCFG. -/
def R.axClcfg : RegDef :=
  { blk := .axs, base := 0xB0598, n1 := 8, s1 := 0x2000, own := .cur,
    flds := [F.axClcfg_decen] }

/-- AX_n_LD [31:0]. -/
def F.axLd_l : Fld := { blk := .axs, base := 0xB05A0, s1 := 0x2000, lo := 0, len := 32, acc := .rwo }
/-- The register AX_n_LD. -/
def R.axLd : RegDef :=
  { blk := .axs, base := 0xB05A0, n1 := 8, s1 := 0x2000, own := .cur,
    flds := [F.axLd_l] }

/-- AX_n_LQ [31:0]. -/
def F.axLq_l : Fld := { blk := .axs, base := 0xB05A4, s1 := 0x2000, lo := 0, len := 32, acc := .rwo }
/-- The register AX_n_LQ. -/
def R.axLq : RegDef :=
  { blk := .axs, base := 0xB05A4, n1 := 8, s1 := 0x2000, own := .cur,
    flds := [F.axLq_l] }

/-- AX_n_PSI [31:0]. -/
def F.axPsi_psi : Fld := { blk := .axs, base := 0xB05A8, s1 := 0x2000, lo := 0, len := 32, acc := .rwo }
/-- The register AX_n_PSI. -/
def R.axPsi : RegDef :=
  { blk := .axs, base := 0xB05A8, n1 := 8, s1 := 0x2000, own := .cur,
    flds := [F.axPsi_psi] }

/-- AX_n_VNOM [31:0]. -/
def F.axVnom_vnom : Fld := { blk := .axs, base := 0xB05AC, s1 := 0x2000, lo := 0, len := 32, acc := .rwo, reset := 0x300000, rng := some (1, 4294967295) }
/-- The register AX_n_VNOM. -/
def R.axVnom : RegDef :=
  { blk := .axs, base := 0xB05AC, n1 := 8, s1 := 0x2000, own := .cur,
    flds := [F.axVnom_vnom] }

/-- AX_n_VLIMF [15:0]. -/
def F.axVlimf_vlim : Fld := { blk := .axs, base := 0xB05B0, s1 := 0x2000, lo := 0, len := 16, acc := .rwo, reset := 0xF333 }
/-- The register AX_n_VLIMF. -/
def R.axVlimf : RegDef :=
  { blk := .axs, base := 0xB05B0, n1 := 8, s1 := 0x2000, own := .cur,
    flds := [F.axVlimf_vlim] }

/-- AX_n_IDREF [31:0]. -/
def F.axIdref_id : Fld := { blk := .axs, base := 0xB05B4, s1 := 0x2000, lo := 0, len := 32, acc := .rw }
/-- The register AX_n_IDREF. -/
def R.axIdref : RegDef :=
  { blk := .axs, base := 0xB05B4, n1 := 8, s1 := 0x2000,
    flds := [F.axIdref_id] }

/-- AX_n_REPCNT [15:0]. -/
def F.axRepcnt_replays : Fld := { blk := .axs, base := 0xB05C0, s1 := 0x2000, lo := 0, len := 16, acc := .rc }
/-- AX_n_REPCNT [31:16]. -/
def F.axRepcnt_reuses : Fld := { blk := .axs, base := 0xB05C0, s1 := 0x2000, lo := 16, len := 16, acc := .rc }
/-- The register AX_n_REPCNT. -/
def R.axRepcnt : RegDef :=
  { blk := .axs, base := 0xB05C0, n1 := 8, s1 := 0x2000,
    flds := [F.axRepcnt_replays, F.axRepcnt_reuses] }

/-- AX_n_REACT [1:0]. -/
def F.axReact_src0 : Fld := { blk := .axs, base := 0xB0604, s1 := 0x2000, lo := 0, len := 2, acc := .rwd, rng := some (0, 2) }
/-- AX_n_REACT [3:2]. -/
def F.axReact_src1 : Fld := { blk := .axs, base := 0xB0604, s1 := 0x2000, lo := 2, len := 2, acc := .rwd, rng := some (0, 2) }
/-- AX_n_REACT [5:4]. -/
def F.axReact_src2 : Fld := { blk := .axs, base := 0xB0604, s1 := 0x2000, lo := 4, len := 2, acc := .rwd, rng := some (0, 2) }
/-- AX_n_REACT [7:6]. -/
def F.axReact_src3 : Fld := { blk := .axs, base := 0xB0604, s1 := 0x2000, lo := 6, len := 2, acc := .rwd, rng := some (0, 2) }
/-- AX_n_REACT [9:8]. -/
def F.axReact_src4 : Fld := { blk := .axs, base := 0xB0604, s1 := 0x2000, lo := 8, len := 2, acc := .rwd, rng := some (0, 2) }
/-- AX_n_REACT [11:10]. -/
def F.axReact_src5 : Fld := { blk := .axs, base := 0xB0604, s1 := 0x2000, lo := 10, len := 2, acc := .rwd, rng := some (0, 2) }
/-- AX_n_REACT [13:12]. -/
def F.axReact_src6 : Fld := { blk := .axs, base := 0xB0604, s1 := 0x2000, lo := 12, len := 2, acc := .rwd, rng := some (0, 2) }
/-- AX_n_REACT [15:14]. -/
def F.axReact_src7 : Fld := { blk := .axs, base := 0xB0604, s1 := 0x2000, lo := 14, len := 2, acc := .rwd, rng := some (0, 2) }
/-- AX_n_REACT [17:16]. -/
def F.axReact_vdrvUv : Fld := { blk := .axs, base := 0xB0604, s1 := 0x2000, lo := 16, len := 2, acc := .ro }
/-- AX_n_REACT [19:18]. -/
def F.axReact_src9 : Fld := { blk := .axs, base := 0xB0604, s1 := 0x2000, lo := 18, len := 2, acc := .rwd, rng := some (0, 2) }
/-- AX_n_REACT [21:20]. -/
def F.axReact_src10 : Fld := { blk := .axs, base := 0xB0604, s1 := 0x2000, lo := 20, len := 2, acc := .rwd, rng := some (0, 2) }
/-- AX_n_REACT [23:22]. -/
def F.axReact_src11 : Fld := { blk := .axs, base := 0xB0604, s1 := 0x2000, lo := 22, len := 2, acc := .rwd, rng := some (0, 2) }
/-- AX_n_REACT [25:24]. -/
def F.axReact_sto : Fld := { blk := .axs, base := 0xB0604, s1 := 0x2000, lo := 24, len := 2, acc := .ro }
/-- The register AX_n_REACT. -/
def R.axReact : RegDef :=
  { blk := .axs, base := 0xB0604, n1 := 8, s1 := 0x2000, own := .ax,
    flds := [F.axReact_src0, F.axReact_src1, F.axReact_src2, F.axReact_src3, F.axReact_src4, F.axReact_src5, F.axReact_src6, F.axReact_src7, F.axReact_vdrvUv, F.axReact_src9, F.axReact_src10, F.axReact_src11, F.axReact_sto] }

/-- The registers of AXS. -/
def regsAxs : List RegDef :=
  [R.axState, R.axCmd, R.axCfg, R.axStopto, R.axTick, R.axCper, R.axCphase, R.axPstat, R.axVmaxlo, R.axVmaxhi, R.axAmaxlo, R.axAmaxhi] ++
  [R.axDmaxlo, R.axDmaxhi, R.axJmaxlo, R.axJmaxhi, R.axDstoplo, R.axDstophi, R.axJstoplo, R.axJstophi, R.axPtgtlo, R.axPtgthi, R.axPposlo, R.axPposhi] ++
  [R.axPvello, R.axPvelhi, R.axPacclo, R.axPacchi, R.cmpCtrl, R.cmpPoslo, R.cmpPoshi, R.cmpPer, R.axCpl, R.axGnum, R.axGden, R.axGremlo] ++
  [R.axGremhi, R.axCamsel, R.axCorig, R.axEposlo, R.axEposhi, R.axBlendlo, R.axBlendhi, R.axEcmd, R.axCstat, R.axEnglaglo, R.axEnglaghi, R.axCacclo] ++
  [R.axCacchi, R.axLmshift, R.axStep, R.axScur, R.axScntlo, R.axScnthi, R.axSivl, R.axSidx, R.axStallcfg, R.axStallvmin, R.axStallr, R.axStalll] ++
  [R.axLoadang, R.axLoopst, R.axLoopctl, R.axLoopcfg, R.axLoopstat, R.axHold, R.axHoldv, R.lpKp, R.lpKits, R.lpKdts, R.lpKdtsC, R.lpCfg] ++
  [R.lpCfgC, R.lpOutmaxlo, R.lpOutmaxhi, R.lpOutminlo, R.lpOutminhi, R.lpImaxlo, R.lpImaxhi, R.lqOutmaxlo, R.lqOutmaxhi, R.lqOutminlo, R.lqOutminhi, R.lqImaxlo] ++
  [R.lqImaxhi, R.lpKt, R.lpKff, R.lpKffC, R.lpIlo, R.lpIhi, R.lpOutlo, R.lpOuthi, R.axSelcfg, R.axSel, R.axVlimlo, R.axVlimhi] ++
  [R.axExtdemlo, R.axExtdemhi, R.axC1gain, R.axSeloutlo, R.axSelouthi, R.axFfcfg, R.axFrdb, R.axCpr, R.axEzero, R.axPoles, R.axCadv, R.axClcfg] ++
  [R.axLd, R.axLq, R.axPsi, R.axVnom, R.axVlimf, R.axIdref, R.axRepcnt, R.axReact]

/-! Registers of GAF (chapter 03). -/

/-- GM_n_CTRL [0]. -/
def F.gmCtrl_en : Fld := { blk := .gaf, base := 0xC0000, s1 := 0x40, lo := 0, len := 1, acc := .rw }
/-- GM_n_CTRL [2:1]. -/
def F.gmCtrl_tb : Fld := { blk := .gaf, base := 0xC0000, s1 := 0x40, lo := 1, len := 2, acc := .rw }
/-- GM_n_CTRL [5:4]. -/
def F.gmCtrl_stalemode : Fld := { blk := .gaf, base := 0xC0000, s1 := 0x40, lo := 4, len := 2, acc := .rw, rng := some (0, 2) }
/-- GM_n_CTRL [6]. -/
def F.gmCtrl_flush : Fld := { blk := .gaf, base := 0xC0000, s1 := 0x40, lo := 6, len := 1, acc := .wo }
/-- The register GM_n_CTRL. -/
def R.gmCtrl : RegDef :=
  { blk := .gaf, base := 0xC0000, n1 := 8, s1 := 0x40, sp := .gmCtrl,
    flds := [F.gmCtrl_en, F.gmCtrl_tb, F.gmCtrl_stalemode, F.gmCtrl_flush] }

/-- GM_n_STAT [1:0]. -/
def F.gmStat_state : Fld := { blk := .gaf, base := 0xC0004, s1 := 0x40, lo := 0, len := 2, acc := .ro }
/-- GM_n_STAT [7:4]. -/
def F.gmStat_fill : Fld := { blk := .gaf, base := 0xC0004, s1 := 0x40, lo := 4, len := 4, acc := .ro, live := some .gmStat_fill }
/-- GM_n_STAT [8]. -/
def F.gmStat_late : Fld := { blk := .gaf, base := 0xC0004, s1 := 0x40, lo := 8, len := 1, acc := .w1c }
/-- GM_n_STAT [9]. -/
def F.gmStat_seqgap : Fld := { blk := .gaf, base := 0xC0004, s1 := 0x40, lo := 9, len := 1, acc := .w1c }
/-- GM_n_STAT [10]. -/
def F.gmStat_history : Fld := { blk := .gaf, base := 0xC0004, s1 := 0x40, lo := 10, len := 1, acc := .w1c }
/-- GM_n_STAT [11]. -/
def F.gmStat_refused : Fld := { blk := .gaf, base := 0xC0004, s1 := 0x40, lo := 11, len := 1, acc := .w1c }
/-- GM_n_STAT [31:16]. -/
def F.gmStat_lastseq : Fld := { blk := .gaf, base := 0xC0004, s1 := 0x40, lo := 16, len := 16, acc := .ro }
/-- The register GM_n_STAT. -/
def R.gmStat : RegDef :=
  { blk := .gaf, base := 0xC0004, n1 := 8, s1 := 0x40,
    flds := [F.gmStat_state, F.gmStat_fill, F.gmStat_late, F.gmStat_seqgap, F.gmStat_history, F.gmStat_refused, F.gmStat_lastseq] }

/-- GM_n_GRACE [31:0]. -/
def F.gmGrace_grace : Fld := { blk := .gaf, base := 0xC0008, s1 := 0x40, lo := 0, len := 32, acc := .rw, reset := 0x989680 }
/-- The register GM_n_GRACE. -/
def R.gmGrace : RegDef :=
  { blk := .gaf, base := 0xC0008, n1 := 8, s1 := 0x40, sp := .gmGrace,
    flds := [F.gmGrace_grace] }

/-- GM_n_RECOV [31:0]. -/
def F.gmRecov_win : Fld := { blk := .gaf, base := 0xC000C, s1 := 0x40, lo := 0, len := 32, acc := .rw, reset := 0x100000 }
/-- The register GM_n_RECOV. -/
def R.gmRecov : RegDef :=
  { blk := .gaf, base := 0xC000C, n1 := 8, s1 := 0x40,
    flds := [F.gmRecov_win] }

/-- GM_n_REFCNT [15:0]. -/
def F.gmRefcnt_refused : Fld := { blk := .gaf, base := 0xC0010, s1 := 0x40, lo := 0, len := 16, acc := .rc }
/-- GM_n_REFCNT [31:16]. -/
def F.gmRefcnt_late : Fld := { blk := .gaf, base := 0xC0010, s1 := 0x40, lo := 16, len := 16, acc := .rc }
/-- The register GM_n_REFCNT. -/
def R.gmRefcnt : RegDef :=
  { blk := .gaf, base := 0xC0010, n1 := 8, s1 := 0x40,
    flds := [F.gmRefcnt_refused, F.gmRefcnt_late] }

/-- GM_n_POSLO [31:0]. -/
def F.gmPoslo_v : Fld := { blk := .gaf, base := 0xC0014, s1 := 0x40, lo := 0, len := 32, acc := .ro, live := some .gmPoslo_v }
/-- The register GM_n_POSLO. -/
def R.gmPoslo : RegDef :=
  { blk := .gaf, base := 0xC0014, n1 := 8, s1 := 0x40,
    flds := [F.gmPoslo_v] }

/-- GM_n_POSHI [31:0]. -/
def F.gmPoshi_v : Fld := { blk := .gaf, base := 0xC0018, s1 := 0x40, lo := 0, len := 32, acc := .ro, live := some .gmPoshi_v }
/-- The register GM_n_POSHI. -/
def R.gmPoshi : RegDef :=
  { blk := .gaf, base := 0xC0018, n1 := 8, s1 := 0x40,
    flds := [F.gmPoshi_v] }

/-- GM_n_VELLO [31:0]. -/
def F.gmVello_v : Fld := { blk := .gaf, base := 0xC001C, s1 := 0x40, lo := 0, len := 32, acc := .ro, live := some .gmVello_v }
/-- The register GM_n_VELLO. -/
def R.gmVello : RegDef :=
  { blk := .gaf, base := 0xC001C, n1 := 8, s1 := 0x40,
    flds := [F.gmVello_v] }

/-- GM_n_VELHI [31:0]. -/
def F.gmVelhi_v : Fld := { blk := .gaf, base := 0xC0020, s1 := 0x40, lo := 0, len := 32, acc := .ro, live := some .gmVelhi_v }
/-- The register GM_n_VELHI. -/
def R.gmVelhi : RegDef :=
  { blk := .gaf, base := 0xC0020, n1 := 8, s1 := 0x40,
    flds := [F.gmVelhi_v] }

/-- GM_n_ACCLO [31:0]. -/
def F.gmAcclo_v : Fld := { blk := .gaf, base := 0xC0024, s1 := 0x40, lo := 0, len := 32, acc := .ro, live := some .gmAcclo_v }
/-- The register GM_n_ACCLO. -/
def R.gmAcclo : RegDef :=
  { blk := .gaf, base := 0xC0024, n1 := 8, s1 := 0x40,
    flds := [F.gmAcclo_v] }

/-- GM_n_ACCHI [31:0]. -/
def F.gmAcchi_v : Fld := { blk := .gaf, base := 0xC0028, s1 := 0x40, lo := 0, len := 32, acc := .ro, live := some .gmAcchi_v }
/-- The register GM_n_ACCHI. -/
def R.gmAcchi : RegDef :=
  { blk := .gaf, base := 0xC0028, n1 := 8, s1 := 0x40,
    flds := [F.gmAcchi_v] }

/-- GM_n_EVNS [29:0]. -/
def F.gmEvns_ns : Fld := { blk := .gaf, base := 0xC002C, s1 := 0x40, lo := 0, len := 30, acc := .ro }
/-- The register GM_n_EVNS. -/
def R.gmEvns : RegDef :=
  { blk := .gaf, base := 0xC002C, n1 := 8, s1 := 0x40,
    flds := [F.gmEvns_ns] }

/-- CAM_c_BASE [17:0]. -/
def F.camBase_base : Fld := { blk := .gaf, base := 0xC0800, s1 := 0x10, lo := 0, len := 18, acc := .rw }
/-- The register CAM_c_BASE. -/
def R.camBase : RegDef :=
  { blk := .gaf, base := 0xC0800, n1 := 16, s1 := 0x10, sp := .camDesc,
    flds := [F.camBase_base] }

/-- CAM_c_FMT [3:0]. -/
def F.camFmt_log2n : Fld := { blk := .gaf, base := 0xC0804, s1 := 0x10, lo := 0, len := 4, acc := .rw, reset := 2, rng := some (2, 15) }
/-- CAM_c_FMT [12:8]. -/
def F.camFmt_shift : Fld := { blk := .gaf, base := 0xC0804, s1 := 0x10, lo := 8, len := 5, acc := .rw, rng := some (0, 16) }
/-- The register CAM_c_FMT. -/
def R.camFmt : RegDef :=
  { blk := .gaf, base := 0xC0804, n1 := 16, s1 := 0x10, sp := .camDesc,
    flds := [F.camFmt_log2n, F.camFmt_shift] }

/-- CAM_c_RISELO [31:0]. -/
def F.camRiselo_rise : Fld := { blk := .gaf, base := 0xC0808, s1 := 0x10, lo := 0, len := 32, acc := .rw }
/-- The register CAM_c_RISELO. -/
def R.camRiselo : RegDef :=
  { blk := .gaf, base := 0xC0808, n1 := 16, s1 := 0x10, sp := .camDesc,
    flds := [F.camRiselo_rise] }

/-- CAM_c_RISEHI [31:0]. -/
def F.camRisehi_rise : Fld := { blk := .gaf, base := 0xC080C, s1 := 0x10, lo := 0, len := 32, acc := .rw }
/-- The register CAM_c_RISEHI. -/
def R.camRisehi : RegDef :=
  { blk := .gaf, base := 0xC080C, n1 := 16, s1 := 0x10, sp := .camDesc,
    flds := [F.camRisehi_rise] }

/-- GAF_FQM_q [5:0]. -/
def F.gafFqm_shift : Fld := { blk := .gaf, base := 0xC0900, s1 := 4, lo := 0, len := 6, acc := .rw, rng := some (0, 47) }
/-- The register GAF_FQM_q. -/
def R.gafFqm : RegDef :=
  { blk := .gaf, base := 0xC0900, n1 := 4, s1 := 4, sp := .fqm,
    flds := [F.gafFqm_shift] }

/-- The registers of GAF. -/
def regsGaf : List RegDef :=
  [R.gmCtrl, R.gmStat, R.gmGrace, R.gmRecov, R.gmRefcnt, R.gmPoslo, R.gmPoshi, R.gmVello, R.gmVelhi, R.gmAcclo, R.gmAcchi, R.gmEvns] ++
  [R.camBase, R.camFmt, R.camRiselo, R.camRisehi, R.gafFqm]

/-! Registers of GTH (chapter 10). -/

/-- GTH_CTRL [2:0]. -/
def F.gthCtrl_axis : Fld := { blk := .gth, base := 0xC8000, lo := 0, len := 3, acc := .rw }
/-- GTH_CTRL [4:3]. -/
def F.gthCtrl_tk : Fld := { blk := .gth, base := 0xC8000, lo := 3, len := 2, acc := .rw, reset := 1, rng := some (0, 2) }
/-- GTH_CTRL [15:8]. -/
def F.gthCtrl_chen : Fld := { blk := .gth, base := 0xC8000, lo := 8, len := 8, acc := .rw }
/-- GTH_CTRL [16]. -/
def F.gthCtrl_auto : Fld := { blk := .gth, base := 0xC8000, lo := 16, len := 1, acc := .rw }
/-- GTH_CTRL [17]. -/
def F.gthCtrl_holdmode : Fld := { blk := .gth, base := 0xC8000, lo := 17, len := 1, acc := .rw }
/-- The register GTH_CTRL. -/
def R.gthCtrl : RegDef :=
  { blk := .gth, base := 0xC8000, sp := .gthCfg,
    flds := [F.gthCtrl_axis, F.gthCtrl_tk, F.gthCtrl_chen, F.gthCtrl_auto, F.gthCtrl_holdmode] }

/-- GTH_DIV [15:0]. -/
def F.gthDiv_div : Fld := { blk := .gth, base := 0xC8004, lo := 0, len := 16, acc := .rw, reset := 1, rng := some (1, 65535) }
/-- The register GTH_DIV. -/
def R.gthDiv : RegDef :=
  { blk := .gth, base := 0xC8004, sp := .gthCfg,
    flds := [F.gthDiv_div] }

/-- GTH_LAG [19:0]. -/
def F.gthLag_lag : Fld := { blk := .gth, base := 0xC8008, lo := 0, len := 20, acc := .rw, reset := 0x2710 }
/-- The register GTH_LAG. -/
def R.gthLag : RegDef :=
  { blk := .gth, base := 0xC8008, sp := .gthCfg,
    flds := [F.gthLag_lag] }

/-- GTH_PRE [16:0]. -/
def F.gthPre_pre : Fld := { blk := .gth, base := 0xC800C, lo := 0, len := 17, acc := .rw }
/-- The register GTH_PRE. -/
def R.gthPre : RegDef :=
  { blk := .gth, base := 0xC800C, sp := .gthCfg,
    flds := [F.gthPre_pre] }

/-- GTH_POST [17:0]. -/
def F.gthPost_post : Fld := { blk := .gth, base := 0xC8010, lo := 0, len := 18, acc := .rw, reset := 1 }
/-- The register GTH_POST. -/
def R.gthPost : RegDef :=
  { blk := .gth, base := 0xC8010, sp := .gthCfg,
    flds := [F.gthPost_post] }

/-- GTH_HOLD [31:0]. -/
def F.gthHold_hold : Fld := { blk := .gth, base := 0xC8014, lo := 0, len := 32, acc := .rw }
/-- The register GTH_HOLD. -/
def R.gthHold : RegDef :=
  { blk := .gth, base := 0xC8014,
    flds := [F.gthHold_hold] }

/-- GTH_RIVL [31:0]. -/
def F.gthRivl_trow : Fld := { blk := .gth, base := 0xC8018, lo := 0, len := 32, acc := .ro }
/-- The register GTH_RIVL. -/
def R.gthRivl : RegDef :=
  { blk := .gth, base := 0xC8018,
    flds := [F.gthRivl_trow] }

/-- GTH_TRIG [0]. -/
def F.gthTrig_sen : Fld := { blk := .gth, base := 0xC801C, lo := 0, len := 1, acc := .rw }
/-- GTH_TRIG [3:1]. -/
def F.gthTrig_sch : Fld := { blk := .gth, base := 0xC801C, lo := 1, len := 3, acc := .rw }
/-- GTH_TRIG [6:4]. -/
def F.gthTrig_cond : Fld := { blk := .gth, base := 0xC801C, lo := 4, len := 3, acc := .rw, rng := some (0, 4) }
/-- GTH_TRIG [15:8]. -/
def F.gthTrig_emask : Fld := { blk := .gth, base := 0xC801C, lo := 8, len := 8, acc := .rw }
/-- GTH_TRIG [17:16]. -/
def F.gthTrig_edge : Fld := { blk := .gth, base := 0xC801C, lo := 16, len := 2, acc := .rw, rng := some (0, 2) }
/-- The register GTH_TRIG. -/
def R.gthTrig : RegDef :=
  { blk := .gth, base := 0xC801C, sp := .gthCfg,
    flds := [F.gthTrig_sen, F.gthTrig_sch, F.gthTrig_cond, F.gthTrig_emask, F.gthTrig_edge] }

/-- GTH_TLEVEL [31:0]. -/
def F.gthTlevel_l : Fld := { blk := .gth, base := 0xC8020, lo := 0, len := 32, acc := .rw }
/-- The register GTH_TLEVEL. -/
def R.gthTlevel : RegDef :=
  { blk := .gth, base := 0xC8020, sp := .gthCfg,
    flds := [F.gthTlevel_l] }

/-- GTH_THYST [31:0]. -/
def F.gthThyst_hy : Fld := { blk := .gth, base := 0xC8024, lo := 0, len := 32, acc := .rw }
/-- The register GTH_THYST. -/
def R.gthThyst : RegDef :=
  { blk := .gth, base := 0xC8024, sp := .gthCfg,
    flds := [F.gthThyst_hy] }

/-- GTH_CMD [0]. -/
def F.gthCmd_arm : Fld := { blk := .gth, base := 0xC8028, lo := 0, len := 1, acc := .wo }
/-- GTH_CMD [1]. -/
def F.gthCmd_stop : Fld := { blk := .gth, base := 0xC8028, lo := 1, len := 1, acc := .wo }
/-- GTH_CMD [2]. -/
def F.gthCmd_force : Fld := { blk := .gth, base := 0xC8028, lo := 2, len := 1, acc := .wo }
/-- GTH_CMD [3]. -/
def F.gthCmd_stream : Fld := { blk := .gth, base := 0xC8028, lo := 3, len := 1, acc := .wo }
/-- The register GTH_CMD. -/
def R.gthCmd : RegDef :=
  { blk := .gth, base := 0xC8028, sp := .gthCmd,
    flds := [F.gthCmd_arm, F.gthCmd_stop, F.gthCmd_force, F.gthCmd_stream] }

/-- GTH_STAT [2:0]. -/
def F.gthStat_state : Fld := { blk := .gth, base := 0xC802C, lo := 0, len := 3, acc := .ro }
/-- GTH_STAT [3]. -/
def F.gthStat_trunc : Fld := { blk := .gth, base := 0xC802C, lo := 3, len := 1, acc := .w1c }
/-- GTH_STAT [4]. -/
def F.gthStat_tstep : Fld := { blk := .gth, base := 0xC802C, lo := 4, len := 1, acc := .w1c }
/-- GTH_STAT [5]. -/
def F.gthStat_tblate : Fld := { blk := .gth, base := 0xC802C, lo := 5, len := 1, acc := .w1c }
/-- GTH_STAT [6]. -/
def F.gthStat_perr : Fld := { blk := .gth, base := 0xC802C, lo := 6, len := 1, acc := .w1c }
/-- GTH_STAT [7]. -/
def F.gthStat_armign : Fld := { blk := .gth, base := 0xC802C, lo := 7, len := 1, acc := .w1c }
/-- GTH_STAT [8]. -/
def F.gthStat_streaming : Fld := { blk := .gth, base := 0xC802C, lo := 8, len := 1, acc := .ro }
/-- GTH_STAT [9]. -/
def F.gthStat_hascap : Fld := { blk := .gth, base := 0xC802C, lo := 9, len := 1, acc := .ro }
/-- GTH_STAT [31:16]. -/
def F.gthStat_capseq : Fld := { blk := .gth, base := 0xC802C, lo := 16, len := 16, acc := .ro }
/-- The register GTH_STAT. -/
def R.gthStat : RegDef :=
  { blk := .gth, base := 0xC802C,
    flds := [F.gthStat_state, F.gthStat_trunc, F.gthStat_tstep, F.gthStat_tblate, F.gthStat_perr, F.gthStat_armign, F.gthStat_streaming, F.gthStat_hascap, F.gthStat_capseq] }

/-- GTH_CNT [7:0]. -/
def F.gthCnt_early : Fld := { blk := .gth, base := 0xC8030, lo := 0, len := 8, acc := .rc }
/-- GTH_CNT [15:8]. -/
def F.gthCnt_tooold : Fld := { blk := .gth, base := 0xC8030, lo := 8, len := 8, acc := .rc }
/-- GTH_CNT [23:16]. -/
def F.gthCnt_extra : Fld := { blk := .gth, base := 0xC8030, lo := 16, len := 8, acc := .rc }
/-- GTH_CNT [31:24]. -/
def F.gthCnt_frdrop : Fld := { blk := .gth, base := 0xC8030, lo := 24, len := 8, acc := .rc }
/-- The register GTH_CNT. -/
def R.gthCnt : RegDef :=
  { blk := .gth, base := 0xC8030,
    flds := [F.gthCnt_early, F.gthCnt_tooold, F.gthCnt_extra, F.gthCnt_frdrop] }

/-- GTH_TINFO [1:0]. -/
def F.gthTinfo_kind : Fld := { blk := .gth, base := 0xC8034, lo := 0, len := 2, acc := .ro }
/-- GTH_TINFO [4:2]. -/
def F.gthTinfo_src : Fld := { blk := .gth, base := 0xC8034, lo := 2, len := 3, acc := .ro }
/-- The register GTH_TINFO. -/
def R.gthTinfo : RegDef :=
  { blk := .gth, base := 0xC8034,
    flds := [F.gthTinfo_kind, F.gthTinfo_src] }

/-- GTH_TFRAC [31:0]. -/
def F.gthTfrac_u : Fld := { blk := .gth, base := 0xC8038, lo := 0, len := 32, acc := .ro }
/-- The register GTH_TFRAC. -/
def R.gthTfrac : RegDef :=
  { blk := .gth, base := 0xC8038,
    flds := [F.gthTfrac_u] }

/-- GTH_TSEC [31:0]. -/
def F.gthTsec_sec : Fld := { blk := .gth, base := 0xC803C, lo := 0, len := 32, acc := .ro }
/-- The register GTH_TSEC. -/
def R.gthTsec : RegDef :=
  { blk := .gth, base := 0xC803C,
    flds := [F.gthTsec_sec] }

/-- GTH_TNS [29:0]. -/
def F.gthTns_ns : Fld := { blk := .gth, base := 0xC8040, lo := 0, len := 30, acc := .ro }
/-- The register GTH_TNS. -/
def R.gthTns : RegDef :=
  { blk := .gth, base := 0xC8040,
    flds := [F.gthTns_ns] }

/-- GTH_TFR [15:0]. -/
def F.gthTfr_frac : Fld := { blk := .gth, base := 0xC8044, lo := 0, len := 16, acc := .ro }
/-- The register GTH_TFR. -/
def R.gthTfr : RegDef :=
  { blk := .gth, base := 0xC8044,
    flds := [F.gthTfr_frac] }

/-- GTH_T0SEC [31:0]. -/
def F.gthT0sec_sec : Fld := { blk := .gth, base := 0xC8048, lo := 0, len := 32, acc := .ro }
/-- The register GTH_T0SEC. -/
def R.gthT0sec : RegDef :=
  { blk := .gth, base := 0xC8048,
    flds := [F.gthT0sec_sec] }

/-- GTH_T0NS [29:0]. -/
def F.gthT0ns_ns : Fld := { blk := .gth, base := 0xC804C, lo := 0, len := 30, acc := .ro }
/-- The register GTH_T0NS. -/
def R.gthT0ns : RegDef :=
  { blk := .gth, base := 0xC804C,
    flds := [F.gthT0ns_ns] }

/-- GTH_ROWS [17:0]. -/
def F.gthRows_rows : Fld := { blk := .gth, base := 0xC8050, lo := 0, len := 18, acc := .ro }
/-- The register GTH_ROWS. -/
def R.gthRows : RegDef :=
  { blk := .gth, base := 0xC8050,
    flds := [F.gthRows_rows] }

/-- GTH_TRIG_DLY [31:0]. -/
def F.gthTrigDly_dly : Fld := { blk := .gth, base := 0xC8058, lo := 0, len := 32, acc := .rw }
/-- The register GTH_TRIG_DLY. -/
def R.gthTrigDly : RegDef :=
  { blk := .gth, base := 0xC8058,
    flds := [F.gthTrigDly_dly] }

/-- GTH_TBOUT [0]. -/
def F.gthTbout_en : Fld := { blk := .gth, base := 0xC805C, lo := 0, len := 1, acc := .rw }
/-- GTH_TBOUT [8:1]. -/
def F.gthTbout_width : Fld := { blk := .gth, base := 0xC805C, lo := 1, len := 8, acc := .rw, reset := 0xA, rng := some (1, 199) }
/-- GTH_TBOUT [31:12]. -/
def F.gthTbout_lat : Fld := { blk := .gth, base := 0xC805C, lo := 12, len := 20, acc := .rw, reset := 0x4E20, rng := some (1000, 1000000) }
/-- The register GTH_TBOUT. -/
def R.gthTbout : RegDef :=
  { blk := .gth, base := 0xC805C,
    flds := [F.gthTbout_en, F.gthTbout_width, F.gthTbout_lat] }

/-- GTH_FRAME [0]. -/
def F.gthFrame_txen : Fld := { blk := .gth, base := 0xC8060, lo := 0, len := 1, acc := .rw }
/-- GTH_FRAME [1]. -/
def F.gthFrame_rxen : Fld := { blk := .gth, base := 0xC8060, lo := 1, len := 1, acc := .rw }
/-- GTH_FRAME [3:2]. -/
def F.gthFrame_ports : Fld := { blk := .gth, base := 0xC8060, lo := 2, len := 2, acc := .rw, reset := 1 }
/-- GTH_FRAME [5:4]. -/
def F.gthFrame_sport : Fld := { blk := .gth, base := 0xC8060, lo := 4, len := 2, acc := .rw }
/-- GTH_FRAME [15:8]. -/
def F.gthFrame_group : Fld := { blk := .gth, base := 0xC8060, lo := 8, len := 8, acc := .rw }
/-- The register GTH_FRAME. -/
def R.gthFrame : RegDef :=
  { blk := .gth, base := 0xC8060,
    flds := [F.gthFrame_txen, F.gthFrame_rxen, F.gthFrame_ports, F.gthFrame_sport, F.gthFrame_group] }

/-- GTH_c_SRC [7:0]. -/
def F.gthSrc_sig : Fld := { blk := .gth, base := 0xC8100, s1 := 0x10, lo := 0, len := 8, acc := .rw }
/-- GTH_c_SRC [12:8]. -/
def F.gthSrc_inst : Fld := { blk := .gth, base := 0xC8100, s1 := 0x10, lo := 8, len := 5, acc := .rw }
/-- The register GTH_c_SRC. -/
def R.gthSrc : RegDef :=
  { blk := .gth, base := 0xC8100, n1 := 8, s1 := 0x10, sp := .gthSrc,
    flds := [F.gthSrc_sig, F.gthSrc_inst] }

/-- GTH_c_FMT [5:0]. -/
def F.gthFmt_sh : Fld := { blk := .gth, base := 0xC8104, s1 := 0x10, lo := 0, len := 6, acc := .rw }
/-- GTH_c_FMT [8:6]. -/
def F.gthFmt_xb : Fld := { blk := .gth, base := 0xC8104, s1 := 0x10, lo := 6, len := 3, acc := .rw, rng := some (0, 6) }
/-- GTH_c_FMT [9]. -/
def F.gthFmt_avg : Fld := { blk := .gth, base := 0xC8104, s1 := 0x10, lo := 9, len := 1, acc := .rw }
/-- The register GTH_c_FMT. -/
def R.gthFmt : RegDef :=
  { blk := .gth, base := 0xC8104, n1 := 8, s1 := 0x10, sp := .gthCfg,
    flds := [F.gthFmt_sh, F.gthFmt_xb, F.gthFmt_avg] }

/-- GTH_c_AVAIL [31:0]. -/
def F.gthAvail_avail : Fld := { blk := .gth, base := 0xC8108, s1 := 0x10, lo := 0, len := 32, acc := .ro }
/-- The register GTH_c_AVAIL. -/
def R.gthAvail : RegDef :=
  { blk := .gth, base := 0xC8108, n1 := 8, s1 := 0x10,
    flds := [F.gthAvail_avail] }

/-- GTH_c_ST [0]. -/
def F.gthChst_late : Fld := { blk := .gth, base := 0xC810C, s1 := 0x10, lo := 0, len := 1, acc := .w1c }
/-- GTH_c_ST [1]. -/
def F.gthChst_clip : Fld := { blk := .gth, base := 0xC810C, s1 := 0x10, lo := 1, len := 1, acc := .w1c }
/-- The register GTH_c_ST. -/
def R.gthChst : RegDef :=
  { blk := .gth, base := 0xC810C, n1 := 8, s1 := 0x10,
    flds := [F.gthChst_late, F.gthChst_clip] }

/-- The registers of GTH. -/
def regsGth : List RegDef :=
  [R.gthCtrl, R.gthDiv, R.gthLag, R.gthPre, R.gthPost, R.gthHold, R.gthRivl, R.gthTrig, R.gthTlevel, R.gthThyst, R.gthCmd, R.gthStat] ++
  [R.gthCnt, R.gthTinfo, R.gthTfrac, R.gthTsec, R.gthTns, R.gthTfr, R.gthT0sec, R.gthT0ns, R.gthRows, R.gthTrigDly, R.gthTbout, R.gthFrame] ++
  [R.gthSrc, R.gthFmt, R.gthAvail, R.gthChst]

/-! Registers of PNT (chapter 09). -/

/-- PL_n_CTRL [0]. -/
def F.plCtrl_run : Fld := { blk := .pnt, base := 0x104000, s1 := 0x10000, lo := 0, len := 1, acc := .rwo }
/-- PL_n_CTRL [1]. -/
def F.plCtrl_bind : Fld := { blk := .pnt, base := 0x104000, s1 := 0x10000, lo := 1, len := 1, acc := .rw }
/-- PL_n_CTRL [4:2]. -/
def F.plCtrl_axis : Fld := { blk := .pnt, base := 0x104000, s1 := 0x10000, lo := 2, len := 3, acc := .rw }
/-- The register PL_n_CTRL. -/
def R.plCtrl : RegDef :=
  { blk := .pnt, base := 0x104000, n1 := 8, s1 := 0x10000, sp := .plCtrl, own := .lane,
    flds := [F.plCtrl_run, F.plCtrl_bind, F.plCtrl_axis] }

/-- PL_n_OUTEN [0]. -/
def F.plOuten_ffadd : Fld := { blk := .pnt, base := 0x104004, s1 := 0x10000, lo := 0, len := 1, acc := .rwo }
/-- PL_n_OUTEN [1]. -/
def F.plOuten_c1dem : Fld := { blk := .pnt, base := 0x104004, s1 := 0x10000, lo := 1, len := 1, acc := .rwo }
/-- PL_n_OUTEN [2]. -/
def F.plOuten_vfilt : Fld := { blk := .pnt, base := 0x104004, s1 := 0x10000, lo := 2, len := 1, acc := .rwo }
/-- PL_n_OUTEN [3]. -/
def F.plOuten_iq : Fld := { blk := .pnt, base := 0x104004, s1 := 0x10000, lo := 3, len := 1, acc := .rwo }
/-- PL_n_OUTEN [4]. -/
def F.plOuten_iqmode : Fld := { blk := .pnt, base := 0x104004, s1 := 0x10000, lo := 4, len := 1, acc := .rwo }
/-- PL_n_OUTEN [5]. -/
def F.plOuten_evt : Fld := { blk := .pnt, base := 0x104004, s1 := 0x10000, lo := 5, len := 1, acc := .rwo }
/-- The register PL_n_OUTEN. -/
def R.plOuten : RegDef :=
  { blk := .pnt, base := 0x104004, n1 := 8, s1 := 0x10000, sp := .plOuten, own := .lane,
    flds := [F.plOuten_ffadd, F.plOuten_c1dem, F.plOuten_vfilt, F.plOuten_iq, F.plOuten_iqmode, F.plOuten_evt] }

/-- PL_n_SCALE [5:0]. -/
def F.plScale_vsh : Fld := { blk := .pnt, base := 0x104008, s1 := 0x10000, lo := 0, len := 6, acc := .rwo, reset := 0x10, rng := some (0, 47) }
/-- PL_n_SCALE [13:8]. -/
def F.plScale_psh : Fld := { blk := .pnt, base := 0x104008, s1 := 0x10000, lo := 8, len := 6, acc := .rwo, reset := 0x10, rng := some (0, 47) }
/-- The register PL_n_SCALE. -/
def R.plScale : RegDef :=
  { blk := .pnt, base := 0x104008, n1 := 8, s1 := 0x10000, own := .lane,
    flds := [F.plScale_vsh, F.plScale_psh] }

/-- PL_n_HOOK_k [0]. -/
def F.plHook_en : Fld := { blk := .pnt, base := 0x104010, s1 := 0x10000, s2 := 4, lo := 0, len := 1, acc := .rwo }
/-- PL_n_HOOK_k [15:4]. -/
def F.plHook_entry : Fld := { blk := .pnt, base := 0x104010, s1 := 0x10000, s2 := 4, lo := 4, len := 12, acc := .rwo }
/-- PL_n_HOOK_k [31:16]. -/
def F.plHook_budget : Fld := { blk := .pnt, base := 0x104010, s1 := 0x10000, s2 := 4, lo := 16, len := 16, acc := .rwo, reset := 0x100, rng := some (1, 65535) }
/-- The register PL_n_HOOK_k. -/
def R.plHook : RegDef :=
  { blk := .pnt, base := 0x104010, n1 := 8, s1 := 0x10000, n2 := 3, s2 := 4, own := .lane,
    flds := [F.plHook_en, F.plHook_entry, F.plHook_budget] }

/-- PL_n_STAT [0]. -/
def F.plStat_running : Fld := { blk := .pnt, base := 0x104020, s1 := 0x10000, lo := 0, len := 1, acc := .ro, live := some .plStat_running }
/-- PL_n_STAT [1]. -/
def F.plStat_overrun : Fld := { blk := .pnt, base := 0x104020, s1 := 0x10000, lo := 1, len := 1, acc := .w1c }
/-- PL_n_STAT [2]. -/
def F.plStat_skip : Fld := { blk := .pnt, base := 0x104020, s1 := 0x10000, lo := 2, len := 1, acc := .w1c }
/-- PL_n_STAT [3]. -/
def F.plStat_late : Fld := { blk := .pnt, base := 0x104020, s1 := 0x10000, lo := 3, len := 1, acc := .w1c }
/-- PL_n_STAT [4]. -/
def F.plStat_fault : Fld := { blk := .pnt, base := 0x104020, s1 := 0x10000, lo := 4, len := 1, acc := .w1c }
/-- PL_n_STAT [5]. -/
def F.plStat_parity : Fld := { blk := .pnt, base := 0x104020, s1 := 0x10000, lo := 5, len := 1, acc := .w1c }
/-- PL_n_STAT [6]. -/
def F.plStat_sat : Fld := { blk := .pnt, base := 0x104020, s1 := 0x10000, lo := 6, len := 1, acc := .w1c }
/-- PL_n_STAT [7]. -/
def F.plStat_accsat : Fld := { blk := .pnt, base := 0x104020, s1 := 0x10000, lo := 7, len := 1, acc := .w1c }
/-- PL_n_STAT [9:8]. -/
def F.plStat_lasthook : Fld := { blk := .pnt, base := 0x104020, s1 := 0x10000, lo := 8, len := 2, acc := .ro }
/-- The register PL_n_STAT. -/
def R.plStat : RegDef :=
  { blk := .pnt, base := 0x104020, n1 := 8, s1 := 0x10000,
    flds := [F.plStat_running, F.plStat_overrun, F.plStat_skip, F.plStat_late, F.plStat_fault, F.plStat_parity, F.plStat_sat, F.plStat_accsat, F.plStat_lasthook] }

/-- PL_n_CYC [15:0]. -/
def F.plCyc_last : Fld := { blk := .pnt, base := 0x104024, s1 := 0x10000, lo := 0, len := 16, acc := .ro }
/-- PL_n_CYC [31:16]. -/
def F.plCyc_max : Fld := { blk := .pnt, base := 0x104024, s1 := 0x10000, lo := 16, len := 16, acc := .rc }
/-- The register PL_n_CYC. -/
def R.plCyc : RegDef :=
  { blk := .pnt, base := 0x104024, n1 := 8, s1 := 0x10000,
    flds := [F.plCyc_last, F.plCyc_max] }

/-- PL_n_CNT [15:0]. -/
def F.plCnt_overruns : Fld := { blk := .pnt, base := 0x104028, s1 := 0x10000, lo := 0, len := 16, acc := .rc }
/-- PL_n_CNT [31:16]. -/
def F.plCnt_skips : Fld := { blk := .pnt, base := 0x104028, s1 := 0x10000, lo := 16, len := 16, acc := .rc }
/-- The register PL_n_CNT. -/
def R.plCnt : RegDef :=
  { blk := .pnt, base := 0x104028, n1 := 8, s1 := 0x10000,
    flds := [F.plCnt_overruns, F.plCnt_skips] }

/-- PL_n_FLT [11:0]. -/
def F.plFlt_pc : Fld := { blk := .pnt, base := 0x10402C, s1 := 0x10000, lo := 0, len := 12, acc := .ro }
/-- PL_n_FLT [15:12]. -/
def F.plFlt_cause : Fld := { blk := .pnt, base := 0x10402C, s1 := 0x10000, lo := 12, len := 4, acc := .ro }
/-- The register PL_n_FLT. -/
def R.plFlt : RegDef :=
  { blk := .pnt, base := 0x10402C, n1 := 8, s1 := 0x10000,
    flds := [F.plFlt_pc, F.plFlt_cause] }

/-- PL_n_PARAM_k [31:0]. -/
def F.plParam_value : Fld := { blk := .pnt, base := 0x104100, s1 := 0x10000, s2 := 4, lo := 0, len := 32, acc := .rw }
/-- The register PL_n_PARAM_k. -/
def R.plParam : RegDef :=
  { blk := .pnt, base := 0x104100, n1 := 8, s1 := 0x10000, n2 := 16, s2 := 4,
    flds := [F.plParam_value] }

/-- PL_n_OUT_k [31:0]. -/
def F.plOut_value : Fld := { blk := .pnt, base := 0x104200, s1 := 0x10000, s2 := 4, lo := 0, len := 32, acc := .ro }
/-- The register PL_n_OUT_k. -/
def R.plOut : RegDef :=
  { blk := .pnt, base := 0x104200, n1 := 8, s1 := 0x10000, n2 := 12, s2 := 4,
    flds := [F.plOut_value] }

/-- The registers of PNT. -/
def regsPnt : List RegDef :=
  [R.plCtrl, R.plOuten, R.plScale, R.plHook, R.plStat, R.plCyc, R.plCnt, R.plFlt, R.plParam, R.plOut]

end Sys2Proof.Machine
end

