-- ==== Sys2Proof/Machine/StPlat.lean ====
section
/-!
DEFINITION. State of the platform: reset sequencer (16_power_reset_boot.md), commands, responses and
frames (01_line_and_tick.md, 11_network_ports.md), event recorder (17_management_and_log.md).
-/

namespace Sys2Proof.Machine

/-- Response codes (R13, 00_scope.md). -/
inductive Code where
  | ok | discarded | violation | loopClosed | wrongState | range | parity | noSuchAddress
  | queueFull | timeStepRefused | tagInUse | notVerified
deriving DecidableEq, Repr

/-- The main reset sources (R380, 16_power_reset_boot.md): the RESET_N ball and the power-on monitors
of VCORE, VIO, VA and VDRV. -/
inductive MainSrc where
  | resetN | core | io | a | drv
deriving DecidableEq, Repr

/-- Where the release sequence stands (R382 to R386, 16_power_reset_boot.md). -/
inductive SeqPhase where
  /-- No sequence since the last assertion of a main source. -/
  | held
  /-- The source and then the PLL are awaited (R383). -/
  | source
  /-- The source has proved good and the PLL is starting (R383). -/
  | pll
  /-- Step `i` awaits CLKGOOD of its domain (R384). -/
  | step (i : Nat)
  /-- RST_GAP clocks after the release of step `i` (R384). -/
  | gap (i : Nat)
  /-- All thirteen steps made. -/
  | done
  /-- Stopped (R386). -/
  | stopped
deriving DecidableEq, Repr

/-- The reset sequencer and the supplies it watches. -/
structure Seq where
  /-- Domains released so far, in the order of R384 (R384, 16_power_reset_boot.md); reset 0. -/
  released : Nat := 0
  /-- Where the sequence stands (R382 to R386, 16_power_reset_boot.md); reset: held. -/
  phase : SeqPhase := .held
  /-- Main sources asserted since the previous sequence start (R387, 16_power_reset_boot.md); reset DESIGN CHOICE the four rails of the main
  power-on reset. -/
  since : List MainSrc := [.core, .io, .a, .drv]
  /-- A sequence was cut short since the previous sequence start (R382, 16_power_reset_boot.md); reset false. -/
  cut : Bool := false
  /-- The backup power-on reset is asserted (R380, R381, 16_power_reset_boot.md); reset false. -/
  backup : Bool := false
  /-- CLKSRC as sampled at the sequence start, true for SYNCCLK (R383, R66); reset DESIGN CHOICE false (crystal). -/
  clksrc : Bool := false
  /-- The high-voltage buck runs (R377, 16_power_reset_boot.md); reset DESIGN CHOICE true. -/
  buck : Bool := true
  /-- Root time from which VDRV, VIO, VCORE and VA stand at their levels, ps (R377, 16_power_reset_boot.md); reset 0. -/
  railsAt : Nat := 0
  /-- Root time of the start of the sequence, of the present step or of the latest release, ps (R383, R384, R386, 16_power_reset_boot.md); reset 0. -/
  at_ : Nat := 0
deriving DecidableEq, Repr

/-- A command record waiting in Q_16 to Q_19 (R300, R301, 11_network_ports.md). -/
structure CmdRec where
  /-- OP: 1 READ, 2 WRITE, 3 MASKED_WRITE, 4 QUEUE_PUSH. -/
  op : Nat
  tag : Nat
  count : Nat
  addr : Nat
  data : List Nat
  /-- Source MAC of the CMD frame, to which the answer goes (R303). -/
  mac : Nat := 0
deriving DecidableEq, Repr

/-- A response record in Q_21 (R303, 11_network_ports.md). -/
structure Rsp where
  port : Nat
  code : Code
  tag : Nat
  op : Nat
  addr : Nat
  data : List Nat := []
  mac : Nat := 0
deriving DecidableEq, Repr

/-- An event record (R416, 17_management_and_log.md). -/
structure Rec where
  code : Nat
  sev : Nat
  tbv : Bool
  src : Nat
  seq : Nat := 0
  opsec : Nat
  pwrcyc : Nat
  suppr : Nat := 0
  tsec : Nat
  tns : Nat
  d0 : Nat
  d1 : Nat
deriving DecidableEq, Repr

/-- An occurrence that waits in one of the four places of its block for a full Q_28 (R417). -/
structure Occ where
  code : Nat
  sev : Nat
  src : Nat
  d0 : Nat
  d1 : Nat
deriving DecidableEq, Repr

/-- A record held on chip, and whether it stands in the flash ring (R419, R420). -/
structure ChipRec where
  r : Rec
  written : Bool := false
deriving DecidableEq, Repr

/-- The event recorder (17_management_and_log.md). -/
structure EvrH where
  /-- Q_28, recorder write, at most 64 (R39, R417, 01_line_and_tick.md); reset empty. -/
  q28 : List Rec := []
  /-- Leading records of Q_28 whose order is settled: those pushed before the present FABRIC clock (R417, 17_management_and_log.md); reset 0. -/
  settled : Nat := 0
  /-- FABRIC clock in which the recorder last took a record from Q_28 (R418, 17_management_and_log.md); reset none. -/
  tookAt : Option Nat := none
  /-- Occurrences waiting in the blocks' places, four each (R417, 17_management_and_log.md); reset empty. -/
  waiting : List Occ := []
  /-- Suppressed count of each code (R418, 17_management_and_log.md); reset 0. -/
  suppr : Tbl Nat := []
  /-- Token buckets by code (R418, 17_management_and_log.md); an unlisted bucket holds `full`. -/
  tokens : Tbl Nat := []
  /-- Interval of EVR_RL.IVL in which the bucket of a code last gained its token (R418, 17_management_and_log.md); reset none. -/
  refilled : Tbl Nat := []
  /-- Level of every bucket not listed (R418, R423, 17_management_and_log.md); reset 8, EVR_RL.BURST after reset. -/
  full : Nat := 8
  /-- Records on chip, oldest first, at most 4,096 (R419, 17_management_and_log.md); reset empty. -/
  chip : List ChipRec := []
  /-- Next SEQ (R422, 17_management_and_log.md); reset 1. -/
  nextSeq : Nat := 1
  /-- Sector of the flash ring last erased for writing (R420, 17_management_and_log.md); reset none. -/
  sector : Option Nat := none
  /-- Records written to the flash ring since reset (R425, 17_management_and_log.md); reset 0. -/
  writes : Nat := 0
  /-- EVR_CURSOR of each partner port code (R421, 17_management_and_log.md); reset 0. -/
  cursor : Tbl Nat := []
  /-- Latched record window of each partner port code (R421, 17_management_and_log.md); reset none. -/
  win : Tbl Rec := []
  /-- The fetch buffer (R421, 17_management_and_log.md); reset empty. -/
  fetchBuf : List Rec := []
  /-- SEQ from which a fetch is asked for (R421, 17_management_and_log.md); reset none. -/
  fetchReq : Option Nat := none
  /-- EVR_CLEARED is the first record after a clear: port and records removed (R423); reset none. -/
  cleared : Option (Nat × Nat) := none
  /-- Records admitted since the last health record (R428, 17_management_and_log.md); reset 0. -/
  admitted : Nat := 0
deriving DecidableEq, Repr

/-- A frame on a port: addresses, EtherType and the bytes after it, and whether its check sequence is good (R63, R289, R290). -/
structure Frame where
  dst : Nat
  src : Nat
  etype : Nat
  body : List Nat
  fcs : Bool := true
deriving DecidableEq, Repr

/-- A taken EVX frame with its receiving port, and whether it has passed the checks of R297. -/
structure RxFrame where
  port : Nat
  frame : Frame
  checked : Bool := false
deriving DecidableEq, Repr

/-- What a PTP frame takes up as it leaves a port (R59, R61 to R63). -/
inductive PtpFill where
  /-- Nothing. -/
  | none
  /-- An own Sync: its origin. -/
  | sync
  /-- A forwarded Sync under the transparent clock: link delay and residence time. -/
  | residence
  /-- An own Pdelay_Req: its egress stamp is kept as t1. -/
  | request
  /-- An own Pdelay_Resp: the turnaround since the ingress stamp t2, 2^-16 ns, of a base, a time base or 4 for the root count. -/
  | turnaround (t2 : Int) (base : Nat)
deriving DecidableEq, Repr

/-- A frame waiting for an egress port (R295, 11_network_ports.md). -/
structure Waiting where
  /-- Class in the order of R295: 1 PTP, 2 SAFE, 3 STATUS, 4 forwarded, 5 TRIG, 6 RSP, 7 EVENT, 8 BULK. -/
  cls : Nat
  frame : Frame
  /-- Root time of arrival at the egress, ps; the residence time of a held frame runs from it (R293). -/
  at_ : Nat := 0
  /-- Slot instant of a STATUS frame, ns of the port's time base (R305). -/
  slot : Nat := 0
  /-- What the frame takes up as it leaves (R59, R61 to R63). -/
  fill : PtpFill := .none
  /-- Receiving port of a forwarded frame, 5 for an own frame. -/
  from_ : Nat := 5
deriving DecidableEq, Repr

/-- One entry of the duplicate table (R294, 11_network_ports.md). -/
structure DupSrc where
  mac : Nat
  high : Nat
  /-- Bit i: the SEQ value `high - 1 - i` has been seen. -/
  seen : Nat := 0
deriving DecidableEq, Repr

/-- A SAFE frame in Q_24 with its receiving port (R308, 11_network_ports.md). -/
structure SafeIn where
  port : Nat
  body : List Nat
deriving DecidableEq, Repr

/-- A TRIG frame in Q_25 (R309, 11_network_ports.md). -/
structure TrigIn where
  group : Nat
  sec : Nat
  ns : Nat
  frac : Nat
deriving DecidableEq, Repr

/-- The network ports, the command engine and the network-side queues. -/
structure NetH where
  /-- Q_16 to Q_19, commands in, 32 each, by partner port code 0 to 3 (R39, 01_line_and_tick.md); reset empty. -/
  cmdq : Tbl (List CmdRec) := []
  /-- Tags in flight, with the port that issued each (R40, 01_line_and_tick.md); reset none. -/
  inflight : List (Nat × Nat) := []
  /-- The port the command engine looks at first (R302, 11_network_ports.md); reset DESIGN CHOICE 0. -/
  turn : Nat := 0
  /-- Q_21, responses out, 64 (R39, 01_line_and_tick.md); reset empty. -/
  q21 : List Rsp := []
  /-- Answers whose execution waits for a full Q_21, and whether each releases its tag, which the answer to a record refused at acceptance
  does not (R39, R301, 01_line_and_tick.md); reset empty. -/
  rspWait : List (Rsp × Bool) := []
  /-- Tags whose response has entered Q_21 in the present clock: they are in flight until its end (R40, 01_line_and_tick.md); reset none. -/
  released : List Nat := []
  /-- Q_22, event push out, 32 (R39, 01_line_and_tick.md); reset empty. -/
  q22 : List Rec := []
  /-- Q_24, SAFE in, 4 (R39, R308); reset empty. -/
  q24 : List SafeIn := []
  /-- Q_25, TRIG frames, 8 (R39, R309); reset empty. -/
  q25 : List TrigIn := []
  /-- Taken EVX frames with a good check sequence not yet acted on, oldest first (R292, R297, 11_network_ports.md); reset empty. -/
  rxq : List RxFrame := []
  /-- Frames waiting for egress, by port 0 for P_1 and 1 for P_2 (R295, 11_network_ports.md); those of class 3 are Q_23, STATUS out, of which a port holds at most one (R39, R305); reset empty. -/
  egress : Tbl (List Waiting) := []
  /-- The frame last sent on each port, by port 0 and 1 (R295, 11_network_ports.md); reset none. -/
  wire : Tbl Frame := []
  /-- An egress port is sending, by port 0 and 1 (R295, 11_network_ports.md); reset false. -/
  busy : Tbl Bool := []
  /-- The receiving port of the frame last sent, 5 for an own frame, and the root time of its start, ps, by port 0 and 1 (R290,
  11_network_ports.md); reset none. -/
  sending : Tbl (Nat × Nat) := []
  /-- The STATUS snapshot: its slot instant, ns, and the words read so far, by the port of the slot (R305, 11_network_ports.md); reset none. -/
  snap : Tbl (Nat × List Nat) := []
  /-- Slot instant of the last STATUS frame, ns, by port 0 and 1 (R305, 11_network_ports.md); reset none. -/
  slot : Tbl Nat := []
  /-- What was last sent on the host port, as words on HMISO, and on the service port, as bytes on the line, by partner port code
  (R311 to R313); reset none. -/
  serial : Tbl (List Nat) := []
  /-- The duplicate table, least recently seen first, at most 64 (R294, 11_network_ports.md); reset empty. -/
  dup : List DupSrc := []
  /-- SEQ of the next EVX frame sent (R296, 11_network_ports.md); reset DESIGN CHOICE 0. -/
  txSeq : Nat := 0
  /-- Frames dropped since the last NET_FRAME_DROP record, by port code (R314, 11_network_ports.md); reset 0. -/
  drops : Tbl Nat := []
  /-- Both ports act as LINE without local take until configured (R291, 11_network_ports.md); reset true. -/
  preconfig : Bool := true
  /-- Receive domains on their recovered clocks, by port (R385, 16_power_reset_boot.md); reset none. -/
  recovered : Tbl Nat := []
  /-- STLATE of the previous STATUS frame (R305, 11_network_ports.md); reset false. -/
  prevLate : Bool := false
deriving DecidableEq, Repr

end Sys2Proof.Machine
end

