-- ==== Sys2Proof/Machine/StMotion.lean ====
section
/-!
DEFINITION. State of the motion blocks: time bases and launches (02_time_bases.md), master channels and
couplings (03_gaffer_and_gearing.md), axes and profiles (04_profiles_and_stepping.md), loops
(05_marver_loops.md). What a register shows as a plain field is a cell of the register file; what stands
here is the state behind the registers.

Times on a time base are integers in units of 2^-16 ns since its zero. Quantities in Q48.16 or Q32.32
are the integers of that format.
-/

namespace Sys2Proof.Machine

/-- A time base TB_n (R45, R46, 02_time_bases.md). -/
structure TbH where
  /-- The value in units of 2^-40 ns, below 2^48 s (R45, R46, 02_time_bases.md); reset DESIGN CHOICE 0. -/
  val : Nat := 0
  /-- The servo integrator, 2^-40 ns/ns (R55, 02_time_bases.md); reset DESIGN CHOICE 0. -/
  integ : Int := 0
  /-- Consecutive offsets within the lock window (R50, 02_time_bases.md); reset 0. -/
  locks : Nat := 0
  /-- Root time of the last valid measurement, or of entry to the state, ps (R50, 02_time_bases.md); reset 0. -/
  lastMeas : Nat := 0
  /-- Root time of the latest step, ps (R54, 02_time_bases.md); reset none. -/
  stepAt : Option Nat := none
  /-- Root time since which RATE has stood at a limit, ps (R57, 02_time_bases.md); reset none. -/
  limSince : Option Nat := none
  /-- TB_RATE_AT_LIMIT has been logged for this stay at the limit (R57, 02_time_bases.md); reset false. -/
  limLogged : Bool := false
deriving DecidableEq, Repr

/-- A launch slot LCH_n (R74, R75, 02_time_bases.md). -/
structure LchH where
  /-- Committed launch time, SEC[31:0] and NS as ns (R75, 02_time_bases.md); reset 0. -/
  t : Nat := 0
  /-- The launch time had passed when it was committed or enabled, or a step of the time base jumped over it (R75, 02_time_bases.md); reset false. -/
  passed : Bool := false
deriving DecidableEq, Repr

/-- The issuer of a command that is answered later: port code, tag, OP and ADDR of its record, and the address of the word that waits. -/
structure Cmdr where
  port : Nat
  tag : Nat
  op : Nat := 2
  addr : Nat := 0
  mac : Nat := 0
  /-- The address of the word of the record that waits, which a refusal names (R303); none for the record's ADDR. -/
  word : Option Nat := none
deriving DecidableEq, Repr

/-- What is judged at the end of its TIME clock, when every other happening of that clock is known (R54, 02_time_bases.md). -/
inductive Judge where
  /-- A measurement of TB_n: ingress as root time, ps, offset and stamp in 2^-16 ns (R54, R64, R68). -/
  | meas (n ingress : Nat) (off stamp : Int)
  /-- A write of TB_n_CTRL that carries REARM or LOAD, as written (R51, R52, R54). -/
  | ctrl (by_ : Cmdr) (n w : Nat)
  /-- The enable check of AX_n (R54, R111). -/
  | enable (by_ : Cmdr) (n : Nat)
deriving DecidableEq, Repr

/-- Peer delay on a port (R65, 02_time_bases.md). -/
structure TsuH where
  /-- Unanswered Pdelay exchanges in a row (R65, 02_time_bases.md); reset 0. -/
  missed : Nat := 0
  /-- The filter has taken a sample (R65, 02_time_bases.md); reset false. -/
  loaded : Bool := false
  /-- Root time of the next Pdelay_Req, ps (R59, 02_time_bases.md); reset DESIGN CHOICE 0. -/
  next : Nat := 0
  /-- sequenceId of the next Pdelay_Req (R59, 02_time_bases.md); reset DESIGN CHOICE 0. -/
  seq : Nat := 0
  /-- Egress stamp t1 of the last Pdelay_Req, 2^-16 ns, and the base that supplied it, a time base or 4 for the root count (R62, R65,
  02_time_bases.md); reset none. -/
  req : Option (Int × Nat) := none
deriving DecidableEq, Repr

/-- Pulses made on the timed outputs and on TRIGBUS: ball (0 TOUT_0, 1 TOUT_1, 2 TRIGBUS), edge instant in
2^-16 ns of the time base and width in ns (R74, R130, R284). -/
structure Pulse where
  ball : Nat
  tb : Nat
  at_ : Int
  width : Nat
deriving DecidableEq, Repr

/-- The TIM block: time bases, launches, peer delay, root source. -/
structure TimH where
  /-- TB_0 to TB_3 (R45, 02_time_bases.md). -/
  tb : Tbl TbH := []
  /-- LCH_0 to LCH_15 (R74, 02_time_bases.md). -/
  lch : Tbl LchH := []
  /-- Peer delay of P_1 (0) and P_2 (1) (R65, 02_time_bases.md). -/
  tsu : Tbl TsuH := []
  /-- Pulses placed on TOUT_0, TOUT_1 and TRIGBUS, latest first, at most 16 (R74, R130, R284); reset none. -/
  pulses : List Pulse := []
  /-- Converter bursts started by launches, by leg-group mask of the latest (R74, 02_time_bases.md); reset none. -/
  burst : Option Nat := none
  /-- Root time at which the present holdover began, ps (R67, 02_time_bases.md); reset none. -/
  holdSince : Option Nat := none
  /-- What is judged at the end of the present TIME clock, in order of arrival (R54, 02_time_bases.md); reset none. -/
  judge : List Judge := []
deriving DecidableEq, Repr

/-- A gaffer segment (R79, 03_gaffer_and_gearing.md). -/
structure Seg where
  /-- T0 on the bound time base, 2^-16 ns modulo 2^32 s. -/
  t0 : Nat
  seq : Nat
  replace : Bool
  p : Nat
  v : Int
  a : Int
  j : Int
  /-- Horizon, ns. -/
  h : Nat
deriving DecidableEq, Repr

/-- A master channel GM_n (R77, R78, 03_gaffer_and_gearing.md). -/
structure GmH where
  /-- The segment live before the present one (R84, 03_gaffer_and_gearing.md); reset none. -/
  prev : Option Seg := none
  /-- The live segment (R78, 03_gaffer_and_gearing.md); reset none. -/
  live : Option Seg := none
  /-- Q_8 to Q_15: queued segments by rising T0, at most 8 (R39, R78, 03_gaffer_and_gearing.md); reset empty. -/
  queue : List Seg := []
  /-- The next accepted segment counts as in sequence (R77, R81, 03_gaffer_and_gearing.md); reset true. -/
  first : Bool := true
  /-- The grace has expired in this STALE (R88, R89, 03_gaffer_and_gearing.md); reset false. -/
  expired : Bool := false
  /-- Last evaluation: position, velocity, acceleration (R86, 03_gaffer_and_gearing.md); reset 0. -/
  pos : Nat := 0
  vel : Int := 0
  acc : Int := 0
deriving DecidableEq, Repr

/-- What a master gives an axis at a stage: position modulo 2^64, velocity, acceleration (R85, R94). -/
structure MVal where
  pos : Nat
  vel : Int
  acc : Int
deriving DecidableEq, Repr

/-- A command committed to an axis that waits for a stage (R108, R111, R162). -/
inductive Pend where
  /-- AX_n_CMD.CMD. -/
  | cmd (by_ : Cmdr) (c : Nat)
  /-- AX_n_ECMD as written. -/
  | ecmd (by_ : Cmdr) (bits : Nat)
deriving DecidableEq, Repr

/-- An entry of Q_0 to Q_7 (R116, 04_profiles_and_stepping.md). -/
structure QEnt where
  by_ : Cmdr
  words : List Nat
deriving DecidableEq, Repr

/-- A compare unit (R129 to R134, 04_profiles_and_stepping.md). -/
structure CmpH where
  /-- Compare position x_c, Q48.16 (R129); reset 0. -/
  xc : Int := 0
  /-- Crossing judged, action due at this time, with the direction of the crossing (R130); reset none. -/
  due : Option (Int × Bool) := none
deriving DecidableEq, Repr

/-- State of one loop (R160, 05_marver_loops.md). -/
inductive LState where
  | opened | closed | fault
deriving DecidableEq, Repr

/-- One PID loop (R148, 05_marver_loops.md). Terms carry 32 fraction bits below the output format. -/
structure LpH where
  /-- Loop state (R160, 05_marver_loops.md); reset OPEN. -/
  st : LState := .opened
  /-- A closing is due at the loop's next stage (R160, R161, 05_marver_loops.md); reset false. -/
  closing : Bool := false
  /-- An opening is due at the loop's next stage (R160, R162, 05_marver_loops.md); reset false. -/
  opening : Bool := false
  /-- Integrator, with 32 extra fraction bits (R148, 05_marver_loops.md); reset 0. -/
  i : Int := 0
  /-- Derivative state, with 32 extra fraction bits (R148, 05_marver_loops.md); reset 0. -/
  d : Int := 0
  /-- Error of the previous stage (R148, 05_marver_loops.md); reset 0. -/
  e : Int := 0
  /-- The PID state is rebuilt at the next stage as at a close (R166, 05_marver_loops.md); reset false. -/
  rebuild : Bool := false
  /-- Measurement of the previous stage (R148, 05_marver_loops.md); reset 0. -/
  y : Int := 0
  /-- Output, held while OPEN (R161, 05_marver_loops.md); reset 0. -/
  u : Int := 0
deriving DecidableEq, Repr

/-- A loop command waiting for its stage (R162, 05_marver_loops.md): the bit number of AX_n_LOOPCTL. -/
structure LoopPend where
  by_ : Cmdr
  bit : Nat
deriving DecidableEq, Repr

/-- Coupling of an axis (03_gaffer_and_gearing.md). -/
structure CplH where
  /-- Coupling accumulator C, Q48.16 (R92, 03_gaffer_and_gearing.md); reset 0. -/
  c : Int := 0
  /-- Engage or disengage position in force (R106, 03_gaffer_and_gearing.md); reset 0. -/
  e : Nat := 0
  /-- Blend distance in force (R107, 03_gaffer_and_gearing.md); reset 0. -/
  b : Nat := 0
  /-- Position by phase only (R106, 03_gaffer_and_gearing.md); reset false. -/
  phase : Bool := false
  /-- Master value of the previous position stage (R106, 03_gaffer_and_gearing.md); reset none. -/
  m : Option MVal := none
  /-- Gear remainder (R96, 03_gaffer_and_gearing.md); reset 0. -/
  rem : Nat := 0
  /-- Engage lag, Q48.16 (R107, 03_gaffer_and_gearing.md); reset 0. -/
  lag : Int := 0
  /-- Coupling velocity feedforward, weighted, Q48.16 (R97, R102, R107); reset 0. -/
  ffv : Int := 0
  /-- Coupling acceleration feedforward, weighted, Q48.16 (R97, R102, R107); reset 0. -/
  ffa : Int := 0
  /-- Causes of aborts due at the next position stage (R89, R90, R95, R110); reset none. -/
  due : List Nat := []
  /-- MSRC and MODE in force: those registers take effect at step 3 of a position stage (R108, 03_gaffer_and_gearing.md); reset 0. -/
  src : Nat × Nat := (0, 0)
  /-- Published as a local master: sample time, target, velocity, acceleration, Q48.16 (R94, R95); reset none. -/
  pub : Option (Int × Int × Int × Int) := none
deriving DecidableEq, Repr

/-- Profile generator of an axis (R120 to R128, 04_profiles_and_stepping.md). -/
structure PrfH where
  /-- Position p, Q48.16 (R120, 04_profiles_and_stepping.md); reset 0. -/
  p : Int := 0
  /-- Velocity v (R120, 04_profiles_and_stepping.md); reset 0. -/
  v : Int := 0
  /-- Acceleration a (R120, 04_profiles_and_stepping.md); reset 0. -/
  a : Int := 0
  /-- Target position, velocity or offset (R116, 04_profiles_and_stepping.md); reset 0. -/
  tgt : Int := 0
  /-- Limits in force, in the order VMAX, AMAX, DMAX, JMAX, DSTOP, JSTOP, Q48.16 (R121); reset as the registers. -/
  vmax : Int := 1000000 * 65536
  amax : Int := 10000000 * 65536
  dmax : Int := 10000000 * 65536
  jmax : Int := 1000000000 * 65536
  dstop : Int := 10000000 * 65536
  jstop : Int := 1000000000 * 65536
  /-- Committed limits waiting for a position stage: limit 0 to 5 and value (R121); reset none. -/
  lims : List (Nat × Int) := []
  /-- A reversal is planned on the present target (R125, 04_profiles_and_stepping.md); reset false. -/
  rvs : Bool := false
  /-- An overshoot is planned on the present target (R126, 04_profiles_and_stepping.md); reset false. -/
  ovs : Bool := false
deriving DecidableEq, Repr

/-- Step timer and stepper of an axis (R135 to R143, 04_profiles_and_stepping.md). -/
structure StpH where
  /-- Step count n (R135, 04_profiles_and_stepping.md); reset 0. -/
  n : Int := 0
  /-- n at the latest update instant (R138, 04_profiles_and_stepping.md); reset 0. -/
  nUpd : Int := 0
  /-- Expiry of the running timer, 2^-16 ns of the bound time base (R136, 04_profiles_and_stepping.md); reset none (idle). -/
  due : Option Int := none
  /-- Extrapolation base: t_k, x_k, v_k, a_k (R135, 04_profiles_and_stepping.md); reset 0. -/
  tk : Int := 0
  xk : Int := 0
  vk : Int := 0
  ak : Int := 0
  /-- DIR level and end of the last step pulse on the step output (R139, 04_profiles_and_stepping.md); reset low, none. -/
  dir : Bool := false
  pulseEnd : Option Int := none
  /-- Instant of the latest change of DIR, 2^-16 ns of the bound time base (R139, 04_profiles_and_stepping.md); reset none. -/
  dirAt : Option Int := none
  /-- Direction of an idle step that waits for the DIR setup time, 0 for none (R136, R139, 04_profiles_and_stepping.md); reset 0. -/
  owed : Int := 0
  /-- The driver stage was lost since the last ENABLE (R141, 04_profiles_and_stepping.md); reset false. -/
  lost : Bool := false
  /-- Consecutive valid ticks above THRESH (R143, 04_profiles_and_stepping.md); reset 0. -/
  stallCnt : Nat := 0
  /-- Coil currents of the previous current tick, Q1.31 of IFS (R142, 04_profiles_and_stepping.md); reset none. -/
  coil : Option (Int × Int) := none
deriving DecidableEq, Repr

/-- Outputs of an axis held by Marver (R154, R157, R166, 05_marver_loops.md). -/
structure OutH where
  /-- Currents, first voltage output and angle of the last current stage, for the lane taps (R259, 09_punty_lanes.md); reset 0. -/
  i0 : Int := 0
  i1 : Int := 0
  u0 : Int := 0
  theta : Nat := 0
  /-- Second voltage output of the last current stage (R153, R275); reset 0. -/
  u1 : Int := 0
  /-- Current demand from the velocity stage, Q1.31 of IFS (R157, 05_marver_loops.md); reset 0. -/
  idem : Int := 0
  /-- Duties of slots 0 to 3, Q1.31 (R154, 05_marver_loops.md); reset 0. -/
  duty : List Int := [0, 0, 0, 0]
  /-- Applied voltage of the coils, Q1.31 of VBUS, for the estimator (R142); reset 0. -/
  va : Int := 0
  vb : Int := 0
  /-- Selected demand w, Q48.16 (R155, 05_marver_loops.md); reset 0. -/
  w : Int := 0
  /-- Unreplayable stages since the last successful stage (R167, 05_marver_loops.md); reset 0. -/
  unrep : Nat := 0
  /-- Hold timer has expired and acts at the next position stage (R164, 05_marver_loops.md); reset false. -/
  holdDue : Bool := false
  /-- A state word the scrub found bad in both banks, which acts at the next stage: of the profile or coupling state or not, and its
  address (R426, R167, 17_management_and_log.md); reset none. -/
  scrub : Option (Bool × Nat) := none
deriving DecidableEq, Repr

/-- A velocity tick whose outer stages have not run (R26, R29, 01_line_and_tick.md): its update, its sample time in 2^-16 ns, and
whether it is a position tick. -/
structure OTick where
  j : Int
  ts : Int
  pos : Bool
deriving DecidableEq, Repr

/-- Tick bookkeeping of an axis (R26 to R30, 01_line_and_tick.md). -/
structure TickH where
  /-- Number j of the latest update (R26, 01_line_and_tick.md); reset none. -/
  j : Option Int := none
  /-- A current stage is due for that update (R26, R28, 01_line_and_tick.md); reset false. -/
  cur : Bool := false
  /-- Ticks whose outer stages have not run, oldest first (R26, R29, 01_line_and_tick.md); of a DISABLED axis the position tick at which
its commands take effect (R111); reset none. -/
  outer : List OTick := []
  /-- Sample time of the latest velocity tick, 2^-16 ns (R27, R134); reset 0. -/
  ts : Int := 0
  /-- Legs first drive at a period start at or after this time (R71, 02_time_bases.md); reset none. -/
  driveAt : Option Int := none
  /-- Root time of the latest start of a current (0), velocity (1) and position (2) stage, ps (R262); reset none. -/
  startAt : Tbl Nat := []
  /-- A STILL mode change is due at the next update (R140, 04_profiles_and_stepping.md); reset false. -/
  still : Bool := false
  /-- The feedback of that tick is due, should the axis be DISABLED (R134, 04_profiles_and_stepping.md); reset false. -/
  fb : Bool := false
deriving DecidableEq, Repr

/-- A velocity tick kept for the latch units (R244, R245): sample time, x_m, v_m, extrapolated or not, and the position of a word
that arrived after the tick had been extrapolated (R222). -/
structure VTick where
  t : Int
  x : Int
  v : Int
  ext : Bool := false
  late : Option Int := none
deriving DecidableEq, Repr

/-- Feedback of an axis as Marver holds it (R147, R219 to R222, 08_feedback_and_latching.md). -/
structure FbH where
  /-- x_m, Q48.16 counts (R219, 08_feedback_and_latching.md); reset 0. -/
  xm : Int := 0
  /-- v_m, Q48.16 counts/s (R221, 08_feedback_and_latching.md); reset 0. -/
  vm : Int := 0
  /-- Sample time of x_m, 2^-16 ns (R147, 05_marver_loops.md); reset 0. -/
  tv : Int := 0
  /-- x_m has been formed since the reset (R134, R160); reset false. -/
  have_ : Bool := false
  /-- Previous raw velocity of a counting channel, counts/s (R235, 08_feedback_and_latching.md); reset 0. -/
  raw : Rat := 0
  /-- Latest velocity ticks, newest first, at most 8 (R222, R244, R245, 08_feedback_and_latching.md); reset none. -/
  hist : List VTick := []
deriving DecidableEq, Repr

/-- An axis AX_n. -/
structure AxH where
  cpl : CplH := {}
  prf : PrfH := {}
  stp : StpH := {}
  out : OutH := {}
  tick : TickH := {}
  fb : FbH := {}
  /-- Compare units CMP_0 to CMP_3 (R129, 04_profiles_and_stepping.md). -/
  cmp : Tbl CmpH := []
  /-- Loops: 0 position, 1 velocity, 2 CUR0, 3 CUR1 (R145, 05_marver_loops.md). -/
  lp : Tbl LpH := []
  /-- AX_n_CMD and AX_n_ECMD commands waiting for the position stage (R108, R111); reset none. -/
  pend : List Pend := []
  /-- AX_n_LOOPCTL commands waiting for their stages (R162, 05_marver_loops.md); reset none. -/
  loopPend : List LoopPend := []
  /-- Q_0 to Q_7: axis command queue, 16 entries (R39, R116, 04_profiles_and_stepping.md); reset empty. -/
  queue : List QEnt := []
  /-- End state of the present stop is DISABLED (R114, 04_profiles_and_stepping.md); reset false. -/
  stopDis : Bool := false
  /-- Root time of entry to STOPPING, ps (R112, 04_profiles_and_stepping.md); reset 0. -/
  stopAt : Nat := 0
  /-- Position ticks at rest for AUTOSTILL (R112, 04_profiles_and_stepping.md); reset 0. -/
  rest : Nat := 0
  /-- The generator takes its position from x_m when the position loop next closes (R160): 0 no, 1 yes with its target, 2 yes, a
  motion entry having been taken since (04_profiles_and_stepping.md); reset 0. -/
  seize : Nat := 0
  /-- Sample time and target of the last position stage since the axis left DISABLED (R129, R134); reset none. -/
  tgtPrev : Option (Int × Int) := none
deriving DecidableEq, Repr

end Sys2Proof.Machine
end

