-- ==== Sys2Proof/Machine/StPower.lean ====
section
/-!
DEFINITION. State of the legs and trips (06_legs_and_gate_drive.md) and of the sense converters
(07_current_sensing.md).

Instants on a carrier are integers in units of 250 ps since the zero of the axis's time base (R69).
-/

namespace Sys2Proof.Machine

/-- What holds a leg against its compares (R188, R189, R195, 06_legs_and_gate_drive.md). -/
inductive Held where
  /-- Nothing. -/
  | free
  /-- Both gates low. -/
  | allOff
  /-- High side off, low side on, by LOW_SHORT. -/
  | lowShort
deriving DecidableEq, Repr

/-- What a span delivers (R174, 06_legs_and_gate_drive.md). -/
inductive Span where
  /-- No span: the leg is not driven. -/
  | none
  /-- The 0 % code. -/
  | zero
  /-- The 100 % code. -/
  | full
  /-- Edges from the compares. -/
  | edges
deriving DecidableEq, Repr

/-- A gate turn-on commanded and not yet made (R182, 06_legs_and_gate_drive.md): high side or low side, and
the commanded instant as root time, ps. -/
structure TurnOn where
  high : Bool
  at_ : Nat
deriving DecidableEq, Repr

/-- A leg LEG_n (06_legs_and_gate_drive.md). -/
structure LegH where
  /-- High-side gate on (R173, 06_legs_and_gate_drive.md); reset off. -/
  gh : Bool := false
  /-- Low-side gate on (R173, 06_legs_and_gate_drive.md); reset off. -/
  gl : Bool := false
  /-- Turn-on waiting for its instant or for the complementary gate (R182, 06_legs_and_gate_drive.md); reset none. -/
  want : Option TurnOn := none
  /-- Root time since which the high-side gate is on, ps (R185 blanking); reset none. -/
  ghSince : Option Nat := none
  /-- Root time since which the low-side gate is on, ps (R184, R202); reset none. -/
  glSince : Option Nat := none
  /-- Root time since which the low-side gate is off, ps (R208); reset 0. -/
  glOffSince : Nat := 0
  /-- Axis reaction or latch that holds the gates (R188, R191, R195, 06_legs_and_gate_drive.md); reset free. -/
  held : Held := .free
  /-- Span in progress (R178, 06_legs_and_gate_drive.md); reset none. -/
  span : Span := .none
  /-- Start of the period of that span, 250 ps units (R178); reset 0. -/
  per0 : Int := 0
  /-- Start and end of the span, 250 ps units (R178); reset 0. -/
  s0 : Int := 0
  s1 : Int := 0
  /-- Moved edges still due, as instants (R179, R180); reset none. -/
  ea : Option Int := none
  eb : Option Int := none
  /-- Requested high time with carry, t of R179; reset 0. -/
  t : Int := 0
  /-- Commanded high time made so far in the span, a of R179; reset 0. -/
  made : Int := 0
  /-- Commanded state: high, and since when within the span (R179); reset low. -/
  high : Bool := false
  hiSince : Int := 0
  /-- Commits that no update has taken yet: CMPA, CMPB, arrival in 250 ps units, oldest first (R28, R177); reset none. -/
  sh : List (Nat × Nat × Int) := []
  /-- A low-side on-interval of at least W since the last refresh period start (R184); reset false. -/
  lowSeen : Bool := false
  /-- The next commanded turn-on clears the latches (R191, R195): the axis has left DISABLED, REARM has been written, or the
  report was under REPORT_ONLY; reset false. -/
  left_ : Bool := false
  /-- Instant at which the low side of a refresh pulse goes off, 250 ps units (R184); reset none. -/
  refEnd : Option Int := none
  /-- The chopper is active (R193, 06_legs_and_gate_drive.md); reset false. -/
  chop : Bool := false
  /-- End of the brake's pull-in time, root ps (R194, 06_legs_and_gate_drive.md); reset none. -/
  pull : Option Nat := none
  /-- Tap table of the delay line, in ps (R210, 07_current_sensing.md); reset none. -/
  taps : List Nat := []
  /-- Corrected tap table loaded at the next period start (R210, 07_current_sensing.md); reset none. -/
  tapsNew : Option (List Nat) := none
  /-- Root time at which the latest low-side on-interval that has ended began, ps (R202, 07_current_sensing.md); reset none. -/
  glBegan : Option Nat := none
deriving DecidableEq, Repr

/-- Trip logic (06_legs_and_gate_drive.md). -/
structure TripH where
  /-- Groups over temperature (R187, 06_legs_and_gate_drive.md), bit g; reset none. -/
  ot : Nat := 0
  /-- Reaction in force on each axis, as 1 + the value of R188, 0 for none (R190); reset 0. -/
  react : Tbl Nat := []
  /-- Root time of the reaction that took each axis to FAULT, ps: further causes of that clock are resolved with it (R190); reset none. -/
  at_ : Tbl Nat := []
  /-- Root time since which the filter of each TRIP_k runs, ps (R186, 06_legs_and_gate_drive.md); reset 0. -/
  from_ : Tbl Nat := []
deriving DecidableEq, Repr

/-- A sample set under way (R200, R206, 07_current_sensing.md). -/
structure SSet where
  /-- Start of its period, 250 ps units (R200). -/
  per : Int
  /-- Holds whose instant has passed, made or not (R200, R206). -/
  k : Nat
  /-- Valid codes so far (R202, R203). -/
  codes : List Int
  /-- OFS and GEFF in force at its first hold (R207). -/
  corr : Int × Nat
deriving DecidableEq, Repr

/-- A hold that waits for the converter (R197, R206, 07_current_sensing.md): its instant as root time, ps, the period of its set, and its
validity (R202). -/
structure HeldS where
  at_ : Int
  per : Int
  valid : Bool
deriving DecidableEq, Repr

/-- A complete sample set (R203, 07_current_sensing.md): its sample time in 2^-16 ns, its value in Q1.31 of IFS, none without a valid hold,
and the root time at which it was ready, ps (R205). -/
structure SDone where
  ts : Int
  i : Option Int
  ready : Nat
deriving DecidableEq, Repr

/-- Sampling state of a leg (07_current_sensing.md). -/
structure SnsH where
  /-- The hold not yet converted (R206, 07_current_sensing.md); reset none. -/
  hold : Option HeldS := none
  /-- Sets under way, oldest first (R200, 07_current_sensing.md); reset none. -/
  sets : List SSet := []
  /-- Instant of the latest hold made or skipped, 250 ps units (R200, 07_current_sensing.md); reset none. -/
  last : Option Int := none
  /-- Root time of the latest hold made, ps (R207, R209, 07_current_sensing.md); reset none. -/
  heldAt : Option Int := none
  /-- The latest complete sets since the axis left DISABLED, newest first, at most two (R27, R203, 07_current_sensing.md); reset none. -/
  done : List SDone := []
  /-- Value used last by a current stage since the axis left DISABLED, Q1.31 of the slot-0 IFS (R204, 07_current_sensing.md); reset none. -/
  prev : Option Int := none
  /-- Consecutive sets reused (R215, 07_current_sensing.md); reset 0. -/
  reused : Nat := 0
  /-- Period in which a skip has been logged last, 250 ps units (R206, 07_current_sensing.md); reset none. -/
  skipLog : Option Int := none
  /-- OFS has been loaded since reset (R208, 07_current_sensing.md); reset false. -/
  ofsLoaded : Bool := false
  /-- Root time of the last offset update, ps (R208, 07_current_sensing.md); reset 0. -/
  ofsAt : Nat := 0
  /-- OFS before that update (R207, 07_current_sensing.md); reset 0. -/
  ofsOld : Int := 0
  /-- Root time of the last BST conversion, ps (R214, 07_current_sensing.md); reset none. -/
  bstAt : Option Nat := none
deriving DecidableEq, Repr

/-- Calibration state of a group (07_current_sensing.md). -/
structure GrpH where
  /-- GINJ has been loaded since reset (R209); reset false. -/
  ginjLoaded : Bool := false
  /-- Root time of the last update of GEFF, ps, and GEFF before it, Q2.30 (R207); reset 0 and 1.0. -/
  geffAt : Nat := 0
  geffOld : Nat := 0x40000000
deriving DecidableEq, Repr

/-- Round robin of an auxiliary converter (R211, R212, 07_current_sensing.md). -/
structure AuxH where
  /-- Root time at which the round-robin conversion in progress, or the next one, ends, ps (R211, R212); reset 250 ns. -/
  ends : Nat := 250000
  /-- That conversion is of VBUS (R211); reset true. -/
  vbus : Bool := true
  /-- Place in the list of the channel after it (R211); reset 0. -/
  pos : Nat := 0
deriving DecidableEq, Repr

/-- What SC_q holds (R212, 07_current_sensing.md): the codes of sin and cos, the sample time of the hold in 2^-16 ns, and the root times of
the hold and of the end of its conversions, ps. -/
structure ScHeld where
  s : Int
  c : Int
  ts : Int
  at_ : Nat
  ready : Nat
deriving DecidableEq, Repr

/-- The sense block. -/
structure SnsBlk where
  /-- Legs (07_current_sensing.md). -/
  leg : Tbl SnsH := []
  /-- Groups LG_0 to LG_5 (07_current_sensing.md). -/
  grp : Tbl GrpH := []
  /-- AUX_0 and AUX_1 (R211, 07_current_sensing.md). -/
  aux : Tbl AuxH := []
  /-- Values held for SC_0 to SC_3 (R212, 07_current_sensing.md); reset none. -/
  sc : Tbl ScHeld := []
  /-- Corrected tables of the TDC channels, in ps (R210, 07_current_sensing.md); reset none. -/
  tdc : Tbl (List Nat) := []
  /-- Calibrations made since reset: offset of LEG_n under n, injections of LG_g under 100 + g, unit u of DELAY_LINE_CALIBRATION under 200 + u
  (R425, 17_management_and_log.md); reset 0. -/
  cals : Tbl Nat := []
deriving DecidableEq, Repr

end Sys2Proof.Machine
end

