-- ==== Sys2Proof/Machine/StFbk.lean ====
section
/-!
DEFINITION. State of the feedback channels and latch units (08_feedback_and_latching.md) and of the check-value units
(15_check_units.md).

Sample times and stamps are in units of 2^-16 ns of the owner's time base.
-/

namespace Sys2Proof.Machine

/-- Parameters of a cyclic redundancy check (R369, 15_check_units.md). -/
structure CrcP where
  width : Nat := 32
  poly : Nat := 0x04C11DB7
  init : Nat := 0xFFFFFFFF
  refin : Bool := true
  refout : Bool := true
  xorout : Nat := 0xFFFFFFFF
deriving DecidableEq, Repr

/-- An absolute channel FA_n (08_feedback_and_latching.md). -/
structure FaH where
  /-- Last position field, FA_n_WORD (R227, 08_feedback_and_latching.md); reset 0. -/
  w : Nat := 0
  /-- Last valid position field since EN was set (R220, 08_feedback_and_latching.md); reset none. -/
  last : Option Nat := none
  /-- Position X in counts (R220, 08_feedback_and_latching.md); reset 0. -/
  x : Int := 0
  /-- Sample time of the last valid word (R222, R227, 08_feedback_and_latching.md); reset none. -/
  tv : Option Int := none
  /-- Frame in progress: requested sample time and root time of its start, ps (R225, R228); reset none. -/
  frame : Option (Int × Nat) := none
  /-- Sample time of the last request (R228, 08_feedback_and_latching.md); reset none. -/
  asked : Option Int := none
  /-- Root time before which no frame starts, ps (R225, 08_feedback_and_latching.md); reset 0. -/
  busyTill : Nat := 0
  /-- Check parameters copied when EN was set (R227, 08_feedback_and_latching.md); reset as CHK_0. -/
  crc : CrcP := {}
  /-- Delay measurement in progress: the delays measured so far, 2.5 ns units (R229); reset none. -/
  meas : Option (List Nat) := none
  /-- Measurement frames repeated (R229, 08_feedback_and_latching.md); reset 0. -/
  repeats : Nat := 0
deriving DecidableEq, Repr

/-- A counted step of an FQ channel: count after it, its stamp, its direction (R235). -/
structure FqStep where
  n : Int
  t : Int
  neg : Bool
deriving DecidableEq, Repr

/-- What input A or B of an FQ channel shows (R231, R238): the level of its ball FQA_q or FQB_q; the value of the cos (A) or the sin (B)
pair, in units of 2^-15 of full scale; and the number of consecutive FEEDBACK samples it has shown so. -/
structure FqLine where
  level : Bool
  pair : Int
  samples : Nat
deriving DecidableEq, Repr

/-- An incremental channel FQ_q (08_feedback_and_latching.md). -/
structure FqH where
  /-- Count (R231, 08_feedback_and_latching.md); reset 0. -/
  count : Int := 0
  /-- Filtered levels of A, B and Z after inversion (R231, 08_feedback_and_latching.md); reset DESIGN CHOICE low. -/
  a : Bool := false
  b : Bool := false
  z : Bool := false
  /-- Levels of the cos and the sin comparator (R238, 08_feedback_and_latching.md); reset DESIGN CHOICE low. -/
  ca : Bool := false
  cb : Bool := false
  /-- Direction of the last counted step, true negative (R234, 08_feedback_and_latching.md); reset none. -/
  dir : Option Bool := none
  /-- Counted steps still needed for a velocity, newest first (R235, 08_feedback_and_latching.md); reset none. -/
  steps : List FqStep := []
  /-- Stamps of the last illegal transitions, newest first, at most 15 (R233, 08_feedback_and_latching.md); reset none. -/
  bad : List Int := []
  /-- Index capture, FQ_q_IDX (R236, 08_feedback_and_latching.md); reset 0. -/
  idx : Int := 0
  /-- A capture has been made with no direction change since (R236, 08_feedback_and_latching.md); reset false. -/
  idxOk : Bool := false
  /-- SINCOS position X in 2^-16 counts and sample time of the last sample (R239, R241, 08_feedback_and_latching.md); reset 0, none. -/
  x : Int := 0
  xt : Option Int := none
  /-- The amplitude was not valid at the last sample (R239, 08_feedback_and_latching.md); reset false. -/
  amplBad : Bool := false
deriving DecidableEq, Repr

/-- An entry of a latch queue (R245, R247, 08_feedback_and_latching.md). -/
structure LtEnt where
  x : Int
  te : Int
  extrap : Bool
  old : Bool
deriving DecidableEq, Repr

/-- A latch unit LT_s with its TDC channel (08_feedback_and_latching.md). -/
structure LtH where
  /-- Events waiting for their bracketing tick, oldest first (R245, 08_feedback_and_latching.md); reset none. -/
  wait : List Int := []
  /-- Latch queue, at most 4 (R247, 08_feedback_and_latching.md); reset empty. -/
  q : List LtEnt := []
  /-- Root time of the last accepted edge, 40 ps units (R243, 08_feedback_and_latching.md); reset none. -/
  edge : Option Nat := none
  /-- Level of the input after its filter (R243, 08_feedback_and_latching.md); reset DESIGN CHOICE low. -/
  level : Bool := false
deriving DecidableEq, Repr

/-- The feedback block. -/
structure FbkBlk where
  /-- FA_0 to FA_7. -/
  fa : Tbl FaH := []
  /-- FQ_0 to FQ_3. -/
  fq : Tbl FqH := []
  /-- LT_0 to LT_7. -/
  lt : Tbl LtH := []
deriving DecidableEq, Repr

end Sys2Proof.Machine
end

