-- ==== Sys2Proof/Machine/StPnt.lean ====
section
/-!
DEFINITION. State of the Punty lanes (09_punty_lanes.md) and of Gather (10_gather.md).
-/

namespace Sys2Proof.Machine

/-- A repeat block (R254, 09_punty_lanes.md). -/
structure Rep where
  start : Nat
  stop : Nat
  count : Nat
  lc : Nat := 0
deriving DecidableEq, Repr

/-- A firing of a hook with the input taps and parameters sampled when it fell due (R259, R263, R269). -/
structure Firing where
  hook : Nat
  /-- Root time at which the hook fell due, ps (R264). -/
  dueAt : Nat := 0
  /-- Sample time of the tick whose stage ended, 2^-16 ns (R275). -/
  ts : Int := 0
  taps : List Nat
  params : List Nat
deriving DecidableEq, Repr

/-- A run in progress (R249, R264, 09_punty_lanes.md). -/
structure LaneRun where
  f : Firing
  /-- Program counter (R249); 4,096 is beyond the memory (R257). -/
  pc : Nat
  /-- Flags Z, N, V (R249). -/
  z : Bool := false
  n : Bool := false
  v : Bool := false
  /-- Repeat stack, innermost first, at most four (R249, R254). -/
  stack : List Rep := []
  /-- Cycles used (R252, R265). -/
  cycles : Nat := 0
  /-- Root time of the start, ps (R262). -/
  at_ : Nat := 0
  /-- Output taps written in this run, by index (R261). -/
  outs : Tbl Nat := []
deriving DecidableEq, Repr

/-- The last publication of a lane (R262, 09_punty_lanes.md). -/
structure Pub where
  /-- The MARVER edge at which the values arrive, root ps. -/
  edge : Nat
  /-- Root time of the start of the run that published, ps. -/
  start : Nat
  /-- Outputs published, bit by index. -/
  mask : Nat
  /-- Values before the publication, and the outputs that had been published by then. -/
  old : Tbl Nat
  oldPub : Nat
deriving DecidableEq, Repr

/-- A hook whose stage has ended: the update number and the sample time of its tick, and the root time at which it falls due, ps
(R263). -/
structure HookDue where
  j : Int
  ts : Int
  at_ : Nat
deriving DecidableEq, Repr

/-- A Punty lane PL_n (09_punty_lanes.md). -/
structure Lane where
  /-- D_0 to D_15, as 32-bit patterns (R249, 09_punty_lanes.md); reset DESIGN CHOICE 0. -/
  d : Tbl Nat := []
  /-- ACC_0 and ACC_1 (R249, 09_punty_lanes.md); reset DESIGN CHOICE 0. -/
  acc0 : Int := 0
  acc1 : Int := 0
  /-- A_0 to A_7 (R249, 09_punty_lanes.md); reset DESIGN CHOICE 0. -/
  a : Tbl Nat := []
  /-- M_0 to M_7, as 14-bit patterns (R249, 09_punty_lanes.md); reset DESIGN CHOICE 0. -/
  m : Tbl Nat := []
  /-- Instruction memory by word (R250, 09_punty_lanes.md); reset DESIGN CHOICE 0. -/
  imem : Tbl Nat := []
  /-- Data memory by word (R250, 09_punty_lanes.md); reset DESIGN CHOICE 0. -/
  dmem : Tbl Nat := []
  /-- The run in progress (R264, 09_punty_lanes.md); reset none. -/
  run : Option LaneRun := none
  /-- Firings waiting, in the order in which they fell due (R264, 09_punty_lanes.md); reset none. -/
  wait : List Firing := []
  /-- Hooks whose stage has ended and which have not fallen due yet (R263); reset none. -/
  due : Tbl HookDue := []
  /-- Outputs published since RUN was set, bit by index (R261, 09_punty_lanes.md); reset none. -/
  pub : Nat := 0
  /-- The last publication since RUN was set (R262, 09_punty_lanes.md); reset none. -/
  last : Option Pub := none
deriving DecidableEq, Repr

/-- A value of a Gather source with its reference instant (R275, 10_gather.md): on time base `tb` in 2^-16 ns, or for `tb` 4 in
root ps. -/
structure SigVal where
  tb : Nat
  t : Int
  v : Int
deriving DecidableEq, Repr

/-- A trigger of Gather (R280, 10_gather.md): kind 0 class S, 1 TDC, 2 FORCE, 3 TRIG frame, its instant on the reference time
base, 2^-16 ns, and its row where the row is given with it (R279, R280). -/
structure Trig where
  kind : Nat
  src : Nat := 0
  te : Int
  row : Option Int := none
deriving DecidableEq, Repr

/-- Gather (10_gather.md). -/
structure GthH where
  /-- Number of row 0 of the present arm (R274, R277, 10_gather.md); reset 0. -/
  row0 : Int := 0
  /-- Number of the next row to commit; none: the first one whose commit lies ahead (R276, 10_gather.md); reset none. -/
  next : Option Int := none
  /-- Committed rows in the buffer, with their number and time, newest first (R273, 10_gather.md); reset none. -/
  rows : List (Int × Int × List Nat) := []
  /-- Rows committed since the arm (R277, 10_gather.md); reset 0. -/
  count : Nat := 0
  /-- Number and time of the newest committed row (R281, 10_gather.md); reset none. -/
  newest : Option (Int × Int) := none
  /-- Stored word of the trigger channel in the previous row (R279, 10_gather.md); reset none. -/
  prevW : Option Int := none
  /-- The trigger word has been below L − Hy since the last qualified RISE (R279, 10_gather.md); reset false. -/
  low : Bool := false
  /-- The trigger word has been above L + Hy since the last qualified FALL (R279, 10_gather.md); reset false. -/
  high : Bool := false
  /-- The one waiting trigger (R281, 10_gather.md); reset none. -/
  wait : Option Trig := none
  /-- Number of the trigger row (R281, 10_gather.md); reset 0. -/
  trigRow : Int := 0
  /-- Rows committed since the arm before the trigger row (R277, 10_gather.md); reset 0. -/
  trigSeq : Nat := 0
  /-- The last capture in readout order, and its words per row (R282, 10_gather.md); reset none. -/
  cap : List (Int × List Nat) := []
  /-- Root time of entry to DONE, ps (R283, 10_gather.md); reset 0. -/
  doneAt : Nat := 0
  /-- Triggers counted towards the hold-off (R283, 10_gather.md); reset 0. -/
  held : Nat := 0
  /-- Bytes of the stream not yet put into Q_30 (R286, R310, 10_gather.md); reset none. -/
  rest : List Nat := []
  /-- Byte offset of the next BULK frame of the stream (R310, 11_network_ports.md); reset 0. -/
  offset : Nat := 0
  /-- Q_30: BULK frames of the stream, as LAST and payload, at most 16 (R39, R286, 01_line_and_tick.md); reset empty. -/
  q30 : List (Bool × List Nat) := []
  /-- Latest values of each source, newest first, by 32 × SIG + INST (R275, 10_gather.md); reset none. -/
  sigs : Tbl (List SigVal) := []
  /-- Edges selected in EMASK and not yet judged: TDC channel and instant (R280, 10_gather.md); reset none. -/
  edges : List (Nat × Int) := []
deriving DecidableEq, Repr

end Sys2Proof.Machine
end

