-- ==== Sys2Proof/Machine/StRest.lean ====
section
/-!
DEFINITION. State of the remaining blocks.
-/

namespace Sys2Proof.Machine

/-- Supplies, straps and fuses (16_power_reset_boot.md). -/
structure PwrH where
  /-- Fuse words FUSE_0 to FUSE_63 (R402, 16_power_reset_boot.md); reset DESIGN CHOICE 0 (blank). -/
  fuses : Tbl Nat := []
  /-- The fuse words in use since the last main reset (R403, 16_power_reset_boot.md); reset DESIGN CHOICE 0 (blank). -/
  inUse : Tbl Nat := []
  /-- Fuse word and bits being programmed (R403, 16_power_reset_boot.md); reset none. -/
  prog : Option (Nat × Nat) := none
  /-- VDRVSEL as sampled when the buck started (R378, 16_power_reset_boot.md); reset DESIGN CHOICE 0. -/
  sel : Nat := 0
  /-- PWR_VDRV.SET, 0.1 V (R378, 16_power_reset_boot.md); reset: the strapped level, 50 for VDRVSEL 0. -/
  vdrv : Nat := 50
  /-- The lower of the levels between which VDRV ramps, 0.1 V, and the root time of the end of the ramp, ps (R378, 16_power_reset_boot.md); reset none. -/
  ramp : Option (Nat × Nat) := none
  /-- Level from which the ramp of VDRV started, nV (R378, 16_power_reset_boot.md); reset 0. -/
  rampFrom : Nat := 0
  /-- Step at which a sequence stopped, not yet logged (R386, R404, 16_power_reset_boot.md); reset none. -/
  stopNote : Option Nat := none
deriving DecidableEq, Repr

/-- The quad-SPI flash (R391, 16_power_reset_boot.md), which no reset reaches. -/
structure FlashH where
  /-- Bytes of the firmware and image slots by address; an unlisted byte reads 0xFF, erased (R391, 16_power_reset_boot.md); reset DESIGN CHOICE erased. -/
  bytes : Tbl Nat := []
  /-- The event ring by slot; an unlisted slot is erased (R420, 17_management_and_log.md); reset DESIGN CHOICE erased. -/
  ring : Tbl Rec := []
  /-- The counter mirror: 0 RST_COUNT, 1 RST_PWRCYC, 2 MGT_OPSEC, each with its check; an unlisted one counts as 0 (R388,
  16_power_reset_boot.md); reset DESIGN CHOICE none. -/
  mirror : Tbl (Nat × Nat) := []
  /-- The journal by address (R427, 17_management_and_log.md); reset DESIGN CHOICE none. -/
  journal : Tbl Nat := []
deriving DecidableEq, Repr

/-- An update chunk in Q_31 (R410, 17_management_and_log.md): its issuer if it was pushed, and its contents. -/
structure Chunk where
  by_ : Option Cmdr
  stream : Nat
  offset : Nat
  data : List Nat
deriving DecidableEq, Repr

/-- A write to the wear-managed area of the flash (R388, R391, R427): a counter mirror, or the latest write of an address. -/
inductive FlashWr where
  | mirror (k v : Nat)
  | journal (addr w : Nat)
deriving DecidableEq, Repr

/-- The management core, its mailbox and Lehr (17_management_and_log.md). -/
structure MgtH where
  /-- Firmware has been started since the main reset (R397, 16_power_reset_boot.md); reset false. -/
  fwRun : Bool := false
  /-- IMAGE_SELECT has found no image (R401, 16_power_reset_boot.md); reset false. -/
  noImage : Bool := false
  /-- The write pass has failed (R400, 16_power_reset_boot.md); reset false. -/
  cfgFail : Bool := false
  /-- Q_26, mailbox in, at most 16 (R39, R407, 17_management_and_log.md); reset empty. -/
  q26 : List QEnt := []
  /-- Q_27, mailbox out, at most 16 records of 8 words (R39, R408, 17_management_and_log.md); reset empty. -/
  q27 : List (List Nat) := []
  /-- Q_29, writes to the wear-managed area, at most 32 (R39, R391, 01_line_and_tick.md); reset empty. -/
  q29 : List FlashWr := []
  /-- Staged writes that a flush has still to move into Q_29 (R39, R427, 17_management_and_log.md); reset 0. -/
  flush : Nat := 0
  /-- MGT_OPSEC waiting for room in Q_29 (R39, R422, 17_management_and_log.md); reset none. -/
  mirrorWait : Option Nat := none
  /-- Mailbox sequence number (R408, 17_management_and_log.md); reset DESIGN CHOICE 0. -/
  mbSeq : Nat := 0
  /-- Latched result record of each partner port code (R408, 17_management_and_log.md); reset none. -/
  mbWin : Tbl (List Nat) := []
  /-- Q_31, update chunks, at most 8 (R39, R410, 17_management_and_log.md); reset empty. -/
  q31 : List Chunk := []
  /-- LENGTH of the open stream (R409, 17_management_and_log.md); reset 0. -/
  updLen : Nat := 0
  /-- Bytes written in the open stream, by offset (R410, 17_management_and_log.md); reset none. -/
  updBytes : Tbl Nat := []
  /-- Slots verified since they were last opened, as 2 * kind + slot (R411, R412, R413, 17_management_and_log.md); reset none. -/
  verified : List Nat := []
  /-- A recycle that is under way or due: the root time, ps, at which it begins while CORE is not 1, or at which its hold of 1 ms ends, and its
  cause (R406, R412, 17_management_and_log.md); reset none. -/
  recycle : Option (Nat × Nat) := none
  /-- Root times of the last watchdog recycles, ps, newest first (R406, 17_management_and_log.md); reset none. -/
  wdTimes : List Nat := []
  /-- Sensors whose limit has been logged and not left (R414, 17_management_and_log.md); reset none. -/
  sensOut : List Nat := []
  /-- The ppm warning has been logged since this start (R415, 17_management_and_log.md); reset false. -/
  ppmLogged : Bool := false
  /-- Work done since reset: scrub passes 0, chunks taken 1, journal writes 2, mirror writes 3, health records 4 (R425,
  17_management_and_log.md); reset 0. -/
  did : Tbl Nat := []
  /-- Root time, ps, at which the window of the minimum of activity i began (R425, 17_management_and_log.md); reset none. -/
  lehrAt : Tbl Nat := []
  /-- What each user with work at the start of its activity's window had done by then (R425, 17_management_and_log.md); reset none. -/
  lehrBase : Tbl Nat := []
  /-- Staged writes not yet in the journal, oldest first, at most 1,024 (R427, 17_management_and_log.md); reset empty. -/
  stage : List (Nat × Nat) := []
  /-- Addresses whose latest write was lost to the journal (R427, 17_management_and_log.md); reset none. -/
  noSrc : List Nat := []
  /-- Replayed and reused stages since the last health record (R428, 17_management_and_log.md); reset 0. -/
  stages : Nat := 0
deriving DecidableEq, Repr

/-- A data frame on the CAN bus (R315, 12_can_port.md): identifier, extended, DLC, FD format, bit-rate switch, error-state
indicator, data bytes. -/
structure CanFrame where
  id : Nat
  ide : Bool := false
  dlc : Nat
  fdf : Bool := false
  brs : Bool := false
  esi : Bool := false
  data : List Nat := []
deriving DecidableEq, Repr

/-- A frame delivered to a receive object, with its time-stamp (R318, R320, 12_can_port.md). -/
structure CanRx where
  f : CanFrame
  sec : Nat
  ns : Nat
  lost : Bool := false
deriving DecidableEq, Repr

/-- A frame that the CAN port is sending: its object, start-of-frame instant and contents (R322, R323, R331, 12_can_port.md). -/
structure CanTx where
  obj : Nat
  sec : Nat
  ns : Nat
  f : CanFrame
deriving DecidableEq, Repr

/-- The CAN FD port (12_can_port.md). -/
structure CanH where
  /-- The port has integrated and takes part (R317, 12_can_port.md); reset false. -/
  ready : Bool := false
  /-- The bus is idle (R326, 12_can_port.md); reset false. -/
  idle : Bool := false
  /-- The level of activity in force (R326, 12_can_port.md); reset 0, LISTEN_ONLY. -/
  mode : Nat := 0
  /-- The frame being sent (R323, 12_can_port.md); reset none. -/
  tx : Option CanTx := none
  /-- The frame last offered at CANTX (R323, R331, 12_can_port.md); reset none. -/
  sent : Option CanTx := none
  /-- The abort of the object being sent has been asked for (R325, 12_can_port.md); reset false. -/
  abort : Bool := false
  /-- Start-of-frame instant of the frame on the bus, SEC[31:0] and NS (R318, 12_can_port.md); reset none. -/
  sof : Option (Nat × Nat) := none
  /-- The last frame on the bus was an attempt of this port (R328, 12_can_port.md); reset false. -/
  own : Bool := false
  /-- Root time until which an error-passive port suspends transmission, ps (R328, 12_can_port.md); reset 0. -/
  till : Nat := 0
  /-- The last error flag sent: true active, false passive (R328, 12_can_port.md); reset none. -/
  errFlag : Option Bool := none
  /-- The lowest activity level asked for in the last CAN clock with such a request, and the number of that clock (R326,
  12_can_port.md); reset none. -/
  asked : Option (Nat × Nat) := none
  /-- Q_20: entries of 19 words, at most 16 (R39, R324, 12_can_port.md); reset empty. -/
  q20 : List QEnt := []
  /-- The shadow of a locked receive object, by object (R320, 12_can_port.md); reset none. -/
  shadow : Tbl CanRx := []
  /-- Root time of the locking read, ps, by object (R320, 12_can_port.md); reset none. -/
  lockAt : Tbl Nat := []
deriving DecidableEq, Repr

/-- A write to a check unit (R370 to R375, 15_check_units.md). -/
inductive ChkWrite where
  /-- Bytes to DATA. -/
  | data (bytes : List Nat)
  | preset (p : Nat)
  | start
  | val (v : Nat)
  /-- CFG without PRESET (0), POLY (1), INIT (2) or XOROUT (3). -/
  | param (r v : Nat)
  | alvin (c : Nat)
  /-- ALVCFG.WIDTH and ARM. -/
  | alvcfg (width : Nat) (arm : Bool)
deriving DecidableEq, Repr

/-- A check unit CHK_k beside its registers (15_check_units.md). -/
structure ChkH where
  /-- Bytes being fed (R372, 15_check_units.md); reset none. -/
  feed : List Nat := []
  /-- Root time at which the clock after the last byte of the feed begins, ps (R372, R373, 15_check_units.md); reset 0. -/
  fedAt : Nat := 0
  /-- Accesses that wait for the feed, with their issuers (R373, 15_check_units.md); reset none. -/
  wait : List (Cmdr × ChkWrite) := []
  /-- Writes of the management core that arrived in the present FABRIC clock (R373, 15_check_units.md); reset empty. -/
  mgt : List (Cmdr × ChkWrite) := []
deriving DecidableEq, Repr

/-- What a launch or a compare asks of a field output (R335, 13_field_io.md): on, off, or a pulse whose width counts 40 ns clocks. -/
inductive FioAsk where
  | on
  | off
  | pulse (w : Nat)
deriving DecidableEq, Repr

/-- The field outputs and inputs (13_field_io.md). -/
structure FioH where
  /-- Requests of launches and compares not yet combined: output and request (R335, 13_field_io.md); reset none. -/
  asks : List (Nat × FioAsk) := []
  /-- Root time at which the pulse of an output ends, ps, by output (R336, 13_field_io.md); reset none. -/
  pulse : Tbl Nat := []
  /-- Root time of the last change of an output's drive, ps, by output (R341, 13_field_io.md); reset 0. -/
  switched : Tbl Nat := []
  /-- The REF clock of the latest requests for outputs, with the off and the on requests it has brought so far, bit k for FO_k
  (R335, 13_field_io.md); reset none. -/
  reqs : Nat × Nat × Nat := (0, 0, 0)
  /-- Root time at which the field supply last became NORMAL, ps (R343, R350, 13_field_io.md); reset 0. -/
  normalAt : Nat := 0
  /-- Levels of the input comparators, bit n for FI_n (R344, 13_field_io.md); reset DESIGN CHOICE low. -/
  raw : Nat := 0
  /-- Root time at which the watchdog expires, ps (R348, 13_field_io.md); reset none. -/
  wdAt : Option Nat := none
deriving DecidableEq, Repr

/-- The first copy of a pair of SAFE frames, with its receiving port and the root time at which it opened the window, ps
(R359, 14_safe_stop.md). -/
structure SafeFirst where
  port : Nat
  body : List Nat
  at_ : Nat
deriving DecidableEq, Repr

/-- The safe-stop block (14_safe_stop.md). -/
structure SafH where
  /-- A valid pair has been received since START (R355, 14_safe_stop.md); reset false. -/
  paired : Bool := false
  /-- The next valid pair may carry any ALIVE (R359, 14_safe_stop.md); reset true. -/
  fresh : Bool := true
  /-- The copy that opened the pair window (R359, 14_safe_stop.md); reset none. -/
  first : Option SafeFirst := none
  /-- Root time of the last valid pair while its timeout runs, ps (R359, 14_safe_stop.md); reset none. -/
  lastPair : Option Nat := none
  /-- Root time of the last valid pair since START, ps (R363, 14_safe_stop.md); reset none. -/
  pairAt : Option Nat := none
  /-- The REF clock of the latest failures, and their causes (R360, R363, 14_safe_stop.md); reset none. -/
  fails : Nat × List Nat := (0, [])
  /-- Root time at which SS1T expires, ps (R358, 14_safe_stop.md); reset none. -/
  ss1At : Option Nat := none
  /-- Root time of the end of START or of the last test pulse, ps (R357, 14_safe_stop.md); reset 0. -/
  pulseAt : Nat := 0
  /-- The safety section has been accepted (R365, 14_safe_stop.md); reset false. -/
  section_ : Bool := false
  /-- Root time of the last pass of a group, ps (R367, 14_safe_stop.md); reset 0. -/
  passAt : Tbl Nat := []
  /-- Groups whose missing pass has been logged (R367, 14_safe_stop.md); reset none. -/
  overdue : List Nat := []
  /-- Address read in the previous cycle if it was consistent (R364, 14_safe_stop.md); reset none. -/
  lastSeal : Option Nat := none
  /-- Consecutive inconsistent cycles (R364, 14_safe_stop.md); reset 0. -/
  incons : Nat := 0
  /-- Consecutive consistent cycles of one address other than the valid one (R364, 14_safe_stop.md); reset 0. -/
  diff : Nat := 0
deriving DecidableEq, Repr

end Sys2Proof.Machine
end

