-- ==== Sys2Proof/Machine/StDev.lean ====
section
/-!
DEFINITION. The device: every register cell and the state behind the registers, all plain data.
-/

namespace Sys2Proof.Machine

/-- The register file: one table of cells for each block. A cell is one register field; its index is
its bit address, 32 * address + lowest bit, and an unlisted cell holds the field's reset value (R12). -/
structure RegFile where
  glb : Tbl Nat := []
  rst : Tbl Nat := []
  evr : Tbl Nat := []
  mgt : Tbl Nat := []
  saf : Tbl Nat := []
  tim : Tbl Nat := []
  net : Tbl Nat := []
  can : Tbl Nat := []
  chk : Tbl Nat := []
  fio : Tbl Nat := []
  fbk : Tbl Nat := []
  leg : Tbl Nat := []
  sns : Tbl Nat := []
  axs : Tbl Nat := []
  gaf : Tbl Nat := []
  gth : Tbl Nat := []
  pnt : Tbl Nat := []
deriving DecidableEq, Repr

/-- The device beside its reset sequencer. -/
structure Dev where
  /-- Register cells (R12, 00_scope.md). -/
  regs : RegFile := {}
  /-- Root time, ps (R22, 01_line_and_tick.md); reset DESIGN CHOICE 0. -/
  now : Nat := 0
  /-- Index of the next free value; the model's own field, not the spec's. Reset DESIGN CHOICE 0. -/
  freeIdx : Nat := 0
  evr : EvrH := {}
  net : NetH := {}
  tim : TimH := {}
  /-- GM_0 to GM_7. -/
  gm : Tbl GmH := []
  /-- AX_0 to AX_7. -/
  ax : Tbl AxH := []
  /-- LEG_0 to LEG_23. -/
  leg : Tbl LegH := []
  trip : TripH := {}
  sns : SnsBlk := {}
  pwr : PwrH := {}
  flash : FlashH := {}
  mgt : MgtH := {}
  fbk : FbkBlk := {}
  /-- PL_0 to PL_7. -/
  lane : Tbl Lane := []
  gth : GthH := {}
  /-- Start and end of Marver's present or last busy interval, root ps (R31, R32, 01_line_and_tick.md); reset 0. -/
  busyFrom : Nat := 0
  busyTo : Nat := 0
  can : CanH := {}
  fio : FioH := {}
  /-- CHK_0 to CHK_3. -/
  chk : Tbl ChkH := []
  saf : SafH := {}
  /-- Start-up state below DEVSTATE SAFE: 0 BOOT, 1 CONFIG, 2 PARISON, 3 READY (R389, 16_power_reset_boot.md); reset 0. -/
  devstate : Nat := 0
  /-- LO words of the committed LO and HI pairs, by bit address of the LO word; the HI word commits (R121, 04_profiles_and_stepping.md); reset as the register. -/
  cLo : Tbl Nat := []
  /-- W_14 by word index (R99, 03_gaffer_and_gearing.md); reset 0. -/
  tables : Tbl Nat := []
  /-- The microstep table by word index (R138, R99); reset 0. -/
  mstep : Tbl Nat := []
  /-- Addresses of words with a parity error not yet reloaded (R166, R270, R427); reset none. -/
  bad : List Nat := []
  /-- Addresses whose reload from the batch source has been asked for (R166, R270, R427); reset none. -/
  reloads : List Nat := []
deriving DecidableEq, Repr

end Sys2Proof.Machine
end

