-- ==== Sys2Proof/Machine/Ops.lean ====
section
/-!
DEFINITION. The named operations over the device: register cells, time, event records, answers, rights
and memories. Every meaning is written over these.
-/

namespace Sys2Proof.Machine

/-- A rational rounded to the nearest integer, ties to even (R4, 00_scope.md). -/
def rneQ (x : Rat) : Int := rneDiv x.num x.den

/-! ### Register cells -/

/-- The cells of one block. -/
def RegFile.cells (r : RegFile) : Blk → Tbl Nat
  | .glb => r.glb | .rst => r.rst | .evr => r.evr | .mgt => r.mgt | .saf => r.saf | .tim => r.tim
  | .net => r.net | .can => r.can | .chk => r.chk | .fio => r.fio | .fbk => r.fbk | .leg => r.leg
  | .sns => r.sns | .axs => r.axs | .gaf => r.gaf | .gth => r.gth | .pnt => r.pnt

/-- The register file with the cells of one block replaced. -/
def RegFile.withCells (r : RegFile) (t : Tbl Nat) : Blk → RegFile
  | .glb => { r with glb := t } | .rst => { r with rst := t } | .evr => { r with evr := t }
  | .mgt => { r with mgt := t } | .saf => { r with saf := t } | .tim => { r with tim := t }
  | .net => { r with net := t } | .can => { r with can := t } | .chk => { r with chk := t }
  | .fio => { r with fio := t } | .fbk => { r with fbk := t } | .leg => { r with leg := t }
  | .sns => { r with sns := t } | .axs => { r with axs := t } | .gaf => { r with gaf := t }
  | .gth => { r with gth := t } | .pnt => { r with pnt := t }

/-- Address of the register that holds a field of instance `i`, `j`. -/
def Fld.addr (f : Fld) (i j : Nat) : Nat := f.base + i * f.s1 + j * f.s2

/-- Index of the cell of a field of instance `i`, `j`. -/
def Fld.key (f : Fld) (i j : Nat) : Nat := f.addr i j * 32 + f.lo

/-- The value a cell holds, of the field's width. -/
def Dev.rd (d : Dev) (f : Fld) (i : Nat := 0) (j : Nat := 0) : Nat :=
  Tbl.get f.reset (f.key i j) (d.regs.cells f.blk) % 2 ^ f.len

/-- Stores a value in a cell, cut to the field's width. -/
def Dev.wr (d : Dev) (f : Fld) (v : Nat) (i : Nat := 0) (j : Nat := 0) : Dev :=
  { d with regs := d.regs.withCells (Tbl.set f.reset (f.key i j) (v % 2 ^ f.len) (d.regs.cells f.blk)) f.blk }

/-- A one-bit field as a truth value. -/
def Dev.flag (d : Dev) (f : Fld) (i : Nat := 0) (j : Nat := 0) : Bool := d.rd f i j == 1

/-- Sets a one-bit field. -/
def Dev.set1 (d : Dev) (f : Fld) (i : Nat := 0) (j : Nat := 0) : Dev := d.wr f 1 i j

/-- Clears a field. -/
def Dev.clr (d : Dev) (f : Fld) (i : Nat := 0) (j : Nat := 0) : Dev := d.wr f 0 i j

/-- A field read as a two's-complement number. -/
def Dev.rdI (d : Dev) (f : Fld) (i : Nat := 0) (j : Nat := 0) : Int := sx f.len (d.rd f i j)

/-- Stores an integer as a two's-complement pattern. -/
def Dev.wrI (d : Dev) (f : Fld) (v : Int) (i : Nat := 0) (j : Nat := 0) : Dev := d.wr f (ux f.len v) i j

/-- Adds to a counter that saturates at the top of its field. -/
def Dev.bump (d : Dev) (f : Fld) (i : Nat := 0) (j : Nat := 0) (by_ : Nat := 1) : Dev :=
  d.wr f (satAdd f.len (d.rd f i j) by_) i j

/-- Adds to a counter that wraps at the top of its field. -/
def Dev.bumpMod (d : Dev) (f : Fld) (i : Nat := 0) (j : Nat := 0) : Dev := d.wr f (d.rd f i j + 1) i j

/-- A LO and HI pair of 32-bit fields as one 64-bit number. -/
def Dev.rd64 (d : Dev) (lo hi : Fld) (i : Nat := 0) (j : Nat := 0) : Nat := d.rd lo i j + 2 ^ 32 * d.rd hi i j

/-- A LO and HI pair as a signed 64-bit number. -/
def Dev.rdI64 (d : Dev) (lo hi : Fld) (i : Nat := 0) (j : Nat := 0) : Int := sx 64 (d.rd64 lo hi i j)

/-- Stores a 64-bit number in a LO and HI pair. -/
def Dev.wr64 (d : Dev) (lo hi : Fld) (v : Nat) (i : Nat := 0) (j : Nat := 0) : Dev :=
  (d.wr lo (v % 2 ^ 32) i j).wr hi (v / 2 ^ 32) i j

/-- Stores a signed 64-bit number in a LO and HI pair. -/
def Dev.wrI64 (d : Dev) (lo hi : Fld) (v : Int) (i : Nat := 0) (j : Nat := 0) : Dev := d.wr64 lo hi (ux 64 v) i j

/-! ### Instances -/

/-- Applies an operation when a condition holds. -/
def Dev.on (d : Dev) (c : Bool) (f : Dev → Dev) : Dev := if c then f d else d

/-- Applies an operation for every number of a list, in order. -/
def Dev.each (d : Dev) (l : List Nat) (f : Nat → Dev → Dev) : Dev := l.foldl (fun d n => f n d) d

/-- Axis AX_n. -/
def Dev.axis (d : Dev) (n : Nat) : AxH := Tbl.get {} n d.ax

/-- Replaces AX_n. -/
def Dev.setAxis (d : Dev) (n : Nat) (h : AxH) : Dev := { d with ax := Tbl.put n h d.ax }

/-- Changes AX_n. -/
def Dev.modAxis (d : Dev) (n : Nat) (f : AxH → AxH) : Dev := d.setAxis n (f (d.axis n))

/-- Master channel GM_n. -/
def Dev.gmc (d : Dev) (n : Nat) : GmH := Tbl.get {} n d.gm

/-- Changes GM_n. -/
def Dev.modGm (d : Dev) (n : Nat) (f : GmH → GmH) : Dev := { d with gm := Tbl.put n (f (d.gmc n)) d.gm }

/-- Time base TB_n. -/
def Dev.tb (d : Dev) (n : Nat) : TbH := Tbl.get {} n d.tim.tb

/-- Changes TB_n. -/
def Dev.modTb (d : Dev) (n : Nat) (f : TbH → TbH) : Dev :=
  { d with tim := { d.tim with tb := Tbl.put n (f (d.tb n)) d.tim.tb } }

/-- Loop `l` of AX_n: 0 position, 1 velocity, 2 CUR0, 3 CUR1. -/
def Dev.loop (d : Dev) (n l : Nat) : LpH := Tbl.get {} l (d.axis n).lp

/-- Changes a loop of AX_n. -/
def Dev.modLoop (d : Dev) (n l : Nat) (f : LpH → LpH) : Dev :=
  d.modAxis n fun h => { h with lp := Tbl.put l (f (Tbl.get {} l h.lp)) h.lp }

/-- Compare unit `c` of AX_n. -/
def Dev.cmpu (d : Dev) (n c : Nat) : CmpH := Tbl.get {} c (d.axis n).cmp

/-- Changes a compare unit of AX_n. -/
def Dev.modCmp (d : Dev) (n c : Nat) (f : CmpH → CmpH) : Dev :=
  d.modAxis n fun h => { h with cmp := Tbl.put c (f (Tbl.get {} c h.cmp)) h.cmp }

/-- A free value: the next value of `Config.free`. -/
def Dev.free (d : Dev) : Nat := Config.free d.freeIdx

/-- The device after a free value has been taken. -/
def Dev.freed (d : Dev) : Dev := { d with freeIdx := d.freeIdx + 1 }

/-! ### Time -/

/-- Value of TB_n in units of 2^-16 ns (R45, 02_time_bases.md). -/
def Dev.tb16 (d : Dev) (n : Nat) : Nat := (d.tb n).val / 2 ^ 24

/-- 2^-16 ns in one second. -/
def sec16 : Nat := 65536 * 1000000000

/-- Value of TB_n in whole nanoseconds. -/
def Dev.tbNs (d : Dev) (n : Nat) : Nat := (d.tb n).val / 2 ^ 40

/-- SEC[31:0] of a time in 2^-16 ns. -/
def secOf (t : Nat) : Nat := t / sec16 % 2 ^ 32

/-- NS of a time in 2^-16 ns. -/
def nsOf (t : Nat) : Nat := t % sec16 / 65536

/-- FRAC of a time in 2^-16 ns. -/
def fracOf (t : Nat) : Nat := t % 65536

/-- A time written as SEC[31:0] and NS, compared modulo 2^32 s with a time-base value (R74): the signed
distance `t - target` in ns. -/
def sinceNs (now16 sec ns : Nat) : Int :=
  let m : Int := 2 ^ 32 * 1000000000
  let x : Int := ((now16 / 65536 : Nat) : Int) - (sec * 1000000000 + ns : Nat)
  let r := x % m
  if r < m / 2 then r else r - m

/-- The signed distance of a time-base value from a time of whole ns, compared modulo 2^32 s, with its fraction: 2^-16 ns (R74). -/
def since16 (now16 t : Nat) : Int := sinceNs now16 (t / 1000000000) (t % 1000000000) * 65536 + fracOf now16

/-- Something is left to be judged at the end of its TIME clock (R54). -/
def Dev.judgeLater (d : Dev) (j : Judge) : Dev := { d with tim := { d.tim with judge := d.tim.judge ++ [j] } }

/-- A good word has been stored at an address: a parity error there is gone (R166, R270, R427). -/
def Dev.mended (d : Dev) (a : Nat) : Dev :=
  { d with bad := d.bad.filter (· != a), reloads := d.reloads.filter (· != a) }

/-! ### Event records -/

/-- An event of a block: code and severity (R15, R16, 00_scope.md). -/
structure Evt where
  code : Nat
  sev : Nat
deriving DecidableEq, Repr

/-- TB_n is LOCKED, or is TB_0 in the grandmaster role (R417, R389). -/
def Dev.tbGood (d : Dev) (n : Nat) : Bool :=
  d.rd F.tbState_state n == 3 || (n == 0 && d.flag F.tbCtrl_gm 0)

/-- The record of an occurrence, stamped in the clock in which it enters Q_28 (R417). -/
def Dev.stamp (d : Dev) (o : Occ) : Rec :=
  let v := d.tbGood 0
  { code := o.code, sev := o.sev, tbv := v, src := o.src, opsec := d.rd F.mgtOpsec_opsec,
    pwrcyc := d.rd F.rstPwrcyc_pwrcyc % 65536,
    tsec := if v then secOf (d.tb16 0) else 0, tns := if v then nsOf (d.tb16 0) else 0,
    d0 := o.d0 % 2 ^ 32, d1 := o.d1 % 2 ^ 32 }

/-- A block raises an event (R417, 17_management_and_log.md): the record enters Q_28; with Q_28 full, or
earlier records of the block still waiting, it takes one of the four places of the block; with those full
it is counted in LOSTQ and in the SUPPR of the next record of its code. -/
def Dev.occur (d : Dev) (o : Occ) : Dev :=
  let mine := d.evr.waiting.filter (fun w => w.code / 256 == o.code / 256)
  if d.evr.q28.length < 64 && mine.isEmpty then
    { d with evr := { d.evr with q28 := d.evr.q28 ++ [d.stamp o] } }
  else if mine.length < 4 then
    { d with evr := { d.evr with waiting := d.evr.waiting ++ [o] } }
  else
    ({ d with evr := { d.evr with suppr := Tbl.set 0 o.code (satAdd 16 (Tbl.get 0 o.code d.evr.suppr) 1) d.evr.suppr } }).bump
      F.evrLost_lostq

/-- Raises an event with its two data words; SRC is the partner port of the access behind it, 7 for none. -/
def Dev.ev (d : Dev) (e : Evt) (d0 d1 : Nat) (src : Nat := 7) : Dev :=
  d.occur { code := e.code, sev := e.sev, src := src, d0 := d0, d1 := d1 }

/-- A signed data word: the two's-complement pattern, saturating at 32 bits (R16). -/
def dw (x : Int) : Nat := ux 32 (satS 32 x)

/-- An unsigned data word, saturating. -/
def dwU (x : Int) : Nat := satU 32 x

/-- A Q48.16 quantity as a whole-unit data word (R16). -/
def dwQ (x : Int) : Nat := dw (rneShr x 16)

/-! ### Answers -/

/-- The number of a response code (R13, 00_scope.md). -/
def Code.num : Code → Nat
  | .ok => 0 | .discarded => 1 | .violation => 2 | .loopClosed => 3 | .wrongState => 4 | .range => 5
  | .parity => 6 | .noSuchAddress => 7 | .queueFull => 8 | .timeStepRefused => 9 | .tagInUse => 10
  | .notVerified => 11

/-- The order in which one of several reasons is answered (R11, 00_scope.md); a lower rank comes first. -/
def Code.rank : Code → Nat
  | .violation => 0 | .noSuchAddress => 1 | .range => 2 | .parity => 3 | .wrongState => 4
  | .loopClosed => 5 | .ok => 12 | c => 6 + c.num % 6

/-- The first answer of two (R11). -/
def Code.first (a b : Code) : Code := if b.rank < a.rank then b else a

/-- Puts a response record into Q_21; its tag is released, which takes effect at the end of the clock (R40). With Q_21 full the answer
waits and is not dropped (R39). The management core, port code 4, has no response record. -/
def Dev.respond (d : Dev) (r : Rsp) (release : Bool := true) : Dev :=
  if r.port = 4 then d
  else if d.net.q21.length < 64 then
    { d with net := { d.net with
        q21 := d.net.q21 ++ [r]
        released := if release then d.net.released ++ [r.tag] else d.net.released } }
  else { d with net := { d.net with rspWait := d.net.rspWait ++ [(r, release)] } }

/-- The tags released in this clock are free from its end on (R40). -/
def Dev.tagsFree (d : Dev) : Dev :=
  if d.net.released = [] then d
  else { d with net := { d.net with released := [], inflight := d.net.inflight.filter fun x => !d.net.released.contains x.1 } }

/-- Answers a command that waited for a stage: with ADDR of the command, or where it is refused with the address of the word that waited
(R303). -/
def Dev.answer (d : Dev) (c : Cmdr) (code : Code) : Dev :=
  let refused : Bool := code == .wrongState || code == .range || code == .loopClosed || code == .parity
  d.respond { port := c.port, code := code, tag := c.tag, op := c.op, addr := if refused then c.word.getD c.addr else c.addr, mac := c.mac }

/-! ### Address map and rights -/

/-- The window that holds an address (R35, 01_line_and_tick.md). -/
def windowOf (a : Nat) : Option Nat :=
  if a < 0xD0000 then some (a / 0x10000)
  else if 0x100000 ≤ a && a < 0x180000 then some 13
  else if 0x200000 ≤ a && a < 0x300000 then some 14
  else if 0x300000 ≤ a && a < 0x380000 then some 15
  else none

/-! ### Management core -/

/-- The management core is running firmware (R405). -/
def Dev.coreRuns (d : Dev) : Bool := d.mgt.fwRun && d.rd F.mgtState_core == 0

/-- Lehr has carried out one more piece of work number `k` of MgtH.did (R425). -/
def Dev.lehrDid (d : Dev) (k : Nat) : Dev := { d with mgt := { d.mgt with did := Tbl.put k (Tbl.get 0 k d.mgt.did + 1) d.mgt.did } }

/-- Lehr has made one more calibration number `k` of SnsBlk.cals (R425). -/
def Dev.lehrCal (d : Dev) (k : Nat) : Dev := { d with sns := { d.sns with cals := Tbl.put k (Tbl.get 0 k d.sns.cals + 1) d.sns.cals } }

/-! ### Axis summary -/

/-- State of AX_n: 0 DISABLED, 1 STANDSTILL, 2 ENABLED, 3 STOPPING, 4 FAULT (R17, 00_scope.md). -/
def Dev.axState (d : Dev) (n : Nat) : Nat := d.rd F.axState_state n

/-- AX_n is DISABLED. -/
def Dev.disabled (d : Dev) (n : Nat) : Bool := d.axState n == 0

/-- Every axis is DISABLED. -/
def Dev.allDisabled (d : Dev) : Bool := (List.range 8).all d.disabled

/-- A mask of the axes that satisfy a test. -/
def axMask (p : Nat → Bool) : Nat := ((List.range 8).map (fun n => b2n (p n) * 2 ^ n)).sum

/-- The axes bound to TB_n (AX_n_TICK.TB). -/
def Dev.boundTo (d : Dev) (tb ax : Nat) : Bool := d.rd F.axTick_tb ax == tb

end Sys2Proof.Machine
end

