-- ==== Sys2Proof/Machine/Events.lean ====
section
/-!
DEFINITION. The events of every block: code and severity, as the event tables give them (R15, R16, R76, R110,
R144, R169, R196, R215, R248, R272, R287, R314, R333, R352, R368, R376, R404, R430).
-/

namespace Sys2Proof.Machine

/-- Event 0x0601 of severity 0. -/
def E.tbState : Evt := ⟨0x0601, 0⟩
/-- Event 0x0602 of severity 1. -/
def E.tbStepped : Evt := ⟨0x0602, 1⟩
/-- Event 0x0603 of severity 2. -/
def E.tbStepRefused : Evt := ⟨0x0603, 2⟩
/-- Event 0x0604 of severity 2. -/
def E.tbLockLost : Evt := ⟨0x0604, 2⟩
/-- Event 0x0605 of severity 2. -/
def E.tbSourceTimeout : Evt := ⟨0x0605, 2⟩
/-- Event 0x0606 of severity 0. -/
def E.tbRearmed : Evt := ⟨0x0606, 0⟩
/-- Event 0x0607 of severity 1. -/
def E.lchLate : Evt := ⟨0x0607, 1⟩
/-- Event 0x0608 of severity 2. -/
def E.pdelayLost : Evt := ⟨0x0608, 2⟩
/-- Event 0x0609 of severity 1. -/
def E.tbRateAtLimit : Evt := ⟨0x0609, 1⟩
/-- Event 0x1101 of severity 0. -/
def E.gmState : Evt := ⟨0x1101, 0⟩
/-- Event 0x1102 of severity 2. -/
def E.gmStale : Evt := ⟨0x1102, 2⟩
/-- Event 0x1103 of severity 3. -/
def E.gmGraceExpired : Evt := ⟨0x1103, 3⟩
/-- Event 0x1104 of severity 1. -/
def E.gmSegRefused : Evt := ⟨0x1104, 1⟩
/-- Event 0x1105 of severity 1. -/
def E.gmSeqGap : Evt := ⟨0x1105, 1⟩
/-- Event 0x1106 of severity 1. -/
def E.gmSegLate : Evt := ⟨0x1106, 1⟩
/-- Event 0x1107 of severity 2. -/
def E.gmHistory : Evt := ⟨0x1107, 2⟩
/-- Event 0x1108 of severity 2. -/
def E.gmResumed : Evt := ⟨0x1108, 2⟩
/-- Event 0x1109 of severity 0. -/
def E.cplState : Evt := ⟨0x1109, 0⟩
/-- Event 0x110A of severity 0. -/
def E.cplCamSwitch : Evt := ⟨0x110A, 0⟩
/-- Event 0x110B of severity 2. -/
def E.cplAborted : Evt := ⟨0x110B, 2⟩
/-- Event 0x0D01 of severity 0. -/
def E.axState : Evt := ⟨0x0D01, 0⟩
/-- Event 0x0D02 of severity 1. -/
def E.qDiscard : Evt := ⟨0x0D02, 1⟩
/-- Event 0x0D03 of severity 0. -/
def E.prfReversal : Evt := ⟨0x0D03, 0⟩
/-- Event 0x0D04 of severity 1. -/
def E.prfOvershoot : Evt := ⟨0x0D04, 1⟩
/-- Event 0x0D05 of severity 1. -/
def E.prfJerkStep : Evt := ⟨0x0D05, 1⟩
/-- Event 0x0D06 of severity 0. -/
def E.prfMark : Evt := ⟨0x0D06, 0⟩
/-- Event 0x0D07 of severity 1. -/
def E.cmpBehind : Evt := ⟨0x0D07, 1⟩
/-- Event 0x0D08 of severity 0. -/
def E.cmpFired : Evt := ⟨0x0D08, 0⟩
/-- Event 0x0D09 of severity 2. -/
def E.stepOverrate : Evt := ⟨0x0D09, 2⟩
/-- Event 0x0D0A of severity 2. -/
def E.stepIndexLost : Evt := ⟨0x0D0A, 2⟩
/-- Event 0x0D0B of severity 3. -/
def E.stall : Evt := ⟨0x0D0B, 3⟩
/-- Event 0x0D0C of severity 3. -/
def E.axStopTimeout : Evt := ⟨0x0D0C, 3⟩
/-- Event 0x0E01 of severity 0. -/
def E.loopState : Evt := ⟨0x0E01, 0⟩
/-- Event 0x0E02 of severity 0. -/
def E.selChange : Evt := ⟨0x0E02, 0⟩
/-- Event 0x0E03 of severity 1. -/
def E.marvWriteRefused : Evt := ⟨0x0E03, 1⟩
/-- Event 0x0E04 of severity 1. -/
def E.marvReplay : Evt := ⟨0x0E04, 1⟩
/-- Event 0x0E05 of severity 2. -/
def E.marvReuse : Evt := ⟨0x0E05, 2⟩
/-- Event 0x0E06 of severity 3. -/
def E.marvUnreplayable : Evt := ⟨0x0E06, 3⟩
/-- Event 0x0E07 of severity 0. -/
def E.loopHoldStart : Evt := ⟨0x0E07, 0⟩
/-- Event 0x0E08 of severity 3. -/
def E.loopHoldExpired : Evt := ⟨0x0E08, 3⟩
/-- Event 0x0E09 of severity 1. -/
def E.marvLateUpdate : Evt := ⟨0x0E09, 1⟩
/-- Event 0x0C01 of severity 3. -/
def E.legFault : Evt := ⟨0x0C01, 3⟩
/-- Event 0x0C01 of severity 2. -/
def E.legFaultReport : Evt := ⟨0x0C01, 2⟩
/-- Event 0x0C02 of severity 3. -/
def E.tripActive : Evt := ⟨0x0C02, 3⟩
/-- Event 0x0C02 of severity 2. -/
def E.tripActiveWarn : Evt := ⟨0x0C02, 2⟩
/-- Event 0x0C03 of severity 0. -/
def E.tripCleared : Evt := ⟨0x0C03, 0⟩
/-- Event 0x0C04 of severity 0. -/
def E.legLatchCleared : Evt := ⟨0x0C04, 0⟩
/-- Event 0x0C05 of severity 1. -/
def E.bstRefresh : Evt := ⟨0x0C05, 1⟩
/-- Event 0x0C06 of severity 0. -/
def E.chopState : Evt := ⟨0x0C06, 0⟩
/-- Event 0x0C07 of severity 2. -/
def E.chopAtLimit : Evt := ⟨0x0C07, 2⟩
/-- Event 0x0C08 of severity 0. -/
def E.brakeState : Evt := ⟨0x0C08, 0⟩
/-- Event 0x0C0F of severity 1. -/
def E.legWriteRefused : Evt := ⟨0x0C0F, 1⟩
/-- Event 0x0C09 of severity 1. -/
def E.snsSetLate : Evt := ⟨0x0C09, 1⟩
/-- Event 0x0C0A of severity 1. -/
def E.snsSkip : Evt := ⟨0x0C0A, 1⟩
/-- Event 0x0C0B of severity 2. -/
def E.snsLegInvalid : Evt := ⟨0x0C0B, 2⟩
/-- Event 0x0C0C of severity 2. -/
def E.snsOfsStale : Evt := ⟨0x0C0C, 2⟩
/-- Event 0x0C0D of severity 2. -/
def E.snsCalRange : Evt := ⟨0x0C0D, 2⟩
/-- Event 0x0C0E of severity 1. -/
def E.snsClip : Evt := ⟨0x0C0E, 1⟩
/-- Event 0x0701 of severity 0. -/
def E.netLinkUp : Evt := ⟨0x0701, 0⟩
/-- Event 0x0702 of severity 3. -/
def E.netLinkDown : Evt := ⟨0x0702, 3⟩
/-- Event 0x0703 of severity 2. -/
def E.netViolation : Evt := ⟨0x0703, 2⟩
/-- Event 0x0704 of severity 1. -/
def E.netFrameDrop : Evt := ⟨0x0704, 1⟩
/-- Event 0x0705 of severity 1. -/
def E.netStatusGated : Evt := ⟨0x0705, 1⟩
/-- Event 0x0706 of severity 1. -/
def E.netStatusLate : Evt := ⟨0x0706, 1⟩
/-- Event 0x0101 of severity 0. -/
def E.rstStart : Evt := ⟨0x0101, 0⟩
/-- Event 0x0102 of severity 4. -/
def E.rstSeqStopped : Evt := ⟨0x0102, 4⟩
/-- Event 0x0103 of severity 0. -/
def E.bootSlot : Evt := ⟨0x0103, 0⟩
/-- Event 0x0104 of severity 2. -/
def E.bootRejected : Evt := ⟨0x0104, 2⟩
/-- Event 0x0105 of severity 2. -/
def E.bootUnsigned : Evt := ⟨0x0105, 2⟩
/-- Event 0x0106 of severity 3. -/
def E.bootCfgFail : Evt := ⟨0x0106, 3⟩
/-- Event 0x0107 of severity 4. -/
def E.bootNoimage : Evt := ⟨0x0107, 4⟩
/-- Event 0x0108 of severity 0. -/
def E.devState : Evt := ⟨0x0108, 0⟩
/-- Event 0x0109 of severity 1. -/
def E.fuseProgrammed : Evt := ⟨0x0109, 1⟩
/-- Event 0x010A of severity 1. -/
def E.cntRestored : Evt := ⟨0x010A, 1⟩
/-- Event 0x0201 of severity 2. -/
def E.clkHoldover : Evt := ⟨0x0201, 2⟩
/-- Event 0x0202 of severity 0. -/
def E.clkRelocked : Evt := ⟨0x0202, 0⟩
/-- Event 0x0301 of severity 1. -/
def E.mgtRecycle : Evt := ⟨0x0301, 1⟩
/-- Event 0x0301 of severity 3. -/
def E.mgtRecycleFault : Evt := ⟨0x0301, 3⟩
/-- Event 0x0302 of severity 0. -/
def E.mgtUpdate : Evt := ⟨0x0302, 0⟩
/-- Event 0x0303 of severity 2. -/
def E.mgtUpdFail : Evt := ⟨0x0303, 2⟩
/-- Event 0x0304 of severity 0. -/
def E.mgtActAxes : Evt := ⟨0x0304, 0⟩
/-- Event 0x0305 of severity 3. -/
def E.mgtActFail : Evt := ⟨0x0305, 3⟩
/-- Event 0x0306 of severity 2. -/
def E.mgtSensorLimit : Evt := ⟨0x0306, 2⟩
/-- Event 0x0307 of severity 3. -/
def E.mgtXtalFail : Evt := ⟨0x0307, 3⟩
/-- Event 0x0307 of severity 2. -/
def E.mgtXtalPpm : Evt := ⟨0x0307, 2⟩
/-- Event 0x0401 of severity 1. -/
def E.evrCleared : Evt := ⟨0x0401, 1⟩
/-- Event 0x0402 of severity 2. -/
def E.evrMirrorLost : Evt := ⟨0x0402, 2⟩
/-- Event 0x1201 of severity 0. -/
def E.health : Evt := ⟨0x1201, 0⟩
/-- Event 0x1202 of severity 1. -/
def E.lehrReload : Evt := ⟨0x1202, 1⟩
/-- Event 0x1203 of severity 2. -/
def E.lehrNosource : Evt := ⟨0x1203, 2⟩
/-- Event 0x1204 of severity 2. -/
def E.lehrStarved : Evt := ⟨0x1204, 2⟩
/-- Event 0x0B01 of severity 1. -/
def E.faFrameErr : Evt := ⟨0x0B01, 1⟩
/-- Event 0x0B02 of severity 0. -/
def E.faDelayMeasured : Evt := ⟨0x0B02, 0⟩
/-- Event 0x0B03 of severity 2. -/
def E.faDelayDrift : Evt := ⟨0x0B03, 2⟩
/-- Event 0x0B04 of severity 1. -/
def E.fbLate : Evt := ⟨0x0B04, 1⟩
/-- Event 0x0B05 of severity 3. -/
def E.fbFault : Evt := ⟨0x0B05, 3⟩
/-- Event 0x0B06 of severity 1. -/
def E.fqIllegal : Evt := ⟨0x0B06, 1⟩
/-- Event 0x0B07 of severity 0. -/
def E.fqDirchg : Evt := ⟨0x0B07, 0⟩
/-- Event 0x0B08 of severity 2. -/
def E.fqIndexErr : Evt := ⟨0x0B08, 2⟩
/-- Event 0x0B09 of severity 2. -/
def E.fqFallback : Evt := ⟨0x0B09, 2⟩
/-- Event 0x0B0A of severity 0. -/
def E.fqMainRestored : Evt := ⟨0x0B0A, 0⟩
/-- Event 0x0B0B of severity 2. -/
def E.fqAmpl : Evt := ⟨0x0B0B, 2⟩
/-- Event 0x0B0C of severity 1. -/
def E.ltOverflow : Evt := ⟨0x0B0C, 1⟩
/-- Event 0x0B0D of severity 1. -/
def E.fbkWriteRefused : Evt := ⟨0x0B0D, 1⟩
/-- Event 0x0F01 of severity 0. -/
def E.pntRunstate : Evt := ⟨0x0F01, 0⟩
/-- Event 0x0F02 of severity 2. -/
def E.pntOverrun : Evt := ⟨0x0F02, 2⟩
/-- Event 0x0F03 of severity 1. -/
def E.pntLate : Evt := ⟨0x0F03, 1⟩
/-- Event 0x0F04 of severity 3. -/
def E.pntFault : Evt := ⟨0x0F04, 3⟩
/-- Event 0x0F05 of severity 1. -/
def E.pntParity : Evt := ⟨0x0F05, 1⟩
/-- Event 0x0F06 of severity 1. -/
def E.pntWriteRefused : Evt := ⟨0x0F06, 1⟩
/-- Event 0x0F07 of severity 0. -/
def E.pntUser : Evt := ⟨0x0F07, 0⟩
/-- Event 0x1001 of severity 0. -/
def E.gthState : Evt := ⟨0x1001, 0⟩
/-- Event 0x1002 of severity 0. -/
def E.gthTriggered : Evt := ⟨0x1002, 0⟩
/-- Event 0x1003 of severity 1. -/
def E.gthTooOld : Evt := ⟨0x1003, 1⟩
/-- Event 0x1004 of severity 1. -/
def E.gthLate : Evt := ⟨0x1004, 1⟩
/-- Event 0x1005 of severity 2. -/
def E.gthTboutLate : Evt := ⟨0x1005, 2⟩
/-- Event 0x1006 of severity 1. -/
def E.gthParity : Evt := ⟨0x1006, 1⟩
/-- Event 0x1007 of severity 1. -/
def E.gthArmIgnored : Evt := ⟨0x1007, 1⟩
/-- Event 0x0801 of severity 2. -/
def E.canEstate : Evt := ⟨0x0801, 2⟩
/-- Event 0x0801 of severity 3. -/
def E.canBusOff : Evt := ⟨0x0801, 3⟩
/-- Event 0x0801 of severity 0. -/
def E.canEstateInfo : Evt := ⟨0x0801, 0⟩
/-- Event 0x0802 of severity 0. -/
def E.canRecovered : Evt := ⟨0x0802, 0⟩
/-- Event 0x0803 of severity 2. -/
def E.canTxDiscarded : Evt := ⟨0x0803, 2⟩
/-- Event 0x0804 of severity 1. -/
def E.canRxLost : Evt := ⟨0x0804, 1⟩
/-- Event 0x0805 of severity 0. -/
def E.canMode : Evt := ⟨0x0805, 0⟩
/-- Event 0x0806 of severity 0. -/
def E.canWake : Evt := ⟨0x0806, 0⟩
/-- Event 0x0807 of severity 1. -/
def E.canRefSkipped : Evt := ⟨0x0807, 1⟩
/-- Event 0x0A01 of severity 3. -/
def E.foDiag : Evt := ⟨0x0A01, 3⟩
/-- Event 0x0A01 of severity 2. -/
def E.foDiagWarn : Evt := ⟨0x0A01, 2⟩
/-- Event 0x0A02 of severity 2. -/
def E.fiWireBreak : Evt := ⟨0x0A02, 2⟩
/-- Event 0x0A02 of severity 0. -/
def E.fiWireBreakCleared : Evt := ⟨0x0A02, 0⟩
/-- Event 0x0A03 of severity 3. -/
def E.fioWdExpired : Evt := ⟨0x0A03, 3⟩
/-- Event 0x0A04 of severity 0. -/
def E.fioWdResumed : Evt := ⟨0x0A04, 0⟩
/-- Event 0x0A05 of severity 2. -/
def E.fioVfLow : Evt := ⟨0x0A05, 2⟩
/-- Event 0x0A05 of severity 3. -/
def E.fioVfLost : Evt := ⟨0x0A05, 3⟩
/-- Event 0x0A05 of severity 0. -/
def E.fioVfNormal : Evt := ⟨0x0A05, 0⟩
/-- Event 0x0501 of severity 0. -/
def E.safState : Evt := ⟨0x0501, 0⟩
/-- Event 0x0501 of severity 3. -/
def E.safStateSs1 : Evt := ⟨0x0501, 3⟩
/-- Event 0x0502 of severity 4. -/
def E.safSto : Evt := ⟨0x0502, 4⟩
/-- Event 0x0503 of severity 4. -/
def E.safFail : Evt := ⟨0x0503, 4⟩
/-- Event 0x0504 of severity 0. -/
def E.safReset : Evt := ⟨0x0504, 0⟩
/-- Event 0x0505 of severity 1. -/
def E.safResetRefused : Evt := ⟨0x0505, 1⟩
/-- Event 0x0506 of severity 2. -/
def E.safTestOverdue : Evt := ⟨0x0506, 2⟩
/-- Event 0x0507 of severity 4. -/
def E.safImageRefused : Evt := ⟨0x0507, 4⟩
/-- Event 0x0901 of severity 1. -/
def E.chkAliveRepeat : Evt := ⟨0x0901, 1⟩
/-- Event 0x0902 of severity 1. -/
def E.chkAliveJump : Evt := ⟨0x0902, 1⟩

end Sys2Proof.Machine
end

