-- ==== Sys2Proof/Machine/Notes.lean ====
section
/-!
DEFINITION. Values of the Gather sources with their reference instants (R275, R276, 10_gather.md), noted where they are produced.
-/

namespace Sys2Proof.Machine

/-- The value TB_n had `ps` picoseconds of root time ago, rounded once to 2^-16 ns (R45, R68, R244). -/
def Dev.tbAgo (d : Dev) (tb ps : Nat) : Int :=
  rneDiv (((d.tb tb).val : Int) * 1000 - ps * (2 ^ 40 + d.rdI F.tbRate_rate tb)) (1000 * 2 ^ 24)

/-- The reference time base of Gather (R280): that of its reference axis. -/
def Dev.gthTb (d : Dev) : Nat := d.rd F.axTick_tb (d.rd F.gthCtrl_axis)

/-- A reference instant on the reference time base, 2^-16 ns. -/
def Dev.refTime (d : Dev) (s : SigVal) : Int :=
  let r := d.gthTb
  if s.tb = r then s.t
  else if s.tb = 4 then d.tbAgo r (d.now - s.t.toNat)
  else (d.tb16 r : Int) - ((d.tb16 s.tb : Int) - s.t)

/-- Interval of rows in 250 ps units (R274). -/
def Dev.rowIv (d : Dev) : Nat :=
  let a := d.rd F.gthCtrl_axis
  let c := d.rd F.axCper_per a / (1 + d.rd F.axTick_dbl a) * d.rd F.axTick_cdiv a
  let t := match d.rd F.gthCtrl_tk with
    | 0 => c
    | 1 => c * d.rd F.axTick_vdiv a
    | _ => c * d.rd F.axTick_vdiv a * d.rd F.axTick_pdiv a
  t * d.rd F.gthDiv_div

/-- Values no row can ask for any more go: those older than the newest that lies before `lim`. -/
def keepSince (lim : Int) : List SigVal → List SigVal
  | [] => []
  | x :: l => if x.t ≤ lim then [x] else x :: keepSince lim l

/-- The instance a source has: the signals without instances take any INST for the one there is (R275). -/
def sigInst (sig inst : Nat) : Nat := if (0x40 ≤ sig ∧ sig ≤ 0x46) ∨ sig = 0x50 then 0 else inst

/-- Key of a source: signal and instance. -/
def sigKey (sig inst : Nat) : Nat := 32 * sig + sigInst sig inst

/-- Channels of the capture that record a source. -/
def Dev.gthChans (d : Dev) (sig inst : Nat) : List Nat :=
  (List.range 8).filter fun c =>
    bitOf (d.rd F.gthCtrl_chen) c && d.rd F.gthSrc_sig c == sig && sigInst sig (d.rd F.gthSrc_inst c) == sigInst sig inst

/-- A capture is running: FILLING, ARMED or POST (R277). -/
def Dev.gthRuns (d : Dev) : Bool := decide (1 ≤ d.rd F.gthStat_state) && decide (d.rd F.gthStat_state ≤ 3)

/-- A value of a new reference instant arrives after the row it belongs to, the first one at or after that instant, has committed:
GTH_LATE with the time since that commit (R276, R287). -/
def Dev.gthLate (d : Dev) (sig inst : Nat) (t : Int) : Dev :=
  match (d.gth.rows.filter fun r => decide (t ≤ r.2.1)).getLast? with
  | some r =>
    if d.gthRuns then
      let late := rneShr ((d.tb16 d.gthTb : Int) - r.2.1) 16 - d.rd F.gthLag_lag
      d.each (d.gthChans sig inst) fun c d => (d.set1 F.gthChst_late c).ev E.gthLate c (dwU late)
    else d
  | none => d

/-- A source produces a value `v` of the instant `t` (R275). -/
def Dev.note (d : Dev) (sig inst tb : Nat) (t v : Int) : Dev :=
  let k := sigKey sig inst
  let l := Tbl.get [] k d.gth.sigs
  let span : Int := (2 ^ 20 + d.rowIv / 4) * (if tb = 4 then 1000 else 65536)
  let s : SigVal := { tb := tb, t := t, v := v }
  let fresh : Bool := match l with | x :: _ => decide (x.t < t) | [] => true
  let d := { d with gth := { d.gth with sigs := Tbl.put k (s :: keepSince (t - span) l) d.gth.sigs } }
  d.on fresh (·.gthLate sig inst (d.refTime s))

end Sys2Proof.Machine
end

