-- ==== Sys2Proof/Machine/AxisOps.lean ====
section
/-!
DEFINITION. Shared operations on axes: legs and gates of an axis, loop states, coupling aborts, queue
discards, and the entries to every axis state (R109, R112 to R115, R119, R160, R189).
-/

namespace Sys2Proof.Machine

/-! ### Legs of an axis -/

/-- Leg LEG_n. -/
def Dev.legh (d : Dev) (n : Nat) : LegH := Tbl.get {} n d.leg

/-- Changes LEG_n. -/
def Dev.modLeg (d : Dev) (n : Nat) (f : LegH → LegH) : Dev := { d with leg := Tbl.put n (f (d.legh n)) d.leg }

/-- Sampling state of LEG_n. -/
def Dev.snsLeg (d : Dev) (n : Nat) : SnsH := Tbl.get {} n d.sns.leg

/-- Changes the sampling state of LEG_n. -/
def Dev.modSns (d : Dev) (n : Nat) (f : SnsH → SnsH) : Dev :=
  { d with sns := { d.sns with leg := Tbl.put n (f (d.snsLeg n)) d.sns.leg } }

/-- LEG_n serves AX_a as a phase or coil leg: USE = AXIS and AXIS = a (R170). -/
def Dev.legOf (d : Dev) (a n : Nat) : Bool := d.rd F.legCfg_use n == 1 && d.rd F.legCfg_axis n == a

/-- The phase and coil legs of AX_a (R170). -/
def Dev.axLegs (d : Dev) (a : Nat) : List Nat := (List.range 24).filter (d.legOf a)

/-- The leg of AX_a in a slot (R146, R170). -/
def Dev.slotLeg (d : Dev) (a slot : Nat) : Option Nat :=
  (d.axLegs a).find? (fun n => d.rd F.legCfg_slot n == slot)

/-- Legs a kind needs: SERVO3 3, STEP2 4, DC2 2, otherwise none (04_profiles_and_stepping.md). -/
def kindLegs : Nat → Nat
  | 1 => 3 | 2 => 4 | 3 => 4 | 4 => 2 | _ => 0

/-- The legs of AX_a occupy slots 0 to k − 1 exactly once each (R171). -/
def Dev.legsMatch (d : Dev) (a : Nat) : Bool :=
  let k := kindLegs (d.rd F.axCfg_kind a)
  (d.axLegs a).length == k && (List.range k).all (fun s => (d.slotLeg a s).isSome)

/-- A time base in units of 250 ps (R69). -/
def Dev.t250 (d : Dev) (tb : Nat) : Int := ((d.tb tb).val / 2 ^ 38 : Nat)

/-- Both gates of a leg go off and its carry is cleared (R115, R188). -/
def Dev.gatesOff (d : Dev) (n : Nat) : Dev :=
  (d.modLeg n fun l => { l with
    gh := false, gl := false, want := none, ghSince := none, glSince := none,
    glOffSince := if l.gl then d.now else l.glOffSince, glBegan := if l.gl then l.glSince else l.glBegan
    refEnd := none, ea := none, eb := none, high := false, span := .none }).wrI
    F.legCarry_c 0 n

/-- Root time, ps, of a value of TB_n in 2^-40 ns, as the present relation of the two gives it (R45, R70). -/
def Dev.rootAt (d : Dev) (tb : Nat) (v : Int) : Nat := ((d.now : Int) + (v - (d.tb tb).val) * 1000 / 2 ^ 40).toNat

/-- Root time, ps, of a carrier instant of AX_a, 250 ps units (R69, R70). -/
def Dev.rootOf (d : Dev) (a : Nat) (t : Int) : Nat := d.rootAt (d.rd F.axTick_tb a) (t * 2 ^ 38)

/-- The brake on leg LEG_n is to be released (R194). -/
def Dev.brakeWanted (d : Dev) (n : Nat) : Bool :=
  let a := d.rd F.legCfg_axis n
  match d.rd F.legBrk_mode n with
  | 0 => d.axState a == 2 || d.axState a == 3 ||
      (d.axState a == 1 && d.rd F.axCfg_still a == 2 && d.flag F.legBrk_stillrel n)
  | 1 => false
  | _ => true

/-- The brake on LEG_n is released or engaged (R194): a change logs BRAKE_STATE, a release starts the pull-in time, and an engagement
puts both gates low. -/
def Dev.brakeTo (d : Dev) (n : Nat) (want : Bool) : Dev :=
  if d.flag F.legBrkst_released n = want then d
  else
    let d := ((d.wr F.legBrkst_released (b2n want) n).wr F.legBrkst_pulling (b2n want) n).modLeg n fun l =>
      { l with pull := if want then some (d.now + d.rd F.legBrkt_tpull n * 1000000000) else none }
    let d := if want then d else (d.gatesOff n).wr F.legStat_mode 0 n
    d.ev E.brakeState (n + 256 * d.rd F.legCfg_axis n) (b2n want)

/-- The brake leg LEG_n follows its mode and its axis (R194). -/
def Dev.brakeEval (d : Dev) (n : Nat) : Dev := if d.rd F.legCfg_use n = 3 then d.brakeTo n (d.brakeWanted n) else d

/-- The brake legs that serve AX_a follow its state (R189, R194). -/
def Dev.brakesOf (d : Dev) (a : Nat) : Dev :=
  d.each ((List.range 24).filter (fun n => d.rd F.legCfg_use n == 3 && d.rd F.legCfg_axis n == a)) fun n d => d.brakeEval n

/-- ALL_OFF on every leg of AX_a (R188): both gates low, held so; LEG_n_STAT.MODE reads 2. -/
def Dev.allOff (d : Dev) (a : Nat) : Dev :=
  d.each (d.axLegs a) fun n d =>
    ((d.gatesOff n).modLeg n fun l => { l with held := .allOff }).wr F.legStat_mode 2 n

/-- LOW_SHORT on every leg of AX_a (R188): high sides off at once, low sides on after DT and the handshake,
but not on a leg with SC_L latched. -/
def Dev.lowShort (d : Dev) (a : Nat) : Dev :=
  d.each (d.axLegs a) fun n d =>
    if d.flag F.legFlt_scL n then
      ((d.gatesOff n).modLeg n fun l => { l with held := .allOff }).wr F.legStat_mode 2 n
    else
      let on := (d.legh n).gl
      let since := (d.legh n).glSince
      ((d.gatesOff n).modLeg n fun l => { l with
          held := .lowShort, gl := on, glSince := if on then since else none
          want := if on then none else some { high := false, at_ := d.now + 250 * d.rd F.legDt_dt n } }).wr F.legStat_mode 3 n

/-- The legs of AX_a as a DISABLED axis leaves them: both gates low, MODE OFF, nothing held (R115, R189). -/
def Dev.legsOff (d : Dev) (a : Nat) : Dev :=
  { (d.each (d.axLegs a) fun n d =>
      (((d.gatesOff n).modLeg n fun l => { l with held := .free, sh := [] }).wr F.legStat_mode 0 n).modSns n
        fun s => { s with prev := none, reused := 0, done := [] }) with
    trip := { d.trip with react := Tbl.put a 0 d.trip.react } }

/-! ### Loops -/

/-- A loop is present on a kind (R145): 0 position, 1 velocity, 2 CUR0, 3 CUR1. -/
def kindLoop (kind l : Nat) : Bool :=
  match kind with
  | 1 => true
  | 2 => 2 ≤ l
  | 3 => true
  | 4 => l ≤ 2
  | _ => false

/-- Loop `l` is present on AX_n (R145). -/
def Dev.present (d : Dev) (n l : Nat) : Bool := kindLoop (d.rd F.axCfg_kind n) l

/-- Loop `l` of AX_n is in LOOPCFG.ENCL (R160). -/
def Dev.encl (d : Dev) (n l : Nat) : Bool :=
  match l with
  | 0 => d.flag F.axLoopcfg_enclPos n
  | 1 => d.flag F.axLoopcfg_enclVel n
  | _ => d.flag F.axLoopcfg_enclCur n

/-- The number of a loop state in registers and events (R169). -/
def LState.num : LState → Nat
  | .opened => 0 | .closed => 1 | .fault => 2

/-- Puts a loop in a state and logs LOOP_STATE (R160). -/
def Dev.loopTo (d : Dev) (n l : Nat) (st : LState) : Dev :=
  if (d.loop n l).st = st then d.modLoop n l fun h => { h with closing := false, opening := false }
  else (d.modLoop n l fun h => { h with st := st, closing := false, opening := false }).ev E.loopState n (l + 256 * st.num)

/-- Every loop of AX_n in ENCL that is OPEN closes at its next stage (R160). -/
def Dev.closeEncl (d : Dev) (n : Nat) : Dev :=
  d.each [2, 3, 1, 0] fun l d =>
    if d.present n l && d.encl n l && (d.loop n l).st = .opened then
      d.modLoop n l fun h => { h with closing := true, opening := false }
    else d.modLoop n l fun h => { h with opening := false }

/-- Every CLOSED loop of AX_n opens at its next stage (R160). -/
def Dev.openAll (d : Dev) (n : Nat) : Dev :=
  d.each [0, 1, 2, 3] fun l d =>
    d.modLoop n l fun h => { h with closing := false, opening := h.st = .closed }

/-- Loops of AX_n on entry to DISABLED: OPEN, each output 0 (R160, R161). -/
def Dev.loopsDisabled (d : Dev) (n : Nat) : Dev :=
  d.each [0, 1, 2, 3] fun l d =>
    if d.present n l then (d.loopTo n l .opened).modLoop n l fun h => { h with u := 0, i := 0, d := 0 } else d

/-- Loops of AX_n on entry to FAULT (R160). -/
def Dev.loopsFault (d : Dev) (n : Nat) : Dev :=
  d.each [0, 1, 2, 3] fun l d => if d.present n l then d.loopTo n l .fault else d

/-- The hold timer stops and is reloaded (R164). -/
def Dev.holdStop (d : Dev) (n : Nat) : Dev :=
  ((d.clr F.axLoopst_holdrun n).clr F.axHold_remain n).modAxis n fun h => { h with out := { h.out with holdDue := false } }

/-! ### Coupling -/

/-- Puts the coupling of AX_n in a state and logs CPL_STATE. -/
def Dev.cplTo (d : Dev) (n st : Nat) : Dev :=
  if d.rd F.axCstat_cstate n = st then d else (d.wr F.axCstat_cstate st n).ev E.cplState n st

/-- Aborts the coupling of AX_n (R107): C frozen, IDLE, ABORTED set, CPL_ABORTED logged. -/
def Dev.cplAbort (d : Dev) (n cause : Nat) : Dev :=
  (((d.cplTo n 0).set1 F.axCstat_aborted n).ev E.cplAborted n cause).modAxis n fun h =>
    { h with cpl := { h.cpl with ffv := 0, ffa := 0 } }

/-- The coupling of an axis that leaves ENABLED (R109). -/
def Dev.cplLeave (d : Dev) (n : Nat) : Dev :=
  if d.rd F.axCstat_cstate n = 0 then d else d.cplAbort n 4

/-- Followers of AX_n as a local master have their couplings aborted at their next position stages (R95). -/
def Dev.lmLost (d : Dev) (n : Nat) : Dev :=
  d.each (List.range 8) fun f d =>
    if d.rd F.axCpl_msrc f = 8 + n ∧ d.rd F.axCstat_cstate f ≠ 0 then
      d.modAxis f fun h => { h with cpl := { h.cpl with due := h.cpl.due ++ [5] } }
    else d

/-! ### Queues and commands in flight -/

/-- Empties Q_n, answering every removed entry DISCARDED, and logs Q_DISCARD where there was one (R119; notes/assumptions/123.md). -/
def Dev.qDiscard (d : Dev) (n : Nat) : Dev :=
  let q := (d.axis n).queue
  if q.isEmpty then d
  else ((q.foldl (fun d e => d.answer e.by_ .discarded) (d.modAxis n fun h => { h with queue := [] })).ev E.qDiscard n q.length)

/-- A command record addresses something that satisfies a test: an address, or a queue for a push. -/
def CmdRec.inScope (c : CmdRec) (addr : Nat → Bool) (queue : Nat → Bool) : Bool :=
  if c.op = 4 then queue (c.addr % 32)
  else (List.range c.count).any (fun i => addr (c.addr + 4 * i))

/-- Discards the commands waiting in Q_16 to Q_19 of a scope, answering each DISCARDED (R42, R43); gives the
number discarded. -/
def Dev.discardCmds (d : Dev) (addr : Nat → Bool) (queue : Nat → Bool) : Dev × Nat :=
  (List.range 4).foldl
    (fun (x : Dev × Nat) p =>
      let q := Tbl.get [] p x.1.net.cmdq
      let out := q.filter (·.inScope addr queue)
      let d := { x.1 with net := { x.1.net with cmdq := Tbl.put p (q.filter (fun c => !(c.inScope addr queue))) x.1.net.cmdq } }
      (out.foldl (fun d c => d.respond { port := p, code := .discarded, tag := c.tag, op := c.op, addr := c.addr, mac := c.mac }) d,
        x.2 + out.length))
    (d, 0)

/-- An address lies in the AX_n block, or in the LEG block of a leg assigned to AX_n (R43). -/
def Dev.axScope (d : Dev) (n a : Nat) : Bool :=
  (0xB0000 + n * 0x2000 ≤ a && a < 0xB0000 + (n + 1) * 0x2000) ||
  (List.range 24).any (fun l => d.rd F.legCfg_use l != 0 && d.rd F.legCfg_axis l == n &&
    decide (0xA0000 + l * 0x800 ≤ a ∧ a < 0xA0000 + (l + 1) * 0x800))

/-- Loop commands waiting when AX_n leaves ENABLED: DISCARDED on entry to FAULT, otherwise WRONG_STATE (R162). -/
def Dev.loopCmdsDrop (d : Dev) (n : Nat) (code : Code) : Dev :=
  (d.axis n).loopPend.foldl (fun d c => d.answer c.by_ code) (d.modAxis n fun h => { h with loopPend := [] })

/-! ### Ticks and references -/

/-- Update interval of AX_n in units of 250 ps: the period, or half of it in double update (R26, R69). -/
def Dev.updIv (d : Dev) (n : Nat) : Nat := d.rd F.axCper_per n / (1 + d.rd F.axTick_dbl n)

/-- Current tick interval, 250 ps units (R26). -/
def Dev.tc250 (d : Dev) (n : Nat) : Nat := d.updIv n * d.rd F.axTick_cdiv n

/-- Velocity tick interval, 250 ps units (R26). -/
def Dev.tv250 (d : Dev) (n : Nat) : Nat := d.tc250 n * d.rd F.axTick_vdiv n

/-- Position tick interval, 250 ps units (R26). -/
def Dev.tp250 (d : Dev) (n : Nat) : Nat := d.tv250 n * d.rd F.axTick_pdiv n

/-- v_ref: profile velocity plus coupling velocity feedforward (R149). -/
def Dev.vref (d : Dev) (n : Nat) : Int := satS 64 ((d.axis n).prf.v + (d.axis n).cpl.ffv)

/-- a_ref: profile acceleration plus coupling acceleration feedforward (R149). -/
def Dev.aref (d : Dev) (n : Nat) : Int := satS 64 ((d.axis n).prf.a + (d.axis n).cpl.ffa)

/-! ### Entries to the axis states -/

/-- The axis state changes, AX_STATE is logged (R112, R144), and the brakes of the axis follow (R194). -/
def Dev.stateTo (d : Dev) (n st : Nat) : Dev :=
  ((d.wr F.axState_state st n).ev E.axState n (st + 256 * d.rd F.axState_cause n)).brakesOf n

/-- v and a become 0 and p is kept (R122); |v| is then not above VMAX (R127). -/
def Dev.prfHalt (d : Dev) (n : Nat) : Dev :=
  (d.modAxis n fun h => { h with prf := { h.prf with v := 0, a := 0 } }).clr F.axPstat_vmaxAbove n

/-- Entry to FAULT or DISABLED disarms the compare units (R132). -/
def Dev.cmpDisarmAll (d : Dev) (n : Nat) : Dev :=
  d.each (List.range 4) fun c d => (d.clr F.cmpCtrl_armed n c)

/-- Fold of C: p := p + C and C := 0 (R120). -/
def Dev.foldC (d : Dev) (n : Nat) : Dev :=
  d.modAxis n fun h => { h with prf := { h.prf with p := satS 64 (h.prf.p + h.cpl.c) }, cpl := { h.cpl with c := 0 } }

/-- At rest after a controlled stop: C is folded, POSITION mode, target equal to the position (R113). -/
def Dev.restFold (d : Dev) (n : Nat) : Dev :=
  (((d.foldC n).modAxis n fun h => { h with prf := { h.prf with tgt := h.prf.p, v := 0, a := 0 } }).wr F.axPstat_mode 0 n).set1
    F.axPstat_inpos n

/-- Entry to DISABLED (R112, R115, R119, R132, R160, R223). -/
def Dev.toDisabled (d : Dev) (n : Nat) : Dev :=
  if d.disabled n then d
  else
    (((((((((((((d.lmLost n).cplLeave n).loopCmdsDrop n .wrongState).holdStop n).qDiscard n).stateTo n 0).prfHalt n).cmpDisarmAll n).loopsDisabled n).legsOff n).clr F.fbkSt_fbfault n).clr F.fbkSt_miss n).set1 F.axSidx_idle n).modAxis n fun h =>
      { h with
        seize := 0, tgtPrev := none
        stp := { h.stp with due := none, owed := 0, vk := 0, ak := 0 }
        tick := { h.tick with driveAt := none, cur := false, outer := (h.tick.outer.filter (·.pos)).take 1 } }

/-- Entry to STANDSTILL (R112, R140, R160). -/
def Dev.toStandstill (d : Dev) (n : Nat) : Dev :=
  let d := ((((d.cplLeave n).loopCmdsDrop n .wrongState).holdStop n).stateTo n 1).modAxis n
    fun h => { h with rest := 0, tick := { h.tick with still := true } }
  if d.rd F.axCfg_still n = 2 then d.closeEncl n else d.openAll n

/-- Entry to ENABLED (R112, R160). -/
def Dev.toEnabled (d : Dev) (n : Nat) : Dev :=
  ((d.stateTo n 2).modAxis n fun h => { h with rest := 0, tick := { h.tick with still := true } }).closeEncl n

/-- The end state of a controlled stop: STANDSTILL, or DISABLED. -/
def Dev.toEnd (d : Dev) (n : Nat) (dis : Bool) : Dev := if dis then d.toDisabled n else d.toStandstill n

/-- A controlled-stop cause acts on AX_n (R112, R114): from ENABLED into STOPPING, from STANDSTILL into the
end state at once; in STOPPING it may only turn the end into DISABLED. STOP is cause 1 and ends in
STANDSTILL; any other cause ends as CFG.STOPEND says. -/
def Dev.ctlStop (d : Dev) (n cause : Nat) : Dev :=
  let dis := cause != 1 && d.flag F.axCfg_stopend n
  match d.axState n with
  | 2 =>
    let d := ((((d.cplLeave n).loopCmdsDrop n .wrongState).holdStop n).wr F.axState_cause cause n).qDiscard n
    ((d.stateTo n 3).modAxis n fun h => { h with stopDis := dis, stopAt := d.now, rest := 0 }).closeEncl n
  | 1 => if dis then d.toDisabled n else d
  | 3 => if dis then d.modAxis n fun h => { h with stopDis := true } else d
  | _ => d

/-- Entry to FAULT (R112, R43, R119, R132, R160, R162): from STANDSTILL, ENABLED or STOPPING; the loops enter
FAULT, Q_n and the commands in flight of the axis are discarded, each logged with its number (R44). The gates are the caller's. -/
def Dev.faultIn (d : Dev) (n cause : Nat) : Dev :=
  match d.axState n with
  | 0 => d
  | 4 => d
  | _ =>
    let d := (((((d.lmLost n).cplLeave n).loopCmdsDrop n .discarded).holdStop n).wr F.axState_cause cause n).stateTo n 4
    let d := ((((d.prfHalt n).cmpDisarmAll n).loopsFault n).qDiscard n)
    let d := d.modAxis n fun h => { h with stp := { h.stp with lost := h.stp.lost || cause == 12 || cause == 13 } }
    let (d, k) := d.discardCmds (d.axScope n) (· == n)
    d.on (k != 0) (·.ev E.qDiscard n k)

/-- A fault reaction that is no trip reaction: causes 8, 10, 11 and 14 remove gate drive (R115). -/
def Dev.faultOff (d : Dev) (n cause : Nat) : Dev :=
  if d.axState n = 0 ∨ d.axState n = 4 then d
  else
    let d := (d.faultIn n cause).allOff n
    { d with trip := { d.trip with react := Tbl.put n 1 d.trip.react } }

end Sys2Proof.Machine
end

