-- ==== Sys2Proof/Machine/Crc.lean ====
section
/-!
DEFINITION. The cyclic redundancy check of R369 (15_check_units.md), as the check-value units, the feedback channels
(R227) and the safety block (R308) compute it.
-/

namespace Sys2Proof.Machine

/-- The low `n` bits of `v` in reverse order. -/
def reflect (v : Nat) : Nat → Nat
  | 0 => 0
  | n + 1 => (v % 2) * 2 ^ n + reflect (v / 2) n

/-- One input bit (R369). -/
def CrcP.bit (c : CrcP) (v : Nat) (b : Bool) : Nat :=
  if c.refin then
    let top := (v % 2 == 1) != b
    if top then v / 2 ^^^ reflect c.poly c.width else v / 2
  else
    let top := bitOf v (c.width - 1) != b
    let w := v * 2 % 2 ^ c.width
    if top then w ^^^ c.poly % 2 ^ c.width else w

/-- One byte: bit 7 first when REFIN = 0, bit 0 first when REFIN = 1 (R369). -/
def CrcP.byte (c : CrcP) (v x : Nat) : Nat :=
  (List.range 8).foldl (fun v i => c.bit v (bitOf x (if c.refin then i else 7 - i))) v

/-- The result over a running value (R369). -/
def CrcP.result (c : CrcP) (v : Nat) : Nat :=
  ((if c.refout != c.refin then reflect v c.width else v) ^^^ c.xorout) % 2 ^ c.width

/-- The check over a string of bytes from INIT. -/
def CrcP.over_ (c : CrcP) (l : List Nat) : Nat := c.result (l.foldl c.byte (c.init % 2 ^ c.width))

/-- CRC-32 (R371). -/
def crc32 : CrcP := {}

/-- The CRC-32 check of a word, low byte first (R388). -/
def crcOfWord (v : Nat) : Nat := crc32.over_ ((List.range 4).map fun i => v / 256 ^ i % 256)

/-- A counter that the mirror holds (R388): 0 where the flash does not hold it, where it reads erased or where it fails its check. -/
def FlashH.mirrorOf (f : FlashH) (k : Nat) : Nat :=
  match Tbl.find k f.mirror with
  | some (v, c) => if v = 2 ^ 32 - 1 ∧ c = 2 ^ 32 - 1 ∨ c ≠ crcOfWord v then 0 else v
  | none => 0

/-- A counter is written to the mirror with its check (R388). -/
def FlashH.mirrorPut (f : FlashH) (k v : Nat) : FlashH := { f with mirror := Tbl.put k (v, crcOfWord v) f.mirror }

end Sys2Proof.Machine
end

