-- ==== Sys2Proof/Machine/Trig.lean ====
section
/-!
DEFINITION. sin, cos and the angle of a vector (R142 of 04_profiles_and_stepping.md, R152 of 05_marver_loops.md, R238 of
08_feedback_and_latching.md): a value computed here, far finer than the bound of the rule, and an open error within that bound
(notes/assumptions/3.md).
-/

namespace Sys2Proof.Machine

/-- `t` and the next `f` terms of a power series in units of 2^-60 whose term after the `k`-th divides by `k (k + 1)`; `x2` is the
square of its argument. -/
def trigSeries (x2 : Int) : Nat → Nat → Int → Int
  | 0, _, t => t
  | f + 1, k, t => t + trigSeries x2 f (k + 2) (-(t * x2 / 2 ^ 60) / (k * (k + 1) : Nat))

/-- sin and cos of an unsigned Q0.32 fraction of a cycle, in units of 2^-60, far below the bound of R152. -/
def sinCosRef (th : Nat) : Int × Int :=
  let x : Int := (th % 2 ^ 30 : Nat) * 7244019458077122842 / 2 ^ 32
  let x2 := x * x / 2 ^ 60
  let s := trigSeries x2 12 2 x
  let c := trigSeries x2 12 1 (2 ^ 60)
  match th / 2 ^ 30 % 4 with
  | 0 => (s, c)
  | 1 => (c, -s)
  | 2 => (-s, -c)
  | _ => (-c, s)

/-- An error of at most `b` either way. -/
def within (b e : Int) : Int := max (-b) (min b e)

/-- sin of an unsigned Q0.32 fraction of a cycle in units of 2^-40, its error below 2^-28 (R152). -/
def sinAt (th : Nat) : Int := rneShr (sinCosRef th).1 20 + within 4090 (Config.sinErr th)

/-- cos, as `sinAt` (R152). -/
def cosAt (th : Nat) : Int := rneShr (sinCosRef th).2 20 + within 4090 (Config.cosErr th)

/-- The angles of slope 2^-i for i from 0, in units of 2^-48 cycle. -/
def slopeAngles : List Int :=
  [35184372088832, 20770547670515, 10974586953444, 5570871696862, 2796246208089, 1399486241028, 699913886760, 349978300884,
    174991820497, 87496244017, 43748163730, 21874087080, 10937044192, 5468522177, 2734261099, 1367130551] ++
  [683565276, 341782638, 170891319, 85445659, 42722830, 21361415, 10680707, 5340354, 2670177, 1335088, 667544, 333772, 166886,
    83443, 41722]

/-- The angle that turns the vector onto the positive first axis, found slope by slope. -/
def turned (x y : Int) : Nat → List Int → Int
  | _, [] => 0
  | i, a :: l =>
    if 0 < y then a + turned (x + y / 2 ^ i) (y - x / 2 ^ i) (i + 1) l
    else -a + turned (x - y / 2 ^ i) (y + x / 2 ^ i) (i + 1) l

/-- The angle of the vector in units of 2^-48 cycle, 0 to 2^48 - 1, exact on the axes and diagonals. -/
def angle48 (x y : Int) : Nat :=
  let a := |x|
  let b := |y|
  let lo := min a b
  let hi := max a b
  if hi = 0 then Config.angleZero % 2 ^ 48
  else
    let o : Int := if lo = 0 then 0 else if lo = hi then 2 ^ 45 else turned (hi * 2 ^ 64) (lo * 2 ^ 64) 0 slopeAngles
    let q := if b ≤ a then o else 2 ^ 46 - o
    let h := if 0 ≤ x then q else 2 ^ 47 - q
    ((if 0 ≤ y then h else -h) % 2 ^ 48).toNat

/-- The angle of the vector as an unsigned Q0.16 fraction of a cycle, its error below 2^-16 (R238). -/
def angle16 (x y : Int) : Nat :=
  ((angle48 x y + max (2 ^ 22) (min (2 ^ 32 - 2 ^ 22) (Config.angleErr x y)) : Int) / 2 ^ 32 % 65536).toNat

end Sys2Proof.Machine
end

