-- ==== Sys2Proof/Machine/Feedback.lean ====
section
/-!
DEFINITION. Feedback channels and latch units (08_feedback_and_latching.md).
-/

namespace Sys2Proof.Machine

/-! ### Instances and ticks -/

/-- Channel FA_n. -/
def Dev.fa (d : Dev) (n : Nat) : FaH := Tbl.get {} n d.fbk.fa

/-- Changes FA_n. -/
def Dev.modFa (d : Dev) (n : Nat) (f : FaH → FaH) : Dev :=
  { d with fbk := { d.fbk with fa := Tbl.put n (f (d.fa n)) d.fbk.fa } }

/-- Channel FQ_q. -/
def Dev.fq (d : Dev) (q : Nat) : FqH := Tbl.get {} q d.fbk.fq

/-- Changes FQ_q. -/
def Dev.modFq (d : Dev) (q : Nat) (f : FqH → FqH) : Dev :=
  { d with fbk := { d.fbk with fq := Tbl.put q (f (d.fq q)) d.fbk.fq } }

/-- Latch unit LT_s. -/
def Dev.lt (d : Dev) (s : Nat) : LtH := Tbl.get {} s d.fbk.lt

/-- Changes LT_s. -/
def Dev.modLt (d : Dev) (s : Nat) (f : LtH → LtH) : Dev :=
  { d with fbk := { d.fbk with lt := Tbl.put s (f (d.lt s)) d.fbk.lt } }

/-- Update instant `j` of AX_n, 250 ps units (R26, R69). -/
def Dev.updateAt (d : Dev) (n : Nat) (j : Int) : Int := d.rd F.axCphase_phase n + j * d.updIv n

/-- The legs of AX_n have taken a sample set since the axis left DISABLED (R27). -/
def Dev.hasSets (d : Dev) (n : Nat) : Bool :=
  !(d.disabled n) && (d.axLegs n).any (fun l => !(d.snsLeg l).done.isEmpty)

/-- Sample time of the tick at update `j` of AX_n, 2^-16 ns (R27, R200): the sample time of the period's set, or the
update instant where the axis has taken none. -/
def Dev.sampleAt (d : Dev) (n : Nat) (j : Int) : Int :=
  if d.hasSets n then
    let k := j / (1 + d.rd F.axTick_dbl n : Nat)
    (d.rd F.axCphase_phase n + k * d.rd F.axCper_per n + d.rdI F.snsSpos_spos ((d.slotLeg n 0).getD 0)) * 16384
  else d.updateAt n j * 16384

/-- Number of the latest update of AX_n, of those divisible by `step`, whose sample time lies at or before `t`, 250 ps units
(R26, R27). -/
def Dev.tickSampled (d : Dev) (n step : Nat) (t : Int) : Int :=
  if d.hasSets n then
    let dbl : Int := d.rd F.axTick_dbl n
    let k := (t - d.rd F.axCphase_phase n - d.rdI F.snsSpos_spos ((d.slotLeg n 0).getD 0)) / d.rd F.axCper_per n
    ((1 + dbl) * k + dbl) / step * step
  else (t - d.rd F.axCphase_phase n) / (d.updIv n * step) * step

/-! ### Selection and faults -/

/-- The source of AX_n (R216, R218): a VIRTUAL axis with SRC = 0 behaves as with TARGET. -/
def Dev.fbSrc (d : Dev) (n : Nat) : Nat :=
  let s := d.rd F.fbkSel_src n
  if s = 0 ∧ d.rd F.axCfg_kind n = 5 then 13 else s

/-- The axes that select source `src`. -/
def Dev.selecting (d : Dev) (src : Nat) : List Nat := (List.range 8).filter (fun n => d.rd F.fbkSel_src n == src)

/-- Configuration of the channel with source number `src` may change (R217): every axis that selects it, or steps on
it, is DISABLED. -/
def Dev.chanFree (d : Dev) (src : Nat) : Bool :=
  (d.selecting src).all d.disabled &&
  (src < 9 || (List.range 8).all (fun n => !(d.flag F.axStep_outen n && d.rd F.axStep_fq n + 9 == src) || d.disabled n))

/-- A feedback fault of AX_n (R223). -/
def Dev.fbFaultAx (d : Dev) (n reason : Nat) : Dev :=
  let d := d.ev E.fbFault n (d.rd F.fbkSel_src n + 256 * reason)
  if d.disabled n then d else (d.set1 F.fbkSt_fbfault n).faultOff n 10

/-- FQ_q enters its channel fault, which acts on every axis that selects it (R223, R233). -/
def Dev.fqFault (d : Dev) (q reason : Nat) : Dev :=
  if d.flag F.fqSt_fault q then d
  else (d.set1 F.fqSt_fault q).each (d.selecting (9 + q)) fun n d => d.fbFaultAx n reason

/-- The channel with source number `src` is enabled and has produced a position (R134, R218). -/
def Dev.chanReady (d : Dev) (src : Nat) : Bool :=
  if 1 ≤ src ∧ src ≤ 8 then d.flag F.faCtrl_en (src - 1) && (d.fa (src - 1)).last.isSome
  else if 9 ≤ src ∧ src ≤ 12 then d.flag F.fqCtrl_en (src - 9) && d.flag F.fqSt_ready (src - 9)
  else src == 13

/-! ### Absolute channels -/

/-- The offset of the latch edge from the request, 2.5 ns units (R228). -/
def Dev.faEdge (d : Dev) (n : Nat) : Nat :=
  let e := d.rd F.faCtrl_latchedge n
  let v := d.rd F.faCtrl_div n
  e / 2 * v + (if e % 2 = 1 then v / 2 else 0)

/-- LEAD of FA_n in units of 1.25 ns (R228). -/
def Dev.faLead (d : Dev) (n : Nat) : Int :=
  2 * d.faEdge n + d.rd F.faLdly_ldly n + 2 * d.rdI F.faLdly_asym n + rneDiv (8 * d.rd F.faTim_tsens n) 10

/-- LEAD of FA_n in ps. -/
def Dev.faLeadPs (d : Dev) (n : Nat) : Int :=
  2500 * d.faEdge n + 1250 * d.rd F.faLdly_ldly n + 2500 * d.rdI F.faLdly_asym n + 1000 * d.rd F.faTim_tsens n

/-- FA_n works (R217): enabled, with an owner of a kind. -/
def Dev.faWorks (d : Dev) (n : Nat) : Bool := d.flag F.faCtrl_en n && d.rd F.axCfg_kind (d.rd F.faCtrl_axis n) != 0

/-- FA_n serves ticks (R229): it works, and is measured where a start bit is expected. -/
def Dev.faServes (d : Dev) (n : Nat) : Bool := d.faWorks n && (!(d.flag F.faCtrl_start n) || d.flag F.faLdly_measured n)

/-- FQ_q works (R217): enabled, with an owner of a kind. -/
def Dev.fqWorks (d : Dev) (q : Nat) : Bool := d.flag F.fqCtrl_en q && d.rd F.axCfg_kind (d.rd F.fqCtrl_axis q) != 0

/-- The frame-fit check of R226, in ps. -/
def Dev.faFits (d : Dev) (n : Nat) : Bool :=
  let P : Int := 2500 * d.rd F.faCtrl_div n
  let clocks : Int := d.rd F.faFrm_cmdlen n + (if d.flag F.faCtrl_start n then d.rd F.faFrm_ackmax n else 0) + d.rd F.faFrm_rlen n
  decide (d.faLeadPs n + clocks * P + 2500 * d.rd F.faLdly_ldly n + P / 2 + 1000 * d.rd F.faTim_tmono n ≤
    250 * d.tv250 (d.rd F.faCtrl_axis n))

/-- No field of FA_n reaches beyond RLEN (R227). -/
def Dev.faFields (d : Dev) (n : Nat) : Bool :=
  let r := d.rd F.faFrm_rlen n
  decide (d.rd F.faFld_posofs n + d.rd F.faFld_poslen n ≤ r) && decide (d.rd F.faFld_stofs n + d.rd F.faFld_stlen n ≤ r) &&
    (!(d.flag F.faCrc_en n) || decide (d.rd F.faCrc_crcofs n + d.rd F.faCrc_crclen n ≤ r))

/-- Parameters of CHK_k as they stand (R227, R369). -/
def Dev.crcOf (d : Dev) (k : Nat) : CrcP :=
  { width := d.rd F.chkCfg_width k, poly := d.rd F.chkPoly_poly k, init := d.rd F.chkInit_init k
    refin := d.flag F.chkCfg_refin k, refout := d.flag F.chkCfg_refout k, xorout := d.rd F.chkXor_xorout k }

/-- EN of FA_n has been set (R220, R227, R229): the next valid word is the first, the check parameters are copied, and
with START = 1 the delay measurement begins. -/
def Dev.faEnable (d : Dev) (n : Nat) : Dev :=
  let st := d.flag F.faCtrl_start n
  (d.on st (·.clr F.faLdly_measured n)).modFa n fun h =>
    { h with last := none, tv := none, frame := none, asked := none, crc := d.crcOf (d.rd F.faCrc_unit n)
             meas := if st then some [] else none, repeats := 0 }

/-- EN of FA_n has been cleared: the frame and the measurement end. -/
def Dev.faDisable (d : Dev) (n : Nat) : Dev := d.modFa n fun h => { h with frame := none, meas := none }

/-- Row FA_FRAME_START (R225, R228): the request instant, LEAD before the latest sample time of a velocity tick of the owner, has
come; the frame starts there. -/
def Dev.faFrameStart (d : Dev) (n : Nat) : Dev :=
  let a := d.rd F.faCtrl_axis n
  let h := d.fa n
  let now_ : Int := d.tb16 (d.rd F.axTick_tb a)
  let lead : Int := d.faLeadPs n * 65536 / 1000
  let ts := d.sampleAt a (d.tickSampled a (d.rd F.axTick_cdiv a * d.rd F.axTick_vdiv a) ((now_ + lead) / 16384))
  let t0 : Nat := d.now - ((now_ - (ts - lead)) * 1000 / 65536).toNat
  if d.faServes n ∧ h.frame = none ∧ h.asked ≠ some ts ∧ h.busyTill ≤ t0 ∧ ts - lead ≤ now_ then
    d.modFa n fun h => { h with frame := some (ts, t0), asked := some ts }
  else d

/-- The balls of an absolute channel (R224): the clock, the driver enable, and the level driven onto the data line. -/
structure FaPins where
  clk : Bool := true
  de : Bool := false
  dat : Option Bool := none
deriving DecidableEq, Repr

/-- The balls of FA_n now (R224, R225): the clock is low for floor(DIV/2) x 2.5 ns of each period of a frame, else high; during the
CMDLEN command clocks the driver is enabled and sends CMD, its highest bit first. -/
def Dev.faPins (d : Dev) (n : Nat) : FaPins :=
  match (d.fa n).frame with
  | none => {}
  | some (_, t0) =>
    let v := d.rd F.faCtrl_div n
    let i := (d.now - t0) / (2500 * v)
    let cmd := d.rd F.faFrm_cmdlen n
    let clocks := cmd + (if d.flag F.faCtrl_start n then d.rd F.faFrm_ackmax n else 0) + d.rd F.faFrm_rlen n
    { clk := decide (clocks ≤ i) || decide (2500 * (v / 2) ≤ (d.now - t0) % (2500 * v))
      de := decide (i < cmd)
      dat := if i < cmd then some (bitOf (d.rd F.faFrm_cmd n) (cmd - 1 - i)) else none }

/-- A field of response bits: bit `ofs` first, most significant first unless `lsb` (R227). -/
def respField (bits ofs len : Nat) (lsb : Bool) : Nat :=
  if lsb then bitsOf bits ofs len else reflect (bitsOf bits ofs len) len

/-- Gray code to binary (R227). -/
def grayToBin (g : Nat) : Nat → Nat
  | 0 => g
  | k + 1 => grayToBin g k ^^^ g / 2 ^ (k + 1)

/-- The check of a response (R227). -/
def Dev.faCheck (d : Dev) (n bits : Nat) : Bool :=
  let c := (d.fa n).crc
  let from_ := d.rd F.faCrc_from n
  let ofs := d.rd F.faCrc_crcofs n
  let v := (List.range (ofs - from_)).foldl (fun v i => c.bit v (bitOf bits (from_ + i))) (c.init % 2 ^ c.width)
  let len := d.rd F.faCrc_crclen n
  let got := respField bits ofs len false
  let got := if d.flag F.faCrc_inv n then 2 ^ len - 1 - got else got
  !(d.flag F.faCrc_en n) || c.result v == got

/-- An invalid word: flags, ERRS, FA_FRAME_ERR (R227). -/
def Dev.faErr (d : Dev) (n : Nat) (crc timeout sens : Bool) : Dev :=
  let d := ((d.on crc (·.set1 F.faSt_crcerr n)).on timeout (·.set1 F.faSt_timeout n)).on sens (·.set1 F.faSt_senserr n)
  (d.bump F.faSt_errs n).ev E.faFrameErr n (b2n crc + 2 * b2n timeout + 4 * b2n sens)

/-- The frame of FA_n ends after `clocks` clocks; the next starts no earlier than TMONO after its last rising edge
(R225). -/
def Dev.faEnd (d : Dev) (n clocks : Nat) : Dev :=
  let v := d.rd F.faCtrl_div n
  d.modFa n fun h =>
    { h with
      frame := none
      busyTill := match h.frame with
        | some (_, t0) => t0 + 2500 * ((clocks - 1) * v + v / 2) + 1000 * d.rd F.faTim_tmono n
        | none => h.busyTill }

/-- x_m of AX_n from the position `X` of its channel, 2^-16 counts (R219). -/
def Dev.fbX (d : Dev) (n : Nat) (X : Int) : Int :=
  satS 64 ((if d.flag F.fbkSel_neg n then -X else X) + d.rdI64 F.fbkOfslo_ofs F.fbkOfshi_ofs n)

/-- X of FA_n takes a valid word `w` requested for `ts` (R220); a tick of that sample time that was extrapolated keeps the position
for the latch samples (R222). -/
def Dev.faTake (d : Dev) (n w : Nat) (ts : Int) : Dev :=
  let len := d.rd F.faFld_poslen n
  let d := d.modFa n fun h =>
    { h with
      last := some w, tv := some ts
      x := match h.last with
        | none => if d.flag F.faCtrl_signed n then sx len w else (w : Int)
        | some l => satS 64 (h.x + sx len (ux len ((w : Int) - l))) }
  d.each (d.selecting (n + 1)) fun a d =>
    d.modAxis a fun h =>
      { h with fb := { h.fb with
          hist := h.fb.hist.map fun k =>
            if k.t = ts ∧ k.ext then { k with late := some (d.fbX a ((d.fa n).x * 65536)) } else k } }

/-- Row FA_WORD (R225, R227): the start bit came in clock `clk` of the search (0: none), its edge `dly` × 2.5 ns after the
last rising edge; `bits` are the response bits, bit i received in the i-th response clock. -/
def Dev.faWord (d : Dev) (n clk dly bits : Nat) : Dev :=
  match (d.fa n).frame with
  | none => d
  | some (ts, _) =>
    let st := d.flag F.faCtrl_start n
    let cmd := d.rd F.faFrm_cmdlen n
    let ack := d.rd F.faFrm_ackmax n
    if st ∧ (clk = 0 ∨ ack < clk) then (d.faErr n false true false).faEnd n (cmd + ack)
    else
      let d := d.faEnd n (cmd + (if st then clk else 0) + d.rd F.faFrm_rlen n)
      let ldly := d.rd F.faLdly_ldly n
      let off : Nat := max dly ldly - min dly ldly
      let d := d.on (st && decide (d.rd F.faCtrl_div n < 4 * off)) fun d =>
        (d.set1 F.faSt_drift n).ev E.faDelayDrift n dly
      let len := d.rd F.faFld_poslen n
      let raw := respField bits (d.rd F.faFld_posofs n) len (d.flag F.faCtrl_lsbfirst n)
      let w := if d.flag F.faCtrl_gray n then grayToBin raw len % 2 ^ len else raw
      let status := respField bits (d.rd F.faFld_stofs n) (d.rd F.faFld_stlen n) false
      let d := ((d.wr F.faSt_status status n).wr F.faTs_ns (nsOf (ts % (sec16 : Int)).toNat) n).modFa n fun h => { h with w := w }
      let crc := !(d.faCheck n bits)
      let sens := status &&& d.rd F.faFld_errmask n != 0
      if crc || sens then d.faErr n crc false sens else d.faTake n w ts

/-- Row FA_DELAY_MEASUREMENT (R229): one measurement frame, its start bit in clock `clk` of the search (0: none), `dly` ×
2.5 ns after the last rising edge. -/
def Dev.faMeasure (d : Dev) (n clk dly : Nat) : Dev :=
  match (d.fa n).meas with
  | none => d
  | some l =>
    if !(d.faWorks n) ∨ l.length ≥ 16 then d
    else if clk = 0 ∨ d.rd F.faFrm_ackmax n < clk then
      (d.faErr n false true false).modFa n fun h =>
        if h.repeats < 3 then { h with repeats := h.repeats + 1 } else { h with meas := none }
    else d.modFa n fun h => { h with meas := some (dly :: l) }

/-- Row FA_DELAY_MEASURED (R229): after 16 frames LDLY becomes their mean, rounded up. -/
def Dev.faMeasured (d : Dev) (n : Nat) : Dev :=
  match (d.fa n).meas with
  | some l =>
    if l.length = 16 then
      let m := (l.sum + 15) / 16
      ((((d.wr F.faLdly_ldly m n).set1 F.faLdly_measured n).modFa n fun h => { h with meas := none }).ev E.faDelayMeasured n m)
    else d
  | none => d

/-! ### Incremental channels -/

/-- Time of the owner's time base, 2^-16 ns. -/
def Dev.fqNow (d : Dev) (q : Nat) : Int := d.tb16 (d.rd F.axTick_tb (d.rd F.fqCtrl_axis q))

/-- The stamp of an edge that has shown in the last `n` samples (R231): the first of them, at 5 ns resolution. -/
def Dev.fqStamp (d : Dev) (q n : Nat) : Int := (d.fqNow q / (5 * 65536) - (n - 1 : Nat)) * (5 * 65536)

/-- FQ_q falls back on its sin/cos signals (R241). -/
def Dev.fqFallback (d : Dev) (q reason : Nat) : Dev :=
  if d.flag F.fqSt_fallback q then d else (d.set1 F.fqSt_fallback q).ev E.fqFallback q reason

/-- The main path of FQ_q faults (R233, R236, R240). -/
def Dev.fqMainFault (d : Dev) (q reason : Nat) : Dev :=
  if d.rd F.fqCtrl_mode q = 4 then
    if d.flag F.fqSt_fallback q then d
    else if (d.fq q).amplBad then d.fqFault q reason
    else d.fqFallback q reason
  else d.fqFault q reason

/-- A counted step (R232, R234, R235). -/
def Dev.fqStep (d : Dev) (q : Nat) (neg : Bool) (t : Int) : Dev :=
  let prev := (d.fq q).dir
  let d := d.modFq q fun h =>
    let n := h.count + (if neg then -1 else 1)
    { h with count := n, dir := some neg, steps := { n := n, t := t, neg := neg } :: h.steps }
  let d := d.wr F.fqSt_dir (b2n neg) q
  match prev with
  | some p =>
    if p = neg then d
    else ((d.set1 F.fqSt_dirchg q).modFq q fun h => { h with idxOk := false }).ev E.fqDirchg q (b2n neg)
  | none => d

/-- An illegal transition (R232, R233). -/
def Dev.fqIllegal (d : Dev) (q : Nat) (t : Int) : Dev :=
  let d := (d.bump F.fqSt_qerr q).set1 F.fqSt_illegal q
  let d := (d.modFq q fun h => { h with bad := (t :: h.bad).take 15 }).ev E.fqIllegal q (d.rd F.fqSt_qerr q)
  let k := d.rd F.fqQerr_k q
  match ((d.fq q).bad.take k).getLast? with
  | some t0 =>
    if k ≤ (d.fq q).bad.length ∧ t - t0 ≤ d.rd F.fqQerr_qwin q * (1000000 * 65536) then d.fqMainFault q 2 else d
  | none => d

/-- Place of a pair A, B on the positive sequence 00, 10, 11, 01 (R232). -/
def quadPos (a b : Bool) : Nat := if a then (if b then 2 else 1) else (if b then 3 else 0)

/-- The filtered levels of A and B become `a` and `b` in one sample stamped `t` (R231, R232). -/
def Dev.fqPair (d : Dev) (q : Nat) (a b : Bool) (t : Int) : Dev :=
  let mode := d.rd F.fqCtrl_mode q
  let h := d.fq q
  let d := d.modFq q fun h => { h with a := a, b := b }
  if !(d.fqWorks q) || mode == 0 || mode == 3 then d
  else if mode = 2 then
    if a && !h.a then
      let d := d.fqStep q h.b t
      if b != h.b then d.fqIllegal q t else d
    else d
  else
    let place (a b : Bool) : Nat := if d.flag F.fqCtrl_swap q then quadPos b a else quadPos a b
    match (place a b + 4 - place h.a h.b) % 4 with
    | 0 => d
    | 1 => d.fqStep q false t
    | 3 => d.fqStep q true t
    | _ => d.fqIllegal q t

/-- The level of a comparator with hysteresis of `hyst` x FS/256 around its threshold, `v` in units of 2^-15 of full scale above
the threshold (R238). -/
def comparator (hyst : Nat) (old : Bool) (v : Int) : Bool :=
  if (hyst * 64 : Nat) < v then true else if v < -(hyst * 64 : Nat) then false else old

/-- The comparators of FQ_q see the cos pair at `c` and the sin pair at `s` (R238). -/
def Dev.fqCompare (d : Dev) (q : Nat) (c s : Int) : Dev :=
  let hyst := d.rd F.fqSc_hyst q
  d.modFq q fun h =>
    { h with ca := comparator hyst h.ca (c - d.rdI F.fqScofs_cofs q), cb := comparator hyst h.cb (s - d.rdI F.fqScofs_sofs q) }

/-- The sampled levels `a` and `b`, after inversion, have stood for `na` and `nb` consecutive samples: a level that has differed from
its filtered level in FILT + 1 samples is accepted, the one that came first before the other (R231). -/
def Dev.fqSampled (d : Dev) (q : Nat) (a b : Bool) (na nb : Nat) : Dev :=
  let h := d.fq q
  let filt := d.rd F.fqCtrl_filt q
  let takeA : Bool := (a != h.a) && decide (filt < na)
  let takeB : Bool := (b != h.b) && decide (filt < nb)
  match takeA, takeB with
  | false, false => d
  | true, false => d.fqPair q a h.b (d.fqStamp q na)
  | false, true => d.fqPair q h.a b (d.fqStamp q nb)
  | true, true =>
    if na = nb then d.fqPair q a b (d.fqStamp q na)
    else if nb < na then (d.fqPair q a h.b (d.fqStamp q na)).fqPair q a b (d.fqStamp q nb)
    else (d.fqPair q h.a b (d.fqStamp q nb)).fqPair q a b (d.fqStamp q na)

/-- Row FQ_EDGE (R230 to R232, R238): inputs A and B show what `x` and `y` say: the balls, or in SINCOS the cos and the sin pair through
their comparators. -/
def Dev.fqEdge (d : Dev) (q : Nat) (x y : FqLine) : Dev :=
  let sampled (d : Dev) (a b : Bool) : Dev :=
    d.fqSampled q (a != d.flag F.fqCtrl_inva q) (b != d.flag F.fqCtrl_invb q) x.samples y.samples
  if d.rd F.fqCtrl_mode q = 4 then
    let d := d.fqCompare q x.pair y.pair
    sampled d (d.fq q).ca (d.fq q).cb
  else sampled d x.level y.level

/-- Row FQ_INDEX (R231, R236): the ball FQZ_q has shown `level` in the last `n` samples; the rising edge of filtered Z is the
active one. -/
def Dev.fqIndex (d : Dev) (q : Nat) (level : Bool) (n : Nat) : Dev :=
  let mode := d.rd F.fqCtrl_mode q
  let z := level != d.flag F.fqCtrl_invz q
  let new : Bool := (z != (d.fq q).z) && decide (d.rd F.fqCtrl_filt q < n)
  let d := if new then d.modFq q fun h => { h with z := z } else d
  if !new || !z || !(d.fqWorks q) || mode == 0 then d
  else
    let h := d.fq q
    let diff := h.count - h.idx
    let lines := d.rd F.fqIdx_lines q
    let off := |(|diff| : Int) - 4 * lines|
    let d := d.modFq q fun h => { h with idx := h.count, idxOk := true }
    if (mode = 1 ∨ mode = 4) ∧ lines ≠ 0 ∧ h.idxOk ∧ (d.rd F.fqIdx_tol q : Int) < off then
      let d := (d.set1 F.fqSt_indexErr q).ev E.fqIndexErr q (dw diff)
      if d.flag F.fqCtrl_idxchk q then d.fqMainFault q 3 else d
    else d

/-- Count of FQ_q at time `t` of its owner's time base (R94, R219). -/
def FqH.countAt (h : FqH) (t : Int) : Int :=
  match h.steps.find? (fun s => decide (s.t ≤ t)) with
  | some s => s.n
  | none => match h.steps.getLast? with
    | some s => s.n - (if s.neg then -1 else 1)
    | none => h.count

/-- Raw velocity of a counting channel at a velocity tick, counts/s (R235), with its sample time, that of the previous
tick and the previous raw velocity; none where there is no previous tick and one is needed. -/
def FqH.rawVel (h : FqH) (ts : Int) (tp : Option Int) (prev : Rat) (zsto : Nat) : Option Rat :=
  let s : Rat := (sec16 : Nat)
  match h.steps.filter (fun x => decide (x.t ≤ ts)) with
  | [] => some 0
  | s1 :: old =>
    let dir : Rat := if s1.neg then -1 else 1
    match tp with
    | none => none
    | some tp =>
      if tp < s1.t then
        -- the steps from the latest one at or before the previous tick up to the last one
        let run := old.takeWhile (fun x => decide (tp < x.t))
        match old.find? (fun x => decide (x.t ≤ tp)) with
        | some s0 =>
          if (s0 :: run).all (fun x => x.neg == s1.neg) && decide (s0.t < s1.t) then
            some ((s1.n - s0.n : Int) * s / (s1.t - s0.t : Int))
          else some (dir * s / (ts - tp : Int))
        | none => some (dir * s / (ts - tp : Int))
      else if ts - s1.t < zsto * 65536 ∧ ts ≠ s1.t then
        let m := min (s / (ts - s1.t : Int)) |prev|
        some (dir * m)
      else some 0

/-- Drops the steps that neither a later velocity nor a Gather row within its LAG can need (R235, R275); `tp` is the sample time of the
previous tick. -/
def FqH.prune (h : FqH) (tp : Int) : FqH :=
  let tp := tp - 2 ^ 20 * 65536
  { h with steps := h.steps.takeWhile (fun x => decide (tp < x.t)) ++ (h.steps.find? (fun x => decide (x.t ≤ tp))).toList }

/-! ### Sin/cos -/

/-- The square root of a number rounded to the nearest integer (R4). -/
def sqrtRne (x : Nat) : Nat :=
  let r := Nat.sqrt x
  if r * r + r < x then r + 1 else r

/-- Row SINCOS_SAMPLE (R238 to R241): the held values of SC_q give the position. -/
def Dev.sincosSample (d : Dev) (q : Nat) : Dev :=
  match Tbl.find q d.sns.sc with
  | none => d
  | some w =>
    let ts := w.ts
    if d.rd F.fqCtrl_mode q ≠ 4 ∨ !(d.fqWorks q) ∨ d.now < w.ready ∨ (d.fq q).xt = some ts then d
    else
      let s := w.s - d.rdI F.fqScofs_sofs q
      let c := w.c - d.rdI F.fqScofs_cofs q
      let a2 : Nat := (4 * (s * s + c * c)).toNat
      let amin := d.rd F.fqScamp_amin q
      let amax := d.rd F.fqScamp_amax q
      let valid : Bool := decide (amin * amin ≤ a2) && decide (a2 ≤ amax * amax)
      let phi := angle16 c s
      let ib := d.rd F.fqSc_ibits q
      let f := phi * 2 ^ ib / 65536
      let d := (d.wr F.fqScmeas_a (min 65535 (sqrtRne a2)) q).wr F.fqScmeas_phi phi q
      let d := d.on (valid && !(d.flag F.fqSt_ready q)) fun d =>
        (d.modFq q fun h => { h with count := (4 * f / 2 ^ ib : Nat), steps := [] }).set1 F.fqSt_ready q
      let per : Int := 2 ^ ib * 65536
      let f16 : Int := (f * 65536 : Nat)
      let x0 := (d.fq q).x
      let m : Int := ((d.fq q).count * 2 + 1) * 2 ^ (ib + 13)
      let base := m - per / 2
      let xMain := if valid then base + (f16 - base) % per else m
      let xFall := x0 + ((f16 - x0 + per / 2) % per - per / 2)
      let was := (d.fq q).amplBad
      let d := d.modFq q fun h => { h with amplBad := !valid }
      if !(d.flag F.fqSt_ready q) then d
      else if d.flag F.fqSt_fallback q then
        if valid then d.modFq q fun h => { h with x := xFall, xt := some ts }
        else (d.modFq q fun h => { h with xt := some ts }).fqFault q 4
      else
        let d := d.on (!valid) fun d => (d.set1 F.fqSt_ampl q).on (!was) (·.ev E.fqAmpl q (min 65535 (sqrtRne a2)))
        if valid && decide (per / 4 < |xMain - m|) then
          ((d.set1 F.fqSt_mismatch q).fqFallback q 5).modFq q fun h => { h with x := xFall, xt := some ts }
        else d.modFq q fun h => { h with x := xMain, xt := some ts }

/-- Row MAINRET (R242). -/
def Dev.mainret (d : Dev) (q : Nat) : Code × Dev :=
  if (d.selecting (9 + q)).all (fun n => d.axState n ≤ 1) then
    if d.rd F.fqCtrl_mode q = 4 then
      let d := d.modFq q fun h => { h with count := 4 * h.x / (2 ^ d.rd F.fqSc_ibits q * 65536), bad := [], steps := [] }
      (.ok, (d.clr F.fqSt_fallback q).ev E.fqMainRestored q 0)
    else (.ok, d)
  else (.wrongState, d)

/-- Row CLRFLT (R223). -/
def Dev.clrflt (d : Dev) (q : Nat) : Code × Dev :=
  if d.chanFree (9 + q) then (.ok, d.clr F.fqSt_fault q) else (.wrongState, d)

/-- EN or MODE of FQ_q has been written: a counting channel produces positions at once, SINCOS from its alignment (R239). -/
def Dev.fqEnable (d : Dev) (q : Nat) : Dev :=
  let m := d.rd F.fqCtrl_mode q
  let on := d.flag F.fqCtrl_en q
  (d.wr F.fqSt_ready (b2n (on && 1 ≤ m && m ≤ 3)) q).modFq q fun h => { h with steps := [], idxOk := false, xt := none }

/-! ### Positions of the axes -/

/-- Position of the selected channel at sample time `ts`, 2^-16 counts, where it has one (R219, R222). -/
def Dev.chanX (d : Dev) (n : Nat) (ts : Int) : Option Int :=
  let src := d.fbSrc n
  let h := d.axis n
  if 1 ≤ src ∧ src ≤ 8 then
    let a := d.fa (src - 1)
    if d.flag F.faCtrl_en (src - 1) ∧ a.tv = some ts then some (a.x * 65536) else none
  else if 9 ≤ src ∧ src ≤ 12 then
    let q := d.fq (src - 9)
    some (if d.rd F.fqCtrl_mode (src - 9) = 4 then q.x else q.countAt ts * 65536)
  else some (satS 64 (h.prf.p + h.cpl.c))

/-- Raw velocity of AX_n at a velocity tick, in 2^-16 counts/s, where one exists (R221, R235). -/
def Dev.rawVel (d : Dev) (n : Nat) (ts x : Int) : Option Rat :=
  let src := d.fbSrc n
  let b := (d.axis n).fb
  let prev := b.hist.head?
  if 9 ≤ src ∧ src ≤ 12 ∧ d.rd F.fqCtrl_mode (src - 9) ≠ 4 then
    ((d.fq (src - 9)).rawVel ts (prev.map (·.t)) b.raw (d.rd F.fqZsto_zsto (src - 9))).map
      (fun v => 65536 * (if d.flag F.fbkSel_neg n then -v else v))
  else match prev with
    | some p => if p.t = ts then none else some (((x - p.x) * (sec16 : Int) : Int) / ((ts - p.t : Int) : Rat))
    | none => none

/-- Stores x_m and v_m of a velocity tick. -/
def Dev.fbStore (d : Dev) (n : Nat) (ts x v : Int) (ext : Bool) : Dev :=
  let d := d.modAxis n fun h =>
    { h with fb := { h.fb with
        xm := x, vm := v, tv := ts, have_ := true
        hist := ({ t := ts, x := x, v := v, ext := ext } :: h.fb.hist).take 8 } }
  let tb := d.rd F.axTick_tb n
  (d.note 0x10 n tb ts x).note 0x11 n tb ts v

/-- x_m and v_m of AX_n from a valid position `X`, 2^-16 counts (R219, R221). A raw velocity that needs a tick that never
was is a free value. -/
def Dev.fbForm (d : Dev) (n : Nat) (ts X : Int) : Dev :=
  let src := d.fbSrc n
  let x := if src = 13 then X else d.fbX n X
  let vm := (d.axis n).fb.vm
  let k : Nat := 2 ^ d.rd F.fbkSel_vfilt n
  match d.rawVel n ts x with
  | some r =>
    let d := d.modAxis n fun h => { h with fb := { h.fb with raw := r / 65536 } }
    let d := if 9 ≤ src ∧ src ≤ 12 then
        d.modFq (src - 9) fun q => match (d.axis n).fb.hist.head? with | some p => q.prune p.t | none => q
      else d
    d.fbStore n ts x (satS 64 (rneDiv ((vm * (r.den : Int)) * k + (r.num - vm * r.den)) (k * r.den))) false
  | none => (d.fbStore n ts x (sx 64 d.free) false).freed

/-- The feedback of AX_n, not DISABLED, at the start of the outer stages of a velocity tick (R219 to R223). -/
def Dev.fbTick (d : Dev) (n : Nat) (ts : Int) : Dev :=
  if d.fbSrc n = 0 then d
  else
    match d.chanX n ts with
    | some X => (d.fbForm n ts X).clr F.fbkSt_miss n
    | none =>
      let b := (d.axis n).fb
      let d := match b.hist with
        | a :: c :: _ => d.fbStore n ts (satS 64 (2 * a.x - c.x)) b.vm true
        | _ => (d.fbStore n ts (sx 64 d.free) b.vm true).freed
      let d := ((d.set1 F.fbkSt_late n).bump F.fbkSt_miss n).bump F.fbkSt_latecnt n
      let miss := d.rd F.fbkSt_miss n
      let d := d.ev E.fbLate n miss
      if miss = d.rd F.fbkSel_maxmiss n then d.fbFaultAx n 1 else d

/-- The feedback of a DISABLED axis at a velocity tick (R134). -/
def Dev.fbTickDisabled (d : Dev) (n : Nat) (ts : Int) : Dev :=
  let src := d.rd F.fbkSel_src n
  if 1 ≤ src ∧ src ≤ 12 ∧ d.chanReady src then
    match d.chanX n ts with
    | some X => d.fbForm n ts X
    | none => d.bump F.fbkSt_latecnt n
  else d

/-! ### Latch units -/

/-- Gather takes the stamps of the channels in EMASK at the polarity EDGE (R280). A TRIGBUS pulse is judged at its end: from
2,000 ns on it is a time pulse, which Gather ignores (R68, R284); `width` is the time since the edge before this one. -/
def Dev.gthEdge (d : Dev) (s : Nat) (level : Bool) (age : Nat) (width : Option Nat) : Dev :=
  let e := d.rd F.gthTrig_edge
  let at_ (ps : Nat) : Int := d.tbAgo d.gthTb ps - 65536 * (if s = 7 then d.rdI F.gthTrigDly_dly else d.rdI F.ltDly_dly s)
  let new : List Int :=
    if !(bitOf (d.rd F.gthTrig_emask) s) then []
    else if s = 7 then
      match level, width with
      | true, some w =>
        if 50000 ≤ w then []
        else (if e = 0 then [] else [at_ (40 * (age + w))]) ++ (if e = 1 then [] else [at_ (40 * age)])
      | _, _ => []
    else if e = 2 ∨ (e = 0 ∧ level) ∨ (e = 1 ∧ !level) then [at_ (40 * age)] else []
  { d with gth := { d.gth with edges := d.gth.edges ++ new.map (fun t => (s, t)) } }

/-- Row TDC_EDGE (R243, R244): the input of channel `s` had an edge `age` × 40 ps before now and has shown `level` in the `n`
samples since. Channels 4 to 7 accept it after FILT + 1 samples; the filter of channels 0 to 3 is that of FI_0 to FI_3. -/
def Dev.tdcEdge (d : Dev) (s : Nat) (level : Bool) (age n : Nat) : Dev :=
  let stamp := d.now / 40 - age
  let h := d.lt s
  let blind : Bool := match h.edge with
    | some e => decide (stamp < e + 250)
    | none => false
  let confirmed : Bool :=
    if s < 4 then decide (d.rd F.fioVf_state < 2) && decide (d.rd F.fiCfg_filt s ≤ n) else decide (d.rd F.ltCfg_filt s < n)
  if !confirmed then d
  else if blind then d.bump F.ltSt_lost s
  else
    let d := (d.modLt s fun h => { h with edge := some stamp, level := level }).gthEdge s level age (h.edge.map (stamp - ·))
    let e := d.rd F.ltCfg_edge s
    if d.flag F.ltCfg_en s ∧ (e = 2 ∨ (e = 0 ∧ level) ∨ (e = 1 ∧ !level)) then
      let tb := d.rd F.axTick_tb (d.rd F.ltCfg_axis s)
      d.modLt s fun h => { h with wait := h.wait ++ [d.tbAgo tb (40 * age) - d.rdI F.ltDly_dly s * 65536] }
    else d

/-- The position of a tick for the latch samples (R222, R244): that of a word that came after the tick, else the value used. -/
def VTick.pos (k : VTick) : Int := k.late.getD k.x

/-- The latch samples take an extrapolated position from the tick (R222, R245). -/
def VTick.guessed (k : VTick) : Bool := k.ext && k.late.isNone

/-- Position at `te` between ticks `a` and `b` (R245): linear, or the cubic on both velocities. -/
def latchPos (a b : VTick) (te : Int) (vel : Bool) : Int :=
  let T : Rat := (b.t - a.t : Int)
  let u : Rat := (te - a.t : Int) / T
  let s : Rat := T / (sec16 : Nat)
  if vel then
    rneQ ((2 * u * u * u - 3 * u * u + 1) * a.pos + (u * u * u - 2 * u * u + u) * s * a.v +
      (-2 * u * u * u + 3 * u * u) * b.pos + (u * u * u - u * u) * s * b.v)
  else rneQ (a.pos + u * (b.pos - a.pos : Int))

/-- The ticks that bracket `te` in a history, newest first (R245). -/
def bracket (te : Int) : List VTick → Option (VTick × VTick)
  | b :: a :: r => if a.t ≤ te ∧ te < b.t then some (a, b) else bracket te (a :: r)
  | _ => none

/-- A latch entry passes the window (R246). -/
def Dev.ltWindow (d : Dev) (s : Nat) (x : Int) : Bool :=
  let per := d.rdI64 F.ltWperlo_v F.ltWperhi_v s
  let y := if per = 0 then x else x % per
  !(d.flag F.ltCfg_winen s) ||
    (decide (d.rdI64 F.ltWminlo_v F.ltWminhi_v s ≤ y) && decide (y ≤ d.rdI64 F.ltWmaxlo_v F.ltWmaxhi_v s))

/-- An entry is queued, or dropped where the queue is full (R247). -/
def Dev.ltPush (d : Dev) (s : Nat) (e : LtEnt) : Dev :=
  if (d.lt s).q.length < 4 then d.modLt s fun h => { h with q := h.q ++ [e] }
  else
    let d := d.bump F.ltSt_overflow s
    d.ev E.ltOverflow s (d.rd F.ltSt_overflow s)

/-- Row LATCH_EVENT (R245 to R247): the oldest waiting event of LT_s, once its bracketing velocity stage has ended. The
position of an OLD entry is a free value. -/
def Dev.latchEvent (d : Dev) (s : Nat) : Dev :=
  match (d.lt s).wait with
  | [] => d
  | te :: rest =>
    let n := d.rd F.ltCfg_axis s
    let hist := (d.axis n).fb.hist
    let d1 := d.modLt s fun h => { h with wait := rest }
    let old (d : Dev) : Dev := (d.ltPush s { x := sx 64 d.free, te := te, extrap := false, old := true }).freed
    if d.fbSrc n = 0 then old d1
    else match hist.head? with
      | none => d
      | some b =>
        if b.t ≤ te then d
        else match bracket te hist with
          | none => old d1
          | some (a, b) =>
            let x := satS 64 (latchPos a b te (d.flag F.ltCfg_mode s))
            if d.ltWindow s x then d1.ltPush s { x := x, te := te, extrap := a.guessed || b.guessed, old := false }
            else d1.bump F.ltSt_rejected s

/-- A read of LT_s_QINFO pops the head (R247). -/
def Dev.ltPop (d : Dev) (s : Nat) : Dev := d.modLt s fun h => { h with q := h.q.drop 1 }

/-- Clearing EN of LT_s empties its queue (R247). -/
def Dev.ltDisable (d : Dev) (s : Nat) : Dev := d.modLt s fun h => { h with q := [], wait := [] }

end Sys2Proof.Machine
end

