-- ==== Sys2Proof/Machine/Profile.lean ====
section
/-!
DEFINITION. The profile generator (R120 to R128 and R449, 04_profiles_and_stepping.md), in exact rational
arithmetic. Positions, velocities and accelerations are integers in 2^-16 counts, counts/s, counts/s²;
times are in seconds.
-/

namespace Sys2Proof.Machine

/-- The sign of an integer. -/
def sgnI (x : Int) : Int := if 0 < x then 1 else if x < 0 then -1 else 0

/-- The sign of a rational. -/
def sgnQ (x : Rat) : Int := sgnI x.num

/-- A number r + q·√x. R449 decides comparisons of such numbers exactly and never forms the root. -/
structure Surd where
  r : Rat
  q : Rat := 0
  x : Rat := 0
deriving DecidableEq, Repr

/-- The sign of r + q·√x, by comparing squares (R449). -/
def Surd.sign (s : Surd) : Int :=
  let y := s.q * s.q * s.x
  if y = 0 then sgnQ s.r
  else if s.r = 0 then sgnQ s.q
  else if 0 < s.r then (if 0 < s.q then 1 else sgnQ (s.r * s.r - y))
  else (if 0 < s.q then sgnQ (y - s.r * s.r) else -1)

/-- `c + m * s` for rational `c`, `m`. -/
def Surd.affine (s : Surd) (c m : Rat) : Surd := { r := c + m * s.r, q := m * s.q, x := s.x }

/-- A number r + q·√x rounded to the nearest integer (R16): an estimate of the root, corrected by exact
comparisons. -/
def Surd.round (s : Surd) : Int :=
  let root : Rat := (Nat.sqrt ((s.x * (2 ^ 128 : Nat)).floor.toNat) : Nat) / (2 ^ 64 : Nat)
  let n := rneQ (s.r + s.q * root)
  if (s.affine (-(n : Rat) - 1 / 2) 1).sign = 1 then n + 1
  else if (s.affine (-(n : Rat) + 1 / 2) 1).sign = -1 then n - 1
  else n

/-- A jerk-limited stop: its signed distance, its first jerk and its duration (R123). -/
structure Stop where
  dist : Surd
  jerk : Rat
  dur : Surd
deriving DecidableEq, Repr

/-- The jerk-limited stop from velocity `v` and acceleration `a` under deceleration limit `D` and jerk limit
`J` (R123; R449 third case: where releasing `a` carries `v` through 0, the stop continues on the other side). -/
def brake (v a D J : Int) : Stop :=
  let w := 2 * J * v + a * |a|
  if v = 0 ∧ a = 0 then { dist := { r := 0 }, jerk := 0, dur := { r := 0 } }
  else if w = 0 then
    let t : Rat := |a| / J
    let j : Rat := -(sgnI a) * J
    { dist := { r := v * t + a * t * t / 2 + j * t * t * t / 6 }, jerk := j, dur := { r := t } }
  else
    let s : Int := sgnI w
    let b : Int := s * a
    let u : Int := s * v
    let x : Rat := (2 * J * u + b * b : Int) / 2
    if x ≤ (D * D : Int) then
      { dist := { r := s * ((6 * b * x - b * b * b) / (6 * J * J)), q := s * (x / (J * J)), x := x }
        jerk := -s * J
        dur := { r := b / J, q := 2 / J, x := x } }
    else
      let j1 : Rat := if -D < b then -J else J
      let t1 : Rat := |b + D| / J
      let v1 : Rat := u + b * t1 + j1 * t1 * t1 / 2
      let th : Rat := (v1 - D * D / (2 * J)) / D
      { dist := { r := s * (u * t1 + b * t1 * t1 / 2 + j1 * t1 * t1 * t1 / 6 + (v1 * th - D * th * th / 2) + D * D * D / (6 * J * J)) }
        jerk := s * (if 0 < t1 then j1 else if 0 < th then 0 else J)
        dur := { r := t1 + th + D / J } }

/-- Position, velocity and acceleration of the generator. -/
structure Pva where
  p : Int
  v : Int
  a : Int
deriving DecidableEq, Repr

/-- The advance over one position interval `T` with jerk `j`: each line exact and rounded once (R122). -/
def advance (x : Pva) (j T : Rat) : Pva :=
  { p := satS 64 (rneQ (x.p + x.v * T + x.a * T * T / 2 + j * T * T * T / 6))
    v := satS 64 (rneQ (x.v + x.a * T + j * T * T / 2))
    a := satS 64 (rneQ (x.a + j * T)) }

/-- Limits in force at a stage. -/
structure Lims where
  v : Int
  acc : Int
  dec : Int
  j : Int
deriving DecidableEq, Repr

/-- |v| increases, or starts from rest, under acceleration `a` (R121). -/
def rising (v a : Int) : Bool := v = 0 || sgnI v == sgnI a

/-- The acceleration limit that applies: AMAX while |v| increases, DMAX while it decreases (R121). -/
def Lims.forAcc (l : Lims) (v a : Int) : Int := if rising v a then l.acc else l.dec

/-- A candidate jerk after its limit replacements, its advance, and whether it is admissible (R123, R449). -/
structure Cand where
  j : Rat
  to_ : Pva
  ok : Bool
deriving DecidableEq, Repr

/-- A candidate jerk (R123): replaced where it would carry a or v past a limit within the tick; the replacement at
VMAX is admissible only within jlim (R449); above VMAX the test on VMAX is set aside (R127). -/
def candidate (l : Lims) (x : Pva) (T jc : Rat) : Cand :=
  let a1 : Rat := x.a + jc * T
  let lim := l.forAcc x.v (sgnQ a1)
  let j1 : Rat := if (lim : Rat) < |a1| ∧ |x.a| ≤ lim then (sgnQ a1 * lim - x.a) / T else jc
  let v1 : Rat := x.v + x.a * T + j1 * T * T / 2
  let above := l.v < |x.v|
  let jv : Rat := (sgnQ v1 * l.v - x.v - x.a * T) * 2 / (T * T)
  let past := (l.v : Rat) < |v1| ∧ ¬ above
  let j2 := if past ∧ |jv| ≤ l.j then jv else j1
  let y := advance x j2 T
  { j := j2, to_ := y
    ok := decide (¬ (past ∧ (l.j : Rat) < |jv|)) && decide (|y.a| ≤ l.forAcc y.v y.a) &&
      (above || decide (|(y.v : Rat) + y.a * |y.a| / (2 * l.j)| ≤ l.v)) }

/-- The first candidate of a list that is admissible and passes a test. -/
def firstCand (l : Lims) (x : Pva) (T : Rat) (test : Pva → Bool) : List Rat → Option Rat
  | [] => none
  | jc :: r =>
    let c := candidate l x T jc
    if c.ok && test c.to_ then some c.j else firstCand l x T test r

/-- Jerk selection on velocity towards `vt` (R123, VELOCITY mode). -/
def velJerk (l : Lims) (x : Pva) (T : Rat) (vt : Int) : Rat :=
  let d := sgnI (vt - x.v)
  let release : Rat := -(sgnI x.a) * l.j
  if d = 0 ∨ x.a * d < 0 then release
  else
    (firstCand l x T (fun y => decide (0 ≤ (d : Rat) * (vt - y.v - y.a * |y.a| / (2 * l.j)))) [d * l.j, 0, -d * l.j]).getD release

/-- Jerk of a tick with what it plans. -/
structure Choice where
  j : Rat
  reversal : Bool := false
  overshoot : Bool := false
deriving DecidableEq, Repr

/-- Jerk selection on position towards `tgt` (R123, R127, R449; POSITION and OFFSET modes). -/
def posJerk (l : Lims) (x : Pva) (T : Rat) (tgt : Int) : Choice :=
  let e := tgt - x.p
  let d := if e ≠ 0 then sgnI e else if x.v ≠ 0 then -(sgnI x.v) else -(sgnI x.a)
  let b := (candidate l x T (brake x.v x.a l.dec l.j).jerk).j
  let far (y : Pva) : Bool := decide (0 ≤ d * ((brake y.v y.a l.dec l.j).dist.affine (tgt - y.p) (-1)).sign)
  if d = 0 then { j := 0 }
  else if x.v * d < 0 then { j := b, reversal := e ≠ 0 }
  else if l.v < |x.v| then
    let c := candidate l x T (velJerk l x T (sgnI x.v * l.v))
    if c.ok && far c.to_ then { j := c.j } else { j := b }
  else
    match firstCand l x T far [d * l.j, 0, -d * l.j] with
    | some j => { j := j }
    | none => { j := b, overshoot := true }

/-! ### The generator of an axis -/

/-- Position tick interval in seconds (R122). -/
def Dev.tpSec (d : Dev) (n : Nat) : Rat := (d.tp250 n : Rat) / 4000000000

/-- The generator's p, v, a. -/
def PrfH.pva (h : PrfH) : Pva := { p := h.p, v := h.v, a := h.a }

/-- The limits of normal motion, or of a controlled stop (R113, R121). -/
def PrfH.limits (h : PrfH) (stopping : Bool) : Lims :=
  if stopping then { v := h.vmax, acc := h.amax, dec := h.dstop, j := h.jstop }
  else { v := h.vmax, acc := h.amax, dec := h.dmax, j := h.jmax }

/-- Limit `i` of the generator: VMAX, AMAX, DMAX, JMAX, DSTOP, JSTOP (R121). -/
def PrfH.setLim (h : PrfH) (i : Nat) (x : Int) : PrfH :=
  match i with
  | 0 => { h with vmax := x }
  | 1 => { h with amax := x }
  | 2 => { h with dmax := x }
  | 3 => { h with jmax := x }
  | 4 => { h with dstop := x }
  | _ => { h with jstop := x }

/-- Changes the generator of AX_n. -/
def Dev.modPrf (d : Dev) (n : Nat) (f : PrfH → PrfH) : Dev := d.modAxis n fun h => { h with prf := f h.prf }

/-- The generator of AX_n. -/
def Dev.prf (d : Dev) (n : Nat) : PrfH := (d.axis n).prf

/-- Steps the acceleration to a value; JERK_STEP and PRF_JERK_STEP with the step (R126, R164). -/
def Dev.jerkStep (d : Dev) (n : Nat) (a1 : Int) : Dev :=
  let a0 := (d.prf n).a
  ((d.modPrf n fun h => { h with a := a1 }).set1 F.axPstat_jerkStep n).ev E.prfJerkStep n (dwQ (a1 - a0))

/-- The profile is at rest for STILL and AUTOSTILL (R111). -/
def Dev.atRest (d : Dev) (n : Nat) : Bool :=
  if d.rd F.axPstat_mode n = 0 then d.flag F.axPstat_inpos n else (d.prf n).v == 0 && (d.prf n).a == 0

/-- A DONE entry is due (R118). -/
def Dev.prfDone (d : Dev) (n : Nat) : Bool :=
  if d.rd F.axPstat_mode n = 1 then (d.prf n).v == (d.prf n).tgt && (d.prf n).a == 0 else d.flag F.axPstat_inpos n

/-- A target velocity clamped to ±VMAX (R127). -/
def Dev.vclamp (d : Dev) (n : Nat) (x : Int) : Dev :=
  let m := (d.prf n).vmax
  if m < |x| then (d.modPrf n fun h => { h with tgt := sgnI x * m }).set1 F.axPstat_vclamp n
  else d.modPrf n fun h => { h with tgt := x }

/-- The registers of limit `i`: its LO and HI words. -/
def limRegs : Nat → Fld × Fld
  | 0 => (F.axVmaxlo_v, F.axVmaxhi_v) | 1 => (F.axAmaxlo_v, F.axAmaxhi_v) | 2 => (F.axDmaxlo_v, F.axDmaxhi_v)
  | 3 => (F.axJmaxlo_v, F.axJmaxhi_v) | 4 => (F.axDstoplo_v, F.axDstophi_v) | _ => (F.axJstoplo_v, F.axJstophi_v)

/-- A limit takes effect at a position stage (R121, R126, R127). One that is lower than the |a| it applies to steps a. -/
def Dev.limTake (d : Dev) (n i : Nat) (x : Int) : Dev :=
  let d := d.modPrf n fun h => { (h.setLim i x) with ovs := false }
  let h := d.prf n
  let l := h.limits (d.axState n == 3)
  let lim := l.forAcc h.v h.a
  let moving := d.axState n == 2 || d.axState n == 3
  -- only the limit that applies to |a| as it stands: AMAX, or DMAX, or DSTOP in a stop
  let applies : Bool := i == (if rising h.v h.a then 1 else if d.axState n = 3 then 4 else 2)
  let d := d.on (moving && applies && decide (lim < |h.a|)) (·.jerkStep n (sgnI h.a * lim))
  d.on (i == 0 && d.rd F.axPstat_mode n == 1) (·.vclamp n (d.prf n).tgt)

/-- Every limit committed before the stage takes effect (R121). -/
def Dev.limsTake (d : Dev) (n : Nat) : Dev :=
  (d.prf n).lims.foldl (fun d x => d.limTake n x.1 x.2) (d.modPrf n fun h => { h with lims := [] })

/-- p becomes x_m − C, with v and a as given; the target follows except in VELOCITY mode (R160, R164). -/
def Dev.prfSeize (d : Dev) (n : Nat) (v : Int) : Dev :=
  let h := d.axis n
  let p := satS 64 (h.fb.xm - h.cpl.c)
  let d := d.on (h.prf.a != 0) (·.jerkStep n 0)
  let d := (d.modPrf n fun f => { f with p := p, v := v, a := 0 }).wr F.axPstat_vmaxAbove (b2n (decide (h.prf.vmax < |v|))) n
  if d.rd F.axPstat_mode n = 1 then d
  else (d.modPrf n fun f => { f with tgt := p, rvs := false, ovs := false }).wr F.axPstat_inpos (b2n (v == 0)) n

/-- One position interval of the generator in VELOCITY mode (R122 to R124, R127). -/
def Dev.velAdvance (d : Dev) (n : Nat) (T : Rat) : Dev :=
  let h := d.prf n
  let l := h.limits false
  let vt := if l.v < |h.v| then sgnI h.v * l.v else h.tgt
  let y := advance h.pva (velJerk l h.pva T vt) T
  let near : Bool := decide (((|y.v - h.tgt| : Int) : Rat) ≤ l.j * T * T) && decide (((|y.a| : Int) : Rat) ≤ l.j * T)
  d.modPrf n fun f => { f with p := y.p, v := if near then f.tgt else y.v, a := if near then 0 else y.a }

/-- One position interval of a controlled stop (R113). A stop whose plan ends within the interval ends there. -/
def Dev.stopAdvance (d : Dev) (n : Nat) (T : Rat) : Dev :=
  let h := d.prf n
  let l := h.limits true
  let b := brake h.v h.a l.dec l.j
  if (b.dur.affine (-T) 1).sign ≤ 0 then
    d.modPrf n fun f => { f with p := satS 64 (f.p + b.dist.round), v := 0, a := 0 }
  else
    let y := advance h.pva (candidate l h.pva T b.jerk).j T
    d.modPrf n fun f => { f with p := y.p, v := y.v, a := y.a }

/-- One position interval in POSITION and OFFSET modes (R123 to R127, R449). Its records carry the ID of the last entry taken
(notes/assumptions/124.md). -/
def Dev.posAdvance (d : Dev) (n : Nat) (T : Rat) : Dev :=
  let h := d.prf n
  let l := h.limits false
  let b := brake h.v h.a l.dec l.j
  let e := h.tgt - h.p
  if (b.dur.affine (-T) 1).sign ≤ 0 ∧ ((|e| : Int) : Rat) ≤ l.j * T * T * T ∧ ((|h.v| : Int) : Rat) ≤ l.j * T * T then
    (d.modPrf n fun f => { f with p := f.tgt, v := 0, a := 0 }).set1 F.axPstat_inpos n
  else
    let c := posJerk l h.pva T h.tgt
    let id := d.rd F.axPstat_lastid n * 65536
    let d := d.on (c.reversal && !h.rvs && !h.ovs) fun d =>
      ((d.modPrf n fun f => { f with rvs := true }).set1 F.axPstat_reversal n).ev E.prfReversal (n + id) (dwQ e)
    let d := d.on (c.overshoot && !h.ovs) fun d =>
      ((d.modPrf n fun f => { f with ovs := true }).set1 F.axPstat_overshoot n).ev E.prfOvershoot (n + id)
        (dw ((b.dist.affine ((-e : Int) / 65536) (1 / 65536)).affine 0 (if 0 ≤ sgnI e then 1 else -1)).round)
    let y := advance h.pva c.j T
    d.modPrf n fun f => { f with p := y.p, v := y.v, a := y.a }

/-- The generator at a position stage (R122): it advances in ENABLED and STOPPING and holds otherwise. -/
def Dev.prfAdvance (d : Dev) (n : Nat) : Dev :=
  let T := d.tpSec n
  let d := match d.axState n with
    | 3 => d.stopAdvance n T
    | 2 => if d.rd F.axPstat_mode n = 1 then d.velAdvance n T else d.posAdvance n T
    | _ => d
  -- at rest a controlled stop folds C and reaches its end state (R113, R114)
  let d := if d.axState n = 3 ∧ (d.prf n).v = 0 ∧ (d.prf n).a = 0 then (d.restFold n).toEnd n (d.axis n).stopDis else d
  d.wr F.axPstat_vmaxAbove (b2n (decide ((d.prf n).vmax < |(d.prf n).v|))) n

end Sys2Proof.Machine
end

