-- ==== Sys2Proof/Machine/Coupling.lean ====
section
/-!
DEFINITION. Masters and couplings (03_gaffer_and_gearing.md): evaluation of segments (R84 to R88), local and FQ masters
(R94, R95), gears and cams (R96 to R103), engage and disengage (R105 to R109).
-/

namespace Sys2Proof.Machine

/-- 2^32 seconds in units of 2^-16 ns: segment times compare modulo this span (R74, R79). -/
def span16 : Nat := 2 ^ 32 * sec16

/-- The signed distance from `b` to `a` modulo `m`. -/
def smod (a b : Int) (m : Nat) : Int :=
  let r := (a - b) % m
  if 2 * r < m then r else r - m

/-- The signed 64-bit difference of two master positions (R90, R96, R106). -/
def mdiff (a b : Nat) : Int := smod a b (2 ^ 64)

/-- A master position moved by a signed distance, modulo 2^64. -/
def madd (a : Nat) (x : Int) : Nat := (((a : Int) + x) % (2 ^ 64 : Nat)).toNat

/-- The cubic of a segment at `dt` after T0 (R85): each quotient exact and rounded once. -/
def Seg.eval (s : Seg) (dt : Int) : MVal :=
  let S : Int := sec16
  { pos := madd s.p (rneDiv (6 * s.v * dt * S * S + 3 * s.a * dt * dt * S + s.j * dt * dt * dt) (6 * sec16 * sec16 * sec16))
    vel := satS 64 (s.v + rneDiv (2 * s.a * dt * S + s.j * dt * dt) (2 * sec16 * sec16))
    acc := satS 64 (s.a + rneDiv (s.j * dt) sec16) }

/-- A segment at a time `t`: the cubic up to its horizon, and straight on from there (R85, R88). -/
def Seg.at_ (s : Seg) (t : Int) : MVal :=
  let dt := smod t s.t0 span16
  let h : Int := s.h * 65536
  if dt ≤ h then s.eval dt
  else
    let e := s.eval h
    { pos := madd e.pos (rneDiv (e.vel * (dt - h)) sec16), vel := e.vel, acc := 0 }

/-- Every segment a channel holds: previous, live, queued (R84). -/
def GmH.held (g : GmH) : List Seg := g.prev.toList ++ g.live.toList ++ g.queue

/-- The segment an evaluation at `t` uses, and whether it lies before every T0 held (R84). -/
def GmH.select (g : GmH) (t : Int) : Option (Seg × Bool) :=
  match (g.held.filter (fun s => decide (0 ≤ smod t s.t0 span16))).getLast? with
  | some s => some (s, false)
  | none => g.held.head?.map (·, true)

/-- Evaluates GM_m at `t` for AX_n (R84, R86); a channel in OFF or without a segment gives no value. -/
def Dev.evalGm (d : Dev) (m n : Nat) (t : Int) : Dev × Option MVal :=
  match (d.gmc m).select t with
  | none => (d, none)
  | some (s, early) =>
    let v := s.at_ t
    let d := d.on early fun d =>
      (d.set1 F.gmStat_history m).ev E.gmHistory (m + 256 * n) (dwU (rneShr (smod s.t0 t span16) 16))
    let d := (d.modGm m fun g => { g with pos := v.pos, vel := v.vel, acc := v.acc }).wr F.gmEvns_ns (nsOf (t % (sec16 : Int)).toNat) m
    (d.note 0x20 m (d.rd F.axTick_tb n) t (sx 64 v.pos), some v)

/-- `x` in 2^-16 counts as units of 2^-32 cycles of 2^SHIFT counts (R94). -/
def toMaster (shift : Nat) (x : Int) : Int :=
  if shift ≤ 16 then x * 2 ^ (16 - shift) else x / 2 ^ (shift - 16)

/-- Two axes have equal ticks, period and phase (R95). -/
def Dev.sameTicks (d : Dev) (a b : Nat) : Bool :=
  [F.axTick_dbl, F.axTick_cdiv, F.axTick_vdiv, F.axTick_pdiv, F.axTick_tb, F.axTick_outer, F.axCper_per,
    F.axCphase_phase].all (fun f => d.rd f a == d.rd f b)

/-- The value of master `src` for AX_n at sample time `t` (R84, R93 to R95; notes/assumptions/122.md). The velocity and acceleration
of an FQ master, which R94 does not give, are free values. -/
def Dev.master (d : Dev) (n src : Nat) (t : Int) : Dev × Option MVal :=
  if src < 8 then d.evalGm src n t
  else if src < 16 then
    let a := src - 8
    match (d.axis a).cpl.pub with
    | none => (d, none)
    | some (tp, p, v, acc) =>
      let x := if a < n ∧ d.sameTicks a n then p else p + rneDiv (v * (t - tp)) sec16
      let sh := d.rd F.axLmshift_shift a
      (d, some { pos := madd 0 (toMaster sh x), vel := satS 64 (toMaster sh v), acc := satS 64 (toMaster sh acc) })
  else
    let q := src - 16
    let t' := t - d.tb16 (d.rd F.axTick_tb n) + d.fqNow q
    let x := (d.fq q).countAt t' * 65536
    let v := sx 64 d.free
    let d := d.freed
    (d.freed, some { pos := madd 0 (toMaster (d.rd F.gafFqm_shift q) x), vel := v, acc := sx 64 d.free })

/-! ### Gears and cams -/

/-- Gear increment with its remainder (R96): quotient towards minus infinity. -/
def gearInc (num : Int) (den : Nat) (rem : Nat) (dm : Int) : Int × Nat :=
  let x := dm * num + rem
  let g : Int := den * 65536
  (x / g, (x % g).toNat)

/-- Parameters of cam `c` (R99). -/
structure Cam where
  base : Nat
  log2n : Nat
  shift : Nat
  rise : Int
deriving DecidableEq, Repr

/-- The descriptor CAM_c (R99). -/
def Dev.cam (d : Dev) (c : Nat) : Cam :=
  { base := d.rd F.camBase_base c, log2n := d.rd F.camFmt_log2n c, shift := d.rd F.camFmt_shift c
    rise := d.rdI64 F.camRiselo_rise F.camRisehi_rise c }

/-- Word `i` of W_14. -/
def Dev.table (d : Dev) (i : Nat) : Nat := Tbl.get 0 i d.tables

/-- Point `i` of a cam in counts, wrapped with the rise (R100). -/
def Dev.camPoint (d : Dev) (c : Cam) (i : Int) : Rat :=
  let N : Int := 2 ^ c.log2n
  let y : Rat := (sx 32 (d.table (c.base + (i % N).toNat)) : Rat) / (2 ^ c.shift : Nat)
  y + (i / N : Int) * ((c.rise : Rat) / 65536)

/-- The four points and the place between them for a cam phase (R100). -/
structure CamAt where
  y0 : Rat
  y1 : Rat
  y2 : Rat
  y3 : Rat
  u : Rat
deriving DecidableEq, Repr

/-- Index and fraction of a phase in 2^-32 cycle (R100). -/
def Dev.camAt (d : Dev) (c : Cam) (ph : Nat) : CamAt :=
  let w := 2 ^ (32 - c.log2n)
  let i : Int := (ph / w : Nat)
  { y0 := d.camPoint c (i - 1), y1 := d.camPoint c i, y2 := d.camPoint c (i + 1), y3 := d.camPoint c (i + 2)
    u := ((ph % w : Nat) : Rat) / (w : Nat) }

/-- Cam value in 2^-16 counts: the Catmull-Rom cubic, rounded once (R100). -/
def Dev.camVal (d : Dev) (c : Cam) (ph : Nat) : Int :=
  let k := d.camAt c ph
  let u := k.u
  rneQ (65536 * (k.y1 + u * (k.y2 - k.y0) / 2 + u * u * (2 * k.y0 - 5 * k.y1 + 4 * k.y2 - k.y3) / 2 +
    u * u * u * (-k.y0 + 3 * k.y1 - 3 * k.y2 + k.y3) / 2))

/-- First and second derivative of the cubic with respect to the phase in cycles, counts (R102). -/
def Dev.camDer (d : Dev) (c : Cam) (ph : Nat) : Rat × Rat :=
  let k := d.camAt c ph
  let u := k.u
  let N : Rat := (2 ^ c.log2n : Nat)
  (N * ((k.y2 - k.y0) / 2 + u * (2 * k.y0 - 5 * k.y1 + 4 * k.y2 - k.y3) + 3 * u * u * (-k.y0 + 3 * k.y1 - 3 * k.y2 + k.y3) / 2),
   N * N * ((2 * k.y0 - 5 * k.y1 + 4 * k.y2 - k.y3) + 3 * u * (-k.y0 + 3 * k.y1 - 3 * k.y2 + k.y3)))

/-- Cam phase of a master position (R100). -/
def Dev.camPhase (d : Dev) (n : Nat) (m : Nat) : Nat := madd m (-(d.rd F.axCorig_origin n : Int)) % 2 ^ 32

/-- Cam increment over the travel from `ma` by `dm` (R101). -/
def Dev.camInc (d : Dev) (n : Nat) (c : Cam) (ma : Nat) (dm : Int) : Int :=
  let pa := d.camPhase n ma
  let w : Int := ((pa : Int) + dm) / 2 ^ 32
  d.camVal c (d.camPhase n (madd ma dm)) - d.camVal c pa + w * c.rise

/-- A cam switch within a tick: where the boundary lies, and the cams in force before and beyond it (R103). -/
structure Switch where
  at_ : Nat
  old : Cam
  cam : Cam
deriving DecidableEq, Repr

/-- The cam switch made in the tick from `m0` by `dm`, if one is armed and a boundary is crossed (R103). -/
def Dev.camSwitch (d : Dev) (n : Nat) (m0 : Nat) (dm : Int) : Option Switch :=
  let p0 : Int := d.camPhase n m0
  let w : Int := (p0 + dm) / 2 ^ 32
  if d.rd F.axCpl_mode n = 2 ∧ d.flag F.axCamsel_nxv n ∧ w ≠ 0 then
    some { at_ := madd m0 (if 0 < w then 2 ^ 32 - p0 else -p0), old := d.cam (d.rd F.axCamsel_cur n), cam := d.cam (d.rd F.axCamsel_next n) }
  else none

/-- The increment over one part of the tick's travel, on the cam in force for each piece of it, with the gear
remainder after it (R96, R101, R103). -/
def Dev.travel (d : Dev) (n : Nat) (sw : Option Switch) (rem : Nat) (ma : Nat) (dm : Int) : Int × Nat :=
  if d.rd F.axCpl_mode n = 1 then gearInc (d.rdI F.axGnum_num n) (d.rd F.axGden_den n) rem dm
  else
    match sw with
    | none => (d.camInc n (d.cam (d.rd F.axCamsel_cur n)) ma dm, rem)
    | some s =>
      let old := s.old
      let toB := mdiff s.at_ ma
      if 0 ≤ dm then
        if toB ≤ 0 then (d.camInc n s.cam ma dm, rem)
        else if dm < toB then (d.camInc n old ma dm, rem)
        else (d.camInc n old ma toB + d.camInc n s.cam s.at_ (dm - toB), rem)
      else if 0 < toB then (d.camInc n s.cam ma dm, rem)
      else if toB ≤ dm then (d.camInc n old ma dm, rem)
      else (d.camInc n old ma toB + d.camInc n s.cam s.at_ (dm - toB), rem)

/-- Blend weight at master position `m` (R107): x = (m − E)/B clamped to [0, 1], with x and the weight. -/
def blend (e b m : Nat) (out : Bool) : Rat × Rat :=
  let x : Rat := if b = 0 then 1 else max 0 (min 1 ((mdiff m e : Rat) / b))
  let w := 3 * x * x - 2 * x * x * x
  (x, if out then 1 - w else w)

/-- Feedforward velocity and acceleration of the coupling at weight `w` (R97, R102, R107). -/
def Dev.cplFf (d : Dev) (n : Nat) (m : MVal) (w : Rat) : Int × Int :=
  if d.rd F.axCpl_mode n = 1 then
    let g : Rat := w * d.rdI F.axGnum_num n / ((d.rd F.axGden_den n * 65536 : Nat) : Rat)
    (satS 64 (rneQ (m.vel * g)), satS 64 (rneQ (m.acc * g)))
  else
    let (s1, s2) := d.camDer (d.cam (d.rd F.axCamsel_cur n)) (d.camPhase n m.pos)
    let c : Rat := (2 ^ 32 : Nat)
    let v : Rat := m.vel / c
    let a : Rat := m.acc / c
    (satS 64 (rneQ (65536 * w * s1 * v)), satS 64 (rneQ (65536 * w * (s2 * v * v + s1 * a))))

/-! ### Coupling commands and stage -/

/-- Changes the coupling of AX_n. -/
def Dev.modCpl (d : Dev) (n : Nat) (f : CplH → CplH) : Dev := d.modAxis n fun h => { h with cpl := f h.cpl }

/-- The axes that AX_n follows as local masters, up to `k` links. -/
def Dev.masters (d : Dev) (n : Nat) : Nat → List Nat
  | 0 => []
  | k + 1 =>
    let s := d.rd F.axCpl_msrc n
    if 8 ≤ s ∧ s < 16 then (s - 8) :: (if d.rd F.axCstat_cstate (s - 8) = 0 then [] else d.masters (s - 8) k) else []

/-- Whether an ENGAGE is accepted (R77, R93, R105). -/
def Dev.engageOk (d : Dev) (n : Nat) : Bool :=
  let s := d.rd F.axCpl_msrc n
  d.rd F.axCstat_cstate n == 0 && d.rd F.axCpl_mode n != 0 && d.axState n == 2 && d.rd F.axPstat_mode n == 2 &&
  (if s < 8 then d.rd F.gmStat_state s == 2 && d.rd F.gmCtrl_tb s == d.rd F.axTick_tb n
   else if s < 16 then !(d.disabled (s - 8)) && !((d.masters n 8).contains n)
   else true)

/-- Loads the position and distance of AX_n_EPOS and AX_n_BLEND with PHASE (R105, R106). -/
def Dev.loadE (d : Dev) (n : Nat) (phase : Bool) : Dev :=
  d.modCpl n fun c => { c with e := d.rd64 F.axEposlo_epos F.axEposhi_epos n, b := d.rd64 F.axBlendlo_blend F.axBlendhi_blend n, phase := phase }

/-- ENGAGE takes effect (R105): ARMED_IN, the gear remainder and the engage lag cleared (R96, R107). -/
def Dev.engage (d : Dev) (n : Nat) (phase : Bool) : Code × Dev :=
  if d.engageOk n then (.ok, ((d.loadE n phase).modCpl n fun c => { c with rem := 0, lag := 0 }).cplTo n 1)
  else (.wrongState, d)

/-- DISENGAGE takes effect (R105). -/
def Dev.disengage (d : Dev) (n : Nat) (phase : Bool) : Code × Dev :=
  match d.rd F.axCstat_cstate n with
  | 3 => (.ok, (d.loadE n phase).cplTo n 4)
  | 1 => (.ok, d.cplTo n 0)
  | _ => (.wrongState, d)

/-- ABORT takes effect (R105, R107): nothing from IDLE, no stop from ARMED_IN, a stop with cause 4 otherwise. -/
def Dev.abortCmd (d : Dev) (n : Nat) : Code × Dev :=
  match d.rd F.axCstat_cstate n with
  | 0 => (.ok, d)
  | 1 => (.ok, d.cplAbort n 1)
  | _ => (.ok, (d.cplAbort n 1).ctlStop n 4)

/-- AX_n_ECMD as written takes effect (R105). -/
def Dev.ecmd (d : Dev) (n bits : Nat) : Code × Dev :=
  let ph := bitOf bits 3
  if bitOf bits 0 then d.engage n ph
  else if bitOf bits 1 then d.disengage n ph
  else if bitOf bits 2 then d.abortCmd n
  else (.ok, d)

/-- The aborts due on AX_n at step 2 of its stage (R89, R90, R95, R108). -/
def Dev.cplAborts (d : Dev) (n : Nat) : Dev :=
  match (d.axis n).cpl.due with
  | [] => d
  | cause :: _ =>
    let cs := d.rd F.axCstat_cstate n
    let d := d.modCpl n fun c => { c with due := [] }
    if cs = 0 then d else if cs = 1 then d.cplAbort n cause else (d.cplAbort n cause).ctlStop n 3

/-- The position at which the master crosses E within the tick from `m0` by `dm`, if it does (R106). -/
def crossing (e : Nat) (phase : Bool) (m0 : Nat) (dm : Int) : Option Nat :=
  if phase then
    let r : Int := ((e : Int) - m0) % 2 ^ 32
    let dl : Int := if r = 0 then 2 ^ 32 else r
    if dl ≤ dm then some (madd m0 dl) else none
  else if mdiff m0 e < 0 ∧ 0 ≤ mdiff (madd m0 dm) e then some e else none

/-- Adds a weighted increment to C (R107). -/
def Dev.addC (d : Dev) (n : Nat) (w : Rat) (dc : Int) (lag : Bool) : Dev :=
  let x := rneQ (w * dc)
  d.modCpl n fun c => { c with c := satS 64 (c.c + x), lag := if lag then satS 64 (c.lag + (dc - x)) else c.lag }

/-- The cam switch is made (R103): CUR takes NEXT and NXV clears. -/
def Dev.camTake (d : Dev) (n : Nat) : Dev :=
  let nx := d.rd F.axCamsel_next n
  (((d.wr F.axCamsel_cur nx n).clr F.axCamsel_nxv n).set1 F.axCstat_camSwitched n).ev E.cplCamSwitch n nx

/-- Cam switch, crossing, weight and increment of a stage with both master values (R103, R106, R107): steps 4 to 6 of R108. -/
def Dev.cplStep (d : Dev) (n : Nat) (m0 m1 : MVal) : Dev :=
  let dm := mdiff m1.pos m0.pos
  let sw := d.camSwitch n m0.pos dm
  let d := d.on sw.isSome (·.camTake n)
  let c := (d.axis n).cpl
  let cs := d.rd F.axCstat_cstate n
  let x := if cs = 1 ∨ cs = 4 then crossing c.e c.phase m0.pos dm else none
  -- the increment of the coupled travel
  let d := match cs, x with
    | 1, some e =>
      let d := (d.modCpl n fun c => { c with e := e }).cplTo n 2
      let (dc, r) := d.travel n sw c.rem e (mdiff m1.pos e)
      (d.modCpl n fun c => { c with rem := r }).addC n (blend e c.b m1.pos false).2 dc true
    | 4, some e =>
      let d := (d.modCpl n fun c => { c with e := e }).cplTo n 5
      let (dc0, r0) := d.travel n sw c.rem m0.pos (mdiff e m0.pos)
      let (dc, r) := d.travel n sw r0 e (mdiff m1.pos e)
      ((d.modCpl n fun c => { c with rem := r }).addC n 1 dc0 false).addC n (blend e c.b m1.pos true).2 dc false
    | 2, _ =>
      let (dc, r) := d.travel n sw c.rem m0.pos dm
      (d.modCpl n fun c => { c with rem := r }).addC n (blend c.e c.b m1.pos false).2 dc true
    | 5, _ =>
      let (dc, r) := d.travel n sw c.rem m0.pos dm
      (d.modCpl n fun c => { c with rem := r }).addC n (blend c.e c.b m1.pos true).2 dc false
    | 0, _ => d
    | 1, none => d
    | _, _ =>
      let (dc, r) := d.travel n sw c.rem m0.pos dm
      (d.modCpl n fun c => { c with rem := r }).addC n 1 dc false
  -- feedforward and the end of a blend (R107)
  let cs := d.rd F.axCstat_cstate n
  let c := (d.axis n).cpl
  let bl := blend c.e c.b m1.pos (cs == 5)
  let w : Rat := match cs with | 2 => bl.2 | 5 => bl.2 | 3 => 1 | 4 => 1 | _ => 0
  let ff := if w = 0 then (0, 0) else d.cplFf n m1 w
  let d := d.modCpl n fun c => { c with ffv := ff.1, ffa := ff.2 }
  if bl.1 = 1 ∧ cs = 2 then d.cplTo n 3 else if bl.1 = 1 ∧ cs = 5 then d.cplTo n 0 else d

/-- The coupling registers committed before a position stage take effect at step 3 of R108; a master newly selected has no value yet. -/
def Dev.cplLoad (d : Dev) (n : Nat) : Dev :=
  d.modCpl n fun c => { c with src := (d.rd F.axCpl_msrc n, d.rd F.axCpl_mode n), m := if c.src.1 = d.rd F.axCpl_msrc n then c.m else none }

/-- Steps 4 to 6 of R108: nothing is judged without both master values (R106), and without an evaluation to serve it there is
no master feedforward (R86). -/
def Dev.coupling (d : Dev) (n : Nat) (m : Option MVal) : Dev :=
  let bare (d : Dev) : Dev := d.modCpl n fun c => { c with ffv := 0, ffa := 0 }
  let d := match (d.axis n).cpl.m, m with
    | some m0, some m1 => if d.rd F.axCpl_mode n = 0 then bare d else d.cplStep n m0 m1
    | _, _ => bare d
  d.modCpl n fun c => { c with m := m }

end Sys2Proof.Machine
end

