-- ==== Sys2Proof/Machine/Taps.lean ====
section
/-!
DEFINITION. Output taps of the lanes bound to an axis (R260 to R262, 09_punty_lanes.md), as the stages take them.
-/

namespace Sys2Proof.Machine

/-- Lane PL_n. -/
def Dev.pl (d : Dev) (n : Nat) : Lane := Tbl.get {} n d.lane

/-- Changes PL_n. -/
def Dev.modPl (d : Dev) (n : Nat) (f : Lane → Lane) : Dev := { d with lane := Tbl.put n (f (d.pl n)) d.lane }

/-- PL_l has BIND = 1 and names AX_n. -/
def Dev.bound (d : Dev) (l n : Nat) : Bool := d.flag F.plCtrl_bind l && d.rd F.plCtrl_axis l == n

/-- The lane bound to AX_n: the running one, else the lowest one that is bound (R261, R267). -/
def Dev.boundLane (d : Dev) (n : Nat) : Option Nat :=
  match (List.range 8).find? (fun l => d.bound l n && d.flag F.plCtrl_run l) with
  | some l => some l
  | none => (List.range 8).find? (fun l => d.bound l n)

/-- The stage that consumes an output: 1 velocity for FFADD, C1DEM and VFILT, 0 current for IQ (R261). -/
def consumer (k : Nat) : Nat := if k = 3 then 0 else 1

/-- Root time at which the latest current (0), velocity (1) or position (2) stage of AX_n started, ps. -/
def Dev.stageAt (d : Dev) (n k : Nat) : Nat := Tbl.get 0 k (d.axis n).tick.startAt

/-- Published value of output `k` of PL_l as a stage that starts at `at_` sees it (R261, R262): a publication counts from the MARVER
clock after the edge at which it arrives. None until the first publication after RUN was set. -/
def Dev.tapOut (d : Dev) (l k at_ : Nat) : Option Int :=
  let p := d.pl l
  let cur := if bitOf p.pub k then some (sx 32 (d.rd F.plOut_value l k)) else none
  match p.last with
  | some q => if at_ ≤ q.edge then (if bitOf q.oldPub k then some (sx 32 (Tbl.get 0 k q.old)) else none) else cur
  | none => cur

/-- The value of output `k` for the stage of AX_n that consumes it, where its bit `f` in OUTEN is set. -/
def Dev.tapOf (d : Dev) (n k : Nat) (f : Fld) : Option Int :=
  match d.boundLane n with
  | some l => if d.flag f l then d.tapOut l k (d.stageAt n (consumer k)) else none
  | none => none

/-- VSH of the lane bound to AX_n (R260). -/
def Dev.vsh (d : Dev) (n : Nat) : Nat := match d.boundLane n with | some l => d.rd F.plScale_vsh l | none => 0

/-- Feedforward-add tap of AX_n, Q1.31 of IFS. -/
def Dev.tapFf (d : Dev) (n : Nat) : Int := (d.tapOf n 0 F.plOuten_ffadd).getD 0

/-- Competitor-demand tap of AX_n, Q48.16. -/
def Dev.tapC1 (d : Dev) (n : Nat) : Option Int :=
  (d.tapOf n 1 F.plOuten_c1dem).map (fun x => satS 64 (x * 2 ^ d.vsh n))

/-- Filtered velocity tap of AX_n, Q48.16. -/
def Dev.tapV (d : Dev) (n : Nat) : Option Int :=
  (d.tapOf n 2 F.plOuten_vfilt).map (fun x => satS 64 (x * 2 ^ d.vsh n))

/-- Current demand after the IQ tap of AX_n, Q1.31: added, saturating, or replaced. -/
def Dev.tapIq (d : Dev) (n : Nat) (i : Int) : Int :=
  match d.boundLane n, d.tapOf n 3 F.plOuten_iq with
  | some l, some x => if d.flag F.plOuten_iqmode l then x else satS 32 (i + x)
  | _, _ => i

/-- The enable bits of the outputs FFADD, C1DEM, VFILT and IQ. -/
def outFld : Nat → Fld
  | 0 => F.plOuten_ffadd | 1 => F.plOuten_c1dem | 2 => F.plOuten_vfilt | _ => F.plOuten_iq

/-- A publication that reaches MARVER at `edge` misses a consuming stage that started at `at_` (R262). -/
def Dev.laneLate (d : Dev) (l k edge at_ : Nat) : Dev :=
  (d.set1 F.plStat_late l).ev E.pntLate (l + 256 * k) ((edge + 2000 - at_) / 2000)

/-- The stage of AX_n that consumes the outputs `ks` has started: the publication of an earlier run that has not arrived misses it (R262). -/
def Dev.tapMiss (d : Dev) (n : Nat) (ks : List Nat) : Dev :=
  match d.boundLane n with
  | none => d
  | some l => match (d.pl l).last with
    | none => d
    | some q =>
      let at_ (k : Nat) : Nat := d.stageAt n (consumer k)
      d.each (ks.filter (fun k => at_ k ≤ q.edge && q.start < at_ k && bitOf q.mask k && d.flag (outFld k) l)) fun k d =>
        d.laneLate l k q.edge (at_ k)

/-- Cost of a stage in MARVER cycles (R32): 0 current, 1 velocity, 2 position. -/
def stageCost : Nat → Nat
  | 0 => 64 | 1 => 24 | _ => 32

/-- Marver is busy for `cycles` cycles from `start` on (R31, R32): the busy interval goes on, or a new one begins. -/
def Dev.marvBusy (d : Dev) (start cycles : Nat) : Dev :=
  let from_ := if d.busyTo < start then start else d.busyFrom
  let to_ := start + 2000 * cycles
  let len := min 0xFFFF ((to_ - from_) / 2000)
  { ((d.wr F.glbMarv_busyLast len).wr F.glbMarv_busyMax (max len (d.rd F.glbMarv_busyMax))) with busyFrom := from_, busyTo := to_ }

/-- A stage of AX_n whose start instant is `at_` starts: 0 current, 1 velocity, 2 position; while another stage runs it starts when that
one ends (R31). -/
def Dev.stageStart (d : Dev) (n k at_ : Nat) : Dev :=
  let start := max at_ d.busyTo
  (d.modAxis n fun h => { h with tick := { h.tick with startAt := Tbl.put k start h.tick.startAt } }).marvBusy start (stageCost k)

/-- A stage of AX_n for update `j` and sample time `ts` ends where Marver is free again: the hooks of that kind fall due at the first
PUNTY clock edge at least 2.5 ns later (R263). -/
def Dev.stageEnd (d : Dev) (n k : Nat) (j ts : Int) : Dev :=
  let at_ := (d.busyTo + 2500 + 2499) / 2500 * 2500
  d.each (List.range 8) fun l d =>
    if d.rd F.plCtrl_axis l = n ∧ d.flag F.plCtrl_run l ∧ d.flag F.plHook_en l k then
      d.modPl l fun p => { p with due := Tbl.put k { j := j, ts := ts, at_ := at_ } p.due }
    else d

end Sys2Proof.Machine
end

