-- ==== Sys2Proof/Machine/Legs.lean ====
section
/-!
DEFINITION. Legs: compares, spans, edges, handshake, bootstrap, short circuits, trips, chopper and brake
(06_legs_and_gate_drive.md).
-/

namespace Sys2Proof.Machine

/-! ### Trip sources and reactions -/

/-- The reaction of AX_n to source `src`: 0 ALL_OFF, 1 LOW_SHORT, 2 REPORT_ONLY (R188). -/
def Dev.reactOf (d : Dev) (n src : Nat) : Nat :=
  match src with
  | 0 => d.rd F.axReact_src0 n | 1 => d.rd F.axReact_src1 n | 2 => d.rd F.axReact_src2 n | 3 => d.rd F.axReact_src3 n
  | 4 => d.rd F.axReact_src4 n | 5 => d.rd F.axReact_src5 n | 6 => d.rd F.axReact_src6 n | 7 => d.rd F.axReact_src7 n
  | 9 => d.rd F.axReact_src9 n | 10 => d.rd F.axReact_src10 n | 11 => d.rd F.axReact_src11 n | _ => 0

/-- The cause of a fault by source `src` (R189). -/
def srcCause (src : Nat) : Nat := if src = 12 then 12 else if src = 8 ∨ src = 10 then 13 else 9

/-- Source `src` is active (TRIP_STAT, R187). -/
def Dev.tripOn (d : Dev) (src : Nat) : Bool := bitOf (d.rd F.tripStat_level) src

/-- Source `src`, 4 to 12, reaches AX_n: the table of trip sources. -/
def Dev.reaches (d : Dev) (src n : Nat) : Bool :=
  if src < 8 then bitOf (d.rd F.tripCfg_axmask (src - 4)) n
  else if src = 11 then (d.axLegs n).any (fun l => bitOf d.trip.ot (l / 4))
  else true

/-- A source holds every CHOPPER and BRAKE leg low (R195). -/
def Dev.chopHolds (d : Dev) (src : Nat) : Bool :=
  src == 12 || src == 8 || (4 ≤ src && src < 8 && d.flag F.tripCfg_chopbrk (src - 4))

/-- Some active source holds the CHOPPER and BRAKE legs low (R195). -/
def Dev.chopHeld (d : Dev) : Bool := (List.range 13).any (fun s => d.tripOn s && d.chopHolds s)

/-- Which cause an axis records where several reach it in one LEG clock, the lowest first (R190). -/
def causeRank (cause : Nat) : Nat := if cause = 12 then 0 else if cause = 13 then 1 else 2

/-- The last entry of a list that satisfies a test, changed. -/
def mapLast {α : Type} (p : α → Bool) (f : α → α) (l : List α) : List α :=
  match l.reverse.span (fun x => !(p x)) with
  | (a, x :: b) => (a ++ f x :: b).reverse
  | (_, []) => l

/-- A further source of the LEG clock in which AX_n has entered FAULT (R190): the cause that ranks first is the one recorded. -/
def Dev.causeToo (d : Dev) (n cause : Nat) : Dev :=
  let old := d.rd F.axState_cause n
  if d.axState n ≠ 4 ∨ Tbl.find n d.trip.at_ ≠ some d.now ∨ causeRank old ≤ causeRank cause then d
  else
    let mine (code d0 d1 : Nat) : Bool := code == E.axState.code && d0 == n && d1 == 4 + 256 * old
    let d1 := 4 + 256 * cause
    let e := d.evr
    let e := if e.waiting.any (fun o => mine o.code o.d0 o.d1) then
        { e with waiting := mapLast (fun o => mine o.code o.d0 o.d1) (fun o => { o with d1 := d1 }) e.waiting }
      else { e with q28 := mapLast (fun r => mine r.code r.d0 r.d1) (fun r => { r with d1 := d1 }) e.q28 }
    { (d.wr F.axState_cause cause n) with evr := e }

/-- A reaction on AX_n (R188 to R190): a stronger one replaces a weaker one in force; REPORT_ONLY and a DISABLED axis
are left alone. -/
def Dev.reactTo (d : Dev) (n r cause : Nat) : Dev :=
  let now_ := Tbl.get 0 n d.trip.react
  if d.disabled n ∨ 2 ≤ r then d
  else if now_ ≠ 0 ∧ now_ ≤ r + 1 then d.causeToo n cause
  else
    let at_ := if d.axState n = 4 then d.trip.at_ else Tbl.put n d.now d.trip.at_
    let d := (d.causeToo n cause).faultIn n cause
    let d := if r = 0 then d.allOff n else d.lowShort n
    { d with trip := { d.trip with react := Tbl.put n (r + 1) d.trip.react, at_ := at_ } }

/-- The reactions of the sources active on AX_n when it leaves DISABLED (R189). -/
def Dev.reactActive (d : Dev) (n : Nat) : Dev :=
  d.each ([12, 8, 10, 4, 5, 6, 7, 9, 11].filter (fun s => d.tripOn s && d.reaches s n)) fun s d => d.reactTo n (d.reactOf n s) (srcCause s)

/-- The CHOPPER and BRAKE legs. -/
def Dev.chopBrk (d : Dev) : List Nat := (List.range 24).filter (fun n => 2 ≤ d.rd F.legCfg_use n)

/-- Source `src`, 4 to 12, becomes active (R187, R189, R190, R195, R196). -/
def Dev.tripActive (d : Dev) (src : Nat) : Dev :=
  if d.tripOn src then d
  else
    let d := (d.wr F.tripStat_level (d.rd F.tripStat_level ||| 2 ^ src)).wr F.tripStat_sticky (d.rd F.tripStat_sticky ||| 2 ^ src)
    let hit (n : Nat) : Bool := d.reaches src n && !(d.disabled n)
    let hard := (List.range 8).any (fun n => hit n && d.reactOf n src != 2) || (d.chopHolds src && !(d.chopBrk.isEmpty))
    let d := d.ev (if hard then E.tripActive else E.tripActiveWarn) src
      (axMask hit + 256 * axMask (fun n => hit n && d.reactOf n src == 2))
    let d := if d.chopHolds src then d.each d.chopBrk (fun n d => (d.gatesOff n).wr F.legStat_mode 2 n) else d
    d.each ((List.range 8).filter hit) fun n d => d.reactTo n (d.reactOf n src) (srcCause src)

/-- Source `src` becomes inactive (R187). -/
def Dev.tripInactive (d : Dev) (src : Nat) : Dev :=
  if d.tripOn src then
    (d.wr F.tripStat_level (d.rd F.tripStat_level - 2 ^ src)).ev E.tripCleared src 0
  else d

/-- Source `src` takes a state. -/
def Dev.tripSet (d : Dev) (src : Nat) (on : Bool) : Dev := if on then d.tripActive src else d.tripInactive src

/-- Row TRIP_INPUT_CHANGE (R186): the synchronised level of TRIP_k has been `level` for `clocks` LEG clocks. At the polarity of POL and
after FILT clocks, counted from the restart of the filter at the earliest, the input takes that state; a disabled one is never active. -/
def Dev.tripInput (d : Dev) (k : Nat) (level : Bool) (clocks : Nat) : Dev :=
  let run := min clocks ((d.now - Tbl.get 0 k d.trip.from_) / 2000)
  if d.flag F.tripCfg_en k ∧ d.rd F.tripCfg_filt k ≤ run then d.tripSet (4 + k) (level == d.flag F.tripCfg_pol k) else d

/-- The level of VDRV that VDRV_UV is judged by, mV: the set level, and during a ramp the lower of the old and the new one (R187, R378). -/
def Dev.vdrvLevel (d : Dev) : Nat := 100 * (match d.pwr.ramp with | some (l, _) => l | none => d.pwr.vdrv)

/-- The outcome of the comparator of VDRV_UV (0), VBUS_OV (1) or VBUS_UV (2) at a voltage in mV (R187): the thresholds 80 % of the level
of VDRV, OV and UV, each with 2 % of hysteresis. -/
def Dev.supplyOn (d : Dev) (k mV : Nat) : Bool :=
  let was := d.tripOn (8 + k)
  if k = 1 then (if was then decide (98 * 125 * d.rd F.legSup_ov < 100 * mV) else decide (125 * d.rd F.legSup_ov < mV))
  else
    -- the threshold in units of 0.01 mV
    let th := if k = 0 then 80 * d.vdrvLevel else 12500 * d.rd F.legSup_uv
    if was then decide (100 * (100 * mV) < 102 * th) else decide (100 * mV < th)

/-- Row SUPPLY_TRIP_CHANGE (R187): the voltage behind VDRV_UV (0), VBUS_OV (1) or VBUS_UV (2) has been on one side of its comparator's
threshold for `clocks` LEG clocks and is `mV`; after 256 clocks the source follows. -/
def Dev.supplyTrip (d : Dev) (k mV clocks : Nat) : Dev := if 256 ≤ clocks then d.tripSet (8 + k) (d.supplyOn k mV) else d

/-- Row OT_MEASUREMENT (R187): a temperature of LG_g in °C. -/
def Dev.otMeasure (d : Dev) (g : Nat) (t : Int) : Dev :=
  let d := d.wrI F.lgOt_temp (satS 8 t) g
  let th : Int := d.rd F.lgOt_thresh g
  let was := bitOf d.trip.ot g
  let now_ : Bool := if th ≤ t then true else if t ≤ th - d.rd F.lgOt_hyst g then false else was
  let ot := if now_ = was then d.trip.ot else if now_ then d.trip.ot + 2 ^ g else d.trip.ot - 2 ^ g
  let d := { d with trip := { d.trip with ot := ot } }
  if ot = 0 then d.tripInactive 11
  else if d.tripOn 11 then
    -- a further group over temperature reaches its own axes
    if now_ && !was then d.each ((List.range 8).filter (fun n => d.reaches 11 n && !(d.disabled n))) fun n d => d.reactTo n (d.reactOf n 11) 9 else d
  else d.tripActive 11

/-! ### Gates -/

/-- The latch bits of a leg, as LEG_n_FLT[4:0]. -/
def Dev.latches (d : Dev) (n : Nat) : Nat :=
  d.rd F.legFlt_scH n + 2 * d.rd F.legFlt_scL n + 4 * d.rd F.legFlt_hard n + 8 * d.rd F.legFlt_hsk n + 16 * d.rd F.legFlt_bstUv n

/-- The latches of a leg become `m`. -/
def Dev.setLatches (d : Dev) (n m : Nat) : Dev :=
  ((((d.wr F.legFlt_scH (bitsOf m 0 1) n).wr F.legFlt_scL (bitsOf m 1 1) n).wr F.legFlt_hard (bitsOf m 2 1) n).wr
    F.legFlt_hsk (bitsOf m 3 1) n).wr F.legFlt_bstUv (bitsOf m 4 1) n

/-- Sets latch bits `m` with their sticky copies; `soon` where the next commanded turn-on clears them (R191). -/
def Dev.latch (d : Dev) (n m : Nat) (soon : Bool) : Dev :=
  ((d.setLatches n (d.latches n ||| m)).wr F.legFlt_sticky (d.rd F.legFlt_sticky n ||| m) n).modLeg n fun l => { l with left_ := soon }

/-- The refresh width W of a leg, 250 ps units (R184). -/
def Dev.refW (d : Dev) (n : Nat) : Nat := max (d.rd F.legBst_refw n) (d.rd F.legTmin_tmin n)

/-- The high-side gate goes off. -/
def Dev.ghOff (d : Dev) (n : Nat) : Dev := d.modLeg n fun l => { l with gh := false, ghSince := none, want := none }

/-- The low-side gate goes off. -/
def Dev.glOff (d : Dev) (n : Nat) : Dev :=
  let w := d.refW n * 250
  d.modLeg n fun l =>
    { l with
      gl := false, glSince := none, want := none, glOffSince := if l.gl then d.now else l.glOffSince
      glBegan := if l.gl then l.glSince else l.glBegan
      lowSeen := l.lowSeen || (match l.glSince with | some t => decide (w ≤ d.now - t) | none => false) }

/-- A turn-on of a gate is commanded for root time `at_` (R182, R191, R193 to R195). -/
def Dev.cmdOn (d : Dev) (n : Nat) (high : Bool) (at_ : Nat) : Dev :=
  let use := d.rd F.legCfg_use n
  if high ∧ (use = 2 ∨ (use = 3 ∧ !(d.flag F.legBrk_sync n))) then d
  else
    let m := d.latches n
    if m ≠ 0 ∧ !(d.legh n).left_ then d
    else
      let d := if m ≠ 0 then ((d.setLatches n 0).modLeg n fun l => { l with left_ := false }).ev E.legLatchCleared n m else d
      if (if high then (d.legh n).gh else (d.legh n).gl) then d
      else d.modLeg n fun l => { l with want := some { high := high, at_ := at_ } }

/-- GATE_TURN_ON (R182): a gate is on from root time `t`. -/
def Dev.turnOn (d : Dev) (n : Nat) (high : Bool) (t : Nat) : Dev :=
  d.modLeg n fun l =>
    if high then { l with gh := true, ghSince := some t, want := none }
    else { l with gl := true, glSince := some t, want := none }

/-- A commanded turn-on of the high side whose instant comes under the lockout is not made (R183). -/
def Dev.lockWant (d : Dev) (n : Nat) : Dev :=
  match (d.legh n).want with
  | some w => if w.high ∧ w.at_ ≤ d.now ∧ d.flag F.legFlt_lockout n then d.modLeg n fun l => { l with want := none } else d
  | none => d

/-- Dead time in root time, ps. -/
def Dev.dtPs (d : Dev) (n : Nat) : Nat := 250 * d.rd F.legDt_dt n

/-- The leg is commanded low from instant `t`: high side off, low side on DT later (R173). -/
def Dev.goLow (d : Dev) (n : Nat) (t : Int) : Dev :=
  ((d.ghOff n).cmdOn n false (d.rootOf (d.rd F.legCfg_axis n) t + d.dtPs n)).modLeg n fun l => { l with high := false }

/-- The leg is commanded high from instant `t`: low side off, high side on DT later (R173). -/
def Dev.goHigh (d : Dev) (n : Nat) (t : Int) : Dev :=
  ((d.glOff n).cmdOn n true (d.rootOf (d.rd F.legCfg_axis n) t + d.dtPs n)).modLeg n fun l => { l with high := true, hiSince := t }

/-! ### Spans and edges -/

/-- The no-edge value (R174). -/
def noEdge : Nat := 0xFFFFFFFF

/-- The compares of a duty D, Q1.31 (R175). -/
def cmpOf (per : Nat) (D : Int) : Nat × Nat :=
  if D ≤ 0 then (noEdge, 0)
  else if 2 ^ 31 ≤ D then (0, noEdge)
  else
    let h := (rneDiv (D * per) (2 ^ 32)).toNat
    (per / 2 - h, per / 2 + h)

/-- End of the span of a leg (SPAN_END, R179). -/
def Dev.spanEnd (d : Dev) (n per : Nat) : Dev :=
  let l := d.legh n
  match l.span with
  | .edges =>
    let a := l.made + (if l.high then l.s1 - l.hiSince else 0)
    d.wrI F.legCarry_c (max (-(per : Int)) (min per (l.t - a))) n
  | _ => d

/-- A span with edges begins at `s0` of the period that began at `p0` (R178, R179): role 0 FULL, 1 RISE, 2 FALL. -/
def Dev.spanEdges (d : Dev) (n per role : Nat) (p0 s0 s1 : Int) : Dev :=
  let A : Int := d.rd F.legCmpa_cmp n
  let B : Int := d.rd F.legCmpb_cmp n
  let half : Int := per / 2
  let c := d.rdI F.legCarry_c n
  let clamp (x lo hi : Int) : Int := max lo (min hi x)
  let req : Int := match role with | 0 => B - A | 1 => half - A | _ => B - half
  let ea : Option Int := match role with
    | 0 => some (p0 + clamp (A - c / 2) 0 per) | 1 => some (p0 + clamp (A - c) 0 half) | _ => none
  let eb : Option Int := match role with
    | 0 => some (p0 + clamp (B + c - c / 2) 0 per) | 2 => some (p0 + clamp (B + c) half per) | _ => none
  d.modLeg n fun l =>
    { l with span := .edges, per0 := p0, s0 := s0, s1 := s1, ea := ea, eb := eb, t := req + c, made := 0, hiSince := s0 }

/-- A special span begins: 0 % or 100 % (R174). -/
def Dev.spanSpecial (d : Dev) (n : Nat) (full : Bool) (p0 s0 s1 : Int) : Dev :=
  let l := d.legh n
  let first := l.span == .none
  let d := (d.wrI F.legCarry_c 0 n).modLeg n fun l =>
    { l with span := if full then .full else .zero, per0 := p0, s0 := s0, s1 := s1, ea := none, eb := none, t := 0, made := 0 }
  if full then (if l.high then d else d.goHigh n s0) else (if l.high ∨ first then d.goLow n s0 else d)

/-- The leg leaves its span and its gates go low (MODE OFF). -/
def Dev.legIdle (d : Dev) (n : Nat) : Dev :=
  if (d.legh n).span = .none ∧ d.rd F.legStat_mode n = 0 then d
  else ((d.gatesOff n).wr F.legStat_mode 0 n)

/-- A refresh pulse at a period start `k` (BST_REFRESH, R184): a leg that is high there and has had no low-side interval of W since the
last such period start makes one. Without one REFRESH_ACTIVE reads 0. -/
def Dev.refresh (d : Dev) (n : Nat) (k p0 : Int) : Dev :=
  let N := d.rd F.legBst_refn n
  if N = 0 then d.clr F.legFlt_refreshActive n
  else if k % N ≠ 0 then d
  else
    let l := d.legh n
    let ins := l.high && !l.lowSeen
    let was := d.flag F.legFlt_refreshActive n
    let d := d.wr F.legFlt_refreshActive (b2n ins) n
    let d := d.modLeg n fun l => { l with lowSeen := false }
    if ins then
      let w := d.refW n
      let dt := d.rd F.legDt_dt n
      let d := (d.bump F.legStat_refreshes n).on (!was) (·.ev E.bstRefresh n N)
      ((d.ghOff n).cmdOn n false (d.rootOf (d.rd F.legCfg_axis n) p0 + d.dtPs n)).modLeg n fun l =>
        { l with refEnd := some (p0 + dt + w), made := if l.span = .edges then l.made - (w + 2 * dt : Nat) else l.made }
    else d

/-- A driven leg takes the span of its compares (R174, R178). -/
def Dev.spanBegin (d : Dev) (n a : Nat) (j u : Int) : Dev :=
  let per := d.rd F.axCper_per a
  let dbl := d.flag F.axTick_dbl a
  let role := if dbl then (if j % 2 = 0 then 1 else 2) else 0
  let p0 : Int := if role = 2 then u - (per / 2 : Nat) else u
  let s1 : Int := if role = 0 then u + per else u + (per / 2 : Nat)
  let A := d.rd F.legCmpa_cmp n
  let B := d.rd F.legCmpb_cmp n
  let first := (d.legh n).span == .none
  let d := (d.on first fun d => (d.wrI F.legCarry_c 0 n).modLeg n fun l => { l with high := false, lowSeen := false }).wr F.legStat_mode 1 n
  if A = noEdge then d.spanSpecial n false p0 u s1
  else if A = 0 ∧ B = noEdge then d.spanSpecial n true p0 u s1
  else
    let d := d.spanEdges n per role p0 u s1
    let rise := ((d.legh n).ea).getD (p0 + A + per)
    d.on (first && decide ((d.rd F.legTmin_tmin n + d.rd F.legDt_dt n : Nat) ≤ rise - u)) (·.goLow n u)

/-- The shadows of a leg are copied (R177): of the commits that arrived in a LEG clock before the update the latest is taken, and those
that arrived later wait for the next one. -/
def Dev.reload (d : Dev) (n : Nat) (u : Int) : Dev :=
  let l := (d.legh n).sh
  let wait := l.filter (fun c => decide (u / 8 ≤ c.2.2 / 8))
  match (l.filter (fun c => decide (c.2.2 / 8 < u / 8))).getLast? with
  | some (A, B, _) => ((d.wr F.legCmpa_cmp A n).wr F.legCmpb_cmp B n).modLeg n fun l => { l with sh := wait }
  | none => if wait.isEmpty then (d.wr F.legCmpa_cmp (d.rd F.legScmpa_scmp n) n).wr F.legCmpb_cmp (d.rd F.legScmpb_scmp n) n else d

/-- An axis leg at an update (R172, R177, R140). -/
def Dev.axisLegUpdate (d : Dev) (n a : Nat) (j u : Int) : Dev :=
  let d := (d.spanEnd n (d.rd F.axCper_per a)).reload n u
  let st := d.axState a
  let started := (d.legh n).span != .none ||
    (match (d.axis a).tick.driveAt with | some t => decide (t ≤ u) && (!(d.flag F.axTick_dbl a) || j % 2 == 0) | none => true)
  if st = 0 ∨ !started then d
  else if (d.legh n).held ≠ .free then (d.wrI F.legCarry_c 0 n).modLeg n fun l => { l with span := .none, ea := none, eb := none }
  else if st = 1 ∧ d.rd F.axCfg_still a = 0 then d.legIdle n
  else if st = 1 ∧ d.rd F.axCfg_still a = 1 then
    ((d.on ((d.legh n).span == .none) (·.modLeg n fun l => { l with high := false })).wr F.legStat_mode 1 n).spanSpecial n false u u u
  else if st = 4 then d
  else d.spanBegin n a j u

/-- The low-side fraction of a chopper as a number, and whether CHMAX limits it (R193). -/
def Dev.chopFraction (d : Dev) (n : Nat) : Rat × Bool :=
  let off : Int := d.rd F.legChop_choff n * 8192
  let full : Int := d.rd F.legChop2_chfull n * 8192
  let f : Rat := ((d.rd F.snsVbus_v : Int) - off : Int) / ((full - off : Int) : Rat)
  let mx : Rat := (d.rd F.legChop2_chmax n : Rat) / 65536
  (max 0 (min 1 (min f mx)), decide (mx < min f 1))

/-- VBUS in units of 0.125 V, 10 bits (R196). -/
def Dev.vbus8 (d : Dev) : Nat := min 1023 (rneDiv (d.rd F.snsVbus_v) 8192).toNat

/-- CHOPPER_PERIOD (R193): activity and shadows at a period start. -/
def Dev.chopPeriod (d : Dev) (n per : Nat) : Dev :=
  let v := d.rd F.snsVbus_v
  let was := (d.legh n).chop
  let act : Bool := if d.rd F.legChop_chon n * 8192 ≤ v then true else if v < d.rd F.legChop_choff n * 8192 then false else was
  let d := (d.on (act != was) (·.ev E.chopState n (b2n act + 65536 * d.vbus8))).modLeg n fun l => { l with chop := act }
  let (f, lim) := if act then d.chopFraction n else (0, false)
  let d := d.on lim (·.ev E.chopAtLimit n d.vbus8)
  let c := cmpOf per (rneQ ((1 - f) * (2 ^ 31 : Nat)))
  (d.wr F.legScmpa_scmp c.1 n).wr F.legScmpb_scmp c.2 n

/-- The shadows of a released brake at a period start (R194). -/
def Dev.brakePeriod (d : Dev) (n per : Nat) : Dev :=
  let lv := (if d.flag F.legBrkst_pulling n then d.rd F.legBrk_vpull n else d.rd F.legBrk_vhold n) * 8192
  let v := d.rd F.snsVbus_v
  let f : Rat := if v ≤ lv then 1 else (lv : Rat) / v
  let c := cmpOf per (rneQ ((1 - f) * (2 ^ 31 : Nat)))
  (d.wr F.legScmpa_scmp c.1 n).wr F.legScmpb_scmp c.2 n

/-- A CHOPPER or BRAKE leg at an update of its carrier (R172, R193 to R195). -/
def Dev.auxLegUpdate (d : Dev) (n a : Nat) (j u : Int) : Dev :=
  let per := d.rd F.axCper_per a
  let d := d.spanEnd n per
  let start := !(d.flag F.axTick_dbl a) || j % 2 == 0
  let chop := d.rd F.legCfg_use n == 2
  let on := if chop then d.flag F.legChop_en n else d.flag F.legBrkst_released n
  let stuck := d.latches n != 0 && !(d.legh n).left_
  let d := (d.on (on && start) fun d => if chop then d.chopPeriod n per else d.brakePeriod n per).reload n u
  if !on then d.legIdle n
  else
    if d.chopHeld || stuck then
      ((d.on ((d.legh n).span != .none) (·.gatesOff n)).wr F.legStat_mode 2 n)
    else if (d.legh n).span = .none ∧ !start then d
    else d.spanBegin n a j u

/-- Number of the latest update of AX_n (R26, R69). -/
def Dev.jNow (d : Dev) (n : Nat) : Int := (d.t250 (d.rd F.axTick_tb n) - d.rd F.axCphase_phase n) / d.updIv n

/-- A tick at update `j` joins those whose outer stages wait; on a DISABLED axis only one position tick does (R26, R29, R111). -/
def Dev.outerJoin (d : Dev) (n : Nat) (t : OTick) : Dev :=
  d.modAxis n fun h => { h with tick := { h.tick with
    outer := if d.disabled n then (if t.pos && h.tick.outer.isEmpty then [t] else h.tick.outer) else h.tick.outer ++ [t] } }

/-- Row CARRIER_UPDATE (R26, R177, R178): the latest update of AX_n has come. At a period start corrected tap tables are loaded (R210)
and refresh pulses are made (R184). -/
def Dev.carrierUpdate (d : Dev) (a : Nat) : Dev :=
  let j := d.jNow a
  let tick := (d.axis a).tick
  if (match tick.j with | some k => decide (j ≤ k) | none => false) then d
  else
    let u := d.updateAt a j
    let dbl := d.flag F.axTick_dbl a
    let d := d.each ((List.range 24).filter (fun n => d.rd F.legCfg_axis n == a)) fun n d =>
      let d := match d.rd F.legCfg_use n with
        | 1 => d.axisLegUpdate n a j u
        | 0 => d
        | _ => d.auxLegUpdate n a j u
      d.on (!dbl || j % 2 == 0) fun d =>
        (d.modLeg n fun l => { l with taps := l.tapsNew.getD l.taps, tapsNew := none }).refresh n (if dbl then j / 2 else j) u
    let c : Int := d.rd F.axTick_cdiv a
    let v : Int := c * d.rd F.axTick_vdiv a
    let p : Int := v * d.rd F.axTick_pdiv a
    let kind := d.rd F.axCfg_kind a
    let ts := d.sampleAt a j
    let d := d.on (j % v == 0) (·.outerJoin a { j := j, ts := ts, pos := j % p == 0 })
    d.modAxis a fun h => { h with
      stp := { h.stp with nUpd := h.stp.n }
      tick := { h.tick with
      j := some j
      still := false
      cur := h.tick.cur || (j % c = 0 && d.axState a ≠ 0 && kind ≠ 0 && kind ≠ 5)
      ts := if j % v = 0 then ts else h.tick.ts
      fb := j % v = 0 || h.tick.fb } }

/-- The next edge of a leg after one of its edges (R180): the other moved edge of the span if it is still due, or the prediction beyond
the span, where a period makes both edges in single update. -/
def Dev.nextEdge (d : Dev) (n : Nat) (rise : Bool) : Int :=
  let l := d.legh n
  let a := d.rd F.legCfg_axis n
  let per : Int := d.rd F.axCper_per a
  if rise then l.eb.getD (l.per0 + d.rd F.legCmpb_cmp n + (if d.flag F.axTick_dbl a then 0 else per))
  else l.ea.getD (l.per0 + d.rd F.legCmpa_cmp n + per)

/-- An edge due at instant `e` (R180): void, not made, or made. -/
def Dev.edge (d : Dev) (n : Nat) (rise : Bool) (e : Int) : Dev :=
  let l := d.legh n
  let d := d.modLeg n fun l => if rise then { l with ea := none } else { l with eb := none }
  if l.high = rise then d
  else if d.nextEdge n rise - e < (d.rd F.legTmin_tmin n + d.rd F.legDt_dt n : Nat) then d.bump F.legStat_suppr n
  else if rise then d.goHigh n e
  else (d.modLeg n fun l => { l with made := l.made + (e - l.hiSince) }).goLow n e

/-- The end of a refresh pulse (R184): low side off, high side on DT later. The pulse itself is no low-side interval that makes the
next one needless: at 100 % there is one in every window of N periods. -/
def Dev.refreshEnd (d : Dev) (n : Nat) (t : Int) : Dev :=
  let seen := (d.legh n).lowSeen
  let d := (d.glOff n).modLeg n fun l => { l with refEnd := none, lowSeen := seen }
  if (d.legh n).high then d.cmdOn n true (d.rootOf (d.rd F.legCfg_axis n) t + d.dtPs n) else d

/-- An instant has come. -/
def dueAt (now_ : Int) : Option Int → Bool
  | some t => decide (t ≤ now_)
  | none => false

/-- The moved edge of LEG_n of one kind, if it is due (R180). -/
def Dev.edgeIf (d : Dev) (n : Nat) (rise : Bool) : Dev :=
  match if rise then (d.legh n).ea else (d.legh n).eb with
  | some t => if t ≤ d.t250 (d.rd F.axTick_tb (d.rd F.legCfg_axis n)) then d.edge n rise t else d
  | none => d

/-- The falling edge of the span comes before the rising one (R179). -/
def LegH.fallFirst (l : LegH) : Bool :=
  match l.ea, l.eb with
  | some a, some b => decide (b < a)
  | _, _ => false

/-- A waiting turn-on whose complementary gate is sensed below 1 V is made, unless 1,000 ns have passed since its instant (R182):
in the clock of that instant it counts from the instant itself. -/
def Dev.turnOnDue (d : Dev) (n : Nat) : Dev :=
  let d := d.lockWant n
  match (d.legh n).want with
  | some w => if w.at_ ≤ d.now ∧ d.now ≤ w.at_ + 1000000 then d.turnOn n w.high (if d.now < w.at_ + 4000 then w.at_ else d.now) else d
  | none => d

/-- Row EDGE_DUE (R180, R182): the edges of LEG_n that are due, in the order of their instants, and its turn-on, `low` telling whether the
complementary gate is sensed below 1 V. -/
def Dev.edgeDue (d : Dev) (n : Nat) (low : Bool) : Dev :=
  let now_ := d.t250 (d.rd F.axTick_tb (d.rd F.legCfg_axis n))
  let d := match (d.legh n).refEnd with | some t => if t ≤ now_ then d.refreshEnd n t else d | none => d
  let fall := (d.legh n).fallFirst
  (((d.edgeIf n (!fall)).edgeIf n fall).lockWant n).on low (·.turnOnDue n)

/-- Row GATE_SENSED_LOW (R182): a waiting turn-on is made. -/
def Dev.gateSensedLow (d : Dev) (n : Nat) : Dev := d.turnOnDue n

/-! ### Reports on legs -/

/-- Latches a report of source `src` (0 to 3) on the leg and holds its gates where the reaction asks for it (R191, R195). -/
def Dev.legReport (d : Dev) (src bits : Nat) (n : Nat) : Dev :=
  let use := d.rd F.legCfg_use n
  let a := d.rd F.legCfg_axis n
  if use = 1 then
    let r := d.reactOf a src
    let d := d.latch n bits (r == 2)
    if r = 2 then d
    else if (d.legh n).held = .lowShort then
      (if d.flag F.legFlt_scL n then ((d.gatesOff n).modLeg n fun l => { l with held := .allOff }).wr F.legStat_mode 2 n else d)
    else d
  else ((d.latch n bits false).gatesOff n).wr F.legStat_mode 2 n

/-- One LEG_FAULT of kind `src` for the legs of `m` (bit n: high side; bit n of `lo`: low side) on axis `a` (R190, R196). -/
def Dev.legFaultEv (d : Dev) (src a r hi lo : Nat) : Dev :=
  if hi ||| lo = 0 then d
  else d.ev (if r = 2 then E.legFaultReport else E.legFault) (a + 256 * src + 4096 * r)
    ((hi ||| lo) % 2 ^ 24 + 2 ^ 24 * b2n (hi != 0) + 2 ^ 25 * b2n (lo != 0))

/-- The legs of a mask that satisfy a test, as a mask. -/
def maskWhere (m : Nat) (p : Nat → Bool) : Nat := ((List.range 24).map (fun n => b2n (bitOf m n && p n) * 2 ^ n)).sum

/-- Everything reported in one LEG clock by kind: (source, high-side mask, low-side mask) (R190). -/
def Dev.legFaults (d : Dev) (l : List (Nat × Nat × Nat)) : Dev :=
  let own (a n : Nat) : Bool := (d.rd F.legCfg_use n == 1 || d.rd F.legCfg_use n == 3) && d.rd F.legCfg_axis n == a
  let d1 := d.each (List.range 8) fun a d => l.foldl
    (fun d x => d.legFaultEv x.1 a (d.reactOf a x.1) (maskWhere x.2.1 (own a)) (maskWhere x.2.2 (own a))) d
  let free (n : Nat) : Bool := d.rd F.legCfg_use n == 2
  let d2 := l.foldl (fun d x => d.legFaultEv x.1 0xFF 0 (maskWhere x.2.1 free) (maskWhere x.2.2 free)) d1
  d2.each (List.range 8) fun a d =>
    let rs := (l.filter (fun x => maskWhere (x.2.1 ||| x.2.2) (own a) != 0)).map (fun x => d.reactOf a x.1)
    match rs with
    | [] => d
    | r :: rest => d.reactTo a (rest.foldl min r) 9

/-- The soft comparison of a cell is active (R185): after TBLANK from the turn-on. -/
def Dev.softActive (d : Dev) (n : Nat) (high : Bool) : Bool :=
  let l := d.legh n
  match if high then l.ghSince else l.glSince with
  | some t => decide (t + d.rd F.legTblank_tblank n * 1000 ≤ d.now)
  | none => false

/-- A sense cell whose current crosses a threshold (R185): its leg, high side or low side, and the current in 2^-31 of the group's IFS. -/
structure CellI where
  leg : Nat
  high : Bool
  i : Int
deriving DecidableEq, Repr

/-- The legs of the cells of one side that satisfy a test, as a mask. -/
def cellMask (l : List CellI) (high : Bool) (p : CellI → Bool) : Nat :=
  ((List.range 24).map (fun n => b2n (l.any (fun c => c.leg == n && c.high == high && p c)) * 2 ^ n)).sum

/-- Row SC_REPORT (R185, R190): the cells whose current crosses a threshold in one LEG clock. SOFT and HARD are in units of IFS / 1,024;
the hard comparison is active while the gate is on, the soft one after its blanking. -/
def Dev.scReport (d : Dev) (cells : List CellI) : Dev :=
  let hard (high : Bool) : Nat := cellMask cells high fun c =>
    decide ((d.rd F.legIsc_hard c.leg : Int) * 2 ^ 21 ≤ c.i) && (if high then (d.legh c.leg).gh else (d.legh c.leg).gl)
  let hh := hard true
  let hl := hard false
  let soft (high : Bool) (m : Nat) : Nat := cellMask cells high fun c =>
    decide ((d.rd F.legIsc_soft c.leg : Int) * 2 ^ 21 ≤ c.i) && d.softActive c.leg high && !(bitOf m c.leg)
  let sh := soft true hh
  let sl := soft false hl
  let on (m : Nat) (src bits : Nat) (d : Dev) : Dev := d.each ((List.range 24).filter (bitOf m)) (fun n d => d.legReport src bits n)
  let d := on hh 1 5 (on hl 1 6 (on sh 0 1 (on sl 0 2 d)))
  d.legFaults [(1, hh, hl), (0, sh, sl)]

/-- A turn-on of one side of LEG_n has waited 1,000 ns for the complementary gate (R182). -/
def Dev.timedOut (d : Dev) (n : Nat) (high : Bool) : Bool :=
  match (d.legh n).want with
  | some w => w.high == high && decide (w.at_ + 1000000 ≤ d.now)
  | none => false

/-- Row HANDSHAKE_TIMEOUT (R182, R190): the gates of the legs of a mask that have waited 1,000 ns stay off, and the legs report
HANDSHAKE together. -/
def Dev.handshake (d : Dev) (legs : Nat) : Dev :=
  let d := d.each ((List.range 24).filter (bitOf legs)) fun n d => d.lockWant n
  let hi := maskWhere legs (d.timedOut · true)
  let lo := maskWhere legs (d.timedOut · false)
  let d := d.each ((List.range 24).filter (bitOf (hi ||| lo))) fun n d => (d.modLeg n fun l => { l with want := none }).legReport 2 8 n
  d.legFaults [(2, hi, lo)]

/-- The threshold of UVSEL, mV (R183). -/
def Dev.bstThresh (d : Dev) (n : Nat) : Nat :=
  match d.rd F.legBst_uvsel n with
  | 0 => 3500 | 1 => 4500 | 2 => 7000 | _ => 8500

/-- The high side of LEG_n is commanded on (R183): its gate is on, or the instant of its turn-on has come. -/
def Dev.highCmd (d : Dev) (n : Nat) : Bool :=
  (d.legh n).gh || (match (d.legh n).want with | some w => w.high && decide (w.at_ ≤ d.now) | none => false)

/-- Row BST_UV (R183, R190): BST_n − SW_n of some legs, in mV. Below the threshold the lockout engages and forces GH off; with GH
commanded on it is reported, all of one clock together. -/
def Dev.bstUv (d : Dev) (l : List (Nat × Nat)) : Dev :=
  let low (n : Nat) : Bool := !(d.flag F.legFlt_lockout n) && l.any (fun x => x.1 == n && decide (x.2 < d.bstThresh n))
  let m := maskWhere (2 ^ 24 - 1) low
  let cmd := maskWhere m d.highCmd
  let d := d.each ((List.range 24).filter (bitOf m)) fun n d =>
    ((d.set1 F.legFlt_lockout n).modLeg n fun l => { l with gh := false, ghSince := none }).lockWant n
  let d := d.each ((List.range 24).filter (bitOf cmd)) fun n d => d.legReport 3 16 n
  d.legFaults [(3, cmd, 0)]

/-- Row BST_LOCKOUT_RELEASE (R183): BST_n − SW_n is above the threshold plus 0.5 V. -/
def Dev.bstRelease (d : Dev) (n mV : Nat) : Dev := d.on (decide (d.bstThresh n + 500 < mV)) (·.clr F.legFlt_lockout n)

/-- Row BRAKE_PULL_END (R194). -/
def Dev.brakePullEnd (d : Dev) (n : Nat) : Dev :=
  match (d.legh n).pull with
  | some t => if t ≤ d.now then (d.clr F.legBrkst_pulling n).modLeg n fun l => { l with pull := none } else d
  | none => d

/-- Row LEG_REARM (R195). -/
def Dev.legRearm (d : Dev) (n : Nat) : Dev :=
  if 2 ≤ d.rd F.legCfg_use n then d.modLeg n fun l => { l with left_ := true } else d

end Sys2Proof.Machine
end

