-- ==== Sys2Proof/Machine/Sense.lean ====
section
/-!
DEFINITION. Sense channels and converters (07_current_sensing.md).
-/

namespace Sys2Proof.Machine

/-- IFS of LG_g, Q16.16 A (R198): RATIO × IRANGE, IRANGE being 2^code mA. -/
def Dev.ifs (d : Dev) (g : Nat) : Nat :=
  (rneDiv (d.rd F.snsCfg_ratio g * 2 ^ d.rd F.snsCfg_irange g * 65536) 1000).toNat

/-- Instant of the last hold of a leg relative to the period start, 125 ps units (R200). -/
def Dev.lastHold (d : Dev) (n : Nat) : Int :=
  2 * d.rdI F.snsSpos_spos n + ((d.rd F.snsSmp_navg n - 1) * d.rd F.snsSmp_space n : Nat)

/-- Sense latency of AX_a in ns, rounded up (R205). -/
def Dev.latency (d : Dev) (a : Nat) : Nat :=
  let h : Int := (d.axLegs a).foldl (fun m n => max m (d.lastHold n)) 0
  ((h + 7) / 8).toNat + 77

/-- The sampling checks of R201 on the legs of AX_a. -/
def Dev.holdsFit (d : Dev) (a : Nat) : Bool :=
  let per : Int := d.rd F.axCper_per a
  let l := d.axLegs a
  l.all fun n =>
    let s := d.rdI F.snsSpos_spos n
    let w : Int := ((d.rd F.snsSmp_navg n - 1) * d.rd F.snsSmp_space n : Nat)
    (l.all fun m => d.rd F.snsSpos_spos m == d.rd F.snsSpos_spos n && d.rd F.snsSmp_navg m == d.rd F.snsSmp_navg n &&
      d.rd F.snsSmp_space m == d.rd F.snsSmp_space n) &&
    decide (-per < 2 * s) && decide (s ≤ 0) && decide (-per ≤ 2 * s - w) && decide (2 * s + w < per)

/-- LEG_n takes holds (R201). -/
def Dev.holds (d : Dev) (n : Nat) : Bool :=
  (d.rd F.legCfg_use n == 1 && !(d.disabled (d.rd F.legCfg_axis n))) || d.flag F.snsSmp_en n

/-- The value of a set (R203): the mean of its valid codes less OFS, times GEFF; none without a valid hold. -/
def SSet.value (s : SSet) : Option Int :=
  let nv := s.codes.length
  if nv = 0 then none
  else some (satS 32 (rneDiv ((256 * s.codes.sum - nv * s.corr.1) * s.corr.2 * 2 ^ 18) (256 * 2 ^ 30 * nv)))

/-- A set of LEG_n is complete at root time `t` (SAMPLE_SET_READY, R203, R205): 25 ns later its value stands. -/
def Dev.setReady (d : Dev) (n : Nat) (s : SSet) (t : Nat) : Dev :=
  let d := d.wr F.snsSt_nv s.codes.length n
  let d := match s.value with
    | some i => d.wrI F.snsI_i i n
    | none => d
  let ts := (s.per + d.rdI F.snsSpos_spos n) * 16384
  (d.modSns n fun h => { h with sets := h.sets.filter (·.per != s.per), done := ({ ts := ts, i := s.value, ready := t + 25000 } :: h.done).take 2 }).note
    0x01 n (d.rd F.axTick_tb (d.rd F.legCfg_axis n)) ts (d.rdI F.snsI_i n)

/-- Instant of hold `k` of LEG_n relative to a period start, 250 ps units (R200). -/
def Dev.holdOff (d : Dev) (n k : Nat) : Int :=
  d.rdI F.snsSpos_spos n + (2 * (k : Int) - d.rd F.snsSmp_navg n + 1) * d.rd F.snsSmp_space n / 2

/-- The hold of LEG_n that falls due in the present clock (R200): its number, its period and its instant. Of several the earliest. -/
def Dev.holdDue (d : Dev) (n : Nat) : Option (Nat × Int × Int) :=
  let a := d.rd F.legCfg_axis n
  let per : Int := d.rd F.axCper_per a
  let ph : Int := d.rd F.axCphase_phase a
  let t := d.t250 (d.rd F.axTick_tb a)
  let from_ := match (d.snsLeg n).last with | some x => if x ≤ t then max x (t - 20) else t - 20 | none => t - 20
  let l := (List.range (d.rd F.snsSmp_navg n)).map fun k =>
    let p := ph + (t - ph - d.holdOff n k) / per * per
    (k, p, p + d.holdOff n k)
  (l.filter (fun x => decide (from_ < x.2.2))).foldl
    (fun m x => match m with | none => some x | some y => some (if x.2.2 < y.2.2 then x else y)) none

/-- OFS and GEFF as they were before LEG clock `at_`: an update of that clock is for the next set (R207). -/
def Dev.corrAt (d : Dev) (n : Nat) (at_ : Int) : Int × Nat :=
  let g := Tbl.get ({} : GrpH) (n / 4) d.sns.grp
  let h := d.snsLeg n
  (if at_ / 2000 ≤ h.ofsAt / 2000 then h.ofsOld else d.rdI F.snsOfs_ofs n,
    if at_ / 2000 ≤ g.geffAt / 2000 then g.geffOld else d.rd F.snsGeff_geff (n / 4))

/-- The low-side gate of LEG_n was sensed on from SETTLE before root time `at_` up to it (R202). -/
def Dev.settled (d : Dev) (n : Nat) (at_ : Int) : Bool :=
  let l := d.legh n
  let settle : Int := d.rd F.snsSmp_settle n * 4000
  let since (x : Option Nat) : Bool := match x with | some s => decide ((s : Int) + settle ≤ at_) | none => false
  if l.gl then since l.glSince || (decide (at_ < l.glOffSince) && since l.glBegan) else decide (at_ < l.glOffSince) && since l.glBegan

/-- Hold `k` of the set of period `p` has had its instant: the set counts it, and is begun by its first one. Sets whose last hold is past
and not waiting are over. -/
def Dev.setCounts (d : Dev) (n k : Nat) (p at_ : Int) : Dev :=
  let corr := d.corrAt n at_
  let navg := d.rd F.snsSmp_navg n
  d.modSns n fun h =>
    let waits (s : SSet) : Bool := match h.hold with | some w => w.per == s.per | none => false
    let old := h.sets.filter fun s => s.per == p || waits s || decide (p + d.holdOff n k ≤ s.per + d.holdOff n (navg - 1))
    { h with
      last := some (p + d.holdOff n k)
      sets := if old.any (·.per == p) then old.map (fun s => if s.per = p then { s with k := k + 1 } else s)
        else old ++ [{ per := p, k := k + 1, codes := [], corr := corr }] }

/-- The sets of LEG_n whose holds have all had their instant and none waits are complete at root time `t` (R203, R206). -/
def Dev.setsDone (d : Dev) (n t : Nat) : Dev :=
  let h := d.snsLeg n
  (h.sets.filter fun s => decide (d.rd F.snsSmp_navg n ≤ s.k) && (match h.hold with | some w => w.per != s.per | none => true)).foldl
    (fun d s => d.setReady n s t) d

/-- Row HOLD_SET (R200 to R202, R206, R207): the hold of LEG_n that falls due. It is made unless the hold before it has not been
converted; its instant is that of its LEG clock and tap. -/
def Dev.holdSet (d : Dev) (n : Nat) : Dev :=
  if !(d.holds n) then d
  else
    match d.holdDue n with
    | none => d
    | some (k, p, t) =>
      let at_ : Int := ((d.rootOf (d.rd F.legCfg_axis n) t : Int) + 125) / 250 * 250
      let d := d.setCounts n k p at_
      if (d.snsLeg n).hold.isSome then
        let d := d.bump F.snsSt_skip n
        let d := if (d.snsLeg n).skipLog = some p then d
          else (d.modSns n fun h => { h with skipLog := some p }).ev E.snsSkip n (d.rd F.snsSt_skip n)
        d.setsDone n d.now
      else
        let valid := d.settled n at_
        d.modSns n fun h => { h with hold := some { at_ := at_, per := p, valid := valid }, heldAt := some at_ }

/-- The earliest hold instant waiting in LG_g, root time in ps (R206). -/
def Dev.firstHold (d : Dev) (g : Nat) : Option Int :=
  ((List.range 4).filterMap (fun i => ((d.snsLeg (4 * g + i)).hold).map (·.at_))).foldl
    (fun m x => match m with | none => some x | some y => some (min x y)) none

/-- A hold of LEG_n has been converted at root time `t` (R199, R202). -/
def Dev.converted (d : Dev) (n : Nat) (code : Int) (w : HeldS) (t : Nat) : Dev :=
  let clip : Bool := decide (code ≤ -8192) || decide (8191 ≤ code)
  let d := if clip && !(d.flag F.snsSt_clip n) then (d.set1 F.snsSt_clip n).ev E.snsClip n (dw code) else d
  let d := d.modSns n fun h =>
    { h with hold := none
             sets := h.sets.map fun s => if s.per = w.per ∧ w.valid then { s with codes := code :: s.codes } else s }
  d.setsDone n t

/-- Row HOLD_SET_CONVERTED (R197, R206): the converter of LG_g completes its earliest hold set, `codes` for its four legs, 50 ns after
its holds or later. -/
def Dev.holdConverted (d : Dev) (g : Nat) (codes : List Int) : Dev :=
  match d.firstHold g with
  | none => d
  | some t =>
    let done := if (d.now : Int) < t + 54000 then (t + 50000).toNat else d.now
    (d.bumpMod F.snsStat_sets g).each (List.range 4) fun i d =>
      let n := 4 * g + i
      match (d.snsLeg n).hold with
      | some w => if w.at_ = t then d.converted n (satS 14 (codes.getD i 0)) w done else d
      | none => d

/-- The group converter of LG_g is idle and has met no foreground hold for 50 ns, the time of a calibration conversion (R207). -/
def Dev.convFree (d : Dev) (g : Nat) : Bool :=
  (List.range 4).all fun i =>
    let h := d.snsLeg (4 * g + i)
    h.hold.isNone && (match h.heldAt with | some t => decide (t + 50000 ≤ d.now) | none => true)

/-- The low-side gate of LEG_n has been off for at least `ps` (R208). -/
def Dev.lowOffFor (d : Dev) (n ps : Nat) : Bool := !(d.legh n).gl && decide ((d.legh n).glOffSince + ps ≤ d.now)

/-- Row OFFSET_CALIBRATION (R207, R208, R405): a calibration hold of LEG_n by Lehr measures code `m`. -/
def Dev.offsetCal (d : Dev) (n : Nat) (m : Int) : Dev :=
  if d.coreRuns ∧ d.flag F.snsCal_ofsen (n / 4) ∧ d.lowOffFor n (d.rd F.snsSmp_settle n * 4000) ∧ d.convFree (n / 4) then
    let o := d.rdI F.snsOfs_ofs n
    let k := d.rd F.snsCal_ofsk (n / 4)
    let x := if (d.snsLeg n).ofsLoaded then rneDiv (o * 2 ^ k + (256 * satS 14 m - o)) (2 ^ k) else 256 * satS 14 m
    (((d.wrI F.snsOfs_ofs x n).clr F.snsSt_ofsstale n).modSns n fun h => { h with ofsLoaded := true, ofsAt := d.now, ofsOld := o }).lehrCal n
  else d

/-- Row SNS_OFS_STALE (R208). -/
def Dev.ofsStale (d : Dev) (n : Nat) : Dev :=
  if d.rd F.legCfg_use n = 1 ∧ !(d.disabled (d.rd F.legCfg_axis n)) ∧ !(d.flag F.snsSt_ofsstale n) ∧
      (d.snsLeg n).ofsAt + 100000000000 ≤ d.now then
    (d.set1 F.snsSt_ofsstale n).ev E.snsOfsStale n (d.rd F.snsOfs_ofs n)
  else d

/-- GEFF of LG_g from GINJ and the latest temperature (R209, SNS_CAL_RANGE). -/
def Dev.geffUpdate (d : Dev) (g : Nat) : Dev :=
  let tc : Int := if d.flag F.snsCal_tcen g then d.rdI F.snsTc_tc g else 0
  let t := d.rdI F.snsTlg_t g
  let x := rneDiv ((d.rd F.snsGinj_ginj g : Int) * (256000000 + tc * (t - 25 * 256))) 256000000
  if 805306368 ≤ x ∧ x ≤ 1342177280 then
    let h := Tbl.get ({} : GrpH) g d.sns.grp
    { (d.wrI F.snsGeff_geff x g) with
      sns := { d.sns with grp := Tbl.put g { h with geffAt := d.now, geffOld := d.rd F.snsGeff_geff g } d.sns.grp } }
  else (d.set1 F.snsStat_calrange g).ev E.snsCalRange g (dwU x)

/-- No foreground hold of LEG_n in the last 400 ns (R209). -/
def Dev.noHoldFor (d : Dev) (n ps : Nat) : Bool :=
  match (d.snsLeg n).heldAt with | some t => decide (t + ps ≤ d.now) | none => true

/-- Row GAIN_INJECTION (R209, R405): a reference injection by Lehr on LEG_n gives code `m`. A result with m = OFS has no stated value. -/
def Dev.gainInject (d : Dev) (n : Nat) (m : Int) : Dev :=
  let g := n / 4
  if d.coreRuns ∧ d.flag F.snsCal_injen g ∧ d.lowOffFor n 400000 ∧ d.noHoldFor n 400000 ∧ d.convFree g then
    let den := 256 * satS 14 m - d.rdI F.snsOfs_ofs n
    let x : Int := if den = 0 then (d.free : Int) else rneDivI (2048 * 256 * 2 ^ 30) den
    let d := d.on (den == 0) (·.freed)
    let k := d.rd F.snsCal_ofsk g
    let o : Int := d.rd F.snsGinj_ginj g
    let h := Tbl.get ({} : GrpH) g d.sns.grp
    let y := if h.ginjLoaded then rneDiv (o * 2 ^ k + (x - o)) (2 ^ k) else x
    let d := { d with sns := { d.sns with grp := Tbl.put g { h with ginjLoaded := true } d.sns.grp } }
    ((d.wr F.snsGinj_ginj (satU 32 y) g).geffUpdate g).lehrCal (100 + g)
  else d

/-- Row DELAY_LINE_CALIBRATION (R210, R405): Lehr has measured the taps, in ps, of the delay line of a leg (units 0 to 23), whose corrected
table is loaded at the leg's next period start, or of TDC channel `unit` − 24, whose table is loaded at once. -/
def Dev.delayCal (d : Dev) (unit : Nat) (taps : List Nat) : Dev :=
  if !d.coreRuns then d
  else if unit < 24 then (d.modLeg unit fun l => { l with tapsNew := some taps }).lehrCal (200 + unit)
  else Dev.lehrCal { d with sns := { d.sns with tdc := Tbl.put (unit - 24) taps d.sns.tdc } } (200 + unit)

/-! ### Auxiliary converters -/

/-- Auxiliary converter AUX_c. -/
def Dev.aux (d : Dev) (c : Nat) : AuxH := Tbl.get {} c d.sns.aux

/-- The round-robin list of AUX_c after VBUS (R211), by channel: 0 VBUS, 1 VDRV, 2 VFIELD, 3 to 6 AIN_k, 7 to 12 TLG_g, 13 TCORE,
14 to 37 BST_n. -/
def auxList (c : Nat) : List Nat :=
  if c = 0 then [1, 3, 4, 7, 8, 9] ++ (List.range 12).map (14 + ·) else [2, 5, 6, 10, 11, 12, 13] ++ (List.range 12).map (26 + ·)

/-- A channel is converted when its turn comes: BST_n only with the low side sensed on for 200 ns (R214). -/
def Dev.auxOpen (d : Dev) (ch : Nat) : Bool :=
  ch < 14 || ((d.legh (ch - 14)).gl && (match (d.legh (ch - 14)).glSince with | some t => decide (t + 200000 ≤ d.now) | none => false))

/-- The channel that AUX_c converts now and the place in its list after it (R211, R214). -/
def Dev.auxTurn (d : Dev) (c : Nat) : Nat × Nat :=
  let h := d.aux c
  if h.vbus then (0, h.pos)
  else
    let l := auxList c
    match ((List.range l.length).map (fun i => (h.pos + i) % l.length)).find? (fun i => d.auxOpen (l.getD i 0)) with
    | some i => (l.getD i 0, (i + 1) % l.length)
    | none => (0, h.pos)

/-- A reading within the range of its input (R211): Q16.16 V, Q1.31 of 1.5 V, Q8.8 °C or Q8.8 V. -/
def auxClip (ch : Nat) (v : Int) : Int :=
  let r (lo hi : Int) : Int := max lo (min hi v)
  if ch = 0 then r 0 6710886 else if ch = 1 then r 0 1048576 else if ch = 2 then r 0 2621440
  else if ch < 7 then satS 32 v
  else if ch < 14 then r (-10240) 32767 else r 0 4096

/-- Stores a conversion made from a hold at root time `t` in its readback (R211, R213, R214), with the lowest BST value (R405, R414); a group whose temperature has changed forms its
gain again (R209). -/
def Dev.auxStore (d : Dev) (ch : Nat) (v : Int) (t : Nat) : Dev :=
  if ch = 0 then (d.wrI F.snsVbus_v v).note 0x44 0 4 t v
  else if ch = 1 then (d.wrI F.snsVdrv_v v).note 0x45 0 4 t v
  else if ch = 2 then (d.wrI F.snsVfield_v v).note 0x46 0 4 t v
  else if ch < 7 then (d.wrI F.snsAin_ain v (ch - 3)).note (0x40 + ch - 3) 0 4 t v
  else if ch < 13 then
    let was := d.rdI F.snsTlg_t (ch - 7)
    (d.wrI F.snsTlg_t v (ch - 7)).on (was != v) (·.geffUpdate (ch - 7))
  else if ch = 13 then d.wrI F.snsTcore_t v
  else
    let d := (d.wrI F.snsBst_v v (ch - 14)).modSns (ch - 14) fun h => { h with bstAt := some d.now }
    let b := d.rd F.snsBst_v (ch - 14)
    d.on (d.coreRuns && decide (b < d.rd F.mgtBstmin_min (ch - 14))) (·.wr F.mgtBstmin_min b (ch - 14))

/-- End of the SC conversions of AUX_c, root time in ps; 0 without any (R212). -/
def Dev.scEnd (d : Dev) (c : Nat) : Nat :=
  max ((Tbl.find (2 * c) d.sns.sc).elim 0 (·.ready)) ((Tbl.find (2 * c + 1) d.sns.sc).elim 0 (·.ready))

/-- Row AUX_CONVERSION (R211 to R214): AUX_c completes the round-robin conversion that is due, of channel `ch`, in the format of its
readback. VBUS and the channels of the list alternate; held SC values go before the next conversion. -/
def Dev.auxConv (d : Dev) (c ch : Nat) (v : Int) : Dev :=
  let h := d.aux c
  let t := d.auxTurn c
  if d.now < h.ends ∨ ch ≠ t.1 then d
  else
    let d := d.auxStore ch (auxClip ch v) (h.ends - 250000)
    { d with sns := { d.sns with
        aux := Tbl.put c { ends := max h.ends (d.scEnd c) + 250000, vbus := !h.vbus, pos := t.2 } d.sns.aux } }

/-- Row SC_HOLD (R212, R238): sin and cos of SC_q are held at the sample time of the owner's latest current tick. The round-robin
conversion in progress completes first, then the held values are converted, 250 ns each, those of the lower channel first; a
round-robin conversion not begun waits for them. -/
def Dev.scHold (d : Dev) (q : Nat) (s c : Int) : Dev :=
  let a := d.rd F.fqCtrl_axis q
  let j := d.tickSampled a (d.rd F.axTick_cdiv a) (d.t250 (d.rd F.axTick_tb a))
  if d.rd F.fqCtrl_mode q = 4 ∧ d.fqWorks q then
    let k := q / 2
    let h := d.aux k
    let o := if q % 2 = 0 then q + 1 else q - 1
    let begun : Bool := decide (h.ends ≤ d.now + 250000)
    let put (sc : Tbl ScHeld) (ready : Nat) : Tbl ScHeld :=
      Tbl.put q { s := satS 16 s, c := satS 16 c, ts := d.sampleAt a j, at_ := d.now, ready := ready } sc
    let sc := match Tbl.find o d.sns.sc with
      | some w =>
        if w.ready ≤ d.now then put d.sns.sc (max h.ends d.now + 500000)
        else if w.at_ = d.now ∧ q < o then put (Tbl.put o { w with ready := w.ready + 500000 } d.sns.sc) w.ready
        else put d.sns.sc (w.ready + 500000)
      | none => put d.sns.sc (max h.ends d.now + 500000)
    let d := { d with sns := { d.sns with sc := sc } }
    if begun then d else { d with sns := { d.sns with aux := Tbl.put k { h with ends := d.scEnd k + 250000 } d.sns.aux } }
  else d

end Sys2Proof.Machine
end

