-- ==== Sys2Proof/Machine/Loops.lean ====
section
/-!
DEFINITION. The loops of Marver (05_marver_loops.md): the PID form (R148 to R151), loop states and commands (R160 to
R164), the min-select (R155, R156), the velocity stage (R157 to R159).
-/

namespace Sys2Proof.Machine

/-! ### The PID form -/

/-- Coefficients of a loop at a stage, with its formats: fraction bits of the error and of the output, and the width of
the output (R149). Limits are in the output format. -/
structure LpCfg where
  fe : Nat
  fo : Nat
  w : Nat
  kp : Int
  kits : Int
  kdts : Int
  alpha : Nat
  shift : Nat
  ffshift : Nat
  kff : Int
  kt : Int
  omax : Int
  omin : Int
  imax : Int
  dmeas : Bool
deriving DecidableEq, Repr

/-- A committed LO and HI pair: the LO word committed with the last write of the HI word (R121, R302). -/
def Dev.pair (d : Dev) (lo hi : Fld) (i : Nat) : Nat :=
  Tbl.get lo.reset (lo.key i 0) d.cLo + 2 ^ 32 * d.rd hi i

/-- The coefficient block of loop `l` of AX_n (R148, R149). -/
def Dev.lpCfg (d : Dev) (n l : Nat) : LpCfg :=
  let c := l < 2
  { fe := if c then 16 else 31
    fo := if l = 0 then 16 else 31
    w := if l = 0 then 64 else 32
    kp := d.rdI F.lpKp_kp n l
    kits := d.rdI F.lpKits_kits n l
    kdts := if c then d.rdI F.lpKdts_kdts n l else 0
    alpha := if c then d.rd F.lpCfg_alpha n l else 0
    shift := if c then d.rd F.lpCfg_shift n l else d.rd F.lpCfgC_shift n (l - 2)
    ffshift := if c then d.rd F.lpCfg_ffshift n l else 0
    kff := if c then d.rdI F.lpKff_kff n l else 0
    kt := d.rd F.lpKt_kt n l
    omax := if l = 0 then sx 64 (d.pair F.lpOutmaxlo_v F.lpOutmaxhi_v n) else d.rdI F.lqOutmaxlo_v n (l - 1)
    omin := if l = 0 then sx 64 (d.pair F.lpOutminlo_v F.lpOutminhi_v n) else d.rdI F.lqOutminlo_v n (l - 1)
    imax := if l = 0 then (d.pair F.lpImaxlo_v F.lpImaxhi_v n : Nat) else (d.rd F.lqImaxlo_v n (l - 1) : Nat)
    dmeas := if l = 0 then d.flag F.axLoopcfg_dmeasPos n else if l = 1 then d.flag F.axLoopcfg_dmeasVel n else false }

/-- `g * x * 2^-s` with `g` in Q16.16 and `x` with `fx` fraction bits, in the output format extended by 32 bits, rounded
once (R148). -/
def LpCfg.term (c : LpCfg) (g x : Int) (fx s : Nat) : Int := rneShr (g * x * 2 ^ (c.fo + 32)) (16 + fx + s)

/-- Clamps to ±IMAX in the extended format (R148). -/
def LpCfg.clampI (c : LpCfg) (x : Int) : Int := max (-(c.imax * 2 ^ 32)) (min (c.imax * 2 ^ 32) x)

/-- Clips a term to the range of the output format (R148). -/
def LpCfg.satOut (c : LpCfg) (x : Int) : Int :=
  max (-(2 ^ (c.w - 1)) * 2 ^ 32) (min ((2 ^ (c.w - 1) - 1) * 2 ^ 32) x)

/-- Clamps to [OUTMIN, OUTMAX] in the extended format (R148). -/
def LpCfg.clampU (c : LpCfg) (x : Int) : Int := max (c.omin * 2 ^ 32) (min (c.omax * 2 ^ 32) x)

/-- Back-calculation of the integrator by KT × (u − u0) (R150). -/
def LpCfg.back (c : LpCfg) (i u u0 : Int) : Int := c.clampI (i + rneShr (c.kt * (u - u0)) 16)

/-- One stage of the PID form (R148 to R151, R161): gives the new loop state and the flags SAT_P, SAT_I, SAT_D, SAT_FF,
SAT_OUT from bit 0 up. A loop that closes, or whose state is rebuilt, starts
from its held output with d and the previous error reset; d is held without a limit of its own (notes/assumptions/127.md). -/
def LpCfg.run (c : LpCfg) (h : LpH) (e y r extra : Int) : LpH × Nat :=
  let dp := if h.rebuild then 0 else h.d
  let ep := if h.rebuild then e else h.e
  let p := c.term c.kp e c.fe c.shift
  let dlt := if c.dmeas then -(y - h.y) else e - ep
  let dd := rneShr (c.alpha * dp) 16 + rneShr ((65536 - c.alpha) * c.kdts * dlt * 2 ^ (c.fo + 32)) (32 + c.fe + c.shift)
  let ff := c.term c.kff r 16 c.ffshift + extra
  let sp := c.satOut p
  let sd := c.satOut dd
  let sf := c.satOut ff
  let clip := b2n (sp ≠ p) + 4 * b2n (sd ≠ dd) + 8 * b2n (sf ≠ ff)
  if h.st = .closed then
    let i0 := if h.rebuild then h.u * 2 ^ 32 - sp - sd - sf else h.i + c.term c.kits e c.fe c.shift
    let i1 := c.clampI i0
    let u0 := sp + i1 + sd + sf
    let u := c.clampU u0
    let i2 := if u ≠ u0 then c.back i1 u u0 else i1
    ({ h with i := i2, d := dd, e := e, y := y, u := rneShr u 32 },
     clip + 2 * b2n (i1 ≠ i0 ∨ (u ≠ u0 ∧ i2 ≠ i1 + rneShr (c.kt * (u - u0)) 16)) + 16 * b2n (u ≠ u0))
  else ({ h with d := dd, e := e, y := y }, clip)

/-- The sticky flags of loop `l` in AX_n_LOOPSTAT (R151). -/
def satFld : Nat → Fld
  | 0 => F.axLoopstat_pos | 1 => F.axLoopstat_vel | 2 => F.axLoopstat_cur0 | _ => F.axLoopstat_cur1

/-- Sets sticky flags. -/
def Dev.sticky (d : Dev) (f : Fld) (m : Nat) (i : Nat) : Dev := d.wr f (d.rd f i ||| m) i

/-! ### Loop states at stages -/

/-- The loops inside loop `l` are CLOSED (R162). -/
def Dev.innerClosed (d : Dev) (n l : Nat) : Bool :=
  let cur := (d.loop n 2).st == .closed && (!(d.present n 3) || (d.loop n 3).st == .closed)
  match l with
  | 0 => cur && (d.loop n 1).st == .closed
  | 1 => cur
  | _ => true

/-- State changes due at a stage of loop `l` (R160): a closing waits for the loops inside. -/
def Dev.loopDue (d : Dev) (n l : Nat) : Dev :=
  let h := d.loop n l
  if h.opening then d.loopTo n l .opened
  else if h.closing ∧ d.innerClosed n l ∧ h.st ≠ .fault then
    (d.modLoop n l fun h => { h with st := .closed, rebuild := true, closing := false }).ev E.loopState n (l + 256)
  else d

/-- Starts the hold timer when the axis moves (R164); one that runs already runs on. -/
def Dev.holdStart (d : Dev) (n : Nat) : Dev :=
  if (d.rd F.axHoldv_vmov n : Int) * 65536 < |(d.axis n).fb.vm| ∧ !(d.flag F.axLoopst_holdrun n) then
    (((d.set1 F.axLoopst_holdrun n).wr F.axHold_remain (d.rd F.axHold_ticks n) n).modAxis n fun h =>
      { h with out := { h.out with holdDue := false } }).ev E.loopHoldStart n (d.rd F.axHold_ticks n)
  else d

/-- A CLOSE command takes effect for loops `ls`, whose outermost is named by `l` (R162): they close at their next stage. -/
def Dev.closeCmd (d : Dev) (n l : Nat) (ls : List Nat) : Code × Dev :=
  if d.axState n ≠ 2 ∨ !(d.present n l) ∨ !(d.innerClosed n l) then (.wrongState, d)
  else
    -- the position that a closing by R160 would take is not for a later CLOSE command
    let d := d.on (l == 0 && !(d.loop n 0).closing) fun d => d.modAxis n fun h => { h with seize := 0 }
    (.ok, d.each ls fun k d =>
    if d.present n k && (d.loop n k).st == .opened then d.modLoop n k fun h => { h with closing := true, opening := false } else d)

/-- An OPEN command takes effect: loops `ls` open, and the hold timer starts on a moving axis (R162, R164). -/
def Dev.openCmd (d : Dev) (n l : Nat) (ls : List Nat) : Code × Dev :=
  if d.axState n ≠ 2 ∨ !(d.present n l) then (.wrongState, d)
  else (.ok, (d.each ls fun k d => if d.present n k then d.loopTo n k .opened else d).holdStart n)

/-- A loop command, by its bit in AX_n_LOOPCTL (R162). -/
def Dev.loopCmd (d : Dev) (n bit : Nat) : Code × Dev :=
  match bit with
  | 0 => d.closeCmd n 2 [2, 3]
  | 1 => d.closeCmd n 1 [1]
  | 2 => d.closeCmd n 0 [0]
  | 3 => d.openCmd n 2 [2, 3, 1, 0]
  | 4 => d.openCmd n 1 [1, 0]
  | _ => d.openCmd n 0 [0]

/-- The loop commands of a stage of loop `l` (0 position, 1 velocity, 2 current) take effect and are answered (R162). -/
def Dev.loopCmds (d : Dev) (n l : Nat) : Dev :=
  let mine (p : LoopPend) : Bool := p.bit % 3 == (2 - l)
  let q := (d.axis n).loopPend
  (q.filter mine).foldl
    (fun d p => let r := d.loopCmd n p.bit; r.2.answer p.by_ r.1)
    (d.modAxis n fun h => { h with loopPend := q.filter (fun p => !(mine p)) })

/-- Every loop in ENCL that is present is CLOSED (R164). -/
def Dev.enclClosed (d : Dev) (n : Nat) : Bool :=
  [0, 1, 2, 3].all (fun l => !(d.present n l) || !(d.encl n l) || (d.loop n l).st == .closed)

/-- The innermost OPEN loop of AX_n, 2 for the current loops (R164). -/
def Dev.innermostOpen (d : Dev) (n : Nat) : Option Nat :=
  [2, 1, 0].find? (fun l => d.present n l && (d.loop n l).st == .opened)

/-- The hold timer counts a stage of loop `l` at its start where that is the innermost OPEN loop (R164). -/
def Dev.holdCount (d : Dev) (n l : Nat) : Dev :=
  if d.flag F.axLoopst_holdrun n ∧ (d.axis n).out.holdDue = false ∧ d.innermostOpen n = some l then
    let r := d.rd F.axHold_remain n
    let d := d.wr F.axHold_remain (r - 1) n
    if r ≤ 1 then d.modAxis n fun h => { h with out := { h.out with holdDue := true } } else d
  else d

/-- The hold timer stops when every loop of ENCL is CLOSED again (R164). -/
def Dev.holdCheck (d : Dev) (n : Nat) : Dev := if d.flag F.axLoopst_holdrun n ∧ d.enclClosed n then d.holdStop n else d

/-- The hold timer's expiry acts (R164): every OPEN loop in ENCL is closed in this stage, under R161 at its next run. -/
def Dev.holdAct (d : Dev) (n : Nat) : Dev :=
  let vm := (d.axis n).fb.vm
  let d := d.each [2, 3, 1, 0] fun l d =>
    if d.present n l && d.encl n l && (d.loop n l).st == .opened then
      (d.modLoop n l fun h => { h with st := .closed, rebuild := true, closing := false, opening := false }).ev E.loopState n (l + 256)
    else d
  let d := (d.modAxis n fun h => { h with seize := 0 }).prfSeize n vm
  (d.ctlStop n 5).ev E.loopHoldExpired n (dwU (rneShr |vm| 16))

/-- Row LOOP_HOLD_EXPIRED (R164): an expiry that has been counted acts, in a position stage. -/
def Dev.holdExpire (d : Dev) (n : Nat) : Dev :=
  if (d.axis n).out.holdDue then (d.modAxis n fun h => { h with out := { h.out with holdDue := false } }).holdAct n else d

/-- One stage of loop `l` of AX_n on its error, measurement, reference and added feedforward. -/
def Dev.runLoop (d : Dev) (n l : Nat) (e y r extra : Int) : Dev :=
  let d := d.loopDue n l
  let x := (d.lpCfg n l).run (d.loop n l) e y r extra
  (d.modLoop n l fun _ => { x.1 with rebuild := false }).sticky (satFld l) x.2 n

/-! ### Feedforward tables, min-select, velocity stage -/

/-- Count of AX_n within a mechanical revolution, 2^-16 counts (R159). -/
def Dev.mechCount (d : Dev) (n : Nat) : Int := ((d.axis n).fb.xm - d.rdI F.axEzero_ezero n * 65536) % (d.rd F.axCpr_cpr n * 65536 : Nat)

/-- Place in a table of 2^k words at mechanical angle ρ of AX_n (R159). -/
def Dev.angleIndex (d : Dev) (n k : Nat) : Int := d.mechCount n * 2 ^ k / (d.rd F.axCpr_cpr n * 65536 : Nat)

/-- Value of a table of 2^k words at mechanical angle ρ of AX_n (R159), rounded once. -/
def Dev.angleTable (d : Dev) (n base k : Nat) : Int :=
  let cpr : Int := d.rd F.axCpr_cpr n * 65536
  let x := d.mechCount n
  let N : Int := 2 ^ k
  let i := d.angleIndex n k
  let u : Rat := ((x * N % cpr : Int) : Rat) / cpr
  let T (j : Int) : Int := sx 32 (d.table (base + (j % N).toNat))
  rneQ (T i + u * (T (i + 1) - T i))

/-- First word of the friction table of AX_n in W_14 (R158). -/
def frBase (n : Nat) : Nat := (0xC0000 + n * 0x8000) / 4

/-- First word of the cogging table of AX_n in W_14 (R158). -/
def cgBase (n : Nat) : Nat := (0xC4000 + n * 0x8000) / 4

/-- Friction and cogging terms at demand `w`, Q1.31 of IFS (R159). -/
def Dev.tableFf (d : Dev) (n : Nat) (w : Int) : Int :=
  let s := if (d.rd F.axFrdb_db n : Int) * 65536 < |w| then sgnI w else 0
  (if d.flag F.axFfcfg_fricen n then d.angleTable n (frBase n) (d.rd F.axFfcfg_frlog2n n) * s else 0) +
  (if d.flag F.axFfcfg_cogen n then d.angleTable n (cgBase n) (d.rd F.axFfcfg_cglog2n n) else 0)

/-- The competitors of AX_n that are enabled, with their values (R155): C0 always; C1 from the lane or an analogue input;
C2 the speed limit; C3 the external demand. -/
def Dev.competitors (d : Dev) (n : Nat) : List (Nat × Int) :=
  let en := d.rd F.axSelcfg_en n
  let c0 := if d.flag F.axLoopcfg_enclPos n then (d.loop n 0).u
    else satS 64 (rneShr ((d.lpCfg n 0).term (d.lpCfg n 0).kff (d.vref n) 16 (d.lpCfg n 0).ffshift) 32)
  let c1 := if d.flag F.axSelcfg_c1src n then
      some (satS 64 (rneShr (d.rdI F.snsAin_ain (d.rd F.axSelcfg_ain n) * d.rdI F.axC1gain_gain n * 2 ^ d.rd F.axSelcfg_c1shift n) 31))
    else d.tapC1 n
  [(0, c0)] ++ (if bitOf en 0 then c1.toList.map (fun x => (1, x)) else []) ++
    (if bitOf en 1 then [(2, sx 64 (d.pair F.axVlimlo_v F.axVlimhi_v n))] else []) ++
    (if bitOf en 2 then [(3, sx 64 (d.pair F.axExtdemlo_v F.axExtdemhi_v n))] else [])

/-- The winner among competitors: the lowest value; the present winner keeps control at a tie (R155). -/
def winner (l : List (Nat × Int)) (now_ : Nat) : Nat × Int :=
  let m := (l.map (·.2)).foldl min ((l.map (·.2)).headD 0)
  match l.find? (fun x => x.1 == now_ && x.2 == m) with
  | some x => x
  | none => (l.find? (fun x => x.2 == m)).getD (0, m)

/-- The min-select of a velocity stage (R155, R156), with the tracking of a losing CLOSED position loop. -/
def Dev.select (d : Dev) (n : Nat) : Dev :=
  let old := d.rd F.axSel_win n
  let (k, w) := winner (d.competitors n) old
  let d := d.on (k != old) fun d => ((d.wr F.axSel_win k n).bump F.axSel_changes n).ev E.selChange n (k + 256 * old)
  let d := d.modAxis n fun h => { h with out := { h.out with w := w } }
  if k ≠ 0 ∧ (d.loop n 0).st = .closed then
    let c := d.lpCfg n 0
    let up := (d.loop n 0).u
    let mv := rneShr (c.kt * (w - up) * 2 ^ 32) 16
    let free := (d.loop n 0).i + mv
    (d.modLoop n 0 fun h => { h with i := c.clampI free, u := satS 64 (rneShr (h.u * 2 ^ 32 + mv) 32) }).sticky (satFld 0)
      (2 * b2n (c.clampI free ≠ free)) n
  else d

/-- The velocity stage (R157): selection, velocity PID, current demand. -/
def Dev.velStage (d : Dev) (n : Nat) : Dev :=
  let d := (d.holdCount n 1).loopCmds n 1
  if !(d.present n 1) then d
  else
    let d := d.select n
    let w := (d.axis n).out.w
    let vm := (d.tapV n).getD (d.axis n).fb.vm
    let extra := (d.tableFf n w + d.tapFf n) * 2 ^ 32
    let d := (d.runLoop n 1 (satS 64 (w - vm)) vm (d.aref n) extra).holdCheck n
    d.modAxis n fun h => { h with out := { h.out with idem := (d.loop n 1).u } }

/-- p := x_m − C and v := a := 0 as the position loop closes (R160); the target follows unless a motion entry has been
taken. The target it sets is no crossing of a compare unit (R134). -/
def Dev.closeSeize (d : Dev) (n : Nat) : Dev :=
  let d := if (d.axis n).seize = 0 then d else d.modAxis n fun h => { h with tgtPrev := none }
  match (d.axis n).seize with
  | 0 => d
  | 1 => ((d.modAxis n fun h => { h with seize := 0 }).prfHalt n).prfSeize n 0
  | _ => (d.modAxis n fun h =>
      { h with seize := 0, prf := { h.prf with p := satS 64 (h.fb.xm - h.cpl.c), v := 0, a := 0 } })

/-- The position loop at a position stage on the target p + C (R128, R149). -/
def Dev.posLoop (d : Dev) (n : Nat) : Dev :=
  if !(d.present n 0) then d
  else
    let d := if (d.loop n 0).closing ∧ d.innerClosed n 0 then d.closeSeize n else d
    let h := d.axis n
    let tgt := satS 64 (h.prf.p + h.cpl.c)
    (d.runLoop n 0 (satS 64 (tgt - h.fb.xm)) h.fb.xm (d.vref n) 0).holdCheck n

end Sys2Proof.Machine
end

