-- ==== Sys2Proof/Machine/Axis.lean ====
section
/-!
DEFINITION. Axis commands, queue entries, compare units and the step timer (04_profiles_and_stepping.md).
-/

namespace Sys2Proof.Machine

/-! ### Axis commands -/

/-- The tick limits of R34 and the phase limit of R73, on the carrier in force. -/
def Dev.tickFits (d : Dev) (n : Nat) : Bool :=
  decide (25000 ≤ d.tc250 n) && decide (50000 ≤ d.tv250 n) && decide (100000 ≤ d.tp250 n) &&
    decide (d.rd F.axTick_outer n * 40 + 8000 ≤ d.tv250 n) && decide (d.rd F.axCphase_phase n < d.rd F.axCper_per n)

/-- The BUDGETs of the enabled hooks of PL_l fit its axis (R266). -/
def Dev.budgetFits (d : Dev) (l : Nat) : Bool :=
  let a := d.rd F.plCtrl_axis l
  let c := (if d.rd F.axCfg_kind a = 5 then d.tv250 a else d.tc250 a) / 10
  decide (((List.range 3).map (fun k => if d.flag F.plHook_en l k then d.rd F.plHook_budget l k else 0)).sum + 200 ≤ c)

/-- R218 and R226: the answer of the feedback conditions of ENABLE. -/
def Dev.fbEnable (d : Dev) (n : Nat) : Code :=
  let kind := d.rd F.axCfg_kind n
  let src := d.rd F.fbkSel_src n
  let owner := if src ≤ 8 then d.rd F.faCtrl_axis (src - 1) else d.rd F.fqCtrl_axis (src - 9)
  let chan : Bool := decide (1 ≤ src) && decide (src ≤ 12)
  let same := [F.axTick_dbl, F.axTick_cdiv, F.axTick_vdiv, F.axTick_pdiv, F.axTick_tb, F.axTick_outer, F.axCper_per,
    F.axCphase_phase].all (fun f => d.rd f n == d.rd f owner)
  if chan && owner != n && !same then .range
  else if chan && decide (src ≤ 8) && !(d.faFits (src - 1)) then .range
  else if (kind = 1 ∨ kind = 3 ∨ kind = 4) ∧ (src = 0 ∨ src = 13) then .wrongState
  else if kind = 5 ∧ chan then .wrongState
  else if chan && (!(d.chanReady src) || (decide (9 ≤ src) && d.flag F.fqSt_fault (src - 9))) then .wrongState
  else if d.flag F.axStep_outen n ∧ d.rd F.fqCtrl_mode (d.rd F.axStep_fq n) ≠ 3 then .wrongState
  else .ok

/-- C1 of AX_n is served by a running lane bound to it where it is taken from a lane (R267). -/
def Dev.c1Served (d : Dev) (n : Nat) : Bool :=
  !(bitOf (d.rd F.axSelcfg_en n) 0) || d.flag F.axSelcfg_c1src n ||
    (List.range 8).any (fun l => d.bound l n && d.flag F.plCtrl_run l && d.flag F.plOuten_c1dem l)

/-- The answer of ENABLE (R34, R53, R54, R73, R111, R171, R201, R218, R266, R267, R355, R389, R413). -/
def Dev.enableCheck (d : Dev) (n : Nat) : Code :=
  let tb := d.rd F.axTick_tb n
  let legs : Bool := kindLegs (d.rd F.axCfg_kind n) != 0
  if d.axState n ≠ 0 then .wrongState
  else if !(d.tickFits n) ∨ !(d.holdsFit n) ∨ d.fbEnable n = .range ∨
      (List.range 8).any (fun l => d.rd F.plCtrl_axis l == n && d.flag F.plCtrl_run l && !(d.budgetFits l)) then .range
  else if d.devstate ≠ 3 ∨ bitOf (d.rd F.mgtAximg_noact) n ∨ d.rd F.axCfg_kind n = 0 ∨ !(d.legsMatch n) ∨ d.rd F.tbState_state tb = 1 ∨ (d.tb tb).stepAt = some d.now ∨
      d.rd F.safStat_state ≠ 3 ∨ (legs ∧ (d.tripOn 8 ∨ d.tripOn 9 ∨ d.tripOn 10)) ∨ !(d.c1Served n) then .wrongState
  else d.fbEnable n

/-- STEP_INDEX_LOST (R141): at ENABLE after the loss of the driver stage. -/
def Dev.indexLost (d : Dev) (n : Nat) : Dev :=
  let h := (d.axis n).stp
  let d := d.modAxis n fun h => { h with stp := { h.stp with lost := false } }
  if h.lost ∧ d.rd F.axCfg_kind n = 2 ∧ d.flag F.axCfg_index n then
    let m := 4096 * rneDiv h.n 4096
    ((d.modAxis n fun h => { h with stp := { h.stp with n := m } }).set1 F.axState_indexLost n).ev E.stepIndexLost n (dw (m - h.n))
  else d

/-- The profile takes its position from x_m when the position loop next closes (R160). -/
def Dev.seizeSoon (d : Dev) (n : Nat) : Dev :=
  if d.present n 0 ∧ d.encl n 0 ∧ (d.loop n 0).st = .opened then d.modAxis n fun h => { h with seize := 1 } else d

/-- ENABLE takes effect (R53, R71, R111, R112, R189, R191): STANDSTILL, the legs start at the first period start at least
1 µs later, and the reaction of any active source follows. -/
def Dev.enable (d : Dev) (n : Nat) : Code × Dev :=
  match d.enableCheck n with
  | .ok =>
    let tb := d.rd F.axTick_tb n
    let d := if d.rd F.tbState_state tb = 0 then d.clr F.tbState_stepok tb else d
    let d := (d.indexLost n).modAxis n fun h =>
      { h with stopDis := false, tgtPrev := none
               tick := { h.tick with driveAt := some (d.t250 tb + 4000), cur := false, outer := [] } }
    let d := d.each (d.axLegs n) fun l d => d.modLeg l fun h => { h with left_ := true }
    let d := (d.seizeSoon n).toStandstill n
    (.ok, d.reactActive n)
  | c => (c, d)

/-- RUN (R111, R112). -/
def Dev.run (d : Dev) (n : Nat) : Code × Dev :=
  match d.axState n with
  | 1 => (.ok, (if d.rd F.axCfg_still n = 2 then d else d.seizeSoon n).toEnabled n)
  | 2 => (.ok, d)
  | _ => (.wrongState, d)

/-- STILL (R111, R112). -/
def Dev.still (d : Dev) (n : Nat) : Code × Dev :=
  match d.axState n with
  | 1 => (.ok, d)
  | 2 => if d.atRest n ∧ d.rd F.axCstat_cstate n = 0 then (.ok, d.toStandstill n) else (.wrongState, d)
  | _ => (.wrongState, d)

/-- STOP (R111, R112). -/
def Dev.stop (d : Dev) (n : Nat) : Code × Dev :=
  match d.axState n with
  | 2 => (.ok, d.ctlStop n 1)
  | 1 => (.ok, d)
  | 3 => (.ok, d)
  | _ => (.wrongState, d)

/-- DISABLE (R111, R112, R115). -/
def Dev.disable (d : Dev) (n : Nat) : Code × Dev := (.ok, d.toDisabled n)

/-- FLUSH (R111, R119). -/
def Dev.flush (d : Dev) (n : Nat) : Code × Dev := (.ok, d.qDiscard n)

/-- ENABLE is asked for (R54, R111): refused at once where its check fails now, else checked at the end of the clock. -/
def Dev.enableAsk (d : Dev) (n : Nat) (by_ : Cmdr) : Option Code × Dev :=
  match d.enableCheck n with
  | .ok => (none, d.judgeLater (.enable by_ n))
  | c => (some c, d)

/-- A state command by its value in AX_n_CMD (R111); no answer where it is given at the end of the clock. -/
def Dev.axCmd (d : Dev) (n c : Nat) (by_ : Cmdr) : Option Code × Dev :=
  let now_ (y : Code × Dev) : Option Code × Dev := (some y.1, y.2)
  match c with
  | 1 => d.enableAsk n by_
  | 2 => now_ (d.run n)
  | 3 => now_ (d.still n)
  | 4 => now_ (d.stop n)
  | 5 => now_ (d.disable n)
  | 6 => now_ (d.flush n)
  | _ => (some .range, d)

/-- The outcome of a command that waited: its answer, if it is given now. -/
def Dev.reply (d : Dev) (by_ : Cmdr) : Option Code → Dev
  | some c => d.answer by_ c
  | none => d

/-- The commands waiting for a position stage of AX_n take effect, state commands first, and are answered (R108, R111). -/
def Dev.pendTake (d : Dev) (n : Nat) : Dev :=
  let q := (d.axis n).pend
  let d := d.modAxis n fun h => { h with pend := [] }
  let d := q.foldl (fun d p => match p with
    | .cmd by_ c => let r := d.axCmd n c by_; r.2.reply by_ r.1
    | .ecmd .. => d) d
  q.foldl (fun d p => match p with
    | .ecmd by_ b => let r := d.ecmd n b; r.2.answer by_ r.1
    | .cmd .. => d) d

/-! ### Queue entries -/

/-- Operation of an entry (R116). -/
def QEnt.op (e : QEnt) : Nat := bitsOf (e.words.getD 0 0) 0 4
/-- When an entry is due (R116). -/
def QEnt.whenDue (e : QEnt) : Nat := bitsOf (e.words.getD 0 0) 4 2
/-- User identifier of an entry (R116). -/
def QEnt.id (e : QEnt) : Nat := bitsOf (e.words.getD 0 0) 16 16
/-- Operand A, Q48.16 (R116). -/
def QEnt.opA (e : QEnt) : Int := sx 64 (e.words.getD 1 0 + 2 ^ 32 * e.words.getD 2 0)
/-- Operand B, Q48.16 (R116). -/
def QEnt.opB (e : QEnt) : Int := sx 64 (e.words.getD 3 0 + 2 ^ 32 * e.words.getD 4 0)
/-- Time of an AT entry, 2^-16 ns modulo 2^32 s (R116). -/
def QEnt.at_ (e : QEnt) : Int := ((e.words.getD 5 0 % 2 ^ 32) * sec16 + (e.words.getD 6 0 % 2 ^ 30) * 65536 : Nat)

/-- Encodings, reserved bits, TNS and LIMIT's B of an entry (R117). -/
def entryOk (w : List Nat) : Bool :=
  let e : QEnt := { by_ := { port := 0, tag := 0 }, words := w }
  w.length == 8 && decide (1 ≤ e.op) && decide (e.op ≤ 7) && decide (e.whenDue ≤ 2) && bitsOf (w.getD 0 0) 6 10 == 0 &&
    decide (w.getD 6 0 ≤ 999999999) && w.getD 7 0 == 0 && (e.op != 6 || decide (0 < e.opB))

/-- A QUEUE_PUSH to Q_n (R117): the answer of a refusal, or none where the entry is queued and answered later. -/
def Dev.qPush (d : Dev) (n : Nat) (e : QEnt) : Option Code × Dev :=
  if !(entryOk e.words) then (some .range, d)
  else if d.axState n ≠ 1 ∧ d.axState n ≠ 2 then (some .wrongState, d)
  else if 16 ≤ (d.axis n).queue.length then (some .queueFull, d)
  else (none, d.modAxis n fun h => { h with queue := h.queue ++ [e] })

/-- An entry is due at sample time `ts` (R118). -/
def Dev.entryDue (d : Dev) (n : Nat) (e : QEnt) (ts : Int) : Bool :=
  match e.whenDue with
  | 0 => true
  | 1 => d.prfDone n
  | _ => decide (0 ≤ smod ts e.at_ span16)

/-- The mode of an entry: 0 POSITION, 1 VELOCITY, 2 OFFSET, none for LIMIT and MARK (R116). -/
def entryMode (op : Nat) : Option Nat :=
  match op with
  | 1 => some 0 | 2 => some 0 | 3 => some 1 | 4 => some 2 | 5 => some 2 | _ => none

/-- A motion entry takes effect (R116, R118, R120, R124, R127). -/
def Dev.motion (d : Dev) (n : Nat) (e : QEnt) (mode : Nat) : Dev :=
  let d := if d.axState n = 1 then
      ((if d.rd F.axCfg_still n = 2 then d else d.seizeSoon n).toEnabled n).modAxis n fun h => { h with seize := if h.seize = 0 then 0 else 2 }
    else d.modAxis n fun h => { h with seize := if h.seize = 0 then 0 else 2 }
  let old := d.rd F.axPstat_mode n
  let d := if old = 2 ∧ mode ≠ 2 then d.foldC n else d
  let h := d.prf n
  let base := if old = mode then h.tgt else h.p
  let x := match e.op with | 2 => satS 64 (base + e.opA) | 5 => satS 64 (base + e.opA) | _ => e.opA
  let d := (d.wr F.axPstat_mode mode n).modPrf n fun h => { h with rvs := false, ovs := false }
  if mode = 1 then (d.clr F.axPstat_inpos n).vclamp n x
  else
    let d := d.modPrf n fun h => { h with tgt := x }
    if x = h.p then d else d.clr F.axPstat_inpos n

/-- A LIMIT entry sets limit `i` and its registers (R116, R121). -/
def Dev.limitEntry (d : Dev) (n i : Nat) (x : Int) : Dev :=
  let (lo, hi) := limRegs i
  let v := ux 64 x
  let d := (d.wr lo (v % 2 ^ 32) n).wr hi (v / 2 ^ 32) n
  ({ d with cLo := Tbl.set lo.reset (lo.key n 0) (v % 2 ^ 32) d.cLo }).limTake n i x

/-- The head entry is taken (R116, R118, R120), or, where it asks for a change of mode and the coupling is not IDLE, removed and answered
WRONG_STATE. -/
def Dev.entryTake (d : Dev) (n : Nat) (e : QEnt) : Dev :=
  let d := d.modAxis n fun h => { h with queue := h.queue.drop 1 }
  let taken := d.wr F.axPstat_lastid e.id n
  match entryMode e.op with
  | some m =>
    if m ≠ d.rd F.axPstat_mode n ∧ d.rd F.axCstat_cstate n ≠ 0 then d.answer e.by_ .wrongState
    else (taken.motion n e m).answer e.by_ .ok
  | none =>
    if e.op = 6 then (taken.limitEntry n (ux 64 e.opA % 4) e.opB).answer e.by_ .ok
    else (taken.ev E.prfMark n e.id).answer e.by_ .ok

/-- Entries are taken from the head of Q_n for as long as the head is due (R118). -/
def Dev.entries (d : Dev) (n : Nat) (ts : Int) : Nat → Dev
  | 0 => d
  | k + 1 =>
    match (d.axis n).queue with
    | [] => d
    | e :: _ => if d.entryDue n e ts then (d.entryTake n e).entries n ts k else d

/-- The head of Q_n is taken where it is an entry of operation `op` and due now (rows MOVE_ABS to MARK). -/
def Dev.headTake (d : Dev) (n op : Nat) : Dev :=
  match (d.axis n).queue with
  | e :: _ =>
    if e.op = op ∧ (d.axState n = 1 ∨ d.axState n = 2) ∧ d.entryDue n e (d.tb16 (d.rd F.axTick_tb n)) then d.entryTake n e else d
  | [] => d

/-! ### Compare units -/

/-- The position compared by a unit, latest (R131): the target, or x_m. -/
def Dev.cmpX (d : Dev) (n c : Nat) : Int :=
  let h := d.axis n
  if d.flag F.cmpCtrl_src n c then h.fb.xm else satS 64 (h.prf.p + h.cpl.c)

/-- The direction of motion of the position compared, or of DIR at rest; 0 for none (R131). -/
def Dev.cmpDir (d : Dev) (n c : Nat) : Int :=
  let v := if d.flag F.cmpCtrl_src n c then (d.axis n).fb.vm else d.vref n
  if v ≠ 0 then sgnI v else match d.rd F.cmpCtrl_dir n c with | 0 => 1 | 1 => -1 | _ => 0

/-- Row CMP_COMMIT (R129, R131): x_c is committed and the unit armed. -/
def Dev.cmpCommit (d : Dev) (n c : Nat) (x : Int) : Dev :=
  let d := (d.set1 F.cmpCtrl_armed n c).modCmp n c fun h => { h with xc := x, due := none }
  let s := d.cmpDir n c
  let off := x - d.cmpX n c
  if s ≠ 0 ∧ off * s ≤ 0 then (d.set1 F.cmpCtrl_behind n c).ev E.cmpBehind (n + 256 * c) (dwQ off) else d

/-- A unit compares two successive positions (R129, R130): at a crossing its action falls due one interval later. -/
def Dev.cmpJudge (d : Dev) (n c : Nat) (t0 x0 t1 x1 : Int) : Dev :=
  let h := d.cmpu n c
  let dir := d.rd F.cmpCtrl_dir n c
  let a := smod x0 h.xc (2 ^ 64)
  let b := smod x1 h.xc (2 ^ 64)
  let up : Bool := decide (a < 0) && decide (0 ≤ b)
  let down : Bool := decide (0 < a) && decide (b ≤ 0)
  if d.flag F.cmpCtrl_armed n c ∧ h.due = none ∧ ((up ∧ dir ≠ 1) ∨ (down ∧ dir ≠ 0)) then
    let tc := t0 + rneDivI (-a * (t1 - t0)) (b - a)
    d.modCmp n c fun h => { h with due := some (tc + (t1 - t0), up) }
  else d

/-- The units with SRC = ACTUAL compare at a velocity tick, that of sample time `ts`, if it has formed a position (R129, R134). -/
def Dev.cmpActual (d : Dev) (n : Nat) (ts : Int) : Dev :=
  match (d.axis n).fb.hist with
  | b :: a :: _ => if b.t ≠ ts then d else d.each (List.range 4) fun c d => if d.flag F.cmpCtrl_src n c then d.cmpJudge n c a.t a.x b.t b.x else d
  | _ => d

/-- The units with SRC = TARGET compare at a position stage (R129, R134). -/
def Dev.cmpTarget (d : Dev) (n : Nat) (ts : Int) : Dev :=
  let h := d.axis n
  let x := satS 64 (h.prf.p + h.cpl.c)
  let d' := match h.tgtPrev with
    | some (t0, x0) => d.each (List.range 4) fun c d => if d.flag F.cmpCtrl_src n c then d else d.cmpJudge n c t0 x0 ts x
    | none => d
  d'.modAxis n fun h => { h with tgtPrev := some (ts, x) }

/-- Row CMP_DISARM (R129). -/
def Dev.cmpDisarm (d : Dev) (n c : Nat) : Dev := (d.clr F.cmpCtrl_armed n c).modCmp n c fun h => { h with due := none }

/-! ### Step timer -/

/-- The axis uses the step timer: open-loop STEP2, or a step output. -/
def Dev.steps (d : Dev) (n : Nat) : Bool := d.rd F.axCfg_kind n == 2 || d.flag F.axStep_outen n

/-- Seconds since the last position stage's sample time. -/
def StpH.tau (h : StpH) (t : Int) : Rat := ((t - h.tk : Int) : Rat) / (sec16 : Nat)

/-- Extrapolated target at `t`, 2^-16 counts (R135). -/
def StpH.xAt (h : StpH) (t : Int) : Rat := h.xk + h.vk * h.tau t + h.ak * h.tau t * h.tau t / 2

/-- Extrapolated velocity at `t` (R136). -/
def StpH.vAt (h : StpH) (t : Int) : Rat := h.vk + h.ak * h.tau t

/-- The shortest interval, LEG clocks (R136). -/
def Dev.stepMin (d : Dev) (n : Nat) : Int := if d.flag F.axStep_outen n then 10 * d.rd F.axStep_stepw n else 8

/-- The timer is loaded after a step at `t` (R136, R137). -/
def Dev.stepLoad (d : Dev) (n : Nat) (t : Int) : Dev :=
  let h := (d.axis n).stp
  let v := h.vAt t
  let idle (d : Dev) : Dev := (d.set1 F.axSidx_idle n).modAxis n fun h => { h with stp := { h.stp with due := none } }
  if v = 0 then idle d
  else
    let ivl := rneQ ((((h.n + sgnQ v) * 65536 : Int) - h.xAt t) / v * 500000000)
    if 2 ^ 32 - 1 < ivl then idle d
    else
      let m := d.stepMin n
      let d := if ivl < m then
          (d.set1 F.axSidx_overrate n).ev E.stepOverrate n (dw (rneQ (h.n - h.xAt t / 65536)))
        else d
      let w := max ivl m
      ((d.wr F.axSivl_ivl w.toNat n).clr F.axSidx_idle n).modAxis n fun h =>
        { h with stp := { h.stp with due := some (t + w * (2 * 65536)) } }

/-- DIR takes the level of direction `s`, at `t` or once DIRH has passed since the last step pulse (R139). -/
def Dev.dirTo (d : Dev) (n : Nat) (s t : Int) : Dev :=
  let h := (d.axis n).stp
  let lvl : Bool := decide (s < 0) == d.flag F.axStep_dirpol n
  if !(d.flag F.axStep_outen n) ∨ s = 0 ∨ lvl = h.dir then d
  else
    let at_ := match h.pulseEnd with
      | some e => max t (e + d.rd F.axStep_dirh n * (10 * 65536))
      | none => t
    d.modAxis n fun h => { h with stp := { h.stp with dir := lvl, dirAt := some at_ } }

/-- The earliest leading edge after the latest change of DIR (R139); `t` where it lies behind. -/
def Dev.dirFree (d : Dev) (n : Nat) (t : Int) : Int :=
  match (d.axis n).stp.dirAt with
  | some u => if d.flag F.axStep_outen n then max t (u + d.rd F.axStep_dirsu n * (10 * 65536)) else t
  | none => t

/-- One step in direction `s` at `t` (R136, R139, R237). -/
def Dev.stepMake (d : Dev) (n : Nat) (s t : Int) : Dev :=
  let out := d.flag F.axStep_outen n
  let d := d.modAxis n fun h =>
    { h with stp := { h.stp with
        n := h.stp.n + s
        owed := 0
        pulseEnd := if out then some (t + d.rd F.axStep_stepw n * (10 * 65536)) else h.stp.pulseEnd } }
  let q := d.rd F.axStep_fq n
  let d := if out ∧ d.fqWorks q ∧ d.rd F.fqCtrl_mode q = 3 ∧ s ≠ 0 then d.fqStep q (s < 0) t else d
  d.stepLoad n t

/-- A step in direction `s` is due at `t` (R139): DIR follows, and a step that would break its setup time is delayed until that is met. -/
def Dev.stepDue (d : Dev) (n : Nat) (s t : Int) : Dev :=
  let d := d.dirTo n s t
  let free := d.dirFree n t
  if free = t ∨ s = 0 then d.stepMake n s t
  else (d.clr F.axSidx_idle n).modAxis n fun h => { h with stp := { h.stp with due := some free } }

/-- Row STEP_TIMER_EXPIRY (R136, R139). -/
def Dev.stepExpiry (d : Dev) (n : Nat) : Dev :=
  let h := (d.axis n).stp
  match h.due with
  | none => d
  | some t =>
    if (d.tb16 (d.rd F.axTick_tb n) : Int) < t then d
    else d.stepDue n (if h.owed = 0 then sgnQ (h.vAt t) else h.owed) t

/-- The extrapolation base is replaced at the end of a position stage: DIR follows the direction of the step under way, and an idle
timer issues a step towards a target one count away (R135, R136, R139, IDLE_STEP). -/
def Dev.stepBase (d : Dev) (n : Nat) (ts : Int) : Dev :=
  if !(d.steps n) then d
  else
    let x := satS 64 ((d.prf n).p + (d.axis n).cpl.c)
    let v := d.vref n
    let a := d.aref n
    let d := d.modAxis n fun h => { h with stp := { h.stp with tk := ts, xk := x, vk := v, ak := a } }
    let h := (d.axis n).stp
    let off := x - h.n * 65536
    let t : Int := d.tb16 (d.rd F.axTick_tb n)
    match h.due with
    | some u => if h.owed = 0 then d.dirTo n (sgnQ (h.vAt u)) t else d
    | none =>
      if 65536 ≤ |off| then (d.modAxis n fun h => { h with stp := { h.stp with owed := sgnI off } }).stepDue n (sgnI off) t else d

/-- Row STILL_MODE_CHANGE (R140): STILL is changed while the axis is in STANDSTILL. -/
def Dev.stillChange (d : Dev) (n still : Nat) : Dev :=
  let was := d.rd F.axCfg_still n
  let d := d.wr F.axCfg_still still n
  if d.axState n = 1 ∧ was ≠ still then
    let d := (d.modAxis n fun h => { h with tick := { h.tick with still := true } }).brakesOf n
    if still = 2 then (d.seizeSoon n).closeEncl n else if was = 2 then d.openAll n else d
  else d

/-- Row AX_STOP_TIMEOUT (R112). -/
def Dev.stopTimeout (d : Dev) (n : Nat) : Dev :=
  if d.axState n = 3 ∧ (d.axis n).stopAt + d.rd F.axStopto_stopto n * 1000 ≤ d.now then
    (d.ev E.axStopTimeout n (dwU (rneShr |(d.prf n).v| 16))).faultOff n 8
  else d

/-- Row AUTOSTILL (R112): at rest, coupling IDLE and Q_n empty for STILLDLY position ticks. -/
def Dev.autostill (d : Dev) (n : Nat) : Dev :=
  if d.axState n = 2 ∧ d.flag F.axCfg_autostill n ∧ d.rd F.axCfg_stilldly n ≤ (d.axis n).rest then d.toStandstill n else d

/-- Position ticks at rest are counted for AUTOSTILL (R112). -/
def Dev.restCount (d : Dev) (n : Nat) : Dev :=
  let still : Bool := d.axState n == 2 && d.atRest n && d.rd F.axCstat_cstate n == 0 && (d.axis n).queue.isEmpty
  d.modAxis n fun h => { h with rest := if still then min 255 (h.rest + 1) else 0 }

end Sys2Proof.Machine
end

