-- ==== Sys2Proof/Machine/Operands.lean ====
section
/-!
DEFINITION. Operand types of the commands: who makes an access, and what a stage meets in its memories.
-/

namespace Sys2Proof.Machine

/-- The maker of an access: a partner port code 0 to 3 (P_1, P_2, host, service) or 4 for the management core, and the
command tag (R35, R40, 01_line_and_tick.md). -/
structure Who where
  port : Fin 5
  tag : Fin 128
deriving DecidableEq, Repr

/-- The levels of VCORE, VIO, VA and VDRV, in mV (R380, 16_power_reset_boot.md). -/
structure Rails where
  core : Nat
  io : Nat
  a : Nat
  drv : Nat
deriving DecidableEq, Repr

/-- What the parity checks of a Marver stage find (R165 to R167, 05_marver_loops.md). -/
inductive Parity where
  /-- No error. -/
  | none
  /-- A word bad in bank A, or read back wrong, and good in bank B. -/
  | bankA (addr : Fin 4194304)
  /-- A state word bad in both banks. -/
  | both (addr : Fin 4194304)
  /-- A coefficient or table word, which has one copy. -/
  | single (addr : Fin 4194304)
  /-- A word of the profile or coupling state bad in both banks. -/
  | motion (addr : Fin 4194304)
deriving DecidableEq, Repr

/-- What the scrub finds (R426, 17_management_and_log.md), by the class of the word. -/
inductive ScrubErr where
  /-- A configuration word with a batch source, at an address. -/
  | config (addr : Nat)
  /-- A word of Marver's state, bad in both banks or in one; of the profile or coupling state or not. -/
  | bank (axis : Fin 8) (both motion : Bool) (addr : Nat)
  /-- A lane data word, at an address of W_13. -/
  | laneData (addr : Nat)
  /-- A word of the Gather buffer, at an address of W_15. -/
  | gather (addr : Nat)
  /-- An entry of a queue Q_0 to Q_31, counted from its head. -/
  | queue (q : Fin 32) (entry : Nat)
  /-- An event record on chip, by its SEQ. -/
  | record (seq : Nat)
  /-- Firmware code in the management SRAM. -/
  | code
  /-- Data in the management SRAM. -/
  | data
deriving DecidableEq, Repr

/-- A fault reaction (R112, R115, R189, 04_profiles_and_stepping.md), with its cause number. -/
inductive FaultBy where
  /-- A leg or trip reaction, ALL_OFF or LOW_SHORT: cause 9. -/
  | legTrip (lowShort : Bool)
  /-- A feedback fault: cause 10. -/
  | feedback
  /-- Two unreplayable ticks: cause 11. -/
  | unreplayable
  /-- A stall with the FAULT reaction: cause 14. -/
  | stall
  /-- STO: cause 12. -/
  | sto
  /-- Loss of the driver stage by VDRV_UV, or by VBUS_UV: cause 13. -/
  | driver (vbus : Bool)
deriving DecidableEq, Repr

/-- A controlled-stop cause (R112, 04_profiles_and_stepping.md). -/
inductive StopBy where
  | lockLost | coupling | abort | holdTimer | stall | ss1
deriving DecidableEq, Repr

/-- The number of a controlled-stop cause in AX_n_STATE.CAUSE. -/
def StopBy.cause : StopBy → Nat
  | .lockLost => 2 | .coupling => 3 | .abort => 4 | .holdTimer => 5 | .stall => 6 | .ss1 => 7

/-- A configuration register of a feedback channel (R217, 08_feedback_and_latching.md): of FA_n, at word `k`, 5 being LDLY; of FQ_q, the
four words from CTRL on and the three from offset 0x28 on. -/
inductive FbkReg where
  | fa (n : Fin 8) (k : Fin 6)
  | fq (q : Fin 4) (k : Fin 7)
deriving DecidableEq, Repr

/-- The address of a configuration register of a feedback channel. -/
def FbkReg.addr : FbkReg → Nat
  | .fa n k => 0x90000 + 0x80 * n.val + 4 * k.val
  | .fq q k => 0x90400 + 0x80 * q.val + (if k.val < 4 then 4 * k.val else 0x18 + 4 * k.val)

end Sys2Proof.Machine
end

