-- ==== Sys2Proof/Machine/Stage.lean ====
section
/-!
DEFINITION. The stages of Marver (R26 to R32, R108, R128, R152 to R154, R157, R165 to R168): current stage, outer stages,
and the feedback of a DISABLED axis.
-/

namespace Sys2Proof.Machine

/-! ### Currents of a sample set -/

/-- The value `i` of a leg in the IFS of the group of slot 0 (R152 step 1). -/
def Dev.rescale (d : Dev) (n leg : Nat) (i : Int) : Int :=
  let g0 := ((d.slotLeg n 0).getD 0) / 4
  if leg / 4 = g0 then i else satS 32 (rneDiv (i * d.ifs (leg / 4)) (d.ifs g0))

/-- What becomes of a leg's value in a set (R204). -/
inductive Fill where
  | valid (i : Int)
  | recon (i : Int)
  | prev
deriving DecidableEq, Repr

/-- The other slots that reconstruct slot `s` of `k` (R204): of three phases the other two, of a pair the other one. -/
def mates (k s : Nat) : List Nat :=
  if k = 3 then (List.range 3).filter (· != s) else [if s % 2 = 0 then s + 1 else s - 1]

/-- Filling in of invalid legs, by slot (R204). -/
def fillOf (k : Nat) (v : List (Option Int)) (s : Nat) : Fill :=
  match v.getD s none with
  | some i => .valid i
  | none =>
    let m := (mates k s).map (fun t => v.getD t none)
    if m.all Option.isSome then .recon (satS 32 (-((m.map (fun x => x.getD 0)).sum))) else .prev

/-- The leg of slot `s` of AX_n. -/
def Dev.legAt (d : Dev) (n s : Nat) : Nat := (d.slotLeg n s).getD 0

/-- Sample time of the set that belongs to update `j` of AX_n, 2^-16 ns (R27, R201): a period start has one, a centre none. -/
def Dev.ownTs (d : Dev) (n : Nat) (j : Int) : Option Int :=
  if d.flag F.axTick_dbl n ∧ j % 2 ≠ 0 then none
  else some ((d.updateAt n j + d.rdI F.snsSpos_spos (d.legAt n 0)) * 16384)

/-- The complete set of a leg with sample time `ts`. -/
def SnsH.at_ (h : SnsH) (ts : Int) : Option SDone := h.done.find? (·.ts == ts)

/-- A leg of AX_n has the set that belongs to update `j`. -/
def Dev.ownSet (d : Dev) (n : Nat) (j : Int) : Bool :=
  match d.ownTs n j with
  | some ts => (d.axLegs n).any (fun l => ((d.snsLeg l).at_ ts).isSome)
  | none => false

/-- Sample time of the latest set of AX_n that lies at or before update `j` (R27); none before the axis has taken one. -/
def Dev.lastSet (d : Dev) (n : Nat) (j : Int) : Option Int :=
  (((d.axLegs n).flatMap (fun l => (d.snsLeg l).done.map (·.ts))).filter (· ≤ d.updateAt n j * 16384)).max?

/-- Sample time of the current tick at update `j` of AX_n, 2^-16 ns (R27). -/
def Dev.tickTs (d : Dev) (n : Nat) (j : Int) : Int :=
  if d.ownSet n j then (d.ownTs n j).getD 0 else (d.lastSet n j).getD (d.updateAt n j * 16384)

/-- A new set of AX_n, that of sample time `ts`: the current of every slot in the IFS of slot 0, with RECON, INV and their event (R204). -/
def Dev.newSet (d : Dev) (n : Nat) (ts : Int) : Dev :=
  let k := kindLegs (d.rd F.axCfg_kind n)
  let v := (List.range k).map (fun s => let l := d.legAt n s; (((d.snsLeg l).at_ ts).bind (·.i)).map (d.rescale n l))
  d.each (List.range k) fun s d =>
    let l := d.legAt n s
    match fillOf k v s with
    | .valid i => d.modSns l fun h => { h with prev := some i, reused := 0 }
    | .recon i => (d.set1 F.snsSt_recon l).modSns l fun h => { h with prev := some i, reused := 0 }
    | .prev =>
      let d := (d.set1 F.snsSt_inv l).modSns l fun h => { h with prev := some (h.prev.getD 0), reused := h.reused + 1 }
      d.ev E.snsLegInvalid (n + 256 * l) (dwU (d.snsLeg l).reused)

/-- Root time from which a stage can use the set of update `j` on some legs of AX_n: a MARVER clock after the last is ready (R205). -/
def Dev.setAt (d : Dev) (n : Nat) (j : Int) (p : Nat → Bool) : Nat :=
  match d.ownTs n j with
  | some ts => (((d.axLegs n).filter p).map (fun l => ((d.snsLeg l).at_ ts).elim 0 (fun s => s.ready + 2000))).foldl max 0
  | none => 0

/-- A group whose set of update `j` was not ready at `due` has delayed the stage (SNS_SET_LATE, R205). -/
def Dev.setLate (d : Dev) (n : Nat) (j : Int) (due : Nat) : Dev :=
  d.each (List.range 6) fun g d =>
    let late := rneDiv ((d.setAt n j (fun l => l / 4 == g) : Int) - due) 1000
    if 0 < late then (d.set1 F.snsStat_late g).ev E.snsSetLate (n + 256 * g) (dwU late) else d

/-- The currents of the tick at update `j` (R27): those of its own set, or those used before; before any set 0, with INV on every leg. -/
def Dev.takeSet (d : Dev) (n : Nat) (j : Int) : Dev :=
  if d.ownSet n j then d.newSet n ((d.ownTs n j).getD 0)
  else if (d.lastSet n j).isNone then d.each (d.axLegs n) fun l d => d.set1 F.snsSt_inv l
  else d

/-- The current of slot `s` as the stage uses it. -/
def Dev.slotI (d : Dev) (n s : Nat) : Int := (d.snsLeg (d.legAt n s)).prev.getD 0

/-! ### Vectors and voltages -/

/-- 1/√3 and √3/2 in Q1.31 (R152). -/
def invSqrt3 : Int := 1239850262
def halfSqrt3 : Int := 1859775393

/-- π as a rational (R152 step 5). -/
def piQ : Rat := 3141592653589793238462643383279502884197 / 1000000000000000000000000000000000000000

/-- sin and cos of a Q0.32 angle as rationals (R152). -/
def sinQ (th : Nat) : Rat := (sinAt th : Rat) / (2 ^ 40 : Nat)
def cosQ (th : Nat) : Rat := (cosAt th : Rat) / (2 ^ 40 : Nat)

/-- Electrical revolutions per count of AX_n. -/
def Dev.revPer (d : Dev) (n : Nat) : Rat := (d.rd F.axPoles_poles n : Rat) / ((d.rd F.axCpr_cpr n * 65536 : Nat) : Rat)

/-- A number of cycles as Q0.32 modulo one cycle, rounded once. -/
def cyc32 (x : Rat) : Nat := ((rneQ (x * (2 ^ 32 : Nat))) % (2 ^ 32 : Nat)).toNat

/-- θ at sample time `ts` (R152 step 2). -/
def Dev.theta (d : Dev) (n : Nat) (ts : Int) : Nat :=
  let f := (d.axis n).fb
  let x : Rat := f.xm + (f.vm : Rat) * ((ts - f.tv : Int) : Rat) / (sec16 : Nat)
  cyc32 ((x - d.rdI F.axEzero_ezero n * 65536) * d.revPer n)

/-- θ_out (R152 step 7): θ advanced by ω_e × CADV × Tc / 2π, in Q0.32 (notes/assumptions/128.md). -/
def Dev.thetaOut (d : Dev) (n th : Nat) : Nat :=
  let adv : Rat := (d.axis n).fb.vm * d.revPer n * ((d.rd F.axCadv_adv n * d.tc250 n : Nat) : Rat) / (256 * 4000000000)
  (th + cyc32 adv) % 2 ^ 32

/-- The vector α, β of the currents of SERVO3 and STEP2, exact, Q1.31 (R152 step 3). -/
def Dev.alphaBeta (d : Dev) (n : Nat) : Rat × Rat :=
  let i := d.slotI n
  if d.rd F.axCfg_kind n = 1 then
    (((2 * i 0 - i 1 - i 2 : Int) : Rat) / 3, ((i 1 - i 2 : Int) : Rat) * ((invSqrt3 : Rat) / (2 ^ 31 : Nat)))
  else (((i 0 - i 1 : Int) : Rat) / 2, ((i 2 - i 3 : Int) : Rat) / 2)

/-- IFS of the slot-0 group, VNOM and VBUS as numbers. -/
def Dev.ifsA (d : Dev) (n : Nat) : Rat := (d.ifs (d.legAt n 0 / 4) : Rat) / 65536
def Dev.vnomV (d : Dev) (n : Nat) : Rat := (d.rd F.axVnom_vnom n : Rat) / 65536

/-- Decoupling terms of CUR0 and CUR1 in fractions of VNOM with 63 fraction bits (R152 step 5). -/
def Dev.decouple (d : Dev) (n : Nat) (id iq : Int) : Int × Int :=
  if d.flag F.axClcfg_decen n then
    let w : Rat := 2 * piQ * d.revPer n * (d.axis n).fb.vm
    let a : Rat := d.ifsA n / (2 ^ 31 : Nat)
    let ld : Rat := (d.rd F.axLd_l n : Rat) / (65536 * 1000000)
    let lq : Rat := (d.rd F.axLq_l n : Rat) / (65536 * 1000000)
    let psi : Rat := (d.rd F.axPsi_psi n : Rat) / (65536 * 1000)
    (rneQ (-(w * lq * iq * a) / d.vnomV n * (2 ^ 63 : Nat)), rneQ (w * (ld * id * a + psi) / d.vnomV n * (2 ^ 63 : Nat)))
  else (0, 0)

/-- A loop output in fractions of VBUS, Q1.31, rounded and saturating (R153). -/
def Dev.toBus (d : Dev) (n : Nat) (u : Int) : Int :=
  let vb := d.rd F.snsVbus_v
  if vb = 0 then (if 0 < u then 2 ^ 31 - 1 else if u < 0 then -(2 ^ 31) else 0)
  else satS 32 (rneDiv (u * d.rd F.axVnom_vnom n) vb)

/-- Back-calculation of loop `l` after its output has been limited to `v` of VBUS (R150, R153). -/
def Dev.limited (d : Dev) (n l : Nat) (v : Int) : Dev :=
  let c := d.lpCfg n l
  let h := d.loop n l
  let vb : Rat := d.rd F.snsVbus_v
  let u := rneQ ((v : Rat) * vb / d.rd F.axVnom_vnom n)
  let i := if h.st = .closed then c.back h.i (u * 2 ^ 32) (h.u * 2 ^ 32) else h.i
  let free := h.i + rneShr (c.kt * ((u - h.u) * 2 ^ 32)) 16
  (d.modLoop n l fun h => { h with i := i }).sticky (satFld l) (16 + 2 * b2n (h.st = .closed ∧ i ≠ free)) n

/-- The two outputs limited as a vector, d axis first (R153). -/
def vecLimit (L ud uq : Int) : Int × Int :=
  if ud * ud + uq * uq ≤ L * L then (ud, uq)
  else
    let vd := max (-L) (min L ud)
    let r : Int := sqrtRne (L * L - vd * vd).toNat
    (vd, max (-r) (min r uq))

/-- One output limited to ±L (R154, per coil and DC2). -/
def oneLimit (L u : Int) : Int := max (-L) (min L u)

/-- A duty, Q1.31, clamped to 0 to 1 and rounded once (R154). -/
def dutyOf (x : Rat) : Int := max 0 (min (2 ^ 31) (rneQ (x * (2 ^ 31 : Nat))))

/-- Duties of SERVO3 from α, β in fractions of VBUS (R154). -/
def dutyServo (va vb : Rat) : List Int :=
  let k : Rat := (halfSqrt3 : Rat) / (2 ^ 31 : Nat)
  let l := [va, -va / 2 + k * vb, -va / 2 - k * vb]
  let hi := l.foldl max va
  let lo := l.foldl min va
  l.map (fun x => dutyOf (1 / 2 + x - (hi + lo) / 2))

/-- Duties of the two legs of an H-bridge (R154). -/
def dutyBridge (v : Rat) : List Int := [dutyOf (1 / 2 + v / 2), dutyOf (1 / 2 - v / 2)]

/-! ### The current stage -/

/-- SERVO3 and closed-loop STEP2 (R152): duties and outputs. -/
def Dev.curVector (d : Dev) (n : Nat) (ts : Int) : Dev :=
  let servo := d.rd F.axCfg_kind n = 1
  let th := d.theta n ts
  let (al, be) := d.alphaBeta n
  let id := satS 32 (rneQ (al * cosQ th + be * sinQ th))
  let iq := satS 32 (rneQ (be * cosQ th - al * sinQ th))
  let (xd, xq) := d.decouple n id iq
  let iqd := d.tapIq n (d.axis n).out.idem
  let d := (d.runLoop n 2 (satS 32 (d.rdI F.axIdref_id n - id)) id 0 xd).runLoop n 3 (satS 32 (iqd - iq)) iq 0 xq
  let ud := d.toBus n (d.loop n 2).u
  let uq := d.toBus n (d.loop n 3).u
  let L : Int := if servo then rneDiv (d.rd F.axVlimf_vlim n * invSqrt3) 65536 else (d.rd F.axVlimf_vlim n * 32768 : Nat)
  let (vd, vq) := vecLimit L ud uq
  let d := (d.on (vd != ud) (·.limited n 2 vd)).on (vq != uq) (·.limited n 3 vq)
  let to_ := d.thetaOut n th
  let a : Rat := (vd * cosQ to_ - vq * sinQ to_) / (2 ^ 31 : Nat)
  let b : Rat := (vd * sinQ to_ + vq * cosQ to_) / (2 ^ 31 : Nat)
  d.modAxis n fun h =>
    { h with out := { h.out with
        i0 := id, i1 := iq, u0 := vd, u1 := vq, theta := th
        duty := if servo then dutyServo a b else dutyBridge a ++ dutyBridge b } }

/-- Entry `i` of the microstep table, Q1.15 (R138). -/
def Dev.microstep (d : Dev) (i : Nat) : Int := sx 16 (Tbl.get 0 (i % 4096 / 2) d.mstep / 2 ^ (16 * (i % 2)) % 65536)

/-- The running or holding current of an open-loop STEP2 axis, Q0.16 of IFS (R138). -/
def Dev.stepCurrent (d : Dev) (n : Nat) : Int :=
  match d.axState n with
  | 2 => d.rd F.axScur_irun n
  | 3 => d.rd F.axScur_irun n
  | 1 => if d.rd F.axCfg_still n = 2 then d.rd F.axScur_ihold n else 0
  | _ => 0

/-- The stall reaction (R143); the record carries the 16 bits of δ (R144; notes/assumptions/125.md). -/
def Dev.stall (d : Dev) (n : Nat) : Dev :=
  let d := (d.set1 F.axState_stalled n).ev E.stall n (d.rd F.axLoadang_delta n)
  match d.rd F.axStallcfg_react n with
  | 1 => d.ctlStop n 6
  | 2 => d.faultOff n 14
  | _ => d

/-- The estimator of an open-loop STEP2 axis (R142, R143) on coil currents `ia`, `ib` before the new voltages apply. The speed
compared with STALLVMIN is that of the profile (notes/assumptions/126.md). -/
def Dev.estimator (d : Dev) (n : Nat) (ia ib : Int) : Dev :=
  let h := d.axis n
  let fast : Bool := decide ((d.rd F.axStallvmin_vmin n : Int) * 65536 ≤ |h.prf.v|)
  let keep (d : Dev) : Dev := d.modAxis n fun h => { h with stp := { h.stp with coil := some (ia, ib) } }
  match h.stp.coil with
  | some (pa, pb) =>
    if d.flag F.axStallcfg_en n && fast then
      let vb : Rat := (d.rd F.snsVbus_v : Rat) / 65536
      let r : Rat := (d.rd F.axStallr_r n : Rat) / 65536
      let l : Rat := (d.rd F.axStalll_l n : Rat) / (65536 * 1000)
      let tc : Rat := (d.tc250 n : Rat) / 4000000000
      let e (u i p : Int) : Rat := (u : Rat) * vb - d.ifsA n * (r * i + l * (i - p : Int) / tc)
      let ea := e h.out.va ia pa
      let eb := e h.out.vb ib pb
      let ang := angle48 (eb.num * ea.den) (ea.num * eb.den)
      let idx := (h.stp.nUpd % 4096).toNat
      let dl := satS 16 (rneShr (sx 48 (ux 48 ((idx * 2 ^ 36 : Nat) - ((ang : Int) - 2 ^ 46)))) 32)
      let d := (d.wrI F.axLoadang_delta dl n).set1 F.axLoadang_valid n
      let over_ : Bool := decide (2 * (d.rd F.axStallcfg_thresh n : Int) < 2 * |dl|)
      let cnt := if over_ then h.stp.stallCnt + 1 else 0
      let d := keep (d.modAxis n fun h => { h with stp := { h.stp with stallCnt := cnt } })
      if over_ && cnt == d.rd F.axStallcfg_n n then d.stall n else d
    else keep ((d.clr F.axLoadang_valid n).modAxis n fun h => { h with stp := { h.stp with stallCnt := 0 } })
  | none => keep (d.clr F.axLoadang_valid n)

/-- Open-loop STEP2 (R138, R154). -/
def Dev.curStep (d : Dev) (n : Nat) : Dev :=
  let i := d.slotI n
  let ia := satS 32 (rneDiv (i 0 - i 1) 2)
  let ib := satS 32 (rneDiv (i 2 - i 3) 2)
  let d := d.estimator n ia ib
  let idx := ((d.axis n).stp.nUpd % 4096).toNat
  let amp := d.stepCurrent n
  let ea := satS 32 (amp * d.microstep idx - ia)
  let eb := satS 32 (amp * d.microstep (idx + 1024) - ib)
  let d := (d.runLoop n 2 ea ia 0 0).runLoop n 3 eb ib 0 0
  let L : Int := (d.rd F.axVlimf_vlim n * 32768 : Nat)
  let ua := d.toBus n (d.loop n 2).u
  let ub := d.toBus n (d.loop n 3).u
  let va := oneLimit L ua
  let vb := oneLimit L ub
  let d := (d.on (va != ua) (·.limited n 2 va)).on (vb != ub) (·.limited n 3 vb)
  let q (x : Int) : Rat := (x : Rat) / (2 ^ 31 : Nat)
  d.modAxis n fun h =>
    { h with out := { h.out with i0 := ia, i1 := ib, u0 := va, u1 := vb, va := va, vb := vb, duty := dutyBridge (q va) ++ dutyBridge (q vb) } }

/-- DC2 (R154). -/
def Dev.curDc (d : Dev) (n : Nat) : Dev :=
  let i := satS 32 (rneDiv (d.slotI n 0 - d.slotI n 1) 2)
  let dem := d.tapIq n (d.axis n).out.idem
  let d := d.runLoop n 2 (satS 32 (dem - i)) i 0 0
  let u := d.toBus n (d.loop n 2).u
  let v := oneLimit (d.rd F.axVlimf_vlim n * 32768 : Nat) u
  let d := d.on (v != u) (·.limited n 2 v)
  d.modAxis n fun h =>
    { h with out := { h.out with i0 := i, i1 := 0, u0 := v, u1 := 0, duty := dutyBridge ((v : Rat) / (2 ^ 31 : Nat)) } }

/-- The shadows of every leg of AX_n are committed in one LEG clock (R28, R175), one LEG clock after the stage ends; a commit that
misses the next update sets LATEUPD (MARV_LATE_UPDATE, R168). -/
def Dev.commitDuties (d : Dev) (n : Nat) (ts : Int) : Dev :=
  let per := d.rd F.axCper_per n
  let arr := d.t250 (d.rd F.axTick_tb n) + ((d.busyTo : Int) - d.now) / 250 + 8
  let next := d.updateAt n ((d.axis n).tick.j.getD 0 + 1)
  let duty := (d.axis n).out.duty
  let d := d.each (d.axLegs n) fun l d =>
    let c := cmpOf per (duty.getD (d.rd F.legCfg_slot l) 0)
    ((d.wr F.legScmpa_scmp c.1 l).wr F.legScmpb_scmp c.2 l).modLeg l fun h => { h with sh := h.sh ++ [(c.1, c.2, arr)] }
  let late : Bool := decide (next / 8 ≤ arr / 8)
  let tb := d.rd F.axTick_tb n
  let eff := 16384 * (if late then d.updateAt n ((d.axis n).tick.j.getD 0 + 2) else next)
  let d := d.each (d.axLegs n) fun l d => d.note 0x02 l tb eff (sx 32 (ux 32 (satS 32 (duty.getD (d.rd F.legCfg_slot l) 0))))
  let o := (d.axis n).out
  let d := (((d.note 0x03 n tb ts o.i0).note 0x04 n tb ts o.i1).note 0x05 n tb eff o.u0).note 0x06 n tb eff o.u1
  d.on late fun d => (d.set1 F.axLoopstat_lateupd n).ev E.marvLateUpdate n (dwU ((arr - next) / 8))

/-! ### Parity (R165 to R168) -/

/-- A stage of AX_n was replayed (R165); `k` is 0 current, 1 velocity, 2 position. -/
def Dev.replayed (d : Dev) (n k addr : Nat) : Dev :=
  let d := { d with mgt := { d.mgt with stages := d.mgt.stages + 1 } }
  ((d.set1 F.axLoopstat_replayed n).bump F.axRepcnt_replays n).ev E.marvReplay (n + 256 * k) addr

/-- AX_n faults on parity (R167). -/
def Dev.unreplayable (d : Dev) (n addr : Nat) : Dev := (d.ev E.marvUnreplayable n addr).faultOff n 11

/-- The loops a stage runs. -/
def stageLoops : Nat → List Nat
  | 0 => [2, 3] | 1 => [1] | _ => [0]

/-- Outputs of a stage are reused (MARV_REUSE, R166): the PID states are rebuilt at its next run, a coefficient or table word
is asked for again; the second such stage in a row faults the axis (R167). -/
def Dev.reused (d : Dev) (n k addr : Nat) (single : Bool) : Dev :=
  let d := { d with mgt := { d.mgt with stages := d.mgt.stages + 1 } }
  let d := ((d.set1 F.axLoopstat_reused n).bump F.axRepcnt_reuses n).ev E.marvReuse (n + 256 * k) addr
  let d := d.each (stageLoops k) fun l d => if (d.loop n l).st = .closed then d.modLoop n l fun h => { h with rebuild := true } else d
  let d := if single then
      { d with bad := if d.bad.contains addr then d.bad else addr :: d.bad
               reloads := if d.reloads.contains addr then d.reloads else d.reloads ++ [addr] }
    else d
  let c := (d.axis n).out.unrep + 1
  let d := d.modAxis n fun h => { h with out := { h.out with unrep := c } }
  if 2 ≤ c then d.unreplayable n addr else d

/-- A stage of AX_n has succeeded. -/
def Dev.succeeded (d : Dev) (n : Nat) : Dev := d.modAxis n fun h => { h with out := { h.out with unrep := 0 } }

/-- The registers a stage of AX_n reads that have one copy: its coefficient blocks and the registers beside them (R166). The current stage
of a vector axis forms its angle from CPR, EZERO and POLES (R152). -/
def regReads (n k a : Nat) : Bool :=
  let o := a - (0xB0000 + n * 0x2000)
  decide (0xB0000 + n * 0x2000 ≤ a) && decide (a < 0xB0000 + (n + 1) * 0x2000) &&
    match k with
    | 0 => (0x4C0 ≤ o && o < 0x540) || (0x588 ≤ o && o < 0x5B8)
    | 1 => (0x480 ≤ o && o < 0x4C0) || (0x540 ≤ o && o < 0x594)
    | _ => (0x440 ≤ o && o < 0x480)

/-- The two words of a table of 2^k words at word `base` of W_14 that the mechanical angle of AX_n falls between (R159). -/
def Dev.angleWords (d : Dev) (n base k : Nat) : List Nat :=
  let i := d.angleIndex n k
  [base + (i % 2 ^ k).toNat, base + ((i + 1) % 2 ^ k).toNat].map (0x200000 + 4 * ·)

/-- The addresses of the table words a stage of AX_n reads (R166): friction and cogging in the velocity stage, the points of the cam in use
in the position stage, the microstep table in the current stage of an open-loop STEP2 axis. -/
def Dev.tableReads (d : Dev) (n k : Nat) : List Nat :=
  match k with
  | 0 =>
    let i := ((d.axis n).stp.nUpd % 4096).toNat
    if d.rd F.axCfg_kind n = 2 then [0xC4000 + i / 2 * 4, 0xC4000 + (i + 1024) % 4096 / 2 * 4] else []
  | 1 =>
    (if d.flag F.axFfcfg_fricen n then d.angleWords n (frBase n) (d.rd F.axFfcfg_frlog2n n) else []) ++
    (if d.flag F.axFfcfg_cogen n then d.angleWords n (cgBase n) (d.rd F.axFfcfg_cglog2n n) else [])
  | _ =>
    match (d.axis n).cpl.m with
    | some m =>
      if d.rd F.axCpl_mode n = 2 ∧ d.rd F.axCstat_cstate n ≠ 0 then
        let c := d.cam (d.rd F.axCamsel_cur n)
        let i : Int := (d.camPhase n m.pos / 2 ^ (32 - c.log2n) : Nat)
        [i - 1, i, i + 1, i + 2].map fun i => 0x200000 + 4 * (c.base + (i % 2 ^ c.log2n).toNat)
      else []
    | none => []

/-- The words a stage of AX_n reads that have one copy (R166): registers and table words. -/
def Dev.stageReads (d : Dev) (n k a : Nat) : Bool := regReads n k a || (d.tableReads n k).contains a

/-- Runs a stage under what its parity checks find. An axis in FAULT has no replay (R168). -/
def Dev.withParity (d : Dev) (n k : Nat) (p : Parity) (stage : Dev → Dev) : Dev :=
  match d.bad.find? (d.stageReads n k), (d.axis n).out.scrub with
  | some a, _ => d.reused n k a true
  | none, some (motion, a) =>
    let d := d.modAxis n fun h => { h with out := { h.out with scrub := none } }
    if d.axState n = 4 then d else if motion then d.unreplayable n a else d.reused n k a false
  | none, none =>
    match p with
    | .none => (stage d).succeeded n
    | .bankA a => if d.axState n = 4 then d else (((d.marvBusy d.busyTo (stageCost k)) |> stage).succeeded n).replayed n k a
    | .both a => if d.axState n = 4 then d else d.reused n k a false
    | .single a => if d.axState n = 4 then d else d.reused n k a true
    | .motion a => if d.axState n = 4 then d else d.unreplayable n a

/-! ### Rows -/

/-- The set of AX_n that belongs to update `j` is under way, begun and not complete (R28, R205). -/
def Dev.setPending (d : Dev) (n : Nat) (j : Int) : Bool :=
  (d.ownTs n j).isSome && (d.axLegs n).any (fun l => (d.snsLeg l).sets.any (·.per == d.updateAt n j))

/-- Root time at which the current stage of AX_n is due: update plus sense latency (R28, R205). -/
def Dev.curDue (d : Dev) (n : Nat) : Nat := d.rootOf n (d.updateAt n ((d.axis n).tick.j.getD 0)) + d.latency n * 1000

/-- Start instant of the current stage of AX_n (R28, R205): none where none is due or its sets are not ready. -/
def Dev.curStart (d : Dev) (n : Nat) : Option Nat :=
  let j := (d.axis n).tick.j.getD 0
  if !(d.axis n).tick.cur ∨ d.disabled n ∨ d.setPending n j then none
  else some (max (d.curDue n) (d.setAt n j fun _ => true))

/-- Start instant of the outer stages of AX_n (R29): those of the oldest tick that waits for them. -/
def Dev.outStart (d : Dev) (n : Nat) : Option Nat :=
  match (d.axis n).tick.outer with
  | [] => none
  | t :: _ => if d.disabled n then none else some (d.rootAt (d.rd F.axTick_tb n) ((t.ts + d.rd F.axTick_outer n * (10 * 65536)) * 2 ^ 24))

/-- Rank of a stage among those that are due (R31): by start instant, then current before outer stages, then by axis. -/
def stageRank (start kind n : Nat) : Nat := (2 * start + kind) * 8 + n

/-- Marver is free and no stage of another axis or kind goes before the one of rank `r` (R31). -/
def Dev.stageTurn (d : Dev) (r : Nat) : Bool :=
  let due (n kind : Nat) (t : Option Nat) : Bool := match t with | some t => decide (t ≤ d.now → r ≤ stageRank t kind n) | none => true
  decide (d.busyTo ≤ d.now) && (List.range 8).all fun n => due n 0 (d.curStart n) && due n 1 (d.outStart n)

/-- Row CURRENT_STAGE (R28, R31, R152 to R154): the current stage of AX_n, when it is due and its turn has come. -/
def Dev.currentStage (d : Dev) (n : Nat) (p : Parity) : Dev :=
  match d.curStart n with
  | none => d
  | some start =>
  if d.now < start ∨ !(d.stageTurn (stageRank start 0 n)) then d
  else
    let j := (d.axis n).tick.j.getD 0
    let d := ((d.stageStart n 0 start).setLate n j (d.curDue n)).tapMiss n [3]
    let ts := d.tickTs n j
    let d := d.modAxis n fun h => { h with tick := { h.tick with
      cur := false, outer := h.tick.outer.map fun t => if t.j = j then { t with ts := ts } else t } }
    let run (d : Dev) : Dev :=
      let d := ((d.takeSet n j).holdCount n 2).loopCmds n 2
      let d := match d.rd F.axCfg_kind n with
        | 1 => d.curVector n ts
        | 3 => d.curVector n ts
        | 2 => d.curStep n
        | 4 => d.curDc n
        | _ => d
      d.holdCheck n
    let d := d.withParity n 0 p run
    (d.commitDuties n ts).stageEnd n 0 j ts

/-- POSITION_STAGE (R108, R128) of AX_n at sample time `ts`. -/
def Dev.positionStage (d : Dev) (n : Nat) (ts : Int) : Dev :=
  let d := (d.holdCount n 0).holdExpire n
  let src := (d.axis n).cpl.src
  let (d, m) := if src.2 = 0 then (d, none) else d.master n src.1 ts
  let d := ((d.cplAborts n).cplLoad n).pendTake n
  let m := if d.rd F.axCpl_msrc n = src.1 then m else none
  if d.disabled n then d
  else
    let d := (d.coupling n m).loopCmds n 0
    let d := ((d.entries n ts 16).limsTake n).prfAdvance n
    if d.disabled n then d
    else
      let d := d.posLoop n
      let h := d.axis n
      let d := d.modCpl n fun c => { c with pub := some (ts, satS 64 (h.prf.p + h.cpl.c), d.vref n, d.aref n) }
      let tb := d.rd F.axTick_tb n
      let d := ((d.note 0x14 n tb ts (satS 64 (h.prf.p + h.cpl.c))).note 0x15 n tb ts (d.loop n 0).e).note 0x16 n tb ts h.prf.v
      (((d.restCount n).autostill n).cmpTarget n ts).stepBase n ts

/-- The loops of a VIRTUAL axis and of open-loop STEP2 have no velocity stage of their own; the others run it (R157). -/
def Dev.velocityStage (d : Dev) (n : Nat) (ts : Int) : Dev :=
  let d := (d.tapMiss n [0, 1, 2]).velStage n
  let h := d.axis n
  let tb := d.rd F.axTick_tb n
  (d.note 0x12 n tb ts h.out.w).note 0x13 n tb ts h.out.idem

/-- Row OUTER_STAGES (R29, R31, R108, R157): the outer stages of the oldest tick of AX_n that waits for them, when they are due and their
turn has come, with the parity of the position and velocity stages. On a DISABLED axis no stage runs (R32): only the commands waiting for a position stage take effect (R111), and an axis they
enable runs its first stages at its next ticks. -/
def Dev.outerStages (d : Dev) (n : Nat) (pp pv : Parity) : Dev :=
  match (d.axis n).tick.outer with
  | [] => d
  | t :: rest =>
    let start := (d.outStart n).getD 0
    if (d.tb16 (d.rd F.axTick_tb n) : Int) < t.ts + d.rd F.axTick_outer n * (10 * 65536) then d
    else if d.disabled n then
      let d := d.modAxis n fun h => { h with tick := { h.tick with outer := rest } }
      if t.pos then (d.cplLoad n).pendTake n else d
    else if !(d.stageTurn (stageRank (min start d.now) 1 n)) then d
    else
      let d := d.modAxis n fun h => { h with tick := { h.tick with outer := rest, fb := false } }
      let d := (d.fbTick n t.ts).cmpActual n t.ts
      let d := if t.pos then (((d.stageStart n 2 start).withParity n 2 pp (·.positionStage n t.ts)).stageEnd n 2 t.j t.ts) else d
      if d.disabled n then d
      else ((d.stageStart n 1 start).withParity n 1 pv (·.velocityStage n t.ts)).stageEnd n 1 t.j t.ts

/-- Row DISABLED_AXIS_FEEDBACK (R134): the feedback of a DISABLED axis at a velocity tick. -/
def Dev.disabledFeedback (d : Dev) (n : Nat) : Dev :=
  let tick := (d.axis n).tick
  if !tick.fb ∨ !(d.disabled n) ∨ (d.tb16 (d.rd F.axTick_tb n) : Int) < tick.ts then d
  else
    let d := d.modAxis n fun h => { h with tick := { h.tick with fb := false } }
    (d.fbTickDisabled n tick.ts).cmpActual n tick.ts

end Sys2Proof.Machine
end

