-- ==== Sys2Proof/Machine/Time.lean ====
section
/-!
DEFINITION. Time bases, their sources and servo, peer delay and the root source (R45 to R68, 02_time_bases.md).
-/

namespace Sys2Proof.Machine

/-! ### Values -/

/-- The span of a time base in units of 2^-40 ns: 2^48 s (R45, R46). -/
def tbSpan : Nat := 2 ^ 48 * 1000000000 * 2 ^ 40

/-- One TIME clock of TB_n (R46). -/
def Dev.tbAdvance (d : Dev) (n : Nat) : Dev :=
  d.modTb n fun t => { t with val := (((t.val : Int) + 4 * (2 ^ 40 + d.rdI F.tbRate_rate n)) % (tbSpan : Int)).toNat }

/-- One TIME clock, 4 ns of root time: every time base advances (R22, R46). -/
def Dev.timeClock (d : Dev) : Dev :=
  let d := d.each [0, 1, 2, 3] fun n d => d.tbAdvance n
  { d with now := d.now + 4000 }

/-- The axes bound to TB_n. -/
def Dev.axesOf (d : Dev) (n : Nat) : List Nat := (List.range 8).filter (d.boundTo n)

/-- The load value of TB_n, 2^-16 ns (R51). -/
def Dev.loadVal (d : Dev) (n : Nat) : Int :=
  (((d.rd F.tbLdhi_sechi n * 2 ^ 32 + d.rd F.tbLdsec_seclo n) * 1000000000 + d.rd F.tbLdns_ns n) * 65536 : Nat)

/-- RATE stands at a limit: ATLIMIT, and the time since which it has done so in LOCKING or LOCKED (R57). -/
def Dev.limEval (d : Dev) (n : Nat) : Dev :=
  let lim : Bool := decide ((d.rdI F.tbRate_rate n).natAbs = d.rd F.tbRlim_rlim n)
  let stay := lim && (d.rd F.tbState_state n == 2 || d.rd F.tbState_state n == 3)
  (d.wr F.tbState_atlimit (b2n lim) n).modTb n fun t =>
    { t with
      limSince := if stay then some (t.limSince.getD d.now) else none
      limLogged := stay && t.limLogged }

/-- Sets RATE, held within ±RLIM (R46). -/
def Dev.setRate (d : Dev) (n : Nat) (r : Int) : Dev :=
  let lim : Int := d.rd F.tbRlim_rlim n
  (d.wrI F.tbRate_rate (max (-lim) (min lim r)) n).limEval n

/-- A change of the correction state logs TB_STATE (R50). -/
def Dev.tbTo (d : Dev) (n st : Nat) : Dev :=
  if d.rd F.tbState_state n = st then d else ((d.wr F.tbState_state st n).ev E.tbState n st).limEval n

/-- The lock count of TB_n starts afresh, and the source has from now on to be heard within SRCTO (R50). -/
def Dev.tbFresh (d : Dev) (n : Nat) : Dev := (d.clr F.tbState_nosrc n).modTb n fun t => { t with locks := 0, lastMeas := d.now }

/-! ### Steps -/

/-- A leg's span in progress keeps its place in real time while its time base steps by `k` units of 250 ps, and lasts until the next
period start, at `s1` (R72). -/
def LegH.moved (l : LegH) (k s1 : Int) : LegH :=
  { l with
    per0 := l.per0 + k, s0 := l.s0 + k, s1 := s1, ea := l.ea.map (· + k), eb := l.eb.map (· + k)
    hiSince := l.hiSince + k, refEnd := l.refEnd.map (· + k) }

/-- The carrier of AX_a takes up the new time of its time base, which has stepped from `old`, 2^-16 ns, at its next period start (R72):
no update comes before it, spans in progress go on, and holds start afresh. -/
def Dev.carrierStep (d : Dev) (a old : Nat) : Dev :=
  let tb := d.rd F.axTick_tb a
  let dbl := d.flag F.axTick_dbl a
  let iv : Int := d.rd F.axCper_per a / (1 + d.rd F.axTick_dbl a)
  let ph : Int := d.rd F.axCphase_phase a
  let j := (d.t250 tb - ph) / iv
  let j := if dbl ∧ j % 2 = 0 then j + 1 else j
  let d := d.modAxis a fun h => { h with tick := { h.tick with j := some j } }
  d.each ((List.range 24).filter (fun n => d.rd F.legCfg_axis n == a)) fun n d =>
    (d.modLeg n (·.moved (d.t250 tb - (old / 16384 : Nat)) (ph + (j + 1) * iv))).modSns n fun h => { h with last := none, sets := [] }

/-- The carriers of the bound axes take up the new time (R72), and armed launches that the step jumps over are late (R75). -/
def Dev.afterStep (d : Dev) (n : Nat) (old : Nat) : Dev :=
  let d := d.each (d.axesOf n) fun a d => d.carrierStep a old
  let d := d.on (d.gthRuns && d.gthTb == n) fun d => { (d.set1 F.gthStat_tstep) with gth := { d.gth with next := none } }
  d.each ((List.range 16).filter fun l => d.flag F.lchStat_armed l && d.rd F.lchCtrl_tb l == n) fun l d =>
    let t := (Tbl.get {} l d.tim.lch).t
    if since16 old t < 0 ∧ 0 < since16 (d.tb16 n) t then
      { d with tim := { d.tim with lch := Tbl.put l { (Tbl.get {} l d.tim.lch) with passed := true } d.tim.lch } }
    else d

/-- TB_n steps to a value in units of 2^-40 ns (R51): STEPOK is cleared and TB_STEPPED is logged. -/
def Dev.tbStep (d : Dev) (n : Nat) (v : Int) : Dev :=
  let old := d.tb16 n
  let new : Int := v % (tbSpan : Int)
  let moved := rneDiv (new - (d.tb n).val) (2 ^ 40)
  let d := (d.clr F.tbState_stepok n).modTb n fun t => { t with val := new.toNat, stepAt := some d.now }
  (d.ev E.tbStepped n (dw moved)).afterStep n old

/-- The bound axes that are not DISABLED, as a mask (R51, R52). -/
def Dev.liveAxes (d : Dev) (n : Nat) : Nat := axMask fun a => d.boundTo n a && !(d.disabled a)

/-- LOAD takes effect (R51). -/
def Dev.tbLoad (d : Dev) (n : Nat) : Code × Dev :=
  if !(d.flag F.tbState_stepok n) then (.timeStepRefused, d.ev E.tbStepRefused n (d.liveAxes n))
  else
    let d := d.tbStep n (d.loadVal n * 2 ^ 24)
    (.ok, if d.rd F.tbState_state n = 1 then (d.tbFresh n).tbTo n 2 else d)

/-- REARM takes effect (R52). -/
def Dev.tbRearm (d : Dev) (n : Nat) : Code × Dev :=
  if d.liveAxes n ≠ 0 then (.wrongState, d)
  else
    let d := (d.set1 F.tbState_stepok n).ev E.tbRearmed n 0
    (.ok, if d.rd F.tbCtrl_src n = 0 then d else (d.tbFresh n).tbTo n 1)

/-! ### Measurements -/

/-- The servo integrator and the rate it gives (R55): products exact, rounded once, and no wind-up at a limit. -/
def servo (kp ki rlim integ off : Int) : Int × Int :=
  let clamp (x : Int) := max (-rlim) (min rlim x)
  let i := clamp (integ + rneDiv (ki * off) (2 ^ 32))
  let r := clamp (-(rneDiv (kp * off) (2 ^ 32) + i))
  (if r = rlim ∨ r = -rlim then integ else i, r)

/-- The PI evaluation of a valid measurement (R55); nothing under MANUAL (R57). -/
def Dev.servoStep (d : Dev) (n : Nat) (off : Int) : Dev :=
  if d.flag F.tbCtrl_manual n then d
  else
    let x := servo (d.rd F.tbKp_kp n) (d.rd F.tbKi_ki n) (d.rd F.tbRlim_rlim n) (d.tb n).integ off
    (d.modTb n fun t => { t with integ := x.1 }).setRate n x.2

/-- RATE goes to the limit against the offset (R56). -/
def Dev.slew (d : Dev) (n : Nat) (off : Int) : Dev :=
  if d.flag F.tbCtrl_manual n then d
  else d.setRate n (if 0 < off then -(d.rd F.tbRlim_rlim n : Int) else d.rd F.tbRlim_rlim n)

/-- Entry to LOCK_LOST (R50, R58): logged once, and the bound axes with their LOSTSTOP bit set stop. -/
def Dev.lockLost (d : Dev) (n : Nat) : Dev :=
  let d := (((d.modTb n fun t => { t with locks := 0 }).tbTo n 4).ev E.tbLockLost n (d.rd F.tbOffset_offset n))
  d.each ((d.axesOf n).filter fun a => bitOf (d.rd F.tbCtrl_loststop n) a) fun a d => d.ctlStop a 2

/-- The lock count takes up an offset; CNT in a row within WIN lock the time base (R50). -/
def Dev.lockCount (d : Dev) (n : Nat) (inside : Bool) : Dev :=
  let c := if inside then (d.tb n).locks + 1 else 0
  let d := d.modTb n fun t => { t with locks := c }
  if d.rd F.tbLock_cnt n ≤ c then d.tbTo n 3 else d

/-- A measurement whose ingress precedes a step, or that meets a step in the same clock, is discarded (R54). -/
def Dev.measStale (d : Dev) (n ingress : Nat) : Bool :=
  match (d.tb n).stepAt with
  | some t => decide (ingress < t) || t == d.now
  | none => false

/-- A valid measurement of TB_n: its offset in 2^-16 ns (R50, R55, R56, R58). -/
def Dev.measure (d : Dev) (n : Nat) (off : Int) : Dev :=
  let d := (((d.bumpMod F.tbState_meascnt n).clr F.tbState_nosrc n).wrI F.tbOffset_offset (satS 32 (rneShr off 8)) n).modTb n
    fun t => { t with lastMeas := d.now }
  let inside : Bool := decide (off.natAbs ≤ d.rd F.tbLock_win n * 65536)
  match d.rd F.tbState_state n with
  | 1 =>
    let d := if d.rd F.tbStepthr_stepthr n * 65536 < off.natAbs then d.tbStep n ((d.tb n).val - off * 2 ^ 24) else d
    ((d.clr F.tbState_stepok n).modTb n fun t => { t with locks := 0 }).tbTo n 2
  | 2 => (d.servoStep n off).lockCount n inside
  | 3 => if inside then d.servoStep n off else (d.slew n off).lockLost n
  | 4 => (if inside then d.servoStep n off else d.slew n off).lockCount n inside
  | _ => d

/-! ### Stamps of the ports -/

/-- The base that stamps a PTP message of a domain on a port: the time base that follows both, or 4, the root count (R62). -/
def Dev.stampBase (d : Dev) (p domain : Nat) : Nat :=
  (([0, 1, 2, 3].find? fun n =>
    d.rd F.tbCtrl_src n == 1 && d.rd F.tbCtrl_port n == p && d.rd F.tbPtp_domain n == domain)).getD 4

/-- The stamp of a base `age` ps ago, on the 0.5 ns grid (R61): 2^-16 ns. -/
def Dev.stampAt (d : Dev) (base age : Nat) : Int :=
  (if base < 4 then d.tbAgo base age else rneDiv (((d.now - age : Nat) : Int) * 65536) 1000) / 32768 * 32768

/-- The ingress stamp of a frame whose message time-stamp point passed the ball of P_p `age` ps ago (R61). -/
def Dev.ingress (d : Dev) (p base age : Nat) : Int := d.stampAt base age - d.rd F.tsuLat_inlat p * 32768

/-- The egress stamp of a frame that leaves the ball of P_p now (R61). -/
def Dev.egressStamp (d : Dev) (p base : Nat) : Int := d.stampAt base 0 + d.rd F.tsuLat_eglat p * 32768

/-! ### Measurements of the sources -/

/-- A measurement is judged (R54): a stale one counts for nothing. -/
def Dev.measJudge (d : Dev) (n ingress : Nat) (off stamp : Int) : Dev :=
  if d.measStale n ingress then d else (d.measure n off).note 0x58 n n stamp (satS 32 (rneShr off 8))

/-- The time base that follows a port, domain and sdoId (R48, R49). -/
def Dev.follower (d : Dev) (p domain major minor : Nat) : Option Nat :=
  [0, 1, 2, 3].find? fun n => d.rd F.tbCtrl_src n == 1 && d.rd F.tbCtrl_port n == p && d.rd F.tbPtp_domain n == domain &&
    d.rd F.tbPtp_majorsdo n == major && d.rd F.tbPtp_minorsdo n == minor

/-- The offset of a Sync (R64): its ingress stamp `stamp` against `origin`, whole ns, the correction and the mean link delay of P_p, held in
64 bits. -/
def Dev.syncOffset (d : Dev) (p : Nat) (stamp : Int) (origin : Nat) (corr : Int) : Int :=
  satS 64 (stamp - (origin * 65536 + corr + d.rdI F.tsuLinkdly_d p))

/-- Row PTP_SYNC_MEASUREMENT (R48, R54, R61, R62, R64): a Sync of a domain and sdoId whose message time-stamp point passed the ball of P_p
`age` ps before now, with its Follow_Up where it has one: `origin` the originTimestamp in ns and `corr` the sum of the correctionFields in
2^-16 ns. The time base that follows it stamps it and takes the measurement at the end of the clock. -/
def Dev.ptpSync (d : Dev) (p domain major minor age origin : Nat) (corr : Int) : Dev :=
  match d.follower p domain major minor with
  | none => d
  | some n =>
    let stamp := d.ingress p n age
    d.judgeLater (.meas n (d.now - age) (d.syncOffset p stamp origin corr) stamp)

/-- Row TB_SOURCE_TIMEOUT (R50, R56): no valid measurement within SRCTO. -/
def Dev.sourceTimeout (d : Dev) (n : Nat) : Dev :=
  let st := d.rd F.tbState_state n
  if d.rd F.tbCtrl_src n = 0 ∨ d.now < (d.tb n).lastMeas + d.rd F.tbSrcto_srcto n * 1000 ∨
      (d.flag F.tbState_nosrc n ∧ st ≠ 2 ∧ st ≠ 3) then d
  else
    let d := (d.set1 F.tbState_nosrc n).ev E.tbSourceTimeout n (d.rd F.tbSrcto_srcto n)
    let d := if st = 2 ∨ st = 3 then d.lockLost n else d
    if d.rd F.tbState_state n = 4 ∧ !(d.flag F.tbCtrl_manual n) then d.setRate n (d.tb n).integ else d

/-- The nearest whole second to a time in 2^-16 ns (R68). -/
def nearestSec (t : Int) : Int := rneDiv t sec16 * sec16

/-- Row TRIGBUS_TIME_PULSE (R68): a low level of `width` ps on TRIGBUS, whose falling edge the TDC stamped `age` ps before now. -/
def Dev.trigPulse (d : Dev) (width age : Nat) : Dev :=
  if width < 2000000 ∨ 2550000 < width then d
  else
    d.each ([0, 1, 2, 3].filter fun n => d.rd F.tbCtrl_src n == 2) fun n d =>
      let t := d.tbAgo n age - d.rdI F.gthTrigDly_dly * 65536
      let ref := if d.rd F.tbState_state n = 1 then d.loadVal n else nearestSec t
      d.judgeLater (.meas n (d.now - age) (satS 64 (t - ref)) t)

/-- Row TB_RATE_AT_LIMIT (R57, R405): the firmware, while it runs, logs a RATE that has stood at a limit for a full second in LOCKING or
LOCKED. -/
def Dev.rateAtLimit (d : Dev) (n : Nat) : Dev :=
  match (d.tb n).limSince with
  | some t =>
    if d.coreRuns ∧ t + 1000000000000 ≤ d.now ∧ !(d.tb n).limLogged then
      (d.modTb n fun h => { h with limLogged := true }).ev E.tbRateAtLimit n (d.rd F.tbRate_rate n)
    else d
  | none => d

/-! ### Writes -/

/-- The source of a time base as TB_n_CTRL and TB_n_PTP set it (R48, R49). -/
structure Source where
  src : Nat
  port : Nat
  domain : Nat
  minor : Nat
  major : Nat
deriving DecidableEq, Repr

/-- The source of TB_n. -/
def Dev.source (d : Dev) (n : Nat) : Source :=
  { src := d.rd F.tbCtrl_src n, port := d.rd F.tbCtrl_port n, domain := d.rd F.tbPtp_domain n
    minor := d.rd F.tbPtp_minorsdo n, major := d.rd F.tbPtp_majorsdo n }

/-- The answer to a source and grandmaster role for TB_n (R48, R49, R68). -/
def Dev.sourceOk (d : Dev) (n : Nat) (s : Source) (gm : Bool) : Code :=
  if s.src = 3 ∨ (gm ∧ (n ≠ 0 ∨ s.src ≠ 0)) then .range
  else if s.src = 1 ∧ [0, 1, 2, 3].any (fun m => m != n && d.source m == s) then .range
  else if s.src = 2 ∧ !(d.flag F.timRoot_src) then .wrongState
  else .ok

/-- A write of the source fields of TB_n moves the correction state through the fields it changes (R50). -/
def Dev.srcWrite (d : Dev) (n : Nat) (s : Source) : Code × Dev :=
  let old := d.source n
  match d.sourceOk n s (d.flag F.tbCtrl_gm n && n == 0) with
  | .ok =>
    if s = old then (.ok, d)
    else
      let d := ((((d.wr F.tbCtrl_src s.src n).wr F.tbCtrl_port s.port n).wr F.tbPtp_domain s.domain n).wr F.tbPtp_minorsdo
        s.minor n).wr F.tbPtp_majorsdo s.major n
      (.ok, if s.src = 0 then (d.clr F.tbState_nosrc n).tbTo n 0
        else (d.tbFresh n).tbTo n (if d.flag F.tbState_stepok n then 1 else 2))
  | c => (c, d)

/-- TB_n_RATE is written (R57). -/
def Dev.rateWrite (d : Dev) (n v : Nat) : Code × Dev :=
  if d.rd F.tbRlim_rlim n < (sx 32 v).natAbs then (.range, d)
  else if !(d.flag F.tbCtrl_manual n) then (.wrongState, d)
  else (.ok, d.setRate n (sx 32 v))

/-- TB_n_RLIM is written (R57): RATE and the integrator are clamped at once. -/
def Dev.rlimWrite (d : Dev) (n v : Nat) : Code × Dev :=
  if v = 0 ∨ 2 ^ 31 ≤ v then (.range, d)
  else
    let d := (d.wr F.tbRlim_rlim v n).modTb n fun t => { t with integ := max (-(v : Int)) (min v t.integ) }
    (.ok, d.setRate n (d.rdI F.tbRate_rate n))

/-- A read of TB_n_TSFR captures the value (R47), and gives the word read. -/
def Dev.tsfrRead (d : Dev) (n : Nat) : Nat × Dev :=
  let t := d.tb16 n
  let hi := t / sec16 / 2 ^ 32 % 65536
  (fracOf t + 65536 * hi,
    (((d.wr F.tbTsfr_frac (fracOf t) n).wr F.tbTsfr_sechi hi n).wr F.tbTns_ns (nsOf t) n).wr F.tbTsec_seclo (secOf t) n)

/-! ### Peer delay -/

/-- Peer delay of a port. -/
def Dev.tsu (d : Dev) (p : Nat) : TsuH := Tbl.get {} p d.tim.tsu

/-- Changes the peer delay of a port. -/
def Dev.modTsu (d : Dev) (p : Nat) (f : TsuH → TsuH) : Dev := { d with tim := { d.tim with tsu := Tbl.put p (f (d.tsu p)) d.tim.tsu } }

/-- t4 − t1 of the exchange of P_p whose answer passed the ball `age` ps ago (R61, R62, R65): both stamps of the base that stamped the
request, 2^-16 ns; none without a request. -/
def Dev.pdelaySpan (d : Dev) (p age : Nat) : Option Int :=
  (d.tsu p).req.map fun x => d.ingress p x.2 age - x.1

/-- The mean link delay after a sample that is half of `twice`, 2^-16 ns (R4, R65): the first is loaded, a later one moves D by an eighth of
its distance, the result rounded once. -/
def linkDelay (loaded : Bool) (old twice : Int) : Int :=
  satS 32 (if loaded then rneDiv (twice + 14 * old) 16 else rneDiv twice 2)

/-- Row PDELAY_EXCHANGE (R61, R65): the exchange of the last Pdelay_Req of P_p ends, answered `age` ps ago with `t32` = t3 − t2 in
2^-16 ns, or unanswered. -/
def Dev.pdelay (d : Dev) (p : Nat) (answer : Option (Nat × Int)) : Dev :=
  if !(d.flag F.tsuCtrl_pdly p) then d
  else match answer with
    | some (age, t32) =>
      match d.pdelaySpan p age with
      | some t41 =>
        (d.wrI F.tsuLinkdly_d (linkDelay (d.tsu p).loaded (d.rdI F.tsuLinkdly_d p) (t41 - t32)) p).modTsu p fun t =>
          { t with missed := 0, loaded := true, req := none }
      | none => d
    | none =>
      let m := (d.tsu p).missed + 1
      let d := d.modTsu p fun t => { t with missed := m, req := none }
      if m = 3 then d.ev E.pdelayLost (p + 1) (d.rd F.tsuLinkdly_d p) else d

/-! ### Root source -/

/-- Row SYNCCLK_STOP (R67). -/
def Dev.syncStop (d : Dev) : Dev :=
  let d := d.clr F.timRoot_syncok
  if d.flag F.timRoot_src ∧ !(d.flag F.timRoot_holdover) then
    { ((d.set1 F.timRoot_holdover).ev E.clkHoldover 0 0) with tim := { d.tim with holdSince := some d.now } }
  else d

/-- Row SYNCCLK_RETURN (R67): SYNCCLK is there again, and the PLL, pulled back where it runs from SYNCCLK, is locked again. A holdover of
the crystal (R415) does not end by it. -/
def Dev.syncReturn (d : Dev) : Dev :=
  let d := d.set1 F.timRoot_syncok
  if d.flag F.timRoot_holdover ∧ d.flag F.timRoot_src then
    let ms := rneDiv ((d.now - d.tim.holdSince.getD d.now : Nat) : Int) 1000000000
    { ((d.clr F.timRoot_holdover).ev E.clkRelocked 0 (dwU ms)) with tim := { d.tim with holdSince := none } }
  else d

end Sys2Proof.Machine
end

