-- ==== Sys2Proof/Machine/Gaffer.lean ====
section
/-!
DEFINITION. Master channels, and the writes of coupling and cam registers (R77 to R90, R94, R98, R99, R103, R104,
03_gaffer_and_gearing.md).
-/

namespace Sys2Proof.Machine

/-! ### Channels -/

/-- GM_m changes state and logs GM_STATE (R110). -/
def Dev.gmTo (d : Dev) (m st : Nat) : Dev :=
  if d.rd F.gmStat_state m = st then d else (d.wr F.gmStat_state st m).ev E.gmState m st

/-- The time base of GM_m, 2^-16 ns. -/
def Dev.gmNow (d : Dev) (m : Nat) : Int := d.tb16 (d.rd F.gmCtrl_tb m)

/-- The followers of GM_m: axes that name it and whose coupling is not IDLE. -/
def Dev.followers (d : Dev) (m : Nat) : List Nat :=
  (List.range 8).filter fun a => d.rd F.axCpl_msrc a == m && d.rd F.axCstat_cstate a != 0

/-- The couplings of the followers of GM_m are aborted at their next position stages (R89, R90). -/
def Dev.dueAborts (d : Dev) (m cause : Nat) : Dev :=
  d.each (d.followers m) fun a d => d.modCpl a fun c => { c with due := c.due ++ [cause] }

/-- The grace of a STALE channel expires (R89). -/
def Dev.graceOut (d : Dev) (m : Nat) : Dev :=
  let mask := axMask fun a => d.rd F.axCpl_msrc a == m && decide (2 ≤ d.rd F.axCstat_cstate a)
  ((d.modGm m fun g => { g with expired := true }).ev E.gmGraceExpired m mask).dueAborts m 2

/-- T0 + H of a segment. -/
def Seg.until_ (s : Seg) : Int := s.t0 + s.h * 65536

/-- Whether the time base has reached a time on the segment scale (R74). -/
def reached (now_ t : Int) : Bool := decide (0 ≤ smod now_ t span16)

/-- The grace has run out under the setting in force (R88). -/
def Dev.graceDue (d : Dev) (m : Nat) : Bool :=
  match (d.gmc m).live with
  | none => false
  | some s => d.rd F.gmStat_state m == 3 && !(d.gmc m).expired &&
      match d.rd F.gmCtrl_stalemode m with
      | 0 => reached (d.gmNow m) (s.until_ + d.rd F.gmGrace_grace m * 65536)
      | 1 => true
      | _ => false

/-- Row GM_GRACE_EXPIRED (R88, R89). -/
def Dev.graceExpired (d : Dev) (m : Nat) : Dev := d.on (d.graceDue m) (·.graceOut m)

/-- Row GM_STALE (R87): the horizon of the live segment has passed without a successor. -/
def Dev.gmStale (d : Dev) (m : Nat) : Dev :=
  match (d.gmc m).live with
  | none => d
  | some s =>
    if d.rd F.gmStat_state m = 2 ∧ reached (d.gmNow m) s.until_ ∧
        !((d.gmc m).queue.any fun q => decide (smod q.t0 s.until_ span16 ≤ 0)) then
      (((d.modGm m fun g => { g with expired := false }).gmTo m 3).ev E.gmStale m (nsOf (s.until_ % (sec16 : Int)).toNat)).graceExpired m
    else d

/-- A segment becomes live (R78, R84, R90): the segment live before it is kept; on a STALE channel the master step is judged
against RECOV. -/
def Dev.segLive (d : Dev) (m : Nat) (s : Seg) : Dev :=
  let g := d.gmc m
  let d := d.modGm m fun g => { g with prev := g.live, live := some s, queue := g.queue.filter (· != s), expired := false }
  if d.rd F.gmStat_state m = 3 then
    match g.live with
    | none => d.gmTo m 2
    | some old =>
      let delta := mdiff s.p (old.at_ s.t0).pos
      let d := (d.gmTo m 2).ev E.gmResumed m (dw delta)
      if !g.expired ∧ d.rd F.gmRecov_win m < delta.natAbs then d.dueAborts m 3 else d
  else d.gmTo m 2

/-- Every queued segment whose T0 the time base has reached becomes live, the earliest first (R78; notes/assumptions/121.md). -/
def Dev.goLive (d : Dev) (m : Nat) : Dev :=
  ((d.gmc m).queue.filter fun s => reached (d.gmNow m) s.t0).foldl (fun d s => d.segLive m s) d

/-- Row SEGMENT_LIVE (R78). -/
def Dev.segmentLive (d : Dev) (m : Nat) : Dev := if d.flag F.gmCtrl_en m then d.goLive m else d

/-! ### Acceptance -/

/-- The segment that twelve words spell (R79). -/
def segOf (w : List Nat) : Seg :=
  let a (i : Nat) := w.getD i 0 % 2 ^ 32
  let q (i : Nat) := a i + 2 ^ 32 * a (i + 1)
  { t0 := a 0 * sec16 + bitsOf (a 1) 0 30 * 65536 + bitsOf (a 2) 0 16, seq := bitsOf (a 2) 16 16, replace := bitOf (a 1) 31
    p := q 3, v := sx 64 (q 5), a := sx 64 (q 7), j := sx 64 (q 9), h := a 11 }

/-- The fields of a segment are within their ranges (R79, R80 reason 4). -/
def segFits (w : List Nat) : Bool :=
  let x := w.getD 1 0
  bitsOf x 0 30 ≤ 999999999 && !(bitOf x 30) && 1000 ≤ w.getD 11 0 % 2 ^ 32

/-- The queue of GM_m that a segment is checked against: REPLACE removes what stands at or after its T0 (R82). -/
def Dev.segQueue (d : Dev) (m : Nat) (s : Seg) : List Seg :=
  if s.replace then (d.gmc m).queue.filter (fun q => decide (smod q.t0 s.t0 span16 < 0)) else (d.gmc m).queue

/-- The reason for which a segment is refused, 0 for none (R80). -/
def Dev.segReason (d : Dev) (m : Nat) (w : List Nat) : Nat :=
  let g := d.gmc m
  let s := segOf w
  let q := d.segQueue m s
  let notAfter (x : Option Seg) (gap : Int) : Bool := match x with
    | some l => decide (smod s.t0 l.t0 span16 < gap)
    | none => false
  let last := match q.getLast? with | some l => some l | none => g.live
  if d.rd F.gmStat_state m = 0 then 1
  else if !(segFits w) then 4
  else if !g.first ∧ s.seq = d.rd F.gmStat_lastseq m then 5
  else if s.replace ∧ notAfter g.live 1 then 6
  else if notAfter last (20000 * 65536) then 3
  else if 8 ≤ q.length then 2
  else 0

/-- The answer to a refused push (R80). -/
def segCode : Nat → Code
  | 0 => .ok | 2 => .queueFull | 3 => .range | 4 => .range | _ => .wrongState

/-- A segment arrives at the queue of GM_m (R80 to R82). -/
def Dev.segPush (d : Dev) (m : Nat) (w : List Nat) : Code × Dev :=
  let s := segOf w
  match d.segReason m w with
  | 0 =>
    let q := d.segQueue m s
    let expect := (d.rd F.gmStat_lastseq m + 1) % 65536
    let gap := !(d.gmc m).first && s.seq != expect
    let d := (d.modGm m fun g => { g with queue := q ++ [s], first := false }).wr F.gmStat_lastseq s.seq m
    let d := d.on gap fun d => (d.set1 F.gmStat_seqgap m).ev E.gmSeqGap m (expect + 65536 * s.seq)
    let age := smod (d.gmNow m) s.t0 span16
    -- a T0 that the time base has passed, not one it reaches just now
    let d := d.on (decide (0 < age)) fun d =>
      ((d.set1 F.gmStat_late m).bump F.gmRefcnt_late m).ev E.gmSegLate m (dwU (rneShr age 16))
    (.ok, d.goLive m)
  | 5 => (.wrongState, d.bump F.gmRefcnt_refused m)
  | r => (segCode r, ((d.bump F.gmRefcnt_refused m).set1 F.gmStat_refused m).ev E.gmSegRefused m (r + 65536 * s.seq))

/-! ### Writes -/

/-- Every segment of GM_m is removed, and the next accepted one counts as in sequence (R77, R78). -/
def Dev.gmClear (d : Dev) (m : Nat) : Dev :=
  d.modGm m fun g => { g with prev := none, live := none, queue := [], first := true, expired := false }

/-- GM_m_CTRL.EN and TB are written (R77, R78). -/
def Dev.gmCtrlWrite (d : Dev) (m : Nat) (en : Bool) (tb : Nat) : Code × Dev :=
  let was := d.flag F.gmCtrl_en m
  let tbNew : Bool := tb != d.rd F.gmCtrl_tb m
  if (tbNew ∨ (was ∧ !en)) ∧ (d.followers m ≠ []) then (.wrongState, d)
  else
    let d := (d.wr F.gmCtrl_en (b2n en) m).wr F.gmCtrl_tb tb m
    let d := d.on (tbNew || en != was) (·.gmClear m)
    (.ok, if !en then d.gmTo m 0 else if !was ∨ tbNew then d.gmTo m 1 else d)

/-- GM_m_CTRL.FLUSH is written with 1 (R83). -/
def Dev.gmFlush (d : Dev) (m : Nat) : Code × Dev := (.ok, d.modGm m fun g => { g with queue := [] })

/-- GM_m_CTRL.STALEMODE and GM_m_GRACE are written (R88): the grace may expire at once. -/
def Dev.staleWrite (d : Dev) (m mode grace : Nat) : Code × Dev :=
  if 3 ≤ mode then (.range, d)
  else (.ok, ((d.wr F.gmCtrl_stalemode mode m).wr F.gmGrace_grace grace m).graceExpired m)

/-- AX_n_CAMSEL is written (R98, R103). -/
def Dev.camselWrite (d : Dev) (n cur next : Nat) (nxv : Bool) : Code × Dev :=
  let idle : Bool := d.rd F.axCstat_cstate n == 0
  if (cur ≠ d.rd F.axCamsel_cur n ∧ !idle) ∨ (nxv ∧ idle) then (.wrongState, d)
  else (.ok, ((d.wr F.axCamsel_cur cur n).wr F.axCamsel_next next n).wr F.axCamsel_nxv (b2n nxv) n)

/-- An axis that names a master in AX_n_CPL.MSRC has a coupling state other than IDLE (R94). -/
def Dev.followed (d : Dev) (src : Nat) : Bool := d.followers src != []

/-- The shift of a local master AX_s (s below 8) or of FQ_(s−8) is written (R94). -/
def Dev.shiftWrite (d : Dev) (s v : Nat) : Code × Dev :=
  let old := if s < 8 then d.rd F.axLmshift_shift s else d.rd F.gafFqm_shift (s - 8)
  if 47 < v then (.range, d)
  else if v ≠ old ∧ d.followed (8 + s) then (.wrongState, d)
  else (.ok, if s < 8 then d.wr F.axLmshift_shift v s else d.wr F.gafFqm_shift v (s - 8))

/-- CAM_c is in use (R104). -/
def Dev.camInUse (d : Dev) (c : Nat) : Bool :=
  (List.range 8).any fun n =>
    (d.rd F.axCstat_cstate n != 0 && d.rd F.axCamsel_cur n == c) || (d.flag F.axCamsel_nxv n && d.rd F.axCamsel_next n == c)

/-- Word `i` of W_14 is a point of a cam in use (R104). -/
def Dev.pointInUse (d : Dev) (i : Nat) : Bool :=
  (List.range 16).any fun c =>
    let k := d.cam c
    d.camInUse c && decide (k.base ≤ i ∧ i < k.base + 2 ^ k.log2n)

/-- Points of the cam area (R99). -/
def camWords : Nat := 196608

/-- First address of the cam area (R99). -/
def camArea : Nat := 0x200000

/-- A write of a descriptor register, by its place 0 BASE, 1 FMT, 2 RISELO, 3 RISEHI (R99, R104). -/
def Dev.camRegWrite (d : Dev) (c k v : Nat) : Code × Dev :=
  let base := if k = 0 then v % 2 ^ 18 else d.rd F.camBase_base c
  let l2 := if k = 1 then bitsOf v 0 4 else d.rd F.camFmt_log2n c
  let sh := if k = 1 then bitsOf v 8 5 else d.rd F.camFmt_shift c
  if (k = 1 ∧ (l2 < 2 ∨ 16 < sh)) ∨ (k ≤ 1 ∧ camWords < base + 2 ^ l2) then (.range, d)
  else if d.camInUse c then (.wrongState, d)
  else
    (.ok, match k with
      | 0 => d.wr F.camBase_base base c
      | 1 => (d.wr F.camFmt_log2n l2 c).wr F.camFmt_shift sh c
      | 2 => d.wr F.camRiselo_rise v c
      | _ => d.wr F.camRisehi_rise v c)

/-- A word of W_14 is stored; a good word ends a parity error there (R104). -/
def Dev.pointWrite (d : Dev) (i v : Nat) : Code × Dev :=
  if d.pointInUse i then (.wrongState, d)
  else (.ok, ({ d with tables := Tbl.set 0 i (v % 2 ^ 32) d.tables } : Dev).mended (camArea + 4 * i))

/-- Row CAM_DESCRIPTOR_WRITE (R99, R104): a write at an address of the descriptors or of the cam area. -/
def Dev.camWrite (d : Dev) (a v : Nat) : Code × Dev :=
  if a % 4 ≠ 0 then (.range, d)
  else if 0xC0800 ≤ a ∧ a < 0xC0900 then d.camRegWrite ((a - 0xC0800) / 16) ((a - 0xC0800) % 16 / 4) v
  else if camArea ≤ a ∧ a < camArea + 4 * camWords then d.pointWrite ((a - camArea) / 4) v
  else (.noSuchAddress, d)

end Sys2Proof.Machine
end

