-- ==== Sys2Proof/Machine/NetOut.lean ====
section
/-!
DEFINITION. Frames that the device forms: EVX header and the waiting frames of the egress ports (R295, R296, R298, R309,
11_network_ports.md).
-/

namespace Sys2Proof.Machine

/-- A register word as its cells spell it. -/
def Dev.cellWord (d : Dev) (r : RegDef) (i : Nat := 0) (j : Nat := 0) : Nat :=
  (r.flds.map fun f => d.rd f i j * 2 ^ f.lo).sum

/-- The bytes of a word, low byte first (R5, R296). -/
def bytesOf (n w : Nat) : List Nat := (List.range n).map fun i => w / 256 ^ i % 256

/-- A number from its bytes, low byte first. -/
def ofBytes : List Nat → Nat
  | [] => 0
  | b :: l => b % 256 + 256 * ofBytes l

/-- The bytes of a number, high byte first. -/
def bytesBe (n w : Nat) : List Nat := (bytesOf n w).reverse

/-- A number from its bytes, high byte first. -/
def ofBytesBe (l : List Nat) : Nat := ofBytes l.reverse

/-- The device's own address, byte 0 of the MAC in the low bits (11_network_ports.md, "Registers"). -/
def Dev.mac (d : Dev) : Nat := d.rd F.netMaclo_mac + 2 ^ 32 * d.rd F.netMachi_mac

/-- The EVX group address. -/
def Dev.mcast (d : Dev) : Nat := d.rd F.netMclo_mc + 2 ^ 32 * d.rd F.netMchi_mc

/-- The destination of frames sent on a port, 0 for P_1 and 1 for P_2. -/
def Dev.dst (d : Dev) (p : Nat) : Nat := d.rd F.netPDstlo_dst p + 2 ^ 32 * d.rd F.netPDsthi_dst p

/-- The time base of a port: that of P_1 serves both in LINE and RING (R298). -/
def Dev.portTb (d : Dev) (p : Nat) : Nat := d.rd F.netPCtrl_tb (if d.rd F.netCtrl_mode = 2 then p else 0)

/-- The 16-byte EVX header (R296). -/
def evxHeader (type dir last station seq len sec ns : Nat) : List Nat :=
  [type + 16, dir + 2 * last] ++ bytesOf 2 station ++ bytesOf 2 seq ++ bytesOf 2 len ++ bytesOf 4 sec ++ bytesOf 4 ns

/-- A frame of the device, its SEQ taken; stamped with `at16`, 2^-16 ns (R296, R298). -/
def Dev.evx (d : Dev) (dst type last station at16 : Nat) (payload : List Nat) : Frame :=
  { dst := dst, src := d.mac, etype := d.rd F.netCtrl_etype
    body := evxHeader type 1 last station d.net.txSeq payload.length (secOf at16) (nsOf at16) ++ payload }

/-- The next SEQ (R296). -/
def Dev.seqNext (d : Dev) : Dev := { d with net := { d.net with txSeq := (d.net.txSeq + 1) % 65536 } }

/-- A frame waits for an egress port, 0 for P_1 and 1 for P_2 (R295). -/
def Dev.egressPut (d : Dev) (p : Nat) (w : Waiting) : Dev :=
  { d with net := { d.net with egress := Tbl.put p (Tbl.get [] p d.net.egress ++ [w]) d.net.egress } }

/-- Ports on which an own frame leaves: both in RING with one SEQ, else those of the mask ("Switch modes"). -/
def Dev.portsOf (d : Dev) (mask : Nat) : List Nat :=
  if d.rd F.netCtrl_mode = 1 then [0, 1] else [0, 1].filter (bitOf mask)

/-- Sends an own EVX frame of class `cls` and type `type` on the ports of a mask; `dst` and `payload` give destination and payload by port. -/
def Dev.sendEvx (d : Dev) (mask cls type last station : Nat) (dst : Nat → Nat) (payload : Nat → List Nat) :
    Dev :=
  let put (d : Dev) (p : Nat) : Dev :=
    d.egressPut p { cls := cls, frame := d.evx (dst p) type last station (d.tb16 (d.portTb p)) (payload p), at_ := d.now }
  if d.rd F.netCtrl_mode = 1 then ((put d 0) |> (put · 1)).seqNext
  else ([0, 1].filter (bitOf mask)).foldl (fun d p => (put d p).seqNext) d

/-- The payload of a TRIG frame (R309). -/
def trigPayload (group te : Nat) : List Nat :=
  bytesOf 4 group ++ bytesOf 4 (secOf te) ++ bytesOf 4 (nsOf te) ++ bytesOf 2 (fracOf te) ++ [0, 0]

end Sys2Proof.Machine
end

