-- ==== Sys2Proof/Machine/Can.lean ====
section
/-!
DEFINITION. The CAN FD port (12_can_port.md).
-/

namespace Sys2Proof.Machine

/-- Changes the state of the CAN port. -/
def Dev.modCan (d : Dev) (f : CanH → CanH) : Dev := { d with can := f d.can }

/-- Data bytes of a frame by its data length code (R315, "Registers"). -/
def canBytes (fdf : Bool) (dlc : Nat) : Nat :=
  if dlc ≤ 8 ∨ !fdf then min dlc 8
  else [12, 16, 20, 24, 32, 48, 64].getD (dlc - 9) 64

/-- This instant on CAN_CTRL.TB, as SEC[31:0] and NS, rounded once to a nanosecond (R318). -/
def Dev.canStamp (d : Dev) : Nat × Nat :=
  let t := (rneShr (d.tb (d.rd F.canCtrl_tb)).val 40).toNat
  (t / 1000000000 % 2 ^ 32, t % 1000000000)

/-- The port is bus-off: TEC above 255 (R328). -/
def Dev.busOff (d : Dev) : Bool := decide (255 < d.rd F.canErr_tec)

/-- The port takes part in the traffic of the bus (R317, R329). -/
def Dev.canOn (d : Dev) : Bool := d.flag F.canCtrl_en && d.can.ready && !d.busOff

/-- The counters take new values and EWARN follows them (R328). -/
def Dev.canCount (d : Dev) (tec rec : Nat) : Dev :=
  ((d.wr F.canErr_tec (min 511 tec)).wr F.canErr_rec (min 255 rec)).wr F.canErr_ewarn
    (b2n (decide (96 ≤ tec ∨ 96 ≤ rec)))

/-! ### Receive objects -/

/-- Sixteen data words of a frame; bytes beyond its length read as 0 (R319). -/
def canWords (f : CanFrame) : List Nat :=
  let b := f.data.take (canBytes f.fdf f.dlc)
  (List.range 16).map fun i => ofBytes ((b.drop (4 * i)).take 4)

/-- A frame is written into receive object `k` (R319). -/
def Dev.rxoStore (d : Dev) (k : Nat) (r : CanRx) : Dev :=
  let d := ((((d.wr F.rxoCtl_dlc r.f.dlc k).wr F.rxoCtl_fdf (b2n r.f.fdf) k).wr F.rxoCtl_brs (b2n r.f.brs) k).wr
    F.rxoCtl_esi (b2n r.f.esi) k).set1 F.rxoCtl_new k
  let d := (d.wr F.rxoTsec_tsec r.sec k).wr F.rxoTns_tns r.ns k
  (canWords r.f).zipIdx.foldl (fun d x => d.wr F.rxoData_data x.1 k x.2) d

/-- A delivery to receive object `k` (R319, R320). -/
def Dev.canDeliver (d : Dev) (k : Nat) (r : CanRx) : Dev :=
  if d.flag F.rxoCtl_locked k then
    let had := (Tbl.find k d.can.shadow).isSome
    d.modCan fun c => { c with shadow := Tbl.put k { r with lost := had } c.shadow }
  else
    let was := d.flag F.rxoCtl_new k
    (d.rxoStore k r).on was fun d => (d.set1 F.rxoCtl_lost k).ev E.canRxLost k r.f.id

/-- The lowest enabled receive object with the identifier and IDE of a frame (R318). -/
def Dev.canMatch (d : Dev) (f : CanFrame) : Option Nat :=
  (List.range 64).find? fun k =>
    d.flag F.rxoId_en k && d.rd F.rxoId_id k == f.id && d.flag F.rxoId_ide k == f.ide

/-- A valid frame with start-of-frame instant `t` is delivered or counted (R318). -/
def Dev.canTake (d : Dev) (f : CanFrame) (t : Nat × Nat) : Dev :=
  match d.canMatch f with
  | some k =>
    d.canDeliver k { f := f, sec := t.1, ns := t.2 }
  | none => d.bump F.canCnt_nomatch

/-- The attempt in progress ends without success: the object stays pending, or an abort asked for takes effect (R323, R325). -/
def Dev.canAttemptEnds (d : Dev) : Dev :=
  match d.can.tx with
  | some t =>
    let d := d.on d.can.abort fun d =>
      d.wr F.canTxpend_pend (putBits (d.rd F.canTxpend_pend) t.obj 1 0)
    d.modCan fun c => { c with tx := none, abort := false }
  | none => d

/-- Row CAN_FRAME_RX (R318, R319): the frame whose start came last is valid. A frame received while the port was sending means lost
arbitration (R323); REC falls as in the standard while the port is ACTIVE (R328). -/
def Dev.canFrameRx (d : Dev) (f : CanFrame) : Dev :=
  match d.can.sof with
  | none => d
  | some t =>
    if !d.canOn || d.can.mode == 1 then d
    else
      let d := (d.canAttemptEnds.modCan fun c => { c with idle := false, own := false, sof := none }).canTake f t
      if d.can.mode == 2 then
        let r := d.rd F.canErr_rec
        if r ≤ 127 then d.canCount (d.rd F.canErr_tec) (r - 1)
        else (d.canCount (d.rd F.canErr_tec) (119 + d.free % 9)).freed
      else d

/-- The lock of receive object `k` is released: NEW and LOST clear and a frame in the shadow moves in (R319, R320). -/
def Dev.rxoRelease (d : Dev) (k : Nat) : Dev :=
  let sh := Tbl.find k d.can.shadow
  let d := ((d.clr F.rxoCtl_locked k).clr F.rxoCtl_new k).clr F.rxoCtl_lost k
  let d := d.modCan fun c => { c with shadow := Tbl.erase k c.shadow, lockAt := Tbl.erase k c.lockAt }
  match sh with
  | some r => (d.rxoStore k r).on r.lost fun d => (d.set1 F.rxoCtl_lost k).ev E.canRxLost k r.f.id
  | none => d

/-- The word whose read releases the lock of receive object `k` (R320). -/
def Dev.rxoLast (d : Dev) (k : Nat) : Nat :=
  3 + (canBytes (d.flag F.rxoCtl_fdf k) (d.rd F.rxoCtl_dlc k) + 3) / 4

/-- Effect of a read of word `w` of receive object `k` on its lock (R320). -/
def Dev.rxoReadEffect (d : Dev) (k w : Nat) : Dev :=
  if w = 0 then
    if d.flag F.rxoCtl_locked k then d
    else (d.set1 F.rxoCtl_locked k).modCan fun c => { c with lockAt := Tbl.put k d.now c.lockAt }
  else if w = d.rxoLast k && d.flag F.rxoCtl_locked k then d.rxoRelease k
  else d

/-- Row RXO_LOCK_TIMEOUT (R320): a lock held for 1 ms is released. -/
def Dev.rxoTimeout (d : Dev) (k : Nat) : Dev :=
  match Tbl.find k d.can.lockAt with
  | some t => d.on (decide (t + 1000000000 ≤ d.now)) (·.rxoRelease k)
  | none => d

/-- A write of word 0 of a receive object (R319, "Registers"): ID and IDE of an enabled object stay. -/
def Dev.rxoIdWrite (d : Dev) (k v : Nat) : Code × Dev :=
  let id := bitsOf v 0 29
  let ide := bitsOf v 29 1
  if d.flag F.rxoId_en k && (id != d.rd F.rxoId_id k || ide != d.rd F.rxoId_ide k) then (.wrongState, d)
  else (.ok, ((d.wr F.rxoId_id id k).wr F.rxoId_ide ide k).wr F.rxoId_en (bitsOf v 30 1) k)

/-! ### Transmit objects -/

/-- Transmit object `o` is pending. -/
def Dev.txPending (d : Dev) (o : Nat) : Bool := bitOf (d.rd F.canTxpend_pend) o

/-- Sets or clears the pending bit of object `o`. -/
def Dev.setPend (d : Dev) (o : Nat) (v : Bool) : Dev :=
  d.wr F.canTxpend_pend (putBits (d.rd F.canTxpend_pend) o 1 (b2n v))

/-- A control word that R322 answers with RANGE. -/
def canCtlBad (w : Nat) : Bool :=
  (bitsOf w 4 1 == 0 && bitsOf w 5 1 == 1) || (bitsOf w 7 1 == 1 && decide (canBytes (bitOf w 4) (bitsOf w 0 4) < 8))

/-- The port can take a request (R322). -/
def Dev.canReqOk (d : Dev) : Bool := d.flag F.canCtrl_en && !d.busOff

/-- CAN_TXREQ is written (R322). -/
def Dev.txreq (d : Dev) (mask : Nat) : Code × Dev :=
  let l := (List.range 16).filter (bitOf mask)
  if l.any (fun o => canCtlBad (d.cellWord R.txoCtl o)) then (.range, d)
  else if !d.canReqOk then (.wrongState, d)
  else (.ok, d.each l fun o d => d.setPend o true)

/-- CAN_TXABORT is written (R325). -/
def Dev.txabort (d : Dev) (mask : Nat) : Code × Dev :=
  (.ok, d.each ((List.range 16).filter (bitOf mask)) fun o d =>
    match d.can.tx with
    | some t => if t.obj = o then d.modCan fun c => { c with abort := true } else d.setPend o false
    | none => d.setPend o false)

/-- Word `w` of transmit object `o` is written (R322). Words 2 and 3 are read-only. -/
def Dev.txoWrite (d : Dev) (o w v : Nat) : Code × Dev :=
  if d.txPending o then (.wrongState, d)
  else
    (.ok, match w with
      | 0 => (d.wr F.txoId_id v o).wr F.txoId_ide (v / 2 ^ 29) o
      | 1 =>
        (((d.wr F.txoCtl_dlc v o).wr F.txoCtl_fdf (v / 2 ^ 4) o).wr F.txoCtl_brs (v / 2 ^ 5) o).wr F.txoCtl_tref (v / 2 ^ 7) o
      | 2 | 3 => d
      | w => d.wr F.txoData_data v o (w - 4))

/-- Q_20 is pushed (R322, R324): the checks are made at the push; the answer comes when the entry is taken. -/
def Dev.q20Push (d : Dev) (e : QEnt) : Option Code × Dev :=
  if canCtlBad (e.words.getD 2 0) then (some .range, d)
  else if !d.canReqOk then (some .wrongState, d)
  else if 16 ≤ d.can.q20.length then (some .queueFull, d)
  else (none, d.modCan fun c => { c with q20 := c.q20 ++ [e] })

/-- Row CAN_Q20_ENTRY (R324): the head entry is taken once its object is not pending. -/
def Dev.q20Take (d : Dev) : Dev :=
  match d.can.q20 with
  | e :: l =>
    let o := e.words.getD 0 0 % 16
    if d.txPending o then d
    else
      let d := ((d.txoWrite o 0 (e.words.getD 1 0)).2.txoWrite o 1 (e.words.getD 2 0)).2
      let d := (List.range 16).foldl (fun d i => (d.txoWrite o (4 + i) (e.words.getD (3 + i) 0)).2) d
      ((d.setPend o true).modCan fun c => { c with q20 := l }).answer e.by_ .ok
  | [] => d

/-- Order of the arbitration field (R323): the base identifier, then base before extended, then the extension, then the index. -/
def Dev.canKey (d : Dev) (o : Nat) : Nat :=
  let id := d.rd F.txoId_id o
  let key := if d.flag F.txoId_ide o then (id / 2 ^ 18 * 2 + 1) * 2 ^ 18 + id % 2 ^ 18 else id % 2 ^ 11 * 2 * 2 ^ 18
  key * 16 + o

/-- The pending object with the highest bus priority (R323). -/
def Dev.canBest (d : Dev) : Option Nat :=
  ((List.range 16).filter d.txPending).foldl
    (fun b o => match b with
      | some c => if d.canKey o < d.canKey c then some o else b
      | none => some o) none

/-- The frame of transmit object `o` with start-of-frame instant `t`; a TREF object carries that instant (R331). -/
def Dev.canForm (d : Dev) (o : Nat) (t : Nat × Nat) : CanFrame :=
  let fdf := d.flag F.txoCtl_fdf o
  let dlc := d.rd F.txoCtl_dlc o
  let b := ((List.range 16).flatMap fun i => bytesOf 4 (d.rd F.txoData_data o i)).take (canBytes fdf dlc)
  let ide := d.flag F.txoId_ide o
  { id := if ide then d.rd F.txoId_id o else d.rd F.txoId_id o % 2 ^ 11
    ide := ide, dlc := dlc, fdf := fdf, brs := d.flag F.txoCtl_brs o
    esi := fdf && d.rd F.canErr_estate == 1
    data := if d.flag F.txoCtl_tref o then bytesOf 4 t.1 ++ bytesOf 4 t.2 ++ b.drop 8 else b }

/-- Eight nominal bits, ps (R316, R328). -/
def Dev.canSuspendPs (d : Dev) : Nat := 8 * 12500 * (d.rd F.canNbt_brp * (1 + d.rd F.canNbt_tseg1 + d.rd F.canNbt_tseg2))

/-- An error-passive port suspends transmission after an attempt of its own (R328). -/
def Dev.canSuspended (d : Dev) : Bool := d.rd F.canErr_estate == 1 && (d.can.own || decide (d.now < d.can.till))

/-- Row ARBITRATION_START (R318, R323, R331): a start-of-frame, of this port or of another node, is stamped; the port offers its best
object where it may transmit. -/
def Dev.canArbitrate (d : Dev) : Dev :=
  if d.canOn && d.can.tx.isNone then
    let t := d.canStamp
    let best := if d.can.mode = 2 ∧ !d.canSuspended then d.canBest else none
    let x := best.map fun o => ({ obj := o, sec := t.1, ns := t.2, f := d.canForm o t } : CanTx)
    d.modCan fun c =>
      { c with sof := some t, idle := false, own := x.isSome, tx := x, sent := match x with | some x => some x | none => c.sent }
  else d

/-- Row CAN_TX_DONE (R322, R328). -/
def Dev.canTxDone (d : Dev) : Dev :=
  match d.can.tx with
  | some t =>
    let d := (d.setPend t.obj false).wr F.canTxdone_done (putBits (d.rd F.canTxdone_done) t.obj 1 1)
    let d := (d.wr F.txoTsec_tsec t.sec t.obj).wr F.txoTns_tns t.ns t.obj
    (d.modCan fun c => { c with tx := none, abort := false, sof := none }).canCount (d.rd F.canErr_tec - 1) (d.rd F.canErr_rec)
  | none => d

/-- Pending objects and Q_20 entries are discarded, and CAN_TX_DISCARDED is logged with what they were (R330). -/
def Dev.canDiscard (d : Dev) (elim : Bool) : Dev :=
  let m := d.rd F.canTxpend_pend
  let q := d.can.q20
  let d := (d.wr F.canTxdisc_disc (d.rd F.canTxdisc_disc ||| m)).clr F.canTxpend_pend
  let d := d.modCan fun c => { c with q20 := [], tx := none, abort := false }
  let d := q.foldl (fun d e => d.answer e.by_ .discarded) d
  d.ev E.canTxDiscarded (m + 65536 * b2n elim) q.length

/-- The number by which an error raises REC: 0, 1 or 8 (ISO 11898-1, R328). -/
def recSteps (n : Nat) : Nat := if n = 2 then 8 else n

/-- Row CAN_BUS_ERROR (R328, R330): `tec` raises TEC by 8, `rec` raises REC by 0, 1 or 8, `failed` ends the transmission in progress. The
error flag is active or passive by the state before the error. ELIM counts where the object sent is the highest-priority pending one; entry
to bus-off discards in any case (`Dev.canEstate`). -/
def Dev.canBusError (d : Dev) (tec : Bool) (rec : Nat) (failed : Bool) : Dev :=
  if d.canOn && d.can.mode == 2 then
    let active := d.rd F.canErr_estate == 0
    let d := d.canCount (d.rd F.canErr_tec + 8 * b2n tec) (d.rd F.canErr_rec + recSteps rec)
    let d := d.modCan fun c => { c with idle := false, errFlag := some active }
    match failed, d.can.tx with
    | true, some x =>
      let best := d.canBest == some x.obj
      let d := d.canAttemptEnds.modCan fun c => { c with sof := none }
      d.on (best && !d.busOff && decide (d.rd F.canCtrl_elim ≤ d.rd F.canErr_tec)) (·.canDiscard true)
    | _, _ => d
  else d

/-- The error state that the counters call for (R328). -/
def Dev.canErrorState (d : Dev) : Nat :=
  if d.busOff then 2 else if 127 < d.rd F.canErr_tec ∨ 127 < d.rd F.canErr_rec then 1 else 0

/-- The error state becomes `e`: CAN_ESTATE is logged on a change (R328, R333). -/
def Dev.canEstateTo (d : Dev) (e : Nat) : Dev :=
  if e = d.rd F.canErr_estate then d
  else
    let v := if e = 2 then E.canBusOff else if e = 0 then E.canEstateInfo else E.canEstate
    (d.wr F.canErr_estate e).ev v e (d.rd F.canErr_tec + 65536 * d.rd F.canErr_rec)

/-- Row CAN_ESTATE (R328 to R330): the error state follows the counters; entry to bus-off discards. -/
def Dev.canEstate (d : Dev) : Dev :=
  let e := d.canErrorState
  let enters := e == 2 && d.rd F.canErr_estate != 2
  (d.canEstateTo e).on enters fun d => (d.bump F.canCnt_busoffs).canDiscard false

/-! ### Modes -/

/-- The activity level becomes `m` (R326). -/
def Dev.canModeNow (d : Dev) (m : Nat) : Dev :=
  if m = d.can.mode then d
  else (d.modCan fun c => { c with mode := m }).ev E.canMode m 0

/-- Level `m` is asked for: the lowest one asked for in this CAN clock, which the port remembers (R326). -/
def Dev.canAsk (d : Dev) (m : Nat) : Nat × Dev :=
  let clock := d.now / 12500
  let m := match d.can.asked with
    | some (t, k) => if t = clock then min k m else m
    | none => m
  (m, d.modCan fun c => { c with asked := some (clock, m) })

/-- CAN_CTRL.MODE is written (R326): at once while the bus is idle or the port is off, and where the port has woken in this very clock,
since a lower level then keeps it from waking. -/
def Dev.canModeWrite (d : Dev) (m : Nat) : Code × Dev :=
  if 3 ≤ m then (.range, d)
  else if d.flag F.canCtrl_en && d.busOff then (.wrongState, d)
  else
    let woken := d.can.mode == 2 && d.can.asked == some (d.now / 12500, 2)
    let x := d.canAsk m
    let d := x.2.wr F.canCtrl_mode x.1
    (.ok, d.on (d.can.idle || !d.flag F.canCtrl_en || (woken && !d.can.ready)) (·.canModeNow x.1))

/-- Row CAN_BUS_IDLE: 11 recessive bits (R317, R326, R329). -/
def Dev.canBusIdle (d : Dev) : Dev :=
  if !d.flag F.canCtrl_en then d
  else if d.busOff then d.wr F.canCnt_recov (min 127 (d.rd F.canCnt_recov + 1))
  else
    let till := if d.can.own then d.now + d.canSuspendPs else d.can.till
    let d := d.canAttemptEnds.modCan fun c => { c with idle := true, ready := true, own := false, till := till, sof := none }
    d.canModeNow (d.rd F.canCtrl_mode)

/-- Row CAN_RECOVERED (R329): the 128th occurrence of 11 recessive bits. -/
def Dev.canRecover (d : Dev) : Dev :=
  if d.flag F.canCtrl_en && d.busOff && d.rd F.canCnt_recov == 127 then
    let d := ((d.canCount 0 0).clr F.canCnt_recov).canEstateTo 0
    (d.modCan fun c => { c with idle := true, ready := true }).ev E.canRecovered 0 (d.rd F.canCnt_busoffs)
  else d

/-- The bit timing that R316 answers with RANGE. -/
def Dev.canTimingBad (d : Dev) : Bool :=
  let n := d.rd F.canNbt_brp * (1 + d.rd F.canNbt_tseg1 + d.rd F.canNbt_tseg2)
  let b := d.rd F.canDbt_brp * (1 + d.rd F.canDbt_tseg1 + d.rd F.canDbt_tseg2)
  decide (n < 80 ∨ b < 10 ∨ n < b ∨ d.rd F.canNbt_tseg2 < d.rd F.canNbt_sjw ∨ d.rd F.canDbt_tseg2 < d.rd F.canDbt_sjw)

/-- CAN_CTRL.EN is written (R316, R317). -/
def Dev.canEnable (d : Dev) (en : Bool) : Code × Dev :=
  let was := d.flag F.canCtrl_en
  if en && d.canTimingBad then (.range, d)
  else if !en && (d.rd F.canTxpend_pend != 0 || !d.can.q20.isEmpty) then (.wrongState, d)
  else if en && !was then
    let d := (((d.set1 F.canCtrl_en).canCount 0 0).clr F.canCnt_recov).canEstateTo 0
    (.ok, (d.modCan fun c => { c with ready := false, idle := false }).canModeNow (d.rd F.canCtrl_mode))
  else if !en && was then
    let d := (d.clr F.canCtrl_en).modCan fun c => { c with ready := false, idle := false, tx := none, abort := false }
    (.ok, d.canModeNow (d.rd F.canCtrl_mode))
  else (.ok, d)

/-- A write of CAN_CTRL with mask `mask` (R300, R316, R317, R326): MODE is written where the mask covers a bit of it. -/
def Dev.canCtrlWrite (d : Dev) (v mask : Nat) : Code × Dev :=
  let en := bitOf v 0
  let m := bitsOf v 1 2
  let wf := bitsOf v 8 8
  let el := bitsOf v 16 8
  let modeNew := bitsOf mask 1 2 != 0
  if 3 ≤ m ∨ wf = 0 ∨ el < 129 then (.range, d)
  else
    let a := d.canEnable en
    let bad := modeNew && d.flag F.canCtrl_en && d.busOff
    match a.1, bad with
    | .ok, false =>
      let d := (((a.2.wr F.canCtrl_tb (bitsOf v 3 2)).wr F.canCtrl_wake (bitsOf v 5 1)).wr F.canCtrl_stbsleep (bitsOf v 6 1)).wr
        F.canCtrl_wfilt wf
      let d := d.wr F.canCtrl_elim el
      if modeNew then d.canModeWrite m else (.ok, d)
    | .ok, true => (.wrongState, d)
    | c, _ => (c, d)

/-- What wakes the port (R327): a dominant level of so many 100 ns units, or a valid frame. -/
inductive CanWaker where
  | level (len : Nat)
  | frame (f : CanFrame)
deriving DecidableEq, Repr

/-- The port returns to ACTIVE, unless a lower level was asked for in the same CAN clock (R326, R327). -/
def Dev.canWakes (d : Dev) (id : Nat) : Dev :=
  let x := d.canAsk 2
  if x.1 < 2 then x.2
  else ((x.2.wr F.canCtrl_mode 2).modCan fun c => { c with mode := 2, ready := false, idle := false }).ev E.canWake
    (d.rd F.canCtrl_wake) id

/-- Row CAN_WAKE (R327). -/
def Dev.canWake (d : Dev) (w : CanWaker) : Dev :=
  if d.flag F.canCtrl_en && d.can.mode == 1 then
    match w, d.flag F.canCtrl_wake with
    | .level len, false => d.on (decide (d.rd F.canCtrl_wfilt ≤ len)) (·.canWakes 0)
    | .frame f, true =>
      let hit := f.ide == d.flag F.canWakeid_ide &&
        ((f.id ^^^ d.rd F.canWakeid_id) &&& d.rd F.canWakemask_mask) == 0
      match d.can.sof with
      | some t => d.on (hit && d.can.ready) fun d => ((d.modCan fun c => { c with sof := none }).canTake f t).canWakes f.id
      | none => d
    | _, _ => d
  else d

/-- The level at CANSTB in SLEEP (R326, R327); elsewhere it is released. -/
def Dev.canStb (d : Dev) : Option Bool :=
  if d.flag F.canCtrl_en && d.can.mode == 1 then some (d.flag F.canCtrl_stbsleep) else none

/-- A launch of kind 7 (R332). -/
def Dev.canRef (d : Dev) (o : Nat) : Dev :=
  let unable := !d.flag F.canCtrl_en || d.busOff || d.can.mode == 1
  if d.txPending o || unable then
    (d.bump F.canCnt_refskip).ev E.canRefSkipped o (b2n (d.txPending o) + 2 * b2n unable)
  else d.setPend o true

end Sys2Proof.Machine
end

