-- ==== Sys2Proof/Machine/Chk.lean ====
section
/-!
DEFINITION. Check-value units (15_check_units.md).
-/

namespace Sys2Proof.Machine

/-- The state of CHK_k beside its registers. -/
def Dev.chkh (d : Dev) (k : Nat) : ChkH := Tbl.get {} k d.chk

/-- Changes that state. -/
def Dev.modChk (d : Dev) (k : Nat) (f : ChkH → ChkH) : Dev := { d with chk := Tbl.put k (f (d.chkh k)) d.chk }

/-- The unit is feeding (R372). -/
def Dev.chkBusy (d : Dev) (k : Nat) : Bool := (d.chkh k).feed != []

/-- The parameters of CHK_k (R369). -/
def Dev.chkP (d : Dev) (k : Nat) : CrcP :=
  { width := d.rd F.chkCfg_width k, poly := d.rd F.chkPoly_poly k, init := d.rd F.chkInit_init k
    refin := d.flag F.chkCfg_refin k, refout := d.flag F.chkCfg_refout k, xorout := d.rd F.chkXor_xorout k }

/-- A word masked to the WIDTH in force (R370). -/
def Dev.chkMask (d : Dev) (k v : Nat) : Nat := v % 2 ^ d.rd F.chkCfg_width k

/-- V := INIT (R370). -/
def Dev.chkInit (d : Dev) (k : Nat) : Dev := d.wr F.chkVal_v (d.chkMask k (d.rd F.chkInit_init k)) k

/-- CHK_k_RESULT (R369, R374). -/
def Dev.chkResult (d : Dev) (k : Nat) : Nat := (d.chkP k).result (d.rd F.chkVal_v k)

/-- The parameters of presets 1 to 3 (R371). -/
def chkPreset : Nat → CrcP
  | 1 => crc32
  | 2 => { width := 16, poly := 0x1021, init := 0xFFFF, refin := false, refout := false, xorout := 0 }
  | _ => { width := 8, poly := 0x07, init := 0, refin := false, refout := false, xorout := 0 }

/-- A preset is loaded (R371). -/
def Dev.chkLoad (d : Dev) (k p : Nat) : Dev :=
  let c := chkPreset p
  let d := ((d.wr F.chkCfg_width c.width k).wr F.chkCfg_refin (b2n c.refin) k).wr F.chkCfg_refout (b2n c.refout) k
  (((d.wr F.chkPoly_poly c.poly k).wr F.chkInit_init c.init k).wr F.chkXor_xorout c.xorout k).chkInit k

/-- CFG without PRESET takes WIDTH [5:0], REFIN [6] and REFOUT [7] (R370). -/
def Dev.chkCfg (d : Dev) (k v : Nat) : Dev :=
  let d := ((d.wr F.chkCfg_width v k).wr F.chkCfg_refin (v / 64) k).wr F.chkCfg_refout (v / 128) k
  d.wr F.chkVal_v (d.chkMask k (d.rd F.chkVal_v k)) k

/-- A counter value is judged (R375). -/
def Dev.chkAlive (d : Dev) (k c : Nat) : Dev :=
  let m := 2 ^ d.rd F.chkAlvcfg_width k
  let l := d.rd F.chkAlvst_last k
  let dist := (c + m - l % m) % m
  let d1 := d.wr F.chkAlvst_last c k
  if d.flag F.chkAlvst_first k then d1.clr F.chkAlvst_first k
  else if dist = 1 % m then d1
  else if c = l then ((d1.set1 F.chkAlvst_repeat k).bump F.chkAlvst_repeats k).ev E.chkAliveRepeat k c
  else ((d1.set1 F.chkAlvst_jump k).bump F.chkAlvst_jumps k).ev E.chkAliveJump k (c + 65536 * dist)

/-- A write is applied to a unit that is not feeding (R370 to R375). -/
def Dev.chkApply (d : Dev) (k : Nat) : ChkWrite → Code × Dev
  | .data b => (.ok, d.modChk k fun h => { h with feed := b, fedAt := d.now + 4000 * (b.length + 1) })
  | .preset p => if 4 ≤ p then (.range, d) else (.ok, if p = 0 then d else d.chkLoad k p)
  | .start => (.ok, d.chkInit k)
  | .val v => (.ok, d.wr F.chkVal_v (d.chkMask k v) k)
  | .param 0 v => if v % 64 = 0 ∨ 32 < v % 64 then (.range, d) else (.ok, d.chkCfg k v)
  | .param 1 v => (.ok, d.wr F.chkPoly_poly (d.chkMask k v) k)
  | .param 2 v => (.ok, d.wr F.chkInit_init (d.chkMask k v) k)
  | .param _ v => (.ok, d.wr F.chkXor_xorout (d.chkMask k v) k)
  | .alvin c => if 2 ^ d.rd F.chkAlvcfg_width k ≤ c then (.range, d) else (.ok, d.chkAlive k c)
  | .alvcfg w arm =>
    if w = 0 ∨ 16 < w then (.range, d)
    else
      let d1 := d.wr F.chkAlvcfg_width w k
      (.ok, d1.on (arm || w != d.rd F.chkAlvcfg_width k) (·.set1 F.chkAlvst_first k))

/-- The last byte has been fed (R372). -/
def Dev.chkFed (d : Dev) (k : Nat) : Dev :=
  let b := (d.chkh k).feed
  (d.wr F.chkVal_v (b.foldl (d.chkP k).byte (d.rd F.chkVal_v k)) k).modChk k fun h => { h with feed := [] }

/-- A write is applied and answered; `note` is what storing a word at an address does besides (R427). -/
def Dev.chkTake (d : Dev) (k : Nat) (note : Nat → Dev → Dev) (c : Cmdr) (w : ChkWrite) : Dev :=
  let a := d.chkApply k w
  (a.2.on (a.1 == .ok) (note c.addr)).answer c a.1

/-- Waiting accesses are applied in order until one starts a feed; the others keep waiting (R373). -/
def Dev.chkDrain (d : Dev) (k : Nat) (note : Nat → Dev → Dev) : List (Cmdr × ChkWrite) → Dev
  | [] => d
  | (c, w) :: l =>
    if d.chkBusy k then d.modChk k fun h => { h with wait := (c, w) :: l }
    else Dev.chkDrain (d.chkTake k note c w) k note l

/-- The accesses of the management core of an ended FABRIC clock come after those of the partner ports (R373). -/
def Dev.chkClock (d : Dev) (k : Nat) (note : Nat → Dev → Dev) : Dev :=
  let h := d.chkh k
  if h.mgt = [] then d else (d.modChk k fun h => { h with mgt := [], wait := [] }).chkDrain k note (h.wait ++ h.mgt)

/-- CHK_FEED_DONE (R373): one byte goes in per FABRIC cycle, from the clock after the write on (R372). -/
def Dev.chkFeedDone (d : Dev) (k : Nat) (note : Nat → Dev → Dev) : Dev :=
  if d.chkBusy k && decide ((d.chkh k).fedAt ≤ d.now) then
    let w := (d.chkh k).wait
    ((d.chkFed k).modChk k fun h => { h with wait := [] }).chkDrain k note w
  else d

/-- A write arrives at CHK_k with its issuer: while the unit feeds it waits, else it is applied and answered; a write of the management
core waits for the end of its FABRIC clock, so that a partner-port access of that clock comes before it (R373). -/
def Dev.chkArrive (d : Dev) (k : Nat) (note : Nat → Dev → Dev) (c : Cmdr) (w : ChkWrite) : Dev :=
  if c.port = 4 then d.modChk k fun h => { h with mgt := h.mgt ++ [(c, w)] }
  else if d.chkBusy k then d.modChk k fun h => { h with wait := h.wait ++ [(c, w)] } else d.chkTake k note c w

/-- Every feed and every waiting access before an access through the register file has run (R373): for the management core also its own of
this clock. -/
def Dev.chkSettle (d : Dev) (k port : Nat) (note : Nat → Dev → Dev) : Dev :=
  let d := d.on (port == 4) (·.chkClock k note)
  let w := (d.chkh k).wait
  w.foldl (fun d x => (d.chkTake k note x.1 x.2).chkFed k) ((d.chkFed k).modChk k fun h => { h with wait := [] })

/-- The bytes that a write of `width` bytes at DATA + `off` feeds; none for another width or alignment (R372). -/
def chkBytes (off width v : Nat) : Option (List Nat) :=
  if width = 1 ∨ (width = 2 ∧ off % 2 = 0) ∨ (width = 4 ∧ off = 0) then some (bytesLow width v) else none
where
  /-- The low bytes of a value, low byte first. -/
  bytesLow (n v : Nat) : List Nat := (List.range n).map fun i => v / 256 ^ i % 256

end Sys2Proof.Machine
end

