-- ==== Sys2Proof/Machine/Flags.lean ====
section
/-!
DEFINITION. Results and flags of the lane instructions (R251, R255, R256, 09_punty_lanes.md).

Data words are signed integers here; the lane holds their 32-bit patterns.
-/

namespace Sys2Proof.Machine

/-- The flags Z, N and V (R249). -/
structure LFlags where
  z : Bool
  n : Bool
  v : Bool
deriving DecidableEq, Repr

/-- A result of the ALU before saturation, saturated to 32 bits (R4, R251). -/
def aluSat (x : Int) : Int := satS 32 x

/-- The flags of a result that stands for the exact value `x` (R256): Z and N from the result, V where it saturated. -/
def aluFlags (x : Int) : LFlags := { z := decide (aluSat x = 0), n := decide (aluSat x < 0), v := decide (aluSat x ≠ x) }

/-- The flags of CMP: Z and N of the exact difference, V cleared (R256). -/
def cmpFlags (a b : Int) : LFlags := { z := decide (a - b = 0), n := decide (a - b < 0), v := false }

/-- A power-of-two scaling, rounded (R4): `x * 2^k` for `k` of either sign. -/
def scale2 (x k : Int) : Int := if 0 ≤ k then x * 2 ^ k.toNat else rneShr x (-k).toNat

/-- A product of two Q1.31 words in Q1.31, before saturation (R258, MULQ). -/
def mulq (a b : Int) : Int := rneShr (a * b) 31

/-- Saturation of an accumulator to 72 bits (R251). -/
def sat72 (x : Int) : Int := satS 72 x

/-- EXT: the accumulator in units of 2^-31, shifted by `sh`, before saturation (R251). -/
def extOf (acc sh : Int) : Int := scale2 acc (sh - 31)

/-- A bitwise operation on two data words (R258). -/
def bitwise (f : Nat → Nat → Nat) (a b : Int) : Int := sx 32 (f (ux 32 a) (ux 32 b))

/-- A condition of BRC (R256). -/
def condMet (c : Nat) (f : LFlags) : Bool :=
  match c with
  | 0 => f.z
  | 1 => !f.z
  | 2 => f.n
  | 3 => !f.n
  | 4 => !f.z && !f.n
  | 5 => f.z || f.n
  | 6 => f.v
  | _ => !f.v

end Sys2Proof.Machine
end

