-- ==== Sys2Proof/Machine/LaneCode.lean ====
section
/-!
DEFINITION. Lane instructions and their 32-bit words (R258, 09_punty_lanes.md), with the decoder and the encoder.
-/

namespace Sys2Proof.Machine

/-- A lane instruction (R258). `x` names ACC_0 or ACC_1; `sh`, `imm` and the like are the fields as they stand in the word. -/
inductive LOp where
  | nop
  | ld (d : Fin 16) (a : Fin 8) (pa : Bool)
  | st (d : Fin 16) (a : Fin 8) (pa : Bool)
  | ldd (d : Fin 16) (addr : Fin 16384)
  | std (d : Fin 16) (addr : Fin 16384)
  | ldi (d : Fin 16) (imm : Fin 65536)
  | ldih (d : Fin 16) (imm : Fin 65536)
  | mov (d s : Fin 16)
  | lda (p : Fin 8) (imm : Fin 16384)
  | ldm (p : Fin 8) (imm : Fin 16384)
  | mova (p : Fin 8) (s : Fin 16)
  | movm (p : Fin 8) (s : Fin 16)
  | add (d s t : Fin 16)
  | sub (d s t : Fin 16)
  | neg (d s : Fin 16)
  | abs (d s : Fin 16)
  | min (d s t : Fin 16)
  | max (d s t : Fin 16)
  | and (d s t : Fin 16)
  | or (d s t : Fin 16)
  | xor (d s t : Fin 16)
  | shl (d s : Fin 16) (n : Fin 32)
  | shr (d s : Fin 16) (n : Fin 32)
  | mulq (d s t : Fin 16)
  | cmp (s t : Fin 16)
  | mpy (x : Fin 2) (s t : Fin 16)
  | mac (x : Fin 2) (s t : Fin 16)
  | msu (x : Fin 2) (s t : Fin 16)
  | macm (x : Fin 2) (a : Fin 8) (pa : Bool) (b : Fin 8) (pb : Bool)
  | clr (x : Fin 2)
  | ldacc (x : Fin 2) (s : Fin 16)
  | accadd (x : Fin 2)
  | ext (d : Fin 16) (x : Fin 2) (sh : Fin 64)
  | accsh (x : Fin 2) (sh : Fin 64)
  | maxi (d s t : Fin 16)
  | mini (d s t : Fin 16)
  | rep (count last : Fin 4096)
  | repd (s : Fin 16) (last : Fin 4096)
  | br (target : Fin 4096)
  | brc (cond : Fin 8) (target : Fin 4096)
  | fin
deriving DecidableEq, Repr

/-- A word of format FR: opcode, d, s, t, n. -/
def wordFR (op d s t n : Nat) : Nat := op * 2 ^ 26 + d * 2 ^ 22 + s * 2 ^ 18 + t * 2 ^ 14 + n

/-- A word of format FA: opcode, d, s, t, x, sh. -/
def wordFA (op d s t x sh : Nat) : Nat := op * 2 ^ 26 + d * 2 ^ 22 + s * 2 ^ 18 + t * 2 ^ 14 + x * 2 ^ 13 + sh

/-- A word of format FI: opcode, d, x, a, pa, b, pb. -/
def wordFI (op d x a pa b pb : Nat) : Nat := op * 2 ^ 26 + d * 2 ^ 22 + x * 2 ^ 13 + a * 2 ^ 10 + pa * 2 ^ 9 + b * 2 ^ 6 + pb * 2 ^ 5

/-- A word of format FD or FK: opcode, d, address or immediate. -/
def wordFD (op d imm : Nat) : Nat := op * 2 ^ 26 + d * 2 ^ 22 + imm

/-- A word of format FP: opcode, p, s, immediate. -/
def wordFP (op p s imm : Nat) : Nat := op * 2 ^ 26 + p * 2 ^ 22 + s * 2 ^ 18 + imm

/-- A word of format FB with a count: opcode, count, end. -/
def wordFBc (op count last : Nat) : Nat := op * 2 ^ 26 + count * 2 ^ 14 + last

/-- A word of format FB without a count: opcode, cond, s, target or end. -/
def wordFB (op cond s target : Nat) : Nat := op * 2 ^ 26 + cond * 2 ^ 22 + s * 2 ^ 18 + target

/-- The word of a lane instruction (R258). -/
def LOp.encode : LOp → Nat
  | .nop => 0
  | .ld d a pa => wordFI 0x01 d 0 a (b2n pa) 0 0
  | .st d a pa => wordFI 0x02 d 0 a (b2n pa) 0 0
  | .ldd d addr => wordFD 0x03 d addr
  | .std d addr => wordFD 0x04 d addr
  | .ldi d imm => wordFD 0x05 d imm
  | .ldih d imm => wordFD 0x06 d imm
  | .mov d s => wordFR 0x07 d s 0 0
  | .lda p imm => wordFP 0x08 p 0 imm
  | .ldm p imm => wordFP 0x09 p 0 imm
  | .mova p s => wordFP 0x0A p s 0
  | .movm p s => wordFP 0x0B p s 0
  | .add d s t => wordFR 0x10 d s t 0
  | .sub d s t => wordFR 0x11 d s t 0
  | .neg d s => wordFR 0x12 d s 0 0
  | .abs d s => wordFR 0x13 d s 0 0
  | .min d s t => wordFR 0x14 d s t 0
  | .max d s t => wordFR 0x15 d s t 0
  | .and d s t => wordFR 0x16 d s t 0
  | .or d s t => wordFR 0x17 d s t 0
  | .xor d s t => wordFR 0x18 d s t 0
  | .shl d s n => wordFR 0x19 d s 0 n
  | .shr d s n => wordFR 0x1A d s 0 n
  | .mulq d s t => wordFR 0x1B d s t 0
  | .cmp s t => wordFR 0x1C 0 s t 0
  | .mpy x s t => wordFA 0x20 0 s t x 0
  | .mac x s t => wordFA 0x21 0 s t x 0
  | .msu x s t => wordFA 0x22 0 s t x 0
  | .macm x a pa b pb => wordFI 0x23 0 x a (b2n pa) b (b2n pb)
  | .clr x => wordFA 0x24 0 0 0 x 0
  | .ldacc x s => wordFA 0x25 0 s 0 x 0
  | .accadd x => wordFA 0x26 0 0 0 x 0
  | .ext d x sh => wordFA 0x27 d 0 0 x sh
  | .accsh x sh => wordFA 0x28 0 0 0 x sh
  | .maxi d s t => wordFR 0x30 d s t 0
  | .mini d s t => wordFR 0x31 d s t 0
  | .rep count last => wordFBc 0x38 count last
  | .repd s last => wordFB 0x39 0 s last
  | .br target => wordFB 0x3A 0 0 target
  | .brc cond target => wordFB 0x3B cond 0 target
  | .fin => 0x3F * 2 ^ 26

/-- A field of a word as a number below a power of two. -/
def fieldOf (w lo len : Nat) : Fin (2 ^ len) := ⟨bitsOf w lo len, Nat.mod_lt _ (Nat.two_pow_pos len)⟩

/-- Bits `lo` to `lo + len - 1` of a word are 0, as R258 asks of unused bits. -/
def zeroAt (w lo len : Nat) : Bool := bitsOf w lo len == 0

/-- The instruction where the unused bits are 0. -/
def LOp.when (c : Bool) (o : LOp) : Option LOp := if c then some o else none

/-- Format FR with three registers. -/
def decFR3 (w : Nat) (f : Fin 16 → Fin 16 → Fin 16 → LOp) : Option LOp :=
  LOp.when (zeroAt w 0 14) (f (fieldOf w 22 4) (fieldOf w 18 4) (fieldOf w 14 4))

/-- Format FR with two registers. -/
def decFR2 (w : Nat) (f : Fin 16 → Fin 16 → LOp) : Option LOp :=
  LOp.when (zeroAt w 0 18) (f (fieldOf w 22 4) (fieldOf w 18 4))

/-- Format FR of the shifts. -/
def decFRn (w : Nat) (f : Fin 16 → Fin 16 → Fin 32 → LOp) : Option LOp :=
  LOp.when (zeroAt w 5 13) (f (fieldOf w 22 4) (fieldOf w 18 4) (fieldOf w 0 5))

/-- Format FA of the products. -/
def decFAst (w : Nat) (f : Fin 2 → Fin 16 → Fin 16 → LOp) : Option LOp :=
  LOp.when (zeroAt w 22 4 && zeroAt w 0 13) (f (fieldOf w 13 1) (fieldOf w 18 4) (fieldOf w 14 4))

/-- Format FA with an accumulator alone. -/
def decFAx (w : Nat) (f : Fin 2 → LOp) : Option LOp :=
  LOp.when (zeroAt w 14 12 && zeroAt w 0 13) (f (fieldOf w 13 1))

/-- Format FI of LD and ST. -/
def decFI (w : Nat) (f : Fin 16 → Fin 8 → Bool → LOp) : Option LOp :=
  LOp.when (zeroAt w 13 9 && zeroAt w 0 9) (f (fieldOf w 22 4) (fieldOf w 10 3) (bitOf w 9))

/-- Format FP with an immediate. -/
def decFPi (w : Nat) (f : Fin 8 → Fin 16384 → LOp) : Option LOp :=
  LOp.when (zeroAt w 25 1 && zeroAt w 14 8) (f (fieldOf w 22 3) (fieldOf w 0 14))

/-- Format FP with a register. -/
def decFPs (w : Nat) (f : Fin 8 → Fin 16 → LOp) : Option LOp :=
  LOp.when (zeroAt w 25 1 && zeroAt w 0 18) (f (fieldOf w 22 3) (fieldOf w 18 4))

/-- The instruction a word spells (R258); none for an undefined opcode, a reserved bit set or a reserved condition (R257, cause 1). -/
def LOp.decode (w : Nat) : Option LOp :=
  if 2 ^ 32 ≤ w then none
  else match w / 2 ^ 26 with
    | 0x00 => LOp.when (zeroAt w 0 26) .nop
    | 0x01 => decFI w .ld
    | 0x02 => decFI w .st
    | 0x03 => LOp.when (zeroAt w 14 8) (.ldd (fieldOf w 22 4) (fieldOf w 0 14))
    | 0x04 => LOp.when (zeroAt w 14 8) (.std (fieldOf w 22 4) (fieldOf w 0 14))
    | 0x05 => LOp.when (zeroAt w 16 6) (.ldi (fieldOf w 22 4) (fieldOf w 0 16))
    | 0x06 => LOp.when (zeroAt w 16 6) (.ldih (fieldOf w 22 4) (fieldOf w 0 16))
    | 0x07 => decFR2 w .mov
    | 0x08 => decFPi w .lda
    | 0x09 => decFPi w .ldm
    | 0x0A => decFPs w .mova
    | 0x0B => decFPs w .movm
    | 0x10 => decFR3 w .add
    | 0x11 => decFR3 w .sub
    | 0x12 => decFR2 w .neg
    | 0x13 => decFR2 w .abs
    | 0x14 => decFR3 w .min
    | 0x15 => decFR3 w .max
    | 0x16 => decFR3 w .and
    | 0x17 => decFR3 w .or
    | 0x18 => decFR3 w .xor
    | 0x19 => decFRn w .shl
    | 0x1A => decFRn w .shr
    | 0x1B => decFR3 w .mulq
    | 0x1C => LOp.when (zeroAt w 22 4 && zeroAt w 0 14) (.cmp (fieldOf w 18 4) (fieldOf w 14 4))
    | 0x20 => decFAst w .mpy
    | 0x21 => decFAst w .mac
    | 0x22 => decFAst w .msu
    | 0x23 => LOp.when (zeroAt w 14 12 && zeroAt w 0 5)
        (.macm (fieldOf w 13 1) (fieldOf w 10 3) (bitOf w 9) (fieldOf w 6 3) (bitOf w 5))
    | 0x24 => decFAx w .clr
    | 0x25 => LOp.when (zeroAt w 22 4 && zeroAt w 14 4 && zeroAt w 0 13) (.ldacc (fieldOf w 13 1) (fieldOf w 18 4))
    | 0x26 => decFAx w .accadd
    | 0x27 => LOp.when (zeroAt w 14 8 && zeroAt w 6 7) (.ext (fieldOf w 22 4) (fieldOf w 13 1) (fieldOf w 0 6))
    | 0x28 => LOp.when (zeroAt w 14 12 && zeroAt w 6 7) (.accsh (fieldOf w 13 1) (fieldOf w 0 6))
    | 0x30 => decFR3 w .maxi
    | 0x31 => decFR3 w .mini
    | 0x38 => LOp.when (zeroAt w 12 2) (.rep (fieldOf w 14 12) (fieldOf w 0 12))
    | 0x39 => LOp.when (zeroAt w 22 4 && zeroAt w 12 6) (.repd (fieldOf w 18 4) (fieldOf w 0 12))
    | 0x3A => LOp.when (zeroAt w 12 14) (.br (fieldOf w 0 12))
    | 0x3B => LOp.when (zeroAt w 25 1 && zeroAt w 12 10) (.brc (fieldOf w 22 3) (fieldOf w 0 12))
    | 0x3F => LOp.when (zeroAt w 0 26) .fin
    | _ => none

end Sys2Proof.Machine
end

