-- ==== Sys2Proof/Machine/Lane.lean ====
section
/-!
DEFINITION. The Punty lanes: hooks, runs, instructions and publication (R249 to R271, 09_punty_lanes.md).
-/

namespace Sys2Proof.Machine

/-! ### Addresses and memory -/

/-- First address of PL_n's window. -/
def laneBase (n : Nat) : Nat := 0x100000 + n * 0x10000

/-- Address of the instruction word at `pc`. -/
def imemAddr (n pc : Nat) : Nat := laneBase n + 4 * pc

/-- Address of the data word at `a`. -/
def dmemAddr (n a : Nat) : Nat := laneBase n + 0x8000 + 4 * a

/-- A word of the lane's data addresses (R250): none outside the table. -/
def Dev.laneRead (d : Dev) (n : Nat) (r : LaneRun) (a : Nat) : Option Int :=
  if a < 0x2000 then some (sx 32 (Tbl.get 0 a (d.pl n).dmem))
  else if 0x2000 ≤ a ∧ a ≤ 0x2010 then some (sx 32 (r.f.taps.getD (a - 0x2000) 0))
  else if 0x2020 ≤ a ∧ a ≤ 0x202B then
    match Tbl.find (a - 0x2020) r.outs with
    | some v => some (sx 32 v)
    | none => some (sx 32 (d.rd F.plOut_value n (a - 0x2020)))
  else if 0x2040 ≤ a ∧ a ≤ 0x204F then some (sx 32 (r.f.params.getD (a - 0x2040) 0))
  else none

/-- A parity error stands in the data word at `a` (R270). -/
def Dev.dmemBad (d : Dev) (n a : Nat) : Bool := decide (a < 0x2000) && d.bad.contains (dmemAddr n a)

/-! ### Registers -/

/-- D_i as a signed integer. -/
def Lane.dr (p : Lane) (i : Nat) : Int := sx 32 (Tbl.get 0 i p.d)

/-- Replaces D_i. -/
def Lane.setD (p : Lane) (i : Nat) (x : Int) : Lane := { p with d := Tbl.set 0 i (ux 32 x) p.d }

/-- A_i. -/
def Lane.ar (p : Lane) (i : Nat) : Nat := Tbl.get 0 i p.a

/-- Replaces A_i, 14 bits. -/
def Lane.setA (p : Lane) (i : Nat) (x : Nat) : Lane := { p with a := Tbl.set 0 i (x % 16384) p.a }

/-- Replaces M_i, 14 bits. -/
def Lane.setM (p : Lane) (i : Nat) (x : Nat) : Lane := { p with m := Tbl.set 0 i (x % 16384) p.m }

/-- ACC_x. -/
def Lane.acc (p : Lane) (x : Nat) : Int := if x = 0 then p.acc0 else p.acc1

/-- Replaces ACC_x. -/
def Lane.setAcc (p : Lane) (x : Nat) (v : Int) : Lane := if x = 0 then { p with acc0 := v } else { p with acc1 := v }

/-- Post-modify: A := (A + M) mod 2^14 (R253). -/
def Lane.post (p : Lane) (i : Nat) (on : Bool) : Lane := if on then p.setA i (p.ar i + Tbl.get 0 i p.m) else p

/-! ### Results of an instruction -/

/-- What an instruction does. -/
inductive LRes where
  /-- It completes, taking `cost` cycles; `sat` and `accsat` set the sticky bits of PL_n_STAT. -/
  | next (p : Lane) (r : LaneRun) (cost : Nat) (sat accsat : Bool)
  /-- A store to the data word at `addr` completes in one cycle; the word is good again (R250, R270). -/
  | stored (p : Lane) (r : LaneRun) (addr : Nat)
  /-- A lane fault with its cause (R257). -/
  | fault (cause : Nat)
  /-- A data word has a parity error (R270). -/
  | parity (addr : Nat)
deriving DecidableEq, Repr

/-- The next program counter and repeat stack after the instruction at `pc` (R254). -/
def laneAdvance (pc : Nat) : List Rep → Nat × List Rep
  | [] => (pc + 1, [])
  | b :: rest =>
    if pc = b.stop then
      if b.lc + 1 < b.count then (b.start, { b with lc := b.lc + 1 } :: rest) else laneAdvance pc rest
    else (pc + 1, b :: rest)

/-- The run after an instruction that does not branch. -/
def LaneRun.advanced (r : LaneRun) : LaneRun :=
  let x := laneAdvance r.pc r.stack
  { r with pc := x.1, stack := x.2 }

/-- Completion in one cycle without a change of flags. -/
def LaneRun.step (r : LaneRun) (p : Lane) : LRes := .next p r.advanced 1 false false

/-- The run with new flags. -/
def LaneRun.flagged (r : LaneRun) (f : LFlags) : LaneRun := { r with z := f.z, n := f.n, v := f.v }

/-- An ALU instruction: D_i takes the saturated value of `x`, with the flags of R256. -/
def LaneRun.alu (r : LaneRun) (p : Lane) (i : Nat) (x : Int) : LRes :=
  .next (p.setD i (aluSat x)) (r.flagged (aluFlags x)).advanced 1 (aluFlags x).v false

/-- An accumulator instruction: ACC_x takes the saturated value of `v` (R251). -/
def LaneRun.accum (r : LaneRun) (p : Lane) (x : Nat) (v : Int) : LRes :=
  .next (p.setAcc x (sat72 v)) r.advanced 1 false (decide (sat72 v ≠ v))

/-- LC of the innermost block, 0 outside any block (R255). -/
def LaneRun.lc (r : LaneRun) : Nat := match r.stack with | b :: _ => b.lc | [] => 0

/-- A load of D_i from address `a`, the lane then changed by `post` (R250, R253). -/
def Dev.laneLoad (d : Dev) (n : Nat) (r : LaneRun) (i a : Nat) (post : Lane → Lane) : LRes :=
  if d.dmemBad n a then .parity (dmemAddr n a)
  else match d.laneRead n r a with
    | none => .fault 2
    | some v => r.step (post ((d.pl n).setD i v))

/-- A store of D_i to address `a` (R250, R253). -/
def Dev.laneStore (d : Dev) (n : Nat) (r : LaneRun) (i a : Nat) (post : Lane → Lane) : LRes :=
  let p := d.pl n
  let v := Tbl.get 0 i p.d
  if a < 0x2000 then .stored (post { p with dmem := Tbl.set 0 a v p.dmem }) r.advanced (dmemAddr n a)
  else if 0x2020 ≤ a ∧ a ≤ 0x202B then
    LaneRun.step { r with outs := Tbl.put (a - 0x2020) v r.outs } (post p)
  else .fault 2

/-- MACM (R251 to R253). -/
def Dev.laneMacm (d : Dev) (n : Nat) (r : LaneRun) (x a : Nat) (pa : Bool) (b : Nat) (pb : Bool) : LRes :=
  let p := d.pl n
  if d.dmemBad n (p.ar a) then .parity (dmemAddr n (p.ar a))
  else if d.dmemBad n (p.ar b) then .parity (dmemAddr n (p.ar b))
  else match d.laneRead n r (p.ar a), d.laneRead n r (p.ar b) with
    | some u, some v => r.accum ((p.post a pa).post b pb) x (p.acc x + u * v)
    | _, _ => .fault 2

/-- MAXI and MINI (R255): D_i and D_t take D_s and LC where `better` holds. -/
def LaneRun.extreme (r : LaneRun) (p : Lane) (i s t : Nat) (better : Bool) : LRes :=
  let v := if better then p.dr s else p.dr i
  .next (if better then (p.setD i v).setD t r.lc else p) (r.flagged (aluFlags v)).advanced 1 false false

/-- A repeat block of `count` iterations from the next address to `last` (R254). -/
def LaneRun.block (r : LaneRun) (p : Lane) (count last : Nat) : LRes :=
  let outside : Bool := match r.stack with | b :: _ => decide (b.stop < last) | [] => false
  if last < r.pc + 1 ∨ outside then .fault 3
  else if count = 0 then
    let x := laneAdvance last r.stack
    .next p { r with pc := x.1, stack := x.2 } 1 false false
  else if 4 ≤ r.stack.length then .fault 3
  else .next p { r with pc := r.pc + 1, stack := { start := r.pc + 1, stop := last, count := count } :: r.stack } 1 false false

/-- The blocks that contain a branch's target, and the blocks around them (R254). -/
def blocksAt (target : Nat) : List Rep → List Rep
  | [] => []
  | b :: rest => if b.start ≤ target ∧ target ≤ b.stop then b :: rest else blocksAt target rest

/-- A branch, taken or not (R252, R254). -/
def LaneRun.branch (r : LaneRun) (p : Lane) (taken : Bool) (target : Nat) : LRes :=
  if r.stack.any (fun b => b.stop == r.pc) then .fault 3
  else if taken then .next p { r with pc := target, stack := blocksAt target r.stack } 3 false false
  else r.step p

/-- A REPD count from a data register: none above 4,096 or negative (R254). -/
def repdCount (x : Int) : Option Nat := if x < 0 ∨ 4096 < x then none else some x.toNat

/-! ### The instructions -/

/-- What a lane instruction other than END does (R251 to R258). -/
def Dev.laneDo (d : Dev) (n : Nat) (r : LaneRun) (o : LOp) : LRes :=
  let p := d.pl n
  match o with
  | .nop => r.step p
  | .ld i a pa => d.laneLoad n r i (p.ar a) (·.post a pa)
  | .st i a pa => d.laneStore n r i (p.ar a) (·.post a pa)
  | .ldd i a => d.laneLoad n r i a id
  | .std i a => d.laneStore n r i a id
  | .ldi i k => r.step (p.setD i (sx 16 k))
  | .ldih i k => r.step { p with d := Tbl.set 0 i (k * 65536 + Tbl.get 0 i p.d % 65536) p.d }
  | .mov i s => r.step (p.setD i (p.dr s))
  | .lda i k => r.step (p.setA i k)
  | .ldm i k => r.step (p.setM i k)
  | .mova i s => r.step (p.setA i (Tbl.get 0 s p.d))
  | .movm i s => r.step (p.setM i (Tbl.get 0 s p.d))
  | .add i s t => r.alu p i (p.dr s + p.dr t)
  | .sub i s t => r.alu p i (p.dr s - p.dr t)
  | .neg i s => r.alu p i (-p.dr s)
  | .abs i s => r.alu p i |p.dr s|
  | .min i s t => r.alu p i (Min.min (p.dr s) (p.dr t))
  | .max i s t => r.alu p i (Max.max (p.dr s) (p.dr t))
  | .and i s t => r.alu p i (bitwise (· &&& ·) (p.dr s) (p.dr t))
  | .or i s t => r.alu p i (bitwise (· ||| ·) (p.dr s) (p.dr t))
  | .xor i s t => r.alu p i (bitwise (· ^^^ ·) (p.dr s) (p.dr t))
  | .shl i s k => r.alu p i (p.dr s * 2 ^ k.val)
  | .shr i s k => r.alu p i (rneShr (p.dr s) k)
  | .mulq i s t => r.alu p i (mulq (p.dr s) (p.dr t))
  | .cmp s t => (r.flagged (cmpFlags (p.dr s) (p.dr t))).step p
  | .mpy x s t => r.accum p x (p.dr s * p.dr t)
  | .mac x s t => r.accum p x (p.acc x + p.dr s * p.dr t)
  | .msu x s t => r.accum p x (p.acc x - p.dr s * p.dr t)
  | .macm x a pa b pb => d.laneMacm n r x a pa b pb
  | .clr x => r.accum p x 0
  | .ldacc x s => r.accum p x (p.dr s * 2 ^ 31)
  | .accadd x => r.accum p x (p.acc0 + p.acc1)
  | .ext i x sh => r.alu p i (extOf (p.acc x) (sx 6 sh))
  | .accsh x sh => r.accum p x (scale2 (p.acc x) (sx 6 sh))
  | .maxi i s t => r.extreme p i s t (decide (p.dr i < p.dr s))
  | .mini i s t => r.extreme p i s t (decide (p.dr s < p.dr i))
  | .rep c l => r.block p (if c.val = 0 then 4096 else c) l
  | .repd s l => match repdCount (p.dr s) with | some c => r.block p c l | none => .fault 3
  | .br t => r.branch p true t
  | .brc c t => r.branch p (condMet c { z := r.z, n := r.n, v := r.v }) t
  | .fin => r.step p

/-! ### Runs -/

/-- The run in progress ends without publication. -/
def Dev.runEnd (d : Dev) (n : Nat) (r : LaneRun) : Dev := (d.modPl n fun p => { p with run := none }).wr F.plStat_lasthook r.f.hook n

/-- Abandons the run in progress (R265): OVERRUN, the count and PNT_OVERRUN. -/
def Dev.abandon (d : Dev) (n : Nat) (r : LaneRun) : Dev :=
  (((d.runEnd n r).set1 F.plStat_overrun n).bump F.plCnt_overruns n).ev E.pntOverrun (n + 256 * r.f.hook)
    (d.rd F.plHook_budget n r.f.hook)

/-- A parity error at an address of the lane's window abandons the run (R270). -/
def Dev.laneParity (d : Dev) (n : Nat) (r : LaneRun) (addr : Nat) : Dev :=
  let d := ((d.abandon n r).set1 F.plStat_parity n).ev E.pntParity n (addr - laneBase n)
  { d with
    bad := if d.bad.contains addr then d.bad else addr :: d.bad
    reloads := if d.reloads.contains addr then d.reloads else d.reloads ++ [addr] }

/-- RUN becomes 0 (R257, R268): the run and the waiting hooks are gone, and PNT_RUNSTATE is logged. -/
def Dev.laneStopped (d : Dev) (n : Nat) (byFault : Bool) : Dev :=
  if !(d.flag F.plCtrl_run n) then d
  else ((d.clr F.plCtrl_run n).modPl n fun p => { p with run := none, wait := [], due := [] }).ev E.pntRunstate n (256 * b2n byFault)

/-- A lane fault (R257). -/
def Dev.laneFault (d : Dev) (n : Nat) (r : LaneRun) (cause : Nat) : Dev :=
  let w := if r.pc < 4096 then Tbl.get 0 r.pc (d.pl n).imem else 0
  let d := ((((d.runEnd n r).set1 F.plStat_fault n).wr F.plFlt_pc r.pc n).wr F.plFlt_cause cause n)
  (d.ev E.pntFault (n + 256 * cause + 65536 * (r.pc % 4096)) w).laneStopped n true

/-- The run of PL_n that may execute an instruction: in progress and within its budget (R265). -/
def Dev.laneRun? (d : Dev) (n : Nat) : Option LaneRun :=
  match (d.pl n).run with
  | some r => if r.cycles < d.rd F.plHook_budget n r.f.hook then some r else none
  | none => none

/-- The instruction at the program counter of a run, where its word is good (R258, R270). -/
def Dev.laneNext (d : Dev) (n : Nat) (r : LaneRun) : Option LOp :=
  if 4096 ≤ r.pc ∨ d.bad.contains (imemAddr n r.pc) then none else LOp.decode (Tbl.get 0 r.pc (d.pl n).imem)

/-- The effect of a completed instruction on the device. -/
def Dev.laneApply (d : Dev) (n : Nat) (r : LaneRun) : LRes → Dev
  | .next p r' cost sat accsat =>
    let d := d.modPl n fun _ => { p with run := some { r' with cycles := r.cycles + cost } }
    (d.on sat (·.set1 F.plStat_sat n)).on accsat (·.set1 F.plStat_accsat n)
  | .stored p r' a =>
    (d.modPl n fun _ => { p with run := some { r' with cycles := r.cycles + 1 } }).mended a
  | .fault cause => d.laneFault n r cause
  | .parity addr => d.laneParity n r addr

/-- PL_n executes the instruction `o`: it takes effect when the run in progress has come to it (R252, R258). -/
def Dev.laneOp (d : Dev) (n : Nat) (o : LOp) : Dev :=
  match d.laneRun? n with
  | none => d
  | some r => if d.laneNext n r = some o then d.laneApply n r (d.laneDo n r o) else d

/-- END of a run (R261, R262): every output written in it is published, consumers that already started are late, a non-zero EVT
logs PNT_USER where it is enabled. -/
def Dev.publish (d : Dev) (n : Nat) (r : LaneRun) : Dev :=
  let cyc := r.cycles + 1
  let t := max d.now (r.at_ + 2500 * cyc)
  let edge := (t + 2000 + 1999) / 2000 * 2000
  let mask := (r.outs.map (fun e => 2 ^ e.1)).sum
  let p := d.pl n
  let old := (List.range 4).map (fun k => (k, d.rd F.plOut_value n k))
  let tb := d.rd F.axTick_tb (d.rd F.plCtrl_axis n)
  let d := r.outs.foldl (fun d e => (d.wr F.plOut_value e.2 n e.1).note (0x30 + e.1) n tb r.f.ts (sx 32 e.2)) d
  let d := d.modPl n fun q =>
    { q with
      pub := q.pub ||| mask
      last := some { edge := edge, start := r.at_, mask := mask, old := old, oldPub := p.pub } }
  let d := ((d.runEnd n r).wr F.plCyc_last cyc n).wr F.plCyc_max (max cyc (d.rd F.plCyc_max n)) n
  let a := d.rd F.plCtrl_axis n
  let late (k : Nat) : Bool :=
    match Tbl.find (consumer k) (d.axis a).tick.startAt with
    | some s => bitOf mask k && d.flag (outFld k) n && d.flag F.plCtrl_bind n && decide (r.at_ < s) && decide (s ≤ edge)
    | none => false
  let d := d.each ((List.range 4).filter late) fun k d =>
    d.laneLate n k edge ((Tbl.find (consumer k) (d.axis a).tick.startAt).getD 0)
  match Tbl.find 4 r.outs with
  | some v => if v ≠ 0 ∧ d.flag F.plOuten_evt n then d.ev E.pntUser n v else d
  | none => d

/-- Row END (R262). -/
def Dev.laneEnd (d : Dev) (n : Nat) : Dev :=
  match d.laneRun? n with
  | none => d
  | some r => if d.laneNext n r = some .fin then d.publish n r else d

/-- Row LANE_BUDGET_EXPIRY (R265). -/
def Dev.laneExpiry (d : Dev) (n : Nat) : Dev :=
  match (d.pl n).run with
  | some r => if d.rd F.plHook_budget n r.f.hook ≤ r.cycles then d.abandon n r else d
  | none => d

/-- Row PNT_FAULT (R257): the causes that no instruction carries, 1 and 4. -/
def Dev.pntFaultRow (d : Dev) (n : Nat) : Dev :=
  match d.laneRun? n with
  | none => d
  | some r =>
    if 4096 ≤ r.pc then d.laneFault n r 4
    else if d.bad.contains (imemAddr n r.pc) then d
    else match LOp.decode (Tbl.get 0 r.pc (d.pl n).imem) with
      | none => d.laneFault n r 1
      | some _ => d

/-- Row PNT_PARITY (R270): a parity error in the fetch, or in a data word that the run reads, at byte offset `off` of the lane's
window. -/
def Dev.pntParityRow (d : Dev) (n off : Nat) : Dev :=
  match (d.pl n).run with
  | none => d
  | some r =>
    if (off < 0x4000 ∨ (0x8000 ≤ off ∧ off < 0x10000)) ∧ off % 4 = 0 then d.laneParity n r (laneBase n + off) else d

/-! ### Hooks -/

/-- A tap in the V or P scale (R260). -/
def tapScale (x : Int) (sh : Nat) : Nat := ux 32 (satS 32 (rneShr x sh))

/-- The input taps of AX_a at this instant, for hook `k` of PL_n and update `j` (R259). -/
def Dev.taps (d : Dev) (n a k : Nat) (j : Int) : List Nat :=
  let h := d.axis a
  let v (x : Int) := tapScale x (d.rd F.plScale_vsh n)
  [ux 32 h.out.i0, ux 32 h.out.i1, ux 32 h.out.u0, ux 32 h.out.idem, v h.fb.vm, v h.out.w, v (d.vref a), v (d.aref a),
    tapScale (d.loop a 0).e (d.rd F.plScale_psh n), ux 32 h.fb.xm] ++
  ((List.range 4).map fun i => d.rd F.snsAin_ain i) ++
  [d.rd F.snsVbus_v, k + 65536 * ux 16 j, h.out.theta % 2 ^ 32]

/-- A firing takes its place behind those that fell due before it, and in the order CUR, VEL, POS among those that fell due
together (R264). -/
def waitIn (f : Firing) : List Firing → List Firing
  | [] => [f]
  | g :: l => if g.dueAt = f.dueAt ∧ f.hook < g.hook then f :: g :: l else g :: waitIn f l

/-- Row HOOK_DUE (R263, R264): hook `k` of PL_n falls due; its taps and parameters are sampled and it waits, or it is dropped. -/
def Dev.hookDue (d : Dev) (n k : Nat) : Dev :=
  let p := d.pl n
  match Tbl.find k p.due with
  | none => d
  | some h =>
    if d.now < h.at_ then d
    else
      let d := d.modPl n fun p => { p with due := Tbl.erase k p.due }
      let busy := p.wait.any (fun f => f.hook == k) || (match p.run with | some r => r.f.hook == k | none => false)
      if busy then
        (((d.set1 F.plStat_overrun n).set1 F.plStat_skip n).bump F.plCnt_skips n).ev E.pntOverrun (n + 256 * k)
          (d.rd F.plHook_budget n k + 65536)
      else
        let f : Firing :=
          { hook := k, dueAt := h.at_, ts := h.ts, taps := d.taps n (d.rd F.plCtrl_axis n) k h.j
            params := (List.range 16).map fun i => d.rd F.plParam_value n i }
        d.modPl n fun p => { p with wait := waitIn f p.wait }

/-- Row LANE_RUN_START (R249, R264): the first waiting hook starts; the flags and the repeat stack are cleared and the program
counter is loaded from ENTRY. -/
def Dev.laneStart (d : Dev) (n : Nat) : Dev :=
  let p := d.pl n
  match p.run, p.wait with
  | none, f :: rest =>
    if d.flag F.plCtrl_run n then
      d.modPl n fun p => { p with wait := rest, run := some { f := f, pc := d.rd F.plHook_entry n f.hook, at_ := d.now } }
    else d
  | _, _ => d

/-! ### Writes -/

/-- The using loops of PL_n with output enables `en` (R268): 1 velocity, 2 and 3 current. -/
def Dev.usingLoops (d : Dev) (n en : Nat) : List Nat :=
  let a := d.rd F.plCtrl_axis n
  let c1 := bitOf en 1 && bitOf (d.rd F.axSelcfg_en a) 0 && !(d.flag F.axSelcfg_c1src a)
  if !(d.flag F.plCtrl_bind n) then []
  else (if bitOf en 0 || bitOf en 2 || c1 then [1] else []) ++ (if bitOf en 3 then [2, 3] else [])

/-- PL_n_OUTEN as a number. -/
def Dev.outen (d : Dev) (n : Nat) : Nat :=
  d.rd F.plOuten_ffadd n + 2 * d.rd F.plOuten_c1dem n + 4 * d.rd F.plOuten_vfilt n + 8 * d.rd F.plOuten_iq n +
    16 * d.rd F.plOuten_iqmode n + 32 * d.rd F.plOuten_evt n

/-- A using loop of PL_n is CLOSED (R163, R268). -/
def Dev.laneUsed (d : Dev) (n en : Nat) : Bool :=
  (d.usingLoops n en).any fun l => (d.loop (d.rd F.plCtrl_axis n) l).st != .opened

/-- A refused write to a lane logs PNT_WRITE_REFUSED (R9, R272). -/
def Dev.laneRefused (d : Dev) (n port addr : Nat) (c : Code) : Code × Dev :=
  (c, if c = .loopClosed ∨ c = .wrongState then d.ev E.pntWriteRefused (n + 256 * port) addr port else d)

/-- Another running lane with BIND = 1 names the axis of PL_n (R267). -/
def Dev.otherBound (d : Dev) (n : Nat) : Bool :=
  (List.range 8).any fun l => l != n && d.flag F.plCtrl_run l && d.bound l (d.rd F.plCtrl_axis n)

/-- RUN goes from 0 to 1: every part of the lane state is cleared (R249), nothing counts as published (R261). -/
def Dev.laneClear (d : Dev) (n : Nat) : Dev :=
  d.modPl n fun p => { imem := p.imem, dmem := p.dmem }

/-- PL_n_CTRL.RUN is written (R266 to R268). -/
def Dev.laneRunWrite (d : Dev) (n : Nat) (v : Bool) (port : Nat) : Code × Dev :=
  let addr := F.plCtrl_run.addr n 0
  if v == d.flag F.plCtrl_run n then (.ok, d)
  else if v ∧ !(d.budgetFits n) then (.range, d)
  else if v ∧ d.flag F.plCtrl_bind n ∧ d.otherBound n then d.laneRefused n port addr .wrongState
  else if d.laneUsed n (d.outen n) then d.laneRefused n port addr .loopClosed
  else if v then (.ok, ((d.laneClear n).set1 F.plCtrl_run n).ev E.pntRunstate n 1)
  else (.ok, d.laneStopped n false)

/-- PL_n_CTRL.BIND and AXIS are written (R267). -/
def Dev.laneBindWrite (d : Dev) (n : Nat) (bind : Bool) (axis : Nat) (port : Nat) : Code × Dev :=
  if d.flag F.plCtrl_run n then d.laneRefused n port (F.plCtrl_run.addr n 0) .wrongState
  else (.ok, (d.wr F.plCtrl_bind (b2n bind) n).wr F.plCtrl_axis axis n)

/-- A word of the lane's memories is written by a partner (R250, R268): `off` is its byte offset in the window. -/
def Dev.laneMemWrite (d : Dev) (n off w port : Nat) : Code × Dev :=
  let code := decide (off < 0x4000)
  let fix (d : Dev) : Dev := d.mended (laneBase n + off)
  let old := if code then Tbl.get 0 (off / 4) (d.pl n).imem else Tbl.get 0 ((off - 0x8000) / 4) (d.pl n).dmem
  if !code ∧ (off < 0x8000 ∨ 0x10000 ≤ off) then (.noSuchAddress, d)
  else if off % 4 ≠ 0 then (.range, d)
  else if code ∧ d.flag F.plCtrl_run n then d.laneRefused n port (laneBase n + off) .wrongState
  else if old ≠ w % 2 ^ 32 ∧ d.laneUsed n (d.outen n) then d.laneRefused n port (laneBase n + off) .loopClosed
  else if code then (.ok, fix (d.modPl n fun p => { p with imem := Tbl.set 0 (off / 4) (w % 2 ^ 32) p.imem }))
  else (.ok, fix (d.modPl n fun p => { p with dmem := Tbl.set 0 ((off - 0x8000) / 4) (w % 2 ^ 32) p.dmem }))

/-- PL_n_OUTEN is written (R268): the using loops before and after the write count. -/
def Dev.laneOutenWrite (d : Dev) (n v port : Nat) : Code × Dev :=
  if v ≠ d.outen n ∧ (d.laneUsed n (d.outen n) ∨ d.laneUsed n v) then d.laneRefused n port (F.plOuten_ffadd.addr n 0) .loopClosed
  else
    (.ok, (((((d.wr F.plOuten_ffadd v n).wr F.plOuten_c1dem (v / 2) n).wr F.plOuten_vfilt (v / 4) n).wr F.plOuten_iq (v / 8) n).wr
      F.plOuten_iqmode (v / 16) n).wr F.plOuten_evt (v / 32) n)

/-- PL_n_PARAM_k is written (R269): it is seen from the next firing on. -/
def Dev.paramWrite (d : Dev) (n k v : Nat) : Code × Dev := (.ok, d.wr F.plParam_value v n k)

end Sys2Proof.Machine
end

