-- ==== Sys2Proof/Machine/Gather.lean ====
section
/-!
DEFINITION. Gather: arming, rows, triggers, capture and readout (R273 to R286, 10_gather.md).
-/

namespace Sys2Proof.Machine

/-- Changes the state of Gather. -/
def Dev.modGth (d : Dev) (f : GthH → GthH) : Dev := { d with gth := f d.gth }

/-! ### Rows -/

/-- The enabled channels, ascending (R273). -/
def Dev.gthOn (d : Dev) : List Nat := (List.range 8).filter (bitOf (d.rd F.gthCtrl_chen))

/-- DEPTH (R273). -/
def Dev.gthDepth (d : Dev) : Nat := 131072 / d.gthOn.length

/-- Updates of the reference axis from one row to the next (R274). -/
def Dev.rowUpdates (d : Dev) : Nat :=
  let a := d.rd F.gthCtrl_axis
  let t := match d.rd F.gthCtrl_tk with
    | 0 => d.rd F.axTick_cdiv a
    | 1 => d.rd F.axTick_cdiv a * d.rd F.axTick_vdiv a
    | _ => d.rd F.axTick_cdiv a * d.rd F.axTick_vdiv a * d.rd F.axTick_pdiv a
  t * d.rd F.gthDiv_div

/-- SPOS of the leg in slot 0 of AX_a, 250 ps units; 0 without one. -/
def Dev.slotSpos (d : Dev) (a : Nat) : Int := match d.slotLeg a 0 with | some l => d.rdI F.snsSpos_spos l | none => 0

/-- Row time t_k, 2^-16 ns: the period start at or before the tick's update, plus the SPOS of slot 0 (R274). -/
def Dev.rowTime (d : Dev) (k : Int) : Int :=
  let a := d.rd F.gthCtrl_axis
  let period := k * d.rowUpdates / (1 + d.rd F.axTick_dbl a : Nat)
  (d.rd F.axCphase_phase a + period * d.rd F.axCper_per a + d.slotSpos a) * 16384

/-- The reference time base now, 2^-16 ns. -/
def Dev.gthNow (d : Dev) : Int := d.tb16 d.gthTb

/-- The first row whose commit lies ahead. -/
def Dev.nextRow (d : Dev) : Int :=
  match d.gth.next with
  | some k => k
  | none =>
    let lag : Int := d.rd F.gthLag_lag * 65536
    let k := (d.gthNow - lag - d.rowTime 0) / (16384 * d.rowIv : Nat) + 1
    if d.gthNow < d.rowTime k + lag then k else k + 1

/-- The commit of the next row is due (R276). -/
def Dev.commitDue (d : Dev) : Bool := decide (d.rowTime d.nextRow + d.rd F.gthLag_lag * 65536 ≤ d.gthNow)

/-- Sum and number of the values that a level source, noted at its changes, gives in the REF clocks (40 ns of root time) above `lo` up
to `hi` (R275); notes newest first. -/
def refSum (lo : Nat) : Nat → List SigVal → Int × Nat
  | _, [] => (0, 0)
  | hi, s :: l =>
    let cut := max lo (min hi ((s.t + 39999) / 40000 - 1).toNat)
    let r := refSum lo cut l
    (r.1 + s.v * (hi - cut : Nat), r.2 + (hi - cut))

/-- The value of a channel for a row at `tk`, the row before it lying at `tp` (R275): the mean of its interval, or the latest value
at or before `tk`. None where the source has given no value. -/
def Dev.chanValue (d : Dev) (c : Nat) (tp tk : Int) : Option Rat :=
  let sig := d.rd F.gthSrc_sig c
  let inst := d.rd F.gthSrc_inst c
  if sig = 0 then some 0
  else if sig = 0x48 then
    some ((d.fq inst).countAt (tk - d.tb16 d.gthTb + d.fqNow inst) : Int)
  else
    let l := (Tbl.get [] (sigKey sig inst) d.gth.sigs).map fun s => (d.refTime s, s.v)
    let inIv := l.filter fun x => decide (tp < x.1) && decide (x.1 ≤ tk)
    let clock (t : Int) : Nat := d.rootAt d.gthTb (t * 2 ^ 24) / 40000
    let level := if sig = 0x50 then refSum (clock tp) (clock tk) (Tbl.get [] (sigKey sig inst) d.gth.sigs) else (0, 0)
    if d.flag F.gthFmt_avg c ∧ 0 < level.2 then some ((level.1 : Rat) / (level.2 : Nat))
    else if d.flag F.gthFmt_avg c ∧ sig ≠ 0x50 ∧ inIv ≠ [] then some (((inIv.map (·.2)).sum : Rat) / (inIv.length : Nat))
    else if sig = 0x50 ∧ l = [] then some (d.rd F.fioIn_level + 65536 * d.rd F.fioRb_level : Nat)
    else (l.find? fun x => decide (x.1 ≤ tk)).map fun x => (x.2 : Rat)

/-- The stored word of a channel and whether it was clipped (R275). -/
def Dev.chanWord (d : Dev) (c : Nat) (y : Rat) : Int × Bool :=
  let xb := d.rd F.gthFmt_xb c
  let w := rneQ (y * (2 ^ xb : Nat) / (2 ^ d.rd F.gthFmt_sh c : Nat))
  (satS 32 w, decide (satS 32 w ≠ w))

/-- The words of a row (R273, R275). A source without a value gives a free value. -/
def Dev.rowWords (d : Dev) (tp tk : Int) : Dev × List (Nat × Int) :=
  d.gthOn.foldl
    (fun (x : Dev × List (Nat × Int)) c =>
      let (d, y) : Dev × Rat := match x.1.chanValue c tp tk with
        | some y => (x.1, y)
        | none => (x.1.freed, (sx 32 x.1.free : Rat))
      let w := d.chanWord c y
      (d.on w.2 (·.set1 F.gthChst_clip c), x.2 ++ [(c, w.1)]))
    (d, [])

/-! ### States -/

/-- Gather changes state and logs GTH_STATE (R277). -/
def Dev.gthTo (d : Dev) (st : Nat) : Dev := (d.wr F.gthStat_state st).ev E.gthState st (d.rd F.gthStat_capseq)

/-- Entry to DONE (R277, R282, R283): the capture is the rows from the oldest pre-trigger row on. -/
def Dev.gthDone (d : Dev) : Dev :=
  let g := d.gth
  let last := g.trigSeq + d.rd F.gthPost_post
  let cap := (((g.rows.drop (g.count - last)).take (min g.count last - (g.trigSeq - d.rd F.gthPre_pre))).map (·.2)).reverse
  let t0 := (match cap with | (t, _) :: _ => t | [] => 0).toNat
  let d := (((d.wr F.gthT0sec_sec (secOf t0)).wr F.gthT0ns_ns (nsOf t0)).wr F.gthRows_rows cap.length).set1 F.gthStat_hascap
  let d := (d.wr F.gthStat_capseq (d.rd F.gthStat_capseq + 1)).modGth fun g =>
    { g with cap := cap, doneAt := d.now, held := 0, wait := none }
  Dev.gthTo { d with bad := d.bad.filter fun a => a < 0x300000 || 0x380000 ≤ a } 4

/-- DONE where POST rows from the trigger row on have been committed (R277). -/
def Dev.gthFull (d : Dev) : Dev :=
  if d.rd F.gthStat_state = 3 ∧ d.gth.trigSeq + d.rd F.gthPost_post ≤ d.gth.count then d.gthDone else d

/-! ### Triggers -/

/-- The trigger row of an instant: the row a with t_a ≤ t_e < t_a + T_row (R280). -/
def Dev.rowOf (d : Dev) (te : Int) : Int := (te - d.rowTime 0) / (16384 * d.rowIv : Nat)

/-- TRIGBUS is driven low for an accepted trigger (R284). -/
def Dev.trigbusOut (d : Dev) (te : Int) : Dev :=
  if !(d.flag F.gthTbout_en) then d
  else
    let at_ := te + d.rd F.gthTbout_lat * 65536
    let late := d.gthNow - (at_ - 64 * 65536)
    let d := d.on (decide (0 < late)) fun d => (d.set1 F.gthStat_tblate).ev E.gthTboutLate 0 (dwU (rneShr (d.gthNow - at_) 16))
    let p : Pulse := { ball := 2, tb := d.gthTb, at_ := if 0 < late then d.gthNow else at_, width := 10 * d.rd F.gthTbout_width }
    { d with tim := { d.tim with pulses := (p :: d.tim.pulses).take 16 } }

/-- How many committed rows lie after row `row`, of which `k` is the newest (R281): by its place in the buffer, for a row no longer
there by its number. -/
def Dev.behind (d : Dev) (k row : Int) : Int :=
  match d.gth.rows.findIdx? (fun r => decide (r.1 ≤ row)) with
  | some i => i
  | none => k - row

/-- An accepted trigger (R281, R284, R285), its row `seq` rows after row 0. -/
def Dev.gthAccept (d : Dev) (t : Trig) (row : Int) (seq : Nat) : Dev :=
  let te := t.te.toNat
  let u := rneQ (((t.te - d.rowTime row : Int) : Rat) * (2 ^ 32 : Nat) / ((16384 * d.rowIv : Nat) : Rat))
  let d := ((d.wr F.gthTinfo_kind t.kind).wr F.gthTinfo_src t.src).wr F.gthTfrac_u (satU 32 u)
  let d := ((d.wr F.gthTsec_sec (secOf te)).wr F.gthTns_ns (nsOf te)).wr F.gthTfr_frac (fracOf te)
  let d := (d.modGth fun g => { g with trigRow := row, trigSeq := seq, wait := none }).ev E.gthTriggered (t.kind + 4 * t.src) (nsOf te)
  let d := ((d.gthTo 3).trigbusOut t.te)
  let d := d.on (d.flag F.gthFrame_txen) fun d =>
    d.sendEvx (d.rd F.gthFrame_ports) 5 7 0 0xFFF (fun _ => d.mcast) (fun _ => trigPayload (d.rd F.gthFrame_group) te)
  d.gthFull

/-- The hold-off runs: DONE with AUTO = 1 (R283). -/
def Dev.holdoff (d : Dev) : Bool := d.rd F.gthStat_state == 4 && d.flag F.gthCtrl_auto

/-- The trigger row of a trigger (R279, R280). -/
def Dev.trigRowOf (d : Dev) (t : Trig) : Int := t.row.getD (d.rowOf t.te)

/-- The trigger waits for its row, unless one with an earlier instant does (R281). -/
def Dev.trigWait (d : Dev) (t : Trig) : Dev :=
  d.modGth fun g => { g with wait := match g.wait with
    | some w => if w.te ≤ t.te then some w else some t
    | none => some t }

/-- A trigger is judged (R281). -/
def Dev.gthJudge (d : Dev) (t : Trig) : Dev :=
  let row := d.trigRowOf t
  let st := d.rd F.gthStat_state
  if st = 1 then d.bump F.gthCnt_early
  else if st = 3 ∨ d.holdoff then (d.bump F.gthCnt_extra).modGth fun g => { g with held := g.held + 1 }
  else if st ≠ 2 then d
  else
    match d.gth.newest with
    | none => if row < d.gth.row0 then d.bump F.gthCnt_early else d.trigWait t
    | some (k, _) =>
      if k < row then d.trigWait t
      else
        let b := d.behind k row
        let seq := (d.gth.count : Int) - 1 - b
        if seq < d.rd F.gthPre_pre then d.bump F.gthCnt_early
        else if (d.gthDepth : Int) - d.rd F.gthPre_pre < b then (d.bump F.gthCnt_tooold).ev E.gthTooOld t.kind (dwU b)
        else d.gthAccept t row seq.toNat

/-- The class S condition at a row with stored word `w` (R279): whether it triggers. -/
def Dev.classS (d : Dev) (w : Int) : Bool × Dev :=
  let L := d.rdI F.gthTlevel_l
  let hy : Int := d.rd F.gthThyst_hy
  let g := d.gth
  let rise : Bool := match g.prevW with | some p => decide (p < L) && decide (L ≤ w) && g.low | none => false
  let fall : Bool := match g.prevW with | some p => decide (L ≤ p) && decide (w < L) && g.high | none => false
  let hit := match d.rd F.gthTrig_cond with
    | 0 => rise | 1 => fall | 2 => rise || fall | 3 => decide (L ≤ w) | _ => decide (w < L)
  (d.flag F.gthTrig_sen && hit,
    d.modGth fun g => { g with
      prevW := some w
      low := (g.low && !rise) || decide (w < L - hy)
      high := (g.high && !fall) || decide (L + hy < w) })

/-- The class S trigger of row `k` at `tk`, where the stored word of its channel makes one (R279). -/
def Dev.classSAt (d : Dev) (k tk : Int) (w : Option Int) : List Trig × Dev :=
  match w with
  | none => ([], d)
  | some w => let x := d.classS w; (if x.1 then [{ kind := 0, te := tk, row := some k }] else [], x.2)

/-- A row of the hold-off (R276, R281, R283): it goes into no capture, but the class S condition is judged on it. -/
def Dev.rowHoldoff (d : Dev) : Dev :=
  let k := d.nextRow
  let tk := d.rowTime k
  let c := d.rd F.gthTrig_sch
  let (d, y) : Dev × Option Rat :=
    if !(d.flag F.gthTrig_sen) then (d, none)
    else match d.chanValue c (d.rowTime (k - 1)) tk with
      | some y => (d, some y)
      | none => (d.freed, some (sx 32 d.free : Rat))
  let x := (d.modGth fun g => { g with next := some (k + 1) }).classSAt k tk (y.map fun y => (d.chanWord c y).1)
  x.1.foldl (fun d t => d.gthJudge t) x.2

/-- Row ROW_COMMIT (R276, R277, R279, R281): the next row is committed and its triggers are judged. -/
def Dev.rowCommit (d : Dev) : Dev :=
  if !(d.gthRuns || d.holdoff) ∨ !d.commitDue then d
  else if d.holdoff then d.rowHoldoff
  else
    let k := d.nextRow
    let tk := d.rowTime k
    let (d, ws) := d.rowWords (d.rowTime (k - 1)) tk
    let first := d.gth.newest.isNone
    let d := d.modGth fun g =>
      { g with
        next := some (k + 1), newest := some (k, tk), row0 := if first then k else g.row0, count := g.count + 1
        rows := ((k, tk, ws.map fun x => ux 32 x.2) :: g.rows).take d.gthDepth }
    let d := if d.rd F.gthStat_state = 1 ∧ d.rd F.gthPre_pre ≤ d.gth.count then d.gthTo 2 else d
    let (s, d) := d.classSAt k tk ((ws.find? (fun x => x.1 == d.rd F.gthTrig_sch)).map (·.2))
    -- the waiting trigger of an earlier row or of this one; class S wins a tie
    let w := match d.gth.wait with
      | some t => if d.trigRowOf t ≤ k then [t] else []
      | none => []
    let d := if w = [] then d else d.modGth fun g => { g with wait := none }
    let order := match s, w with
      | [a], [b] => if d.trigRowOf b < k then [b, a] else [a, b]
      | a, b => a ++ b
    (order.foldl (fun d t => d.gthJudge t) d).gthFull

/-- Row CLASS_E_TRIGGER (R280, R281): the earliest stamped edge that awaits judgement is judged. -/
def Dev.classE (d : Dev) : Dev :=
  match d.gth.edges with
  | [] => d
  | (s, te) :: rest => (d.modGth fun g => { g with edges := rest }).gthJudge { kind := 1, src := s, te := te }

/-- Row TRIG_FRAME_TRIGGER (R285): a TRIG frame is taken from Q_25; with RXEN and its group it is a class E trigger. -/
def Dev.trigFrameTrigger (d : Dev) : Dev :=
  match d.net.q25 with
  | [] => d
  | f :: rest =>
    let d := { d with net := { d.net with q25 := rest } }
    if d.flag F.gthFrame_rxen ∧ f.group = d.rd F.gthFrame_group then
      d.gthJudge { kind := 3, te := d.gthNow + smod (f.sec * sec16 + f.ns * 65536 + f.frac : Nat) d.gthNow span16 }
    else d

/-! ### Commands -/

/-- Two of the axes in `live` have other ticks, or the current stages of one can be due while outer stages of the other run, with every
stage of its kind at its cost (R31, R32): the stages of one kind can then hold up those of the other. -/
def Dev.stagesMeet (d : Dev) (live : List Nat) : Bool :=
  live.any fun a => live.any fun b =>
    let tc : Int := d.tc250 a
    let cur : Int := 4 * d.latency a % tc
    let out : Int := (d.slotSpos b + 40 * d.rd F.axTick_outer b) % tc
    let curLen : Int := 512 * live.length
    let outLen : Int := 448 * live.length
    d.rd F.axTick_tb a != d.rd F.axTick_tb b || d.tc250 a != d.tc250 b || d.rd F.axCphase_phase a != d.rd F.axCphase_phase b ||
      decide ((out - cur) % tc < curLen) || decide ((cur - out) % tc < outLen)

/-- Time after its sample time at which the word of FA_n is valid, ns, rounded up (R225, R227, R228). -/
def Dev.faAvail (d : Dev) (n : Nat) : Nat :=
  let P : Int := 2500 * d.rd F.faCtrl_div n
  let clocks : Int := d.rd F.faFrm_cmdlen n + (if d.flag F.faCtrl_start n then d.rd F.faFrm_ackmax n else 0) + d.rd F.faFrm_rlen n
  ((clocks * P + 2500 * d.rd F.faLdly_ldly n + P / 2 + 200000 - d.faLeadPs n + 999) / 1000).toNat

/-- The delay in ns after its reference instant at which a value of a source can become available at the latest (R276), from the
stage order and costs of R31 and R32, the sense latency, OUTER, the feedback frames and the lane budgets. What the spec gives no bound
for is a free value. -/
def Dev.avail (d : Dev) (sig inst : Nat) : Nat :=
  let live (a : Nat) := (List.range 8).filter fun b => !(d.disabled b) || b == a
  let n (a : Nat) := (live a).length
  let meet (a k : Nat) : Nat := if d.stagesMeet (live a) then k * n a else 0
  let sensed (a l : Nat) : Nat := ((4 * d.latency a - d.rdI F.snsSpos_spos l + 3) / 4).toNat
  let cur (a : Nat) : Nat := ((4 * d.latency a - d.slotSpos a + 3) / 4).toNat + 128 * n a + meet a 112
  let outer (a : Nat) : Nat := d.rd F.axTick_outer a * 10 + 112 * n a + meet a 128
  let frame (a : Nat) : Nat := let s := d.fbSrc a; if 1 ≤ s ∧ s ≤ 8 ∧ d.disabled a then d.faAvail (s - 1) else 0
  if sig = 0x01 then sensed (d.rd F.legCfg_axis inst) inst
  else if sig = 0x03 ∨ sig = 0x04 then cur inst
  else if sig = 0x10 ∨ sig = 0x11 then max (outer inst) (frame inst)
  else if 0x12 ≤ sig ∧ sig ≤ 0x16 then outer inst
  else if sig = 0x20 then ((List.range 8).map outer).foldl max 0
  else if 0x30 ≤ sig ∧ sig ≤ 0x3B then
    let a := d.rd F.plCtrl_axis inst
    let b := ((List.range 3).map fun k => d.rd F.plHook_budget inst k).sum
    max (cur a) (outer a) + 5 + (b * 5 + 1) / 2
  else if 0x40 ≤ sig ∧ sig ≤ 0x46 then 250
  else if sig = 0x58 then d.free % 2 ^ 32
  else 0

/-- The conditions of ARM (R274, R276, R277, R279) under which it answers RANGE. -/
def Dev.armRange (d : Dev) : Bool :=
  let a := d.rd F.gthCtrl_axis
  d.gthOn.isEmpty || (d.rd F.gthPost_post == 0) || decide (d.gthDepth < d.rd F.gthPre_pre + d.rd F.gthPost_post) ||
    (d.rd F.gthCtrl_tk == 0 && d.flag F.axTick_dbl a && d.rd F.axTick_cdiv a * d.rd F.gthDiv_div % 2 == 1) ||
    (d.flag F.gthTrig_sen && !(bitOf (d.rd F.gthCtrl_chen) (d.rd F.gthTrig_sch))) ||
    d.gthOn.any (fun c => decide (d.rd F.gthLag_lag < d.avail (d.rd F.gthSrc_sig c) (d.rd F.gthSrc_inst c)))

/-- AVAIL of every enabled channel is stored, and the row interval (R274, R276). -/
def Dev.availSet (d : Dev) : Dev :=
  let d := d.each d.gthOn fun c d => d.wr F.gthAvail_avail (min 0xFFFFFFFF (d.avail (d.rd F.gthSrc_sig c) (d.rd F.gthSrc_inst c))) c
  let d := d.wr F.gthRivl_trow (dwU (rneDiv d.rowIv 4))
  if d.gthOn.any (fun c => d.rd F.gthSrc_sig c == 0x58) then d.freed else d

/-- The unit enters FILLING (R277), and ARMED at once where no pre-trigger row is asked for. -/
def Dev.gthFill (d : Dev) : Dev :=
  let d := d.modGth fun g =>
    { sigs := g.sigs, cap := g.cap, doneAt := g.doneAt, rest := g.rest, offset := g.offset, q30 := g.q30 }
  let d := d.modGth fun g => { g with next := some d.nextRow, row0 := d.nextRow }
  let d := d.gthTo 1
  if d.rd F.gthPre_pre = 0 then d.gthTo 2 else d

/-- ARM (R276, R277). -/
def Dev.gthArm (d : Dev) : Code × Dev :=
  if d.armRange then (.range, if d.gthRuns then d else d.availSet)
  else if d.gthRuns then (.wrongState, d)
  else (.ok, d.availSet.gthFill)

/-- ARM from a launch (src 0) or a compare (src 1): ignored while a capture runs (R278). -/
def Dev.gthArmBy (d : Dev) (src : Nat) : Dev :=
  if d.gthRuns then (d.set1 F.gthStat_armign).ev E.gthArmIgnored src (d.rd F.gthStat_state) else d.gthArm.2

/-- STOP (R277). -/
def Dev.gthStop (d : Dev) : Code × Dev :=
  match d.rd F.gthStat_state with
  | 1 => (.ok, d.gthTo 0)
  | 2 => (.ok, d.gthTo 0)
  | 3 => (.ok, (d.set1 F.gthStat_trunc).gthDone)
  | _ => (.ok, d)

/-- FORCE (R280): a class E trigger at the next row to commit. -/
def Dev.gthForce (d : Dev) : Code × Dev := (.ok, d.gthJudge { kind := 2, te := d.rowTime d.nextRow, row := some d.nextRow })

/-- Q_30 is filled from what remains of the stream, 1,440 data bytes a frame (R39, R286, R310). -/
def Dev.streamFill (d : Dev) : Nat → Dev
  | 0 => d
  | n + 1 =>
    let g := d.gth
    if g.rest = [] ∨ 16 ≤ g.q30.length then d
    else
      let data := g.rest.take 1440
      let rest := g.rest.drop 1440
      (d.modGth fun g => { g with rest := rest, offset := g.offset + data.length, q30 := g.q30 ++ [(rest.isEmpty, bytesOf 4 (2 + 65536 * d.rd F.gthStat_capseq) ++ bytesOf 4 g.offset ++ data)] }).streamFill n

/-- The stream of a capture: thirteen registers, then the rows in readout order (R310). -/
def Dev.streamBytes (d : Dev) : List Nat :=
  let regs := [R.gthCtrl, R.gthRivl, R.gthPre, R.gthPost, R.gthStat, R.gthTinfo, R.gthTfrac, R.gthTsec, R.gthTns, R.gthTfr,
    R.gthT0sec, R.gthT0ns, R.gthRows].map fun r => d.cellWord r
  (regs ++ d.gth.cap.flatMap (·.2)).flatMap (bytesOf 4)

/-- STREAM (R286). -/
def Dev.gthStream (d : Dev) : Code × Dev :=
  if d.rd F.gthStat_state ≠ 4 then (.wrongState, d)
  else
    let d := d.set1 F.gthStat_streaming
    (.ok, (d.modGth fun g => { g with rest := d.streamBytes, offset := 0 }).streamFill 16)

/-- The hold-off is over (R283). -/
def Dev.holdOver (d : Dev) : Bool :=
  let hold := d.rd F.gthHold_hold
  if hold = 0 then true
  else if d.flag F.gthCtrl_holdmode then decide (hold ≤ d.gth.held)
  else
    -- the newest row whose commit has been reached lies at least HOLD after entry to DONE
    let lag : Int := d.rd F.gthLag_lag * 65536
    let k := (d.gthNow - lag - d.rowTime 0) / (16384 * d.rowIv : Nat)
    decide (d.gthNow - (d.rowTime k + lag) + hold * 65536 ≤ ((d.now - d.gth.doneAt) * 65536 / 1000 : Nat))

/-- Row HOLD_OFF_END (R277, R283, R286): the hold-off is over, no stream is in progress, and the unit arms itself again. -/
def Dev.holdOffEnd (d : Dev) : Dev :=
  if d.holdoff && !(d.flag F.gthStat_streaming) && d.holdOver then d.gthFill else d

/-- Row STREAM_END (R286): every frame of the stream has left Q_30. -/
def Dev.streamEnd (d : Dev) : Dev :=
  if d.flag F.gthStat_streaming ∧ d.gth.rest = [] ∧ d.gth.q30 = [] then d.clr F.gthStat_streaming else d

/-- An instance of a source exists (R275). -/
def sigFits (sig inst : Nat) : Bool :=
  match sig with
  | 0x00 => true
  | 0x01 => decide (inst < 24)
  | 0x02 => decide (inst < 24)
  | 0x20 => decide (inst < 8)
  | 0x48 => decide (inst < 4)
  | 0x50 => true
  | 0x58 => decide (inst < 4)
  | s =>
    if (3 ≤ s ∧ s ≤ 6) ∨ (0x10 ≤ s ∧ s ≤ 0x16) ∨ (0x30 ≤ s ∧ s ≤ 0x3B) then decide (inst < 8)
    else (0x40 ≤ s && s ≤ 0x43) || (0x44 ≤ s && s ≤ 0x46)

end Sys2Proof.Machine
end

