-- ==== Sys2Proof/Machine/Fio.lean ====
section
/-!
DEFINITION. Field inputs and outputs (13_field_io.md).
-/

namespace Sys2Proof.Machine

/-- Changes the state of the FIO block. -/
def Dev.modFio (d : Dev) (f : FioH → FioH) : Dev := { d with fio := f d.fio }

/-- The leader of the group of FO_k under PARLO or PARHI value `par` (R337). -/
def foLead (par k : Nat) : Nat :=
  match par with
  | 1 => k / 2 * 2
  | 2 => k / 4 * 4
  | _ => k

/-- The grouping of the half that FO_k belongs to. -/
def Dev.foPar (d : Dev) (k : Nat) : Nat := if k < 4 then d.rd F.fioCfg_parlo else d.rd F.fioCfg_parhi

/-- The leader of FO_k (R337). -/
def Dev.foLeader (d : Dev) (k : Nat) : Nat := foLead (d.foPar k) k

/-- FO_k is commanded on: the command bit of its leader (R337). -/
def Dev.foCmd (d : Dev) (k : Nat) : Bool := bitOf (d.rd F.fioOut_cmd) (d.foLeader k)

/-- The outputs joined with FO_k, itself among them (R337). -/
def Dev.foGroup (d : Dev) (k : Nat) : List Nat := (List.range 8).filter fun j => d.foLeader j == d.foLeader k

/-- The switch of FO_k is on now: commanded, no latch of R339 or R340 in its group, the supply above its lockout (R334, R337, R350). -/
def Dev.foDrive (d : Dev) (k : Nat) : Bool :=
  d.foCmd k && d.rd F.fioVf_state != 3 &&
    !(d.foGroup k).any fun j => d.flag F.foSt_overload j || d.flag F.foSt_overtemp j

/-- FIO_RB.DRIVE. -/
def Dev.foDrives (d : Dev) : Nat := axMask d.foDrive

/-- Filtered levels and readback as the word of signal 0x50 (R275, R338). -/
def Dev.fioLevels (d : Dev) : Nat := d.rd F.fioIn_level + 65536 * d.rd F.fioRb_level

/-- After a change of the FIO block the readback follows the switches, switching instants are kept for the blanking, and Gather
takes the levels (R338, R343, R275). `old` is the device before the change. -/
def Dev.fioSettle (d old : Dev) : Dev :=
  let d := d.wr F.fioRb_level (axMask fun k => d.foDrive k || d.flag F.foSt_shortToVf k)
  let d := d.each ((List.range 8).filter fun k => d.foDrive k != old.foDrive k) fun k d =>
    d.modFio fun h => { h with switched := Tbl.put k d.now h.switched }
  if d.fioLevels = old.fioLevels then d
  else
    let k := sigKey 0x50 0
    let d := d.on (Tbl.get [] k d.gth.sigs).isEmpty fun d =>
      { d with gth := { d.gth with sigs := Tbl.put k [{ tb := 4, t := 0, v := (old.fioLevels : Nat) }] d.gth.sigs } }
    d.note 0x50 0 4 d.now d.fioLevels

/-! ### Commands -/

/-- The command bits become `v`: members other than leaders read 0; an output commanded off ends its pulse; the on-command that
follows clears OVERLOAD (R337, R339). -/
def Dev.foSet (d : Dev) (v : Nat) : Dev :=
  let old := d.rd F.fioOut_cmd
  let new := axMask fun k => bitOf v k && d.foLeader k == k
  let d1 := d.wr F.fioOut_cmd new
  let d1 := d1.modFio fun h => { h with pulse := h.pulse.filter fun x => bitOf new x.1 }
  let d1 := d1.each ((List.range 8).filter fun k => bitOf new k && !bitOf old k) fun k d =>
    d.each (d.foGroup k) fun j d => d.clr F.foSt_overload j
  d1.fioSettle d

/-- A refresh of the watchdog by partner port `port` (R348). -/
def Dev.fioRefresh (d : Dev) (port : Nat) : Dev :=
  let t := d.rd F.fioWdTimeout_timeout
  if port = d.rd F.fioWd_src ∧ t ≠ 0 ∧ !d.flag F.fioWd_wdtrip then
    d.modFio fun h => { h with wdAt := some (d.now + t * 1000000) }
  else d

/-- The off and the on requests that the present REF clock has brought so far (R335). -/
def Dev.fioReqs (d : Dev) : Nat × Nat := if d.fio.reqs.1 = d.now / 40000 then d.fio.reqs.2 else (0, 0)

/-- Off and on requests for outputs join those of the REF clock: an off request wins over every on request of it (R335). -/
def Dev.fioCombine (d : Dev) (off on_ : Nat) : Dev :=
  let r := d.fioReqs
  let d := d.modFio fun h => { h with reqs := (d.now / 40000, r.1 ||| off, r.2 ||| on_) }
  d.foSet (axMask fun k => !(bitOf (r.1 ||| off) k) && (bitOf on_ k || bitOf (d.rd F.fioOut_cmd) k))

/-- A write to FIO_OUT (`k` 0), FIO_OUTSET (1) or FIO_OUTCLR (2) (R334, R335, R348, R349). -/
def Dev.fioWrite (d : Dev) (k v port : Nat) : Code × Dev :=
  if d.flag F.fioWd_wdtrip then (.wrongState, d)
  else
    let v := v % 256
    let d := match k with | 0 => d.fioCombine (255 - v) v | 1 => d.fioCombine 0 v | _ => d.fioCombine v 0
    (.ok, d.fioRefresh port)

/-- A launch or a compare asks something of an output (R335). -/
def Dev.fioAsk (d : Dev) (k : Nat) (a : FioAsk) : Dev := d.modFio fun h => { h with asks := h.asks ++ [(k, a)] }

/-- Root time a compare pulse of width `w` (10 ns units) lasts, ps (R336). -/
def foPulsePs (w : Nat) : Nat := 40000 * max 1 ((w * 10 + 39) / 40)

/-- Row FIELD_OUTPUT_REQUEST (R335): the requests of a REF clock are combined output by output. -/
def Dev.fioRequests (d : Dev) : Dev :=
  let l := d.fio.asks
  let d := d.modFio fun h => { h with asks := [] }
  if d.flag F.fioWd_wdtrip then d
  else
    let mine (k : Nat) : List FioAsk := (l.filter fun x => x.1 == k).map (·.2)
    let d := d.fioCombine (axMask fun k => (mine k).contains .off) (axMask fun k => mine k != [])
    d.each ((List.range 8).filter fun k => bitOf (d.rd F.fioOut_cmd) k) fun k d =>
      let w := (mine k).foldl (fun m a => match a with | .pulse w => max m (foPulsePs w) | _ => m) 0
      if w = 0 then d else d.modFio fun h => { h with pulse := Tbl.put k (d.now + w) h.pulse }

/-- Row FO_PULSE_END (R335, R336): an on request of the same clock leaves the output on. -/
def Dev.foPulseEnd (d : Dev) (k : Nat) : Dev :=
  match Tbl.find k d.fio.pulse with
  | some t =>
    if t ≤ d.now then
      let d := d.modFio fun h => { h with pulse := Tbl.erase k h.pulse }
      if d.fio.asks.any (fun a => a.1 == k && a.2 != .off) || bitOf d.fioReqs.2 k then d
      else d.foSet (putBits (d.rd F.fioOut_cmd) k 1 0)
    else d
  | none => d

/-- FIO_CFG.PARLO and PARHI are written (R337). -/
def Dev.fioCfgWrite (d : Dev) (lo hi : Nat) : Code × Dev :=
  let grp (p k : Nat) : List Nat := (List.range 8).filter fun j => j / 4 == k / 4 && foLead p j == foLead p k
  let changed := (List.range 8).filter fun k => grp (d.foPar k) k != grp (if k < 4 then lo else hi) k
  if 3 ≤ lo ∨ 3 ≤ hi then (.range, d)
  else if changed.any d.foCmd then (.wrongState, d)
  else (.ok, ((d.wr F.fioCfg_parlo lo).wr F.fioCfg_parhi hi).fioSettle d)

/-! ### Diagnostics -/

/-- Latch `b` of FO_k is set with its sticky copy, and FO_DIAG is logged (R343, R352): 0 OVERLOAD, 1 OPEN_WIRE, 2 OVERTEMP,
3 SHORT_TO_VF. -/
def Dev.foLatch (d : Dev) (k b : Nat) : Dev :=
  let f := match b with
    | 0 => F.foSt_overload | 1 => F.foSt_openWire | 2 => F.foSt_overtemp | _ => F.foSt_shortToVf
  if d.flag f k then d
  else
    let d1 := (d.set1 f k).wr F.foSt_sticky (putBits (d.rd F.foSt_sticky k) b 1 1) k
    (d1.fioSettle d).ev (if b = 0 ∨ b = 2 then E.foDiag else E.foDiagWarn) k (2 ^ b)

/-- Row FO_OVERLOAD (R339): an output that is on has stayed in current limit for `us` µs; OLT of them switch it off. -/
def Dev.foOverload (d : Dev) (k us : Nat) : Dev := d.on (d.foDrive k && decide (d.rd F.fioDiagt_olt ≤ us)) (·.foLatch k 0)

/-- Row FO_OVERTEMP (R340). -/
def Dev.foOvertemp (d : Dev) (k : Nat) : Dev := d.foLatch k 2

/-- Row FO_COOLED (R340): the sticky copy stays. -/
def Dev.foCooled (d : Dev) (k : Nat) : Dev := (d.clr F.foSt_overtemp k).fioSettle d

/-- Diagnostics of R341 and R342 are judged on FO_k, whose condition has held for `ms` ms (R343): OWT ms of it, all since the field supply
is NORMAL and after the blanking that follows a switching. -/
def Dev.foJudged (d : Dev) (k ms : Nat) : Bool :=
  let owt := d.rd F.fioDiagt_owt
  d.rd F.fioVf_state == 0 && decide (owt ≤ ms) && decide (d.fio.normalAt + owt * 1000000000 ≤ d.now) &&
    match Tbl.find k d.fio.switched with
    | some t => decide (t + (d.rd F.fioDiagt_diagblk + owt) * 1000000000 ≤ d.now)
    | none => true

/-- Row FO_OPEN_WIRE (R341, R343): the results of a member count for its leader. -/
def Dev.foOpenWire (d : Dev) (k ms : Nat) : Dev :=
  let l := d.foLeader k
  d.on (bitOf (d.rd F.fioCfg_owen) l && d.foJudged l ms) (·.foLatch l 1)

/-- Row FO_SHORT_TO_VF (R342, R343): an output commanded off reads high. -/
def Dev.foShort (d : Dev) (k ms : Nat) : Dev :=
  let l := d.foLeader k
  d.on (!d.foCmd l && d.foJudged l ms) (·.foLatch l 3)

/-- Row FO_DIAG_CLEAR (R341, R342): OPEN_WIRE, or with `short` SHORT_TO_VF, clears. -/
def Dev.foDiagClear (d : Dev) (k : Nat) (short : Bool) (ms : Nat) : Dev :=
  let l := d.foLeader k
  d.on (d.foJudged l ms) fun d => (d.clr (if short then F.foSt_shortToVf else F.foSt_openWire) l).fioSettle d

/-! ### Inputs -/

/-- Level of an input at `mv` mV: with hysteresis at the thresholds of its type (R344). -/
def fiThreshold (type : Nat) (old : Bool) (mv : Nat) : Bool :=
  let (up, down) := if type = 0 then (12000, 9000) else (9500, 7000)
  if up ≤ mv then true else if mv ≤ down then false else old

/-- Row FI_LEVEL_CHANGE (R344 to R346, R350): FI_n has stood at `mv` mV for `samples` samples; FILT samples that differ change the
filtered level. -/
def Dev.fiLevel (d : Dev) (n mv samples : Nat) : Dev :=
  let raw := fiThreshold (d.rd F.fiCfg_type n) (bitOf d.fio.raw n) mv
  let d := d.modFio fun h => { h with raw := putBits h.raw n 1 (b2n raw) }
  let level := raw != d.flag F.fiCfg_inv n
  if 2 ≤ d.rd F.fioVf_state ∨ samples < d.rd F.fiCfg_filt n ∨ level = bitOf (d.rd F.fioIn_level) n then d
  else (d.wr F.fioIn_level (putBits (d.rd F.fioIn_level) n 1 (b2n level))).fioSettle d

/-- Wire-break detection of FI_n, whose condition has held for `ms` ms, is judged: WBT ms of it, all since the field supply is NORMAL
(R347, R350). -/
def Dev.fiJudged (d : Dev) (n ms : Nat) : Bool :=
  let wbt := d.rd F.fiCfg_wbt n
  d.flag F.fiCfg_wben n && d.rd F.fioVf_state == 0 && decide (wbt ≤ ms) && decide (d.fio.normalAt + wbt * 1000000000 ≤ d.now)

/-- Rows FI_WIRE_BREAK and FI_WIRE_BREAK_CLEARED (R347): the current of FI_n has been below 0.3 mA (`broken`), or not, for `ms` ms;
a change of the latch after WBT logs FI_WIRE_BREAK. -/
def Dev.fiWire (d : Dev) (n : Nat) (broken : Bool) (ms : Nat) : Dev :=
  if d.fiJudged n ms && bitOf (d.rd F.fioInst_wireBreak) n != broken then
    let d := d.wr F.fioInst_wireBreak (putBits (d.rd F.fioInst_wireBreak) n 1 (b2n broken))
    let d := d.on broken fun d => d.wr F.fioInst_sticky (putBits (d.rd F.fioInst_sticky) n 1 1)
    d.ev (if broken then E.fiWireBreak else E.fiWireBreakCleared) n (b2n broken)
  else d

/-- FILT of FI_n is in range for FAST (R345, R346). -/
def fiFiltOk (n : Nat) (fast : Bool) (filt : Nat) : Bool :=
  if n < 4 ∧ fast then decide (5 ≤ filt ∧ filt ≤ 255) else decide (1 ≤ filt ∧ filt ≤ 10000)

/-- FI_n_CFG is written (R344 to R347). FAST is reserved above FI_3. -/
def Dev.fiCfgWrite (d : Dev) (n v : Nat) : Code × Dev :=
  let fast := decide (n < 4) && bitOf v 3
  let filt := bitsOf v 4 14
  if !fiFiltOk n fast filt ∨ bitsOf v 20 8 = 0 then (.range, d)
  else
    let d := ((d.wr F.fiCfg_type v n).wr F.fiCfg_inv (v / 2) n).wr F.fiCfg_wben (v / 4) n
    (.ok, ((d.wr F.fiCfg_fast (b2n fast) n).wr F.fiCfg_filt filt n).wr F.fiCfg_wbt (bitsOf v 20 8) n)

/-! ### Watchdog and field supply -/

/-- Row FIO_WD_EXPIRED (R348, R349), at the end of the REF clock of the expiry, in all of which a refresh is in time. -/
def Dev.fioExpire (d : Dev) : Dev :=
  match d.fio.wdAt with
  | some t =>
    if (t / 40000 + 1) * 40000 ≤ d.now ∧ !d.flag F.fioWd_wdtrip then
      let p := d.rd F.fioSafe_pattern
      let d := (d.modFio fun h => { h with wdAt := none, pulse := [] }).foSet p
      (d.set1 F.fioWd_wdtrip).ev E.fioWdExpired (d.rd F.fioWd_src) p
    else d
  | none => d

/-- FIO_WD.RESUME is written with 1 (R349). -/
def Dev.fioResume (d : Dev) (port : Nat) : Dev :=
  let t := d.rd F.fioWdTimeout_timeout
  let d := d.clr F.fioWd_wdtrip
  (d.modFio fun h => { h with wdAt := if t = 0 then none else some (d.now + t * 1000000) }).ev E.fioWdResumed port 0

/-- FIO_WD is written (R348, R349): SRC, then RESUME, then KICK. -/
def Dev.fioWdWrite (d : Dev) (v port : Nat) : Code × Dev :=
  let src := bitsOf v 2 3
  if 4 ≤ src then (.range, d)
  else
    let d := d.wr F.fioWd_src src
    let d := d.on (bitOf v 1) (·.fioResume port)
    (.ok, d.on (bitOf v 0) (·.fioRefresh port))

/-- FIO_WD_TIMEOUT is written (R348): the timer starts anew. -/
def Dev.fioTimeoutWrite (d : Dev) (t : Nat) : Code × Dev :=
  if 1 ≤ t ∧ t < 100 then (.range, d)
  else
    let d := d.wr F.fioWdTimeout_timeout t
    let run := t ≠ 0 && !d.flag F.fioWd_wdtrip
    (.ok, d.modFio fun h => { h with wdAt := if run then some (d.now + t * 1000000) else none })

/-- The state of the field supply at a voltage in mV after state `s`, with the hysteresis of R350. -/
def vfState (s mv : Nat) : Nat :=
  if mv < 12000 ∨ (s = 3 ∧ mv < 12500) then 3
  else if mv < 16000 ∨ (2 ≤ s ∧ mv < 16400) then 2
  else if mv < 19200 ∨ (1 ≤ s ∧ mv < 19600) then 1
  else 0

/-- Row FIO_VF_STATE (R350, R351): the comparators have seen a voltage in mV for `us` µs; their filter takes 10 µs. -/
def Dev.fioVf (d : Dev) (mv us : Nat) : Dev :=
  let s := vfState (d.rd F.fioVf_state) mv
  if s = d.rd F.fioVf_state ∨ us < 10 then d
  else
    let d1 := (d.wr F.fioVf_state s).fioSettle d
    let d1 := d1.on (s == 0) (·.modFio fun h => { h with normalAt := d.now })
    let d1 := d1.on (s == 3) (·.foSet 0)
    d1.ev (match s with | 0 => E.fioVfNormal | 1 => E.fioVfLow | _ => E.fioVfLost) s (rneDiv mv 125).toNat

end Sys2Proof.Machine
end

