-- ==== Sys2Proof/Machine/Saf.lean ====
section
/-!
DEFINITION. Safe stop and safety frames (14_safe_stop.md).
-/

namespace Sys2Proof.Machine

/-- Changes the state of the safety block. -/
def Dev.modSaf (d : Dev) (f : SafH → SafH) : Dev := { d with saf := f d.saf }

/-- SAF_STAT. -/
def Dev.safStat (d : Dev) : Nat := d.cellWord R.safStat

/-- GLB_STATUS.DEVSTATE (R355, R389): SAFE while any latch other than STOIN is set. -/
def Dev.shownState (d : Dev) : Nat := if 2 ≤ d.rd F.safStat_latch then 4 else d.devstate

/-- DEV_STATE is logged when the DEVSTATE shown has changed from `old` (R389, R404). -/
def Dev.stateNoted (d : Dev) (old : Nat) : Dev := d.on (d.shownState != old) fun d => d.ev E.devState d.shownState old

/-- The start-up state below SAFE changes (R389). -/
def Dev.devTo (d : Dev) (s : Nat) : Dev := Dev.stateNoted { d with devstate := s } d.shownState

/-- Latch bit by number: 0 STOIN, 1 FRAME, 2 SEAL, 3 TEST, 4 GEN, 5 TPMISS. -/
def Dev.safLatch (d : Dev) (b : Nat) : Dev :=
  (d.wr F.safStat_latch (putBits (d.rd F.safStat_latch) b 1 1)).stateNoted d.shownState

/-- Demand bit by number: 0 STO_N, 1 STO_REQ, 2 SS1_REQ. -/
def Dev.safDemand (d : Dev) (b : Nat) (v : Bool) : Dev :=
  d.wr F.safStat_demand (putBits (d.rd F.safStat_demand) b 1 (b2n v))

/-- The latch that a failure cause sets (R357, R360, R364, R366). -/
def safLatchOf (cause : Nat) : Nat :=
  if cause ≤ 9 then 1 else if cause ≤ 11 then 2 else cause - 9

/-- The causes of the failures that the present REF clock has brought so far (R360). -/
def Dev.safCauses (d : Dev) : List Nat := if d.saf.fails.1 = d.now / 40000 then d.saf.fails.2 else []

/-- A failure (R360): its latch, the lowest cause of its REF clock, one record for each cause. `port` and `alive` are those of the frame, 0
where none exists. -/
def Dev.safFail (d : Dev) (cause : Nat) (port alive : Nat := 0) : Dev :=
  let l := d.safCauses
  let d := ((d.safLatch (safLatchOf cause)).wr F.safFail_cause (l.foldl min cause)).bump F.safFail_fails
  (d.modSaf fun h => { h with fails := (d.now / 40000, cause :: l) }).on (!l.contains cause)
    fun d => d.ev E.safFail cause (port + 65536 * alive)

/-- A failure that leads to STO has been latched (R355, R360). -/
def Dev.safFailSto (d : Dev) : Bool :=
  decide (4 ≤ d.rd F.safStat_latch) || (bitOf (d.rd F.safStat_latch) 1 && !d.flag F.safCfg_react)

/-- A frame failure with REACT = SS1 has been latched (R355, R360). -/
def Dev.safFailSs1 (d : Dev) : Bool := bitOf (d.rd F.safStat_latch) 1 && d.flag F.safCfg_react

/-- The block enters a state (R354, R355, R357): every GEN_g is open in START and STO and closed in SS1 and RUN, and the STO trip
source follows STO. -/
def Dev.safTo (d : Dev) (s : Nat) : Dev :=
  let old := d.rd F.safStat_state
  if s = old then d
  else
    let d := (d.wr F.safStat_state s).wr F.safStat_gen (if 2 ≤ s then 63 else 0)
    let d := d.on (old == 0) fun d => d.modSaf fun h => { h with pulseAt := d.now }
    let d := d.modSaf fun h => { h with ss1At := none }
    (d.ev (if s = 2 then E.safStateSs1 else E.safState) s old).tripSet 12 (s == 1)

/-- The ball of a gate of LEG_n is driven (R173, R354): its gate is on, and the safety block does not hold GEN_g of its group open. -/
def Dev.gateOut (d : Dev) (n : Nat) (high : Bool) : Bool :=
  decide (2 ≤ d.rd F.safStat_state) && if high then (d.legh n).gh else (d.legh n).gl

/-- Entry to STO with its cause: 1 STO_N, 2 STO_REQ, 3 expiry of SS1T, 4 failure (R354, R355, R368). -/
def Dev.safSto (d : Dev) (cause : Nat) : Dev :=
  let d := d.safTo 1
  d.ev E.safSto cause d.safStat

/-- The cause that calls for STO, 0 for none (R355). -/
def Dev.safStoCause (d : Dev) : Nat :=
  let dm := d.rd F.safStat_demand
  if bitOf dm 0 then 1 else if bitOf dm 1 then 2 else if d.safFailSto then 4 else 0

/-- Row SAF_STO (R354, R355): from RUN or SS1. -/
def Dev.safEnterSto (d : Dev) : Dev :=
  d.on (decide (2 ≤ d.rd F.safStat_state) && d.safStoCause != 0) (·.safSto d.safStoCause)

/-- Row SS1_ENTRY (R355, R358): from RUN, unless a cause of STO stands. -/
def Dev.safEnterSs1 (d : Dev) : Dev :=
  if d.rd F.safStat_state = 3 ∧ d.safStoCause = 0 ∧ (bitOf (d.rd F.safStat_demand) 2 ∨ d.safFailSs1) then
    let d := (d.safTo 2).modSaf fun h => { h with ss1At := some (d.now + d.rd F.safSs1_ss1t * 1000000000) }
    d.each ((List.range 8).filter fun a => bitOf (d.rd F.safSs1_axmask) a && !d.disabled a) fun a d => d.ctlStop a 7
  else d

/-- Row SS1T_EXPIRY (R358). -/
def Dev.safSs1Expiry (d : Dev) : Dev :=
  match d.saf.ss1At with
  | some t => d.on (d.rd F.safStat_state == 2 && decide (t ≤ d.now)) (·.safSto 3)
  | none => d

/-- Row SAFETY_RUN (R355): from START or STO. -/
def Dev.safRun (d : Dev) : Dev :=
  let quiet := d.rd F.safStat_demand == 0 && d.rd F.safStat_latch == 0
  match d.rd F.safStat_state with
  | 0 =>
    d.on (quiet && d.flag F.safTest_startok && d.saf.section_ && (!d.flag F.safCfg_fen || d.saf.paired)) (·.safTo 3)
  | 1 => d.on quiet (·.safTo 3)
  | _ => d

/-! ### STO_N -/

/-- Row STO_N_LOW (R356): STO_N has been low for so many REF clocks. -/
def Dev.stoLow (d : Dev) (clocks : Nat) : Dev :=
  let w := d.rd F.safTp_tpw
  let past := if w = 0 then decide (500 ≤ 40 * clocks) else decide (1000 * w < 40 * clocks)
  d.on past (·.safDemand 0 true)

/-- Row TEST_PULSE (R356, R357): a low interval of so many REF clocks has ended. -/
def Dev.testPulse (d : Dev) (clocks : Nat) : Dev :=
  if 500 ≤ 40 * clocks ∧ 40 * clocks ≤ 1000 * d.rd F.safTp_tpw then
    (d.bump F.safCnt_tpulses).modSaf fun h => { h with pulseAt := d.now }
  else d

/-- Row STO_N_RELEASE (R356): STO_N has been high for so many REF clocks; after 100 µs the demand ends. -/
def Dev.stoRelease (d : Dev) (clocks : Nat) : Dev :=
  if bitOf (d.rd F.safStat_demand) 0 ∧ 2500 ≤ clocks then
    (d.safDemand 0 false).on (!d.flag F.safCfg_autorel) (·.safLatch 0)
  else d

/-- Row TPMISS (R357). -/
def Dev.tpMiss (d : Dev) : Dev :=
  if d.flag F.safCfg_tpexp ∧ d.rd F.safStat_state ≠ 0 ∧ !bitOf (d.rd F.safStat_latch) 5 ∧
      d.saf.pulseAt + d.rd F.safTp_tpper * 1000000000 ≤ d.now then d.safFail 14
  else d

/-! ### SAFE frames -/

/-- The CRC of a SAFE frame with safety address `a` (R308). -/
def safCrc (a : Nat) : CrcP := { crc32 with init := 0xFFFFFFFF ^^^ (a * 0x01010101) }

/-- Byte `i` of a frame's payload. -/
def at8 (l : List Nat) (i : Nat) : Nat := l.getD i 0

/-- ALIVE of a SAFE frame (R308). -/
def safAlive (b : List Nat) : Nat := at8 b 2 + 256 * at8 b 3

/-- The first check that a copy fails, 0 for none (R359). -/
def Dev.safCheck (d : Dev) (port : Nat) (b : List Nat) : Nat :=
  let a := d.rd F.safSeal_addr
  let tb := d.rd F.netPCtrl_tb port
  if (safCrc a).over_ (b.take 44) ≠ ofBytes ((b.drop 44).take 4) then 1
  else if at8 b 0 ≠ a then 2
  else if b.length ≠ 48 ∨ at8 b 1 = 0 ∨ 32 < at8 b 1 ∨ ((b.take 44).drop (12 + at8 b 1)).any (· != 0) ∨ 4 ≤ at8 b 12 then 3
  else if d.flag F.safCfg_ageen ∧
      (!d.tbGood tb ∨
        d.rd F.safAge_age * 65536000 <
          (since16 (d.tb16 tb) (ofBytes ((b.drop 4).take 4) * 1000000000 + ofBytes ((b.drop 8).take 4) % 2 ^ 30)).natAbs)
    then 9
  else 0

/-- A SAFE frame that answers a pair leaves on each port (R362). -/
def Dev.safReply (d : Dev) (alive : Nat) : Dev :=
  let tx := (d.rd F.safAlive_txalive + 1) % 65536
  let d := d.wr F.safAlive_txalive tx
  let st := d.safStat
  let pay := [d.rd F.safStat_state + 128 * b2n (d.rd F.safStat_latch != 0), d.rd F.safSeal_addr] ++ bytesOf 2 alive ++
    bytesOf 4 st ++ (List.range 6).flatMap fun k => bytesOf 4 (d.rd F.safTxusr_data k)
  let a := d.rd F.safSeal_addr
  let body (p : Nat) : List Nat :=
    let t := d.tb16 (d.portTb p)
    let l := [a, 32] ++ bytesOf 2 tx ++ bytesOf 4 (secOf t) ++ bytesOf 4 (nsOf t) ++ pay
    l ++ bytesOf 4 ((safCrc a).over_ l)
  d.sendEvx 3 2 6 0 (d.rd F.netStation_station) d.dst body

/-- A valid pair (R359, R361, R362). -/
def Dev.safPair (d : Dev) (b : List Nat) : Dev :=
  let d := (d.bumpMod F.safCnt_pairs).wr F.safAlive_rxalive (safAlive b)
  let d := d.each (List.range 8) fun k d => d.wr F.safRxdat_data (ofBytes ((b.drop (12 + 4 * k)).take 4)) k
  let d := (d.safDemand 1 (bitOf (at8 b 12) 0)).safDemand 2 (bitOf (at8 b 12) 1)
  (d.modSaf fun h => { h with paired := true, fresh := false, lastPair := some d.now, pairAt := some d.now }).safReply (safAlive b)

/-- A valid copy meets the window (R359). -/
def Dev.safCopy (d : Dev) (port : Nat) (b : List Nat) : Dev :=
  match d.saf.first with
  | none => d.modSaf fun h => { h with first := some { port := port, body := b, at_ := d.now } }
  | some f =>
    let d := d.modSaf fun h => { h with first := none }
    let jump := (safAlive b + 65536 - d.rd F.safAlive_rxalive) % 65536
    if f.port = port then d.safFail 6 port (safAlive b)
    else if f.body ≠ b then d.safFail 4 port (safAlive b)
    else if !d.saf.fresh ∧ jump = 0 then d.safFail 6 port (safAlive b)
    else if !d.saf.fresh ∧ d.rd F.safWin_maxjump < jump then d.safFail 7 port (safAlive b)
    else d.safPair b

/-- Row SAFE_WINDOW_EXPIRY (R359): a MISSING failure. -/
def Dev.safWindow (d : Dev) : Dev :=
  match d.saf.first with
  | some f =>
    if f.at_ + d.rd F.safWin_win * 1000000 < d.now then
      (d.modSaf fun h => { h with first := none }).safFail 5 f.port (safAlive f.body)
    else d
  | none => d

/-- Row SAFE_PAIR_TIMEOUT (R359). -/
def Dev.safTimeout (d : Dev) : Dev :=
  match d.saf.lastPair with
  | some t =>
    if d.flag F.safCfg_fen ∧ t + d.rd F.safTo_to * 1000000000 ≤ d.now then
      (d.modSaf fun h => { h with lastPair := none }).safFail 8
    else d
  | none => d

/-- The failures of window and pair timeout that have fallen due come before what else their REF clock brings (R360, R363). -/
def Dev.safLate (d : Dev) : Dev := d.safWindow.safTimeout

/-- Row SAFE_COPY_CHECK (R359): the frame at the head of Q_24. A window or a pair timeout that has ended fails first. -/
def Dev.safTake (d : Dev) : Dev :=
  match d.net.q24 with
  | x :: l =>
    let d := { d with net := { d.net with q24 := l } }
    if !d.flag F.safCfg_fen then d.bump F.safCnt_ignored
    else
      let d := d.safLate
      match d.safCheck x.port x.body with
      | 0 => d.safCopy x.port x.body
      | c => d.safFail c x.port (safAlive x.body)
  | [] => d

/-! ### Safety reset, seals, tests -/

/-- Row SAFETY_RESET (R363): the trailing edge of a press of so many REF clocks. A failure of its REF clock is taken first. -/
def Dev.safReset (d : Dev) (clocks : Nat) : Dev :=
  if clocks < 1250000 ∨ 50000000 < clocks then d
  else
    let d := d.safLate
    let heard : Bool := match d.saf.pairAt with
      | some t => decide (d.now ≤ t + d.rd F.safTo_to * 1000000000)
      | none => false
    if d.rd F.safStat_demand = 0 ∧ d.flag F.safTest_startok ∧ (!d.flag F.safCfg_fen ∨ heard) ∧ d.safCauses = [] then
      let was := d.rd F.safStat_latch
      (((((d.clr F.safStat_latch).bump F.safCnt_resets).modSaf fun h => { h with fresh := true, lastPair := none })).ev E.safReset 0 was).stateNoted d.shownState
    else d.ev E.safResetRefused (dwU (rneDiv clocks 25000)) d.safStat

/-- The seal address of three readings, none if a switch is inconsistent (R364). -/
def sealOf (r1 r2 r3 : Nat) : Option Nat :=
  let closed (k : Nat) : Bool := if k % 2 = 0 then bitOf r1 k && !bitOf r2 k else !bitOf r1 k && bitOf r2 k
  let opened (k : Nat) : Bool := !bitOf r1 k && !bitOf r2 k
  if (List.range 8).all fun k => (closed k || opened k) && !bitOf r3 k then some (axMask closed) else none

/-- Row SEAL_SCAN (R364): the readings of SEAL_0 to SEAL_7 at the end of the three patterns. -/
def Dev.sealScan (d : Dev) (r1 r2 r3 : Nat) : Dev :=
  let a := sealOf r1 r2 r3
  let prev := d.saf.lastSeal
  let h := d.saf
  if d.flag F.safSeal_valid then
    let inc := if a = none then min 3 (h.incons + 1) else 0
    let dif := if a = none ∨ a = some (d.rd F.safSeal_addr) then 0 else if a = prev then min 3 (h.diff + 1) else 1
    let d := d.modSaf fun h => { h with lastSeal := a, incons := inc, diff := dif }
    let d := d.on (inc == 2) (·.safFail 11)
    d.on (dif == 2) (·.safFail 10)
  else
    let d := d.modSaf fun h => { h with lastSeal := a, incons := 0, diff := 0 }
    match a with
    | some v => d.on (a == prev && v != 0) fun d => (d.wr F.safSeal_addr v).set1 F.safSeal_valid
    | none => d

/-- Row GEN_READBACK_FAIL (R354): the driver supply of LG_g has been present for `us` µs while STO is held; 10 of them are a failure. -/
def Dev.genReadback (d : Dev) (g us : Nat) : Dev :=
  if d.rd F.safStat_state = 1 ∧ 10 ≤ us then
    (d.wr F.safStat_gen (putBits (d.rd F.safStat_gen) g 1 1)).safFail 13
  else d

/-- Every leg of LG_g is of a kind whose gates are both low: USE = NONE, of DISABLED axes, or of axes in STANDSTILL OFF (R367). -/
def Dev.groupIdle (d : Dev) (g : Nat) : Bool :=
  (List.range 4).all fun j =>
    let n := 4 * g + j
    d.rd F.legCfg_use n == 0 ||
      (d.rd F.legCfg_use n == 1 &&
        ((List.range 8).filter fun a => (d.axLegs a).contains n).all fun a =>
          d.disabled a || (d.axState a == 1 && d.rd F.axCfg_still a == 0))

/-- Row GEN_RUNTIME_TEST (R367): the test of GEN_g, made after every leg of LG_g has had both gates low for `us` µs, has passed or failed. -/
def Dev.genTest (d : Dev) (g us : Nat) (pass : Bool) : Dev :=
  if 2 ≤ d.rd F.safStat_state ∧ d.groupIdle g ∧ 20 ≤ us then
    if pass then
      (d.wr F.safTest_passed (putBits (d.rd F.safTest_passed) g 1 1)).modSaf fun h =>
        { h with passAt := Tbl.put g d.now h.passAt, overdue := h.overdue.filter (· != g) }
    else d.safFail 12
  else d

/-- ps in an hour. -/
def hourPs : Nat := 3600 * 1000000000000

/-- Root time LG_g has gone without a pass, ps (R367). -/
def Dev.genAge (d : Dev) (g : Nat) : Nat := d.now - Tbl.get 0 g d.saf.passAt

/-- SAF_TEST.AGE: minutes since the oldest group pass, saturating. -/
def Dev.safAgeMin (d : Dev) : Nat :=
  min 65535 (((List.range 6).map d.genAge).foldl max 0 / (60 * 1000000000000))

/-- Row SAF_TEST_OVERDUE (R367): logged once for a missing pass. -/
def Dev.safOverdue (d : Dev) (g : Nat) : Dev :=
  if !d.saf.overdue.contains g ∧ d.rd F.safTest_maxage * hourPs ≤ d.genAge g then
    (d.modSaf fun h => { h with overdue := g :: h.overdue }).ev E.safTestOverdue g (d.genAge g / hourPs)
  else d

end Sys2Proof.Machine
end

