-- ==== Sys2Proof/Machine/Evr.lean ====
section
/-!
DEFINITION. The event recorder (R416 to R423, 17_management_and_log.md).
-/

namespace Sys2Proof.Machine

/-- Changes the recorder. -/
def Dev.modEvr (d : Dev) (f : EvrH → EvrH) : Dev := { d with evr := f d.evr }

/-- The SEQ after `s`; 0 is never assigned (R422). -/
def seqAfter (s : Nat) : Nat := if s = 2 ^ 32 - 1 then 1 else s + 1

/-- Tokens in the bucket of a code (R418). -/
def Dev.tokens (d : Dev) (code : Nat) : Nat := min (d.rd F.evrRl_burst) (Tbl.get d.evr.full code d.evr.tokens)

/-- The bucket of a code takes a level. -/
def Dev.setTokens (d : Dev) (code v : Nat) : Dev := d.modEvr fun h => { h with tokens := Tbl.put code v h.tokens }

/-- EVR_RL has been written: no bucket holds more than BURST (R418). -/
def Dev.clipTokens (d : Dev) : Dev :=
  let b := d.rd F.evrRl_burst
  d.modEvr fun h => { h with full := min b h.full, tokens := h.tokens.map fun x => (x.1, min b x.2) }

/-- The lowest severity among records. -/
def lowestSev (l : List ChipRec) : Nat := l.foldl (fun m c => min m c.r.sev) 8

/-- Removes the first record of severity `s`, answering it. -/
def takeSev (s : Nat) : List ChipRec → Option (ChipRec × List ChipRec)
  | [] => none
  | c :: l => if c.r.sev = s then some (c, l) else (takeSev s l).map fun x => (x.1, c :: x.2)

/-- A record is lost to the flash ring (R420, R430): logged for the first one since EVR_LOST was read. -/
def Dev.mirrorLost (d : Dev) (r : Rec) : Dev :=
  let first := d.rd F.evrLost_mirlost == 0
  (d.bump F.evrLost_mirlost).on first (·.ev E.evrMirrorLost r.seq 1)

/-- A record enters Q_22 (R39, R307): with 32 there the oldest push goes. -/
def Dev.q22Push (d : Dev) (r : Rec) : Dev :=
  let q := d.net.q22
  { d with net := { d.net with q22 := (if 32 ≤ q.length then q.drop 1 else q) ++ [r] } }

/-- A kept NET_FRAME_DROP record reports `n` drops of port `p` (R314): the count of the port and the records of it still on their way to
the recorder go on without them. -/
def Dev.dropsReported (d : Dev) (p n : Nat) : Dev :=
  let mine (code d0 : Nat) : Bool := code == E.netFrameDrop.code && d0 % 256 == p
  { d with
    net := { d.net with drops := Tbl.set 0 p (Tbl.get 0 p d.net.drops - n) d.net.drops }
    evr := { d.evr with
      q28 := d.evr.q28.map fun r => if mine r.code r.d0 then { r with d1 := r.d1 - n } else r
      waiting := d.evr.waiting.map fun o => if mine o.code o.d0 then { o with d1 := o.d1 - n } else o } }

/-- An admitted record takes its SEQ and its place on chip (R418, R419, R422, R307). A NET_FRAME_DROP record restarts the count of
its port (R314). -/
def Dev.keep (d : Dev) (r : Rec) : Dev :=
  let put (d : Dev) (l : List ChipRec) : Dev :=
    let r := { r with seq := d.evr.nextSeq, suppr := Tbl.get 0 r.code d.evr.suppr }
    let d := d.modEvr fun h =>
      { h with
        chip := l ++ [{ r := r }], nextSeq := seqAfter h.nextSeq
        suppr := Tbl.erase r.code h.suppr, admitted := h.admitted + 1 }
    let d := d.wr F.evrNewest_seq r.seq
    let d := d.on (r.code == E.netFrameDrop.code) (·.dropsReported (r.d0 % 256) r.d1)
    d.on (d.flag F.netEvcfg_en && decide (d.rd F.netEvcfg_minsev ≤ r.sev)) (·.q22Push r)
  let l := d.evr.chip
  if l.length < 4096 then put d l
  else
    let s := lowestSev l
    if r.sev < s then d.on (r.sev < 5) (·.bump F.evrDrop_drop r.sev)
    else
      match takeSev s l with
      | some (c, l') => put (d.on (!c.written) (·.mirrorLost c.r)) l'
      | none => d

/-- The rate limit (R418): the record is admitted, or suppressed and counted. -/
def Dev.enrol (d : Dev) (r : Rec) : Dev :=
  if bitOf (d.rd F.evrRl_exempt) r.sev then d.keep r
  else
    let t := d.tokens r.code
    if t = 0 then
      d.modEvr fun h => { h with suppr := Tbl.set 0 r.code (satAdd 16 (Tbl.get 0 r.code h.suppr) 1) h.suppr }
    else (d.setTokens r.code (t - 1)).keep r

/-- Occurrences that wait in their blocks enter Q_28 in ascending order of block id while it has room (R417). -/
def Dev.pushWaiting (d : Dev) : Nat → Dev
  | 0 => d
  | n + 1 =>
    match d.evr.waiting with
    | [] => d
    | w :: l =>
      if 64 ≤ d.evr.q28.length then d
      else
        let low := l.foldl (fun m x => if x.code / 256 < m.code / 256 then x else m) w
        let d := d.modEvr fun h => { h with q28 := h.q28 ++ [d.stamp low], waiting := h.waiting.erase low }
        Dev.pushWaiting d n

/-- A record joins records of its clock behind those of its own block id and of lower ones (R417). -/
def blockInsert (r : Rec) : List Rec → List Rec
  | [] => [r]
  | x :: l => if r.code / 256 < x.code / 256 then r :: x :: l else x :: blockInsert r l

/-- The records pushed in one FABRIC clock stand in ascending order of block id (R417). -/
def Dev.q28Settle (d : Dev) : Dev :=
  d.modEvr fun h =>
    { h with q28 := h.q28.take h.settled ++ (h.q28.drop h.settled).foldl (fun l r => blockInsert r l) [], settled := h.q28.length }

/-- Row RECORD_ADMISSION (R417, R418, R423): the record at the head of Q_28, one in each FABRIC clock, or EVR_CLEARED as the first after a
clear. -/
def Dev.recordAdmission (d : Dev) : Dev :=
  match d.evr.cleared with
  | some (port, n) =>
    (d.modEvr fun h => { h with cleared := none }).enrol
      (d.stamp { code := E.evrCleared.code, sev := E.evrCleared.sev, src := port, d0 := port, d1 := n })
  | none =>
    if d.evr.tookAt = some (d.now / 4000) then d
    else
      let d := d.on (d.evr.settled == 0) (·.q28Settle)
      match d.evr.q28 with
      | r :: l =>
        ((d.modEvr fun h => { h with q28 := l, settled := h.settled - 1, tookAt := some (d.now / 4000) }).pushWaiting 72).enrol r
      | [] => d

/-- Interval of IVL ms in which the present instant lies (R418; notes/assumptions/153.md). -/
def Dev.tokenSpan (d : Dev) : Nat := d.now / (d.rd F.evrRl_ivl * 1000000000)

/-- Row TOKEN_REFILL (R418): the bucket of a code gains its token of the present interval, once. -/
def Dev.tokenRefill (d : Dev) (code : Nat) : Dev :=
  if Tbl.find code d.evr.refilled = some d.tokenSpan then d
  else (d.setTokens code (min (d.rd F.evrRl_burst) (d.tokens code + 1))).modEvr fun h => { h with refilled := Tbl.put code d.tokenSpan h.refilled }

/-- Slots of the flash ring (R420). -/
def ringSlots : Nat := 32768

/-- The first record on chip not yet in the flash ring. -/
def firstUnwritten (l : List ChipRec) : Option Rec := (l.find? fun c => !c.written).map (·.r)

/-- Row FLASH_RING_WRITE (R420, R423). -/
def Dev.flashRingWrite (d : Dev) : Dev :=
  if !d.coreRuns || d.flag F.evrStat_erasing then d
  else
    match firstUnwritten d.evr.chip with
    | some r =>
      let slot := r.seq % ringSlots
      let sect := slot / 128
      let ring := if d.evr.sector = some sect then d.flash.ring else d.flash.ring.filter fun x => x.1 / 128 != sect
      let d := { d with flash := { d.flash with ring := Tbl.put slot r ring } }
      d.modEvr fun h =>
        { h with
          sector := some sect
          writes := h.writes + 1
          chip := h.chip.map fun c => if c.r.seq = r.seq then { c with written := true } else c }
    | none => d

/-- The eight words of a record (R416). -/
def Rec.words (r : Rec) : List Nat :=
  [r.code + 65536 * (r.sev + 8 * b2n r.tbv) + 2 ^ 24 * r.src, r.seq, r.opsec, r.pwrcyc + 65536 * r.suppr, r.tsec, r.tns, r.d0, r.d1]

/-- The record of lowest SEQ at or above `c` in a list. -/
def lowestAt (c : Nat) (l : List Rec) : Option Rec :=
  l.foldl (fun b r =>
    if r.seq < c then b
    else match b with
      | some x => if r.seq < x.seq then some r else b
      | none => some r) none

/-- The word that a read of EVR_WIN_w returns, and its effect (R421). -/
def Dev.evrWinRead (d : Dev) (port w : Nat) : Nat × Dev :=
  let word (d : Dev) : Nat := match Tbl.find port d.evr.win with
    | some r => r.words.getD w 0
    | none => 0
  if w = 0 then
    let c := Tbl.get 0 port d.evr.cursor
    let chip := d.evr.chip.map (·.r)
    let latch (r : Rec) : Nat × Dev :=
      let d := d.modEvr fun h => { h with win := Tbl.put port r h.win }
      (word d, d)
    let gone := d.modEvr fun h => { h with win := Tbl.erase port h.win }
    match lowestAt c (chip ++ d.flash.ring.map (·.2)) with
    | some r =>
      if chip.any (·.seq == r.seq) || d.evr.fetchBuf.any (·.seq == r.seq) then latch r
      else (0, (gone.modEvr fun h => { h with fetchReq := some r.seq }).set1 F.evrStat_pend)
    | none => (0, gone.clr F.evrStat_pend)
  else
    let v := word d
    match Tbl.find port d.evr.win with
    | some r => (v, d.on (w == 7) fun d => d.modEvr fun h => { h with cursor := Tbl.put port ((r.seq + 1) % 2 ^ 32) h.cursor })
    | none => (v, d)

/-- Row EVR_FETCH (R421): the 64 records from the SEQ asked for on. -/
def Dev.evrFetch (d : Dev) : Dev :=
  if !d.coreRuns then d
  else
    match d.evr.fetchReq with
    | some s =>
      let l := (d.flash.ring.map (·.2)).filter fun r => decide (s ≤ r.seq)
      let below (r : Rec) : Nat := (l.filter fun x => decide (x.seq < r.seq)).length
      (d.modEvr fun h => { h with fetchBuf := l.filter fun r => decide (below r < 64), fetchReq := none }).clr F.evrStat_pend
    | none => d

/-- EVR_CMD is written (R423) by a port. -/
def Dev.evrCmdWrite (d : Dev) (clear : Bool) (key port : Nat) : Code × Dev :=
  if !clear then (.ok, d)
  else if key ≠ 0xC1 then (.range, d)
  else
    let n := d.evr.chip.length
    let d := d.each (List.range 5) fun s d => d.clr F.evrDrop_drop s
    let d := (((d.clr F.evrLost_mirlost).clr F.evrLost_lostq).set1 F.evrStat_erasing).clr F.evrStat_pend
    let d := { d with flash := { d.flash with ring := [] } }
    (.ok, d.modEvr fun h =>
      { h with
        chip := [], suppr := [], tokens := [], full := d.rd F.evrRl_burst, cleared := some (port, n)
        fetchBuf := [], fetchReq := none, sector := none })

/-- Row RING_ERASE_DONE (R423). -/
def Dev.ringErased (d : Dev) : Dev := d.clr F.evrStat_erasing

/-- SEQ values from before and from after the passage to 1 stand side by side (R422). -/
def seqWrapped (l : List Nat) : Bool := l.any (2 ^ 32 - 2 ^ 16 ≤ ·) && l.any (· < 2 ^ 16)

/-- The newest SEQ in the flash ring (R422). -/
def Dev.ringNewest (d : Dev) : Option Nat :=
  let l := d.flash.ring.map (·.2.seq)
  (if seqWrapped l then l.filter (· < 2 ^ 16) else l).max?

/-- The oldest SEQ in the flash ring (R422). -/
def Dev.ringOldest (d : Dev) : Option Nat :=
  let l := d.flash.ring.map (·.2.seq)
  (if seqWrapped l then l.filter (2 ^ 16 ≤ ·) else l).min?

/-- At a start the SEQ, OPSEC and PWRCYC of the records already held are corrected (R422): `ops` and `pwr` are what the counters
gained. -/
def Dev.recordsCorrect (d : Dev) (ops pwr : Nat) : Dev :=
  let base := d.ringNewest
  let fix (r : Rec) : Rec := { r with opsec := min (2 ^ 32 - 1) (r.opsec + ops), pwrcyc := (r.pwrcyc + pwr) % 65536 }
  let bumpSeq (s : Nat) : Nat := match base with
    | some b => if b + s < 2 ^ 32 then b + s else b + s - 2 ^ 32 + 1
    | none => s
  let d := d.modEvr fun h =>
    { h with
      chip := h.chip.map fun c => { c with r := { fix c.r with seq := bumpSeq c.r.seq } }
      q28 := h.q28.map fix
      nextSeq := bumpSeq h.nextSeq
      sector := base.map fun b => b % ringSlots / 128 }
  d.on (d.rd F.evrNewest_seq != 0) fun d => d.wr F.evrNewest_seq (bumpSeq (d.rd F.evrNewest_seq))

end Sys2Proof.Machine
end

