-- ==== Sys2Proof/Machine/Net.lean ====
section
/-!
DEFINITION. Network ports, the switch, egress and PTP messages sent (R59, R63, R288 to R299, R305 to R310, 11_network_ports.md).
Ports are 0 for P_1 and 1 for P_2.
-/

namespace Sys2Proof.Machine

/-- Changes the network state. -/
def Dev.modNet (d : Dev) (f : NetH → NetH) : Dev := { d with net := f d.net }

/-- Frames waiting at an egress port. -/
def Dev.waitingAt (d : Dev) (p : Nat) : List Waiting := Tbl.get [] p d.net.egress

/-- Replaces them. -/
def Dev.setWaiting (d : Dev) (p : Nat) (l : List Waiting) : Dev := d.modNet fun h => { h with egress := Tbl.put p l h.egress }

/-- Switch mode: LINE 0, RING 1, DUAL 2; until configuration ends both ports act as LINE (R291). -/
def Dev.switchMode (d : Dev) : Nat := if d.net.preconfig then 0 else d.rd F.netCtrl_mode

/-- A port's write right to a window (R36, R38); the management core has every right. -/
def Dev.right (d : Dev) (port win : Nat) : Nat := if port = 4 then 0 else bitsOf (Tbl.get 0 port d.pwr.inUse) (2 * win) 2

/-- The access violates the rights of its port: it is kept and logged (R304). -/
def Dev.violation (d : Dev) (port addr : Nat) : Dev :=
  (d.wr F.netViol_addr addr port).ev E.netViolation port addr port

/-- A frame is dropped (R314): 1 buffer full, 2 too long, 3 malformed, 4 Q_31 full. -/
def Dev.frameDrop (d : Dev) (p reason : Nat) : Dev :=
  let n := Tbl.get 0 (p + 1) d.net.drops + 1
  (d.modNet fun h => { h with drops := Tbl.set 0 (p + 1) n h.drops }).ev E.netFrameDrop (p + 1 + 256 * reason) n

/-! ### Links -/

/-- Row LINK_UP (R290): the PCS has held synchronisation, and with ANEN negotiation has completed, for `ms` ms; UPDLY of them bring the
link up. -/
def Dev.linkUp (d : Dev) (p ms : Nat) : Dev :=
  if d.flag F.netPLink_up p ∨ ms < d.rd F.netPCtrl_updly p then d
  else
    let d := (((d.set1 F.netPLink_up p).set1 F.netPLink_sync p).wr F.netPLink_andone (d.rd F.netPCtrl_anen p) p).clr F.netPLink_rfault p
    d.ev E.netLinkUp (p + 1) 0

/-- Why a link goes down (R290). -/
inductive DownBy where
  | sync | remote | restart
deriving DecidableEq, Repr

/-- Answers that waited for Q_21 enter it while it has room (R39, R40). -/
def Dev.rspDrain (d : Dev) : Dev :=
  d.net.rspWait.foldl (fun d r => d.respond r.1 r.2) (d.modNet fun h => { h with rspWait := [] })

/-- The committed commands of a port complete without an answer (R42, R43): they pass to port code 4, which has none. -/
def Cmdr.orphan (p : Nat) (c : Cmdr) : Cmdr := if c.port = p then { c with port := 4 } else c

/-- The committed commands of port `p`, wherever they wait, lose their answers (R42, R43). -/
def Dev.orphan (d : Dev) (p : Nat) : Dev :=
  let q (l : List QEnt) : List QEnt := l.map fun e => { e with by_ := e.by_.orphan p }
  { d with
    ax := d.ax.map fun x => (x.1, { x.2 with
      queue := q x.2.queue
      loopPend := x.2.loopPend.map fun l => { l with by_ := l.by_.orphan p }
      pend := x.2.pend.map fun c => match c with
        | .cmd b v => .cmd (b.orphan p) v
        | .ecmd b v => .ecmd (b.orphan p) v })
    tim := { d.tim with judge := d.tim.judge.map fun j => match j with
      | .ctrl b n w => .ctrl (b.orphan p) n w
      | .enable b n => .enable (b.orphan p) n
      | .meas n i o t => .meas n i o t }
    can := { d.can with q20 := q d.can.q20 }
    mgt := { d.mgt with q26 := q d.mgt.q26, q31 := d.mgt.q31.map fun c => { c with by_ := c.by_.map (Cmdr.orphan p) } }
    chk := d.chk.map fun x => (x.1, { x.2 with wait := x.2.wait.map fun y => (y.1.orphan p, y.2) }) }

/-- Responses, events and STATUS waiting for a port go, and so do the frames that wait for it (R43, R290). -/
def Dev.dropOutputs (d : Dev) (p : Nat) : Dev :=
  (d.modNet fun h =>
    { h with
      q21 := h.q21.filter (·.port != p)
      rspWait := h.rspWait.filter (·.1.port != p)
      q22 := if d.rd F.netEvcfg_dest = p then [] else h.q22
      egress := Tbl.put p [] h.egress
      busy := Tbl.put p false h.busy
      recovered := Tbl.erase p h.recovered }).rspDrain

/-- A frame that is being forwarded from a lost port is cut off where it stands, at 8 ns a byte after preamble and header, and ends with a
bad check sequence (R290). -/
def Dev.cutOff (d : Dev) (p : Nat) : Dev :=
  let q := 1 - p
  match Tbl.find q d.net.sending, Tbl.find q d.net.wire with
  | some (src, t), some f =>
    if src = p ∧ Tbl.get false q d.net.busy then
      d.modNet fun h => { h with wire := Tbl.put q { f with body := f.body.take ((d.now - t) / 8000 - 22), fcs := false } h.wire }
    else d
  | _, _ => d

/-- Row LINK_DOWN (R290, R43, R385): the commands waiting in the port's queue are discarded, those committed complete, and every tag of the
port is free at once. -/
def Dev.linkDown (d : Dev) (p : Nat) (why : DownBy) : Dev :=
  if !d.flag F.netPLink_up p then d
  else
    let q := Tbl.get [] p d.net.cmdq
    let d := (d.orphan p).modNet fun h =>
      { h with
        cmdq := Tbl.put p [] h.cmdq
        inflight := h.inflight.filter fun x => x.2 != p
        released := h.released.filter fun t => h.inflight.any fun x => x.1 == t && x.2 != p }
    let d := ((d.dropOutputs p).cutOff p).clr F.netPLink_up p
    let d := match why with
      | .sync => (d.clr F.netPLink_sync p).clr F.netPLink_andone p
      | .remote => d.set1 F.netPLink_rfault p
      | .restart => d.clr F.netPLink_andone p
    (d.bump F.netPLink_downs p).ev E.netLinkDown (p + 1) q.length

/-- NET_p_CTRL.RESTART is written with 1 (R290). -/
def Dev.anRestart (d : Dev) (p : Nat) : Dev := d.clr F.netPLink_andone p

/-- NET_p_MDIO is written (R289): OP 1 or 2 starts a Clause 22 frame. -/
def Dev.mdioWrite (d : Dev) (p v : Nat) : Code × Dev :=
  if d.flag F.netPMdio_busy p then (.wrongState, d)
  else
    let op := bitsOf v 26 2
    let d := (((d.wr F.netPMdio_data v p).wr F.netPMdio_regad (v / 2 ^ 16) p).wr F.netPMdio_phyad (v / 2 ^ 21) p).wr F.netPMdio_op op p
    (.ok, d.wr F.netPMdio_busy (b2n (op = 1 ∨ op = 2)) p)

/-- Row MDIO_DONE (R289): a read brings its result. -/
def Dev.mdioDone (d : Dev) (p data : Nat) : Dev :=
  if d.flag F.netPMdio_busy p then
    (d.clr F.netPMdio_busy p).on (d.rd F.netPMdio_op p == 2) (·.wr F.netPMdio_data data p)
  else d

/-- Row RX_CLOCK_CHANGEOVER (R385): to the recovered clock or back. -/
def Dev.rxClock (d : Dev) (p : Nat) (recovered : Bool) : Dev :=
  d.modNet fun h => { h with recovered := if recovered then Tbl.put p 1 h.recovered else Tbl.erase p h.recovered }

/-! ### The switch -/

/-- A MAC address from its bytes, first on the wire first. -/
def macOf (b : List Nat) : Nat := ofBytes b

/-- The PTP, peer-delay and pause addresses (R292). -/
def macPtp : Nat := macOf [0x01, 0x1B, 0x19, 0, 0, 0]
def macPdelay : Nat := macOf [0x01, 0x80, 0xC2, 0, 0, 0x0E]
def macPause : Nat := macOf [0x01, 0x80, 0xC2, 0, 0, 0x01]

/-- EtherType of PTP (R59). -/
def etPtp : Nat := 0x88F7

/-- Octets of a frame on the wire with its check sequence, padded to 64 (R296). -/
def Frame.octets (f : Frame) : Nat := max 64 (18 + f.body.length)

/-- TYPE, VERSION, DIR, LAST, STATION, SEQ and LEN of an EVX frame (R296). -/
def Frame.type (f : Frame) : Nat := at8 f.body 0 % 16
def Frame.version (f : Frame) : Nat := at8 f.body 0 / 16
def Frame.dir (f : Frame) : Nat := at8 f.body 1 % 2
def Frame.station (f : Frame) : Nat := (at8 f.body 2 + 256 * at8 f.body 3) % 4096
def Frame.seq (f : Frame) : Nat := at8 f.body 4 + 256 * at8 f.body 5
def Frame.len (f : Frame) : Nat := at8 f.body 6 + 256 * at8 f.body 7

/-- The payload of an EVX frame. -/
def Frame.payload (f : Frame) : List Nat := (f.body.drop 16).take f.len

/-- An EVX frame by its EtherType (R292). -/
def Dev.isEvx (d : Dev) (f : Frame) : Bool := f.etype == d.rd F.netCtrl_etype

/-- The SEQ has been seen: it is the highest, or one marked in the window below it (R294). -/
def DupSrc.has (e : DupSrc) (seq : Nat) : Bool :=
  let below := (e.high + 65536 - seq) % 65536
  below == 0 || (decide (below ≤ 64) && bitOf e.seen (below - 1))

/-- The entry after a SEQ (R294). -/
def DupSrc.mark (e : DupSrc) (seq : Nat) : DupSrc :=
  let ahead := (seq + 65536 - e.high) % 65536
  let below := (e.high + 65536 - seq) % 65536
  if 1 ≤ ahead ∧ ahead ≤ 32767 then
    { e with high := seq, seen := if ahead ≤ 64 then (e.seen * 2 ^ ahead + 2 ^ (ahead - 1)) % 2 ^ 64 else 0 }
  else if 1 ≤ below ∧ below ≤ 64 then { e with seen := putBits e.seen (below - 1) 1 1 }
  else e

/-- The duplicate table looks at an EVX frame of RING mode: whether it is a duplicate, and the table after it (R294). -/
def Dev.dupCheck (d : Dev) (p : Nat) (f : Frame) : Bool × Dev :=
  match d.net.dup.find? (·.mac == f.src) with
  | some e =>
    let rest := d.net.dup.filter (·.mac != f.src)
    if e.has f.seq then (true, (d.modNet fun h => { h with dup := rest ++ [e] }).bump F.netPCnt_dup p)
    else (false, d.modNet fun h => { h with dup := rest ++ [e.mark f.seq] })
  | none =>
    let full := decide (64 ≤ d.net.dup.length)
    let d := d.modNet fun h => { h with dup := (if full then h.dup.drop 1 else h.dup) ++ [{ mac := f.src, high := f.seq }] }
    (false, d.on full (·.bump F.netDup_ovf))

/-- The messageType of a PTP message. -/
def ptpType (b : List Nat) : Nat := at8 b 0 % 16

/-- A PTP message with `x` added to its correctionField, in 2^-16 ns, saturating (R4, R63). -/
def ptpCorrect (b : List Nat) (x : Int) : List Nat :=
  let c := sx 64 (ofBytesBe ((b.drop 8).take 8))
  b.take 8 ++ bytesBe 8 (ux 64 (satS 64 (c + x))) ++ b.drop 16

/-- The fixed delay of a forwarded frame, within 8 ns of 296 ns in LINE and of 392 ns in RING (R293), in steps of the stamps: a free value
(2^-16 ns). -/
def Dev.passTime (d : Dev) : Int := ((if d.switchMode = 1 then 384 else 288) * 65536 + d.free % 33 * 32768 : Nat)

/-- A PTP timestamp: 48 bits of seconds and 32 of nanoseconds. -/
def ptpTime (t16 : Nat) : List Nat := bytesBe 6 (t16 / sec16) ++ bytesBe 4 (nsOf t16)

/-- An own Sync takes its origin, whole nanoseconds with the fraction in the correctionField, as it leaves P_p (R59, R61). -/
def Dev.syncStamp (d : Dev) (p : Nat) (f : Frame) : Frame :=
  let t := (d.egressStamp p 0).toNat
  let b := ptpCorrect f.body (fracOf t : Nat)
  { f with body := b.take 34 ++ ptpTime t ++ b.drop 44 }

/-- A frame that leaves P_p takes up what its kind asks for (R59, R61 to R63): a Sync under the transparent clock the link delay of its
ingress port and its residence time on the root count, with the latencies of both balls. -/
def Dev.fillIn (d : Dev) (p : Nat) (w : Waiting) : Frame × Dev :=
  match w.fill with
  | .none => (w.frame, d)
  | .sync => (d.syncStamp p w.frame, d)
  | .residence =>
    let lat : Int := (d.rd F.tsuLat_inlat w.from_ + d.rd F.tsuLat_eglat p : Nat) * 32768
    let held := d.stampAt 4 0 - d.stampAt 4 (d.now - w.at_)
    ({ w.frame with body := ptpCorrect w.frame.body (d.rdI F.tsuLinkdly_d w.from_ + lat + d.passTime + held) }, d.freed)
  | .request =>
    let base := d.stampBase p (at8 w.frame.body 4)
    let t1 := d.egressStamp p base
    (w.frame, d.modTsu p fun h => { h with req := some (t1, base) })
  | .turnaround t2 base => ({ w.frame with body := ptpCorrect w.frame.body (d.egressStamp p base - t2) }, d)

/-- A frame shorter than 64 bytes is padded (R296). -/
def padFrame (f : Frame) : Frame := { f with body := f.body ++ List.replicate (46 - f.body.length) 0 }

/-- A frame leaves an egress port. -/
def Dev.send (d : Dev) (p : Nat) (w : Waiting) : Dev :=
  let x := d.fillIn p w
  x.2.modNet fun h =>
    { h with
      wire := Tbl.put p (padFrame x.1) h.wire, busy := Tbl.put p true h.busy, sending := Tbl.put p (w.from_, d.now) h.sending }

/-- Octets of the forwarded frames held for a direction (R293). -/
def Dev.held (d : Dev) (p : Nat) : Nat := (((d.waitingAt p).filter (·.cls == 4)).map (·.frame.octets)).sum

/-- A frame is forwarded to the other port (R293, R295): cut-through where that port is idle and nothing waits for it, else held in the
4 KiB of its direction. The transparent clock is that of the ingress port (R63; notes/assumptions/114.md). -/
def Dev.forward (d : Dev) (p : Nat) (f : Frame) : Dev :=
  let q := 1 - p
  let tc := f.etype == etPtp && ptpType f.body == 0 && d.flag F.tsuCtrl_tc p && !d.net.preconfig
  let w : Waiting := { cls := 4, frame := f, at_ := d.now, fill := if tc then .residence else .none, from_ := p }
  if !d.flag F.netPLink_up q then d
  else if !(Tbl.get false q d.net.busy) && (d.waitingAt q).isEmpty then d.send q w
  else if 4096 < d.held q + f.octets then (d.bump F.netPCnt_drop p).frameDrop p 1
  else d.setWaiting q (d.waitingAt q ++ [w])

/-- A frame as the port goes on with it: one longer than 1,522 bytes is cut there, and its check sequence is then bad (R289). -/
def cutFrame (f : Frame) : Frame := if 1522 < f.octets then { f with body := f.body.take 1504, fcs := false } else f

/-- Row FRAME_FORWARD (R289, R291 to R294): a frame received on P_p. An untagged frame to the device or its group is taken: with a good check
sequence an EVX frame waits for EVX_FRAME_TAKEN, with a bad one it is counted. -/
def Dev.frameForward (d : Dev) (p : Nat) (f : Frame) : Dev :=
  let d := d.on (decide (1522 < f.octets)) fun d => (d.bump F.netPCnt_drop p).frameDrop p 2
  let f := cutFrame f
  let dual := d.switchMode == 2
  let evx := d.isEvx f
  let mine := f.dst == d.mac && !d.net.preconfig
  let group := f.dst == d.mcast && !d.net.preconfig
  let tagged := f.etype == 0x8100
  let fwd := f.dst != macPdelay && f.dst != macPause && !(mine && !tagged) && !dual
  let take := (mine || group) && !tagged
  let chk := if d.switchMode = 1 ∧ evx ∧ f.type ≠ 6 then d.dupCheck p f else (false, d)
  if chk.1 then chk.2
  else
    let d := chk.2.on fwd (·.forward p f)
    if !take then d
    else if !f.fcs then d.bump F.netPCnt_fcs p
    else d.on evx (·.modNet fun h => { h with rxq := h.rxq ++ [{ port := p, frame := f }] })

/-- The header of a taken EVX frame is malformed (R297). -/
def Dev.evxBad (d : Dev) (f : Frame) : Bool :=
  let t := f.type
  f.version != 1 || decide (4 ≤ at8 f.body 1) || decide (16 ≤ at8 f.body 3) || decide (64 ≤ at8 f.body 15) ||
  t == 0 || decide (8 < t) || decide (f.body.length < 16 + f.len) || t == 3 || t == 4 || t == 5 ||
  ((t == 2 || t == 6 || t == 8) && (f.dir == 1 || f.station != d.rd F.netStation_station))

/-- A malformed frame (R297). -/
def Dev.malformed (d : Dev) (p : Nat) : Dev := (d.bump F.netPCnt_malformed p).frameDrop p 3

/-- Replaces the first element that satisfies a test. -/
def replaceFirst {α : Type} (t : α → Bool) (f : α → List α) : List α → List α
  | [] => []
  | x :: l => if t x then f x ++ l else x :: replaceFirst t f l

/-- Row EVX_FRAME_TAKEN (R297): the oldest taken frame not yet checked. -/
def Dev.evxTaken (d : Dev) : Dev :=
  match d.net.rxq.find? (!·.checked) with
  | some x =>
    let bad := d.evxBad x.frame
    (d.modNet fun h => { h with rxq := replaceFirst (!·.checked) (fun x => if bad then [] else [{ x with checked := true }]) h.rxq }).on
      bad (·.malformed x.port)
  | none => d

/-- The oldest checked frame of a type leaves the list of taken frames. -/
def Dev.takeType (d : Dev) (t : Nat) : Option (RxFrame × Dev) :=
  let is (x : RxFrame) : Bool := x.checked && x.frame.type == t
  (d.net.rxq.find? is).map fun x => (x, d.modNet fun h => { h with rxq := replaceFirst is (fun _ => []) h.rxq })

/-- Entries of 52 bytes (R299). -/
def chunks52 (l : List Nat) : Nat → List (List Nat)
  | 0 => []
  | n + 1 => if l.length < 52 then [] else l.take 52 :: chunks52 (l.drop 52) n

/-- Words of a byte string, low byte first. -/
def wordsOf (l : List Nat) (n : Nat) : List Nat := (List.range n).map fun i => ofBytes ((l.drop (4 * i)).take 4)

/-- Row GAFFER_FRAME (R299). -/
def Dev.gafferFrame (d : Dev) : Dev :=
  match d.takeType 1 with
  | some (x, d) =>
    if d.right x.port 12 ≠ 0 then d.violation x.port 0xC0000
    else
      (chunks52 x.frame.payload 28).foldl
        (fun d e =>
          d.each ((List.range 8).filter fun n =>
              d.flag F.netGmap_en n && d.rd F.netGmap_master n == at8 e 0 && bitOf (d.rd F.netGmap_ports n) x.port)
            fun n d => (d.segPush n (wordsOf (e.drop 4) 12)).2) d
  | none => d

/-- Row SAFE_FRAME_RX (R308, R39): Q_24 takes four. -/
def Dev.safeFrameRx (d : Dev) : Dev :=
  match d.takeType 6 with
  | some (x, d) =>
    if 4 ≤ d.net.q24.length then d
    else d.modNet fun h => { h with q24 := h.q24 ++ [{ port := x.port, body := x.frame.payload }] }
  | none => d

/-- Row TRIG_FRAME (R309, R39): Q_25 takes eight. -/
def Dev.trigFrame (d : Dev) : Dev :=
  match d.takeType 7 with
  | some (x, d) =>
    let b := x.frame.payload
    if 8 ≤ d.net.q25.length then d.bump F.gthCnt_frdrop
    else
      d.modNet fun h =>
        { h with
          q25 := h.q25 ++ [{ group := at8 b 0, sec := ofBytes ((b.drop 4).take 4), ns := ofBytes ((b.drop 8).take 4) % 2 ^ 30
                             frac := ofBytes ((b.drop 12).take 2) }] }
  | none => d

/-- Row BULK_FRAME (R310, R405): KIND 1 becomes a chunk of Q_31. -/
def Dev.bulkFrame (d : Dev) : Dev :=
  match d.takeType 8 with
  | some (x, d) =>
    let b := x.frame.payload
    let n := b.length - 8
    if at8 b 0 ≠ 1 ∨ at8 b 1 ≠ 0 ∨ n < 4 ∨ 1440 < n ∨ n % 4 ≠ 0 then d.malformed x.port
    else if d.right x.port 3 ≠ 0 then d.violation x.port 0x30000
    else if 8 ≤ d.mgt.q31.length ∨ d.rd F.mgtState_core = 1 then (d.bump F.netPCnt_drop x.port).frameDrop x.port 4
    else
      let c : Chunk := { by_ := none, stream := ofBytes ((b.drop 2).take 2), offset := ofBytes ((b.drop 4).take 4), data := b.drop 8 }
      { d with mgt := { d.mgt with q31 := d.mgt.q31 ++ [c] } }
  | none => d

/-! ### PTP messages of the device (R59) -/

/-- The common header of a PTP message (IEEE 1588-2019): type, length, domain, sdoId, flags, correction, port, sequence, interval. -/
def ptpHeader (clock : List Nat) (type len major minor domain flags : Nat) (corr : Int) (port seq : Nat) (logInt : Int) : List Nat :=
  [major * 16 + type, 0x12] ++ bytesBe 2 len ++ [domain, minor] ++ bytesBe 2 flags ++ bytesBe 8 (ux 64 (satS 64 corr)) ++ [0, 0, 0, 0] ++
    clock ++ bytesBe 2 port ++ bytesBe 2 seq ++ [0, ux 8 logInt]

/-- The clockIdentity: the EUI-64 of NET_MAC. -/
def Dev.clockId (d : Dev) : List Nat :=
  let b := bytesOf 6 d.mac
  b.take 3 ++ [0xFF, 0xFE] ++ b.drop 3

/-- A PTP message of the device waits for egress. -/
def Dev.ptpPut (d : Dev) (p dst : Nat) (body : List Nat) (fill : PtpFill := .none) : Dev :=
  d.egressPut p { cls := 1, frame := { dst := dst, src := d.mac, etype := etPtp, body := body }, at_ := d.now, fill := fill }

/-- A received Pdelay_Req (R59). -/
structure PdelayReq where
  major : Nat
  minor : Nat
  domain : Nat
  seq : Nat
  /-- correctionField, 2^-16 ns. -/
  corr : Int
  /-- sourcePortIdentity: clockIdentity and port. -/
  clock : Nat
  port : Nat
  /-- Time since its message time-stamp point passed the ball, ps. -/
  age : Nat := 0
deriving DecidableEq, Repr

/-- Row PDELAY_RESPONSE (R59, R62): one-step; the turnaround t3 − t2 goes into the correctionField as the response leaves. -/
def Dev.pdelayResponse (d : Dev) (p : Nat) (r : PdelayReq) : Dev :=
  let base := d.stampBase p r.domain
  let body := ptpHeader d.clockId 3 54 r.major r.minor r.domain 0 r.corr (p + 1) r.seq 0x7F ++ List.replicate 10 0 ++
    bytesBe 8 r.clock ++ bytesBe 2 r.port
  d.ptpPut p macPdelay body (.turnaround (d.ingress p base r.age) base)

/-- The Pdelay_Req that the initiator of P_p sends when it is due (R59): every 2^LOGPDLY s, in the domain of the first time base that follows
the port (notes/assumptions/115.md). -/
def Dev.pdelaySend (d : Dev) (p : Nat) : Dev :=
  let h := d.tsu p
  if !d.flag F.tsuCtrl_pdly p ∨ !d.flag F.netPLink_up p ∨ d.net.preconfig ∨ d.now < h.next then d
  else
    let n := ([0, 1, 2, 3].find? fun n => d.rd F.tbCtrl_src n == 1 && d.rd F.tbCtrl_port n == p)
    let f (x : Fld) : Nat := match n with | some n => d.rd x n | none => 0
    let body := ptpHeader d.clockId 2 54 (f F.tbPtp_majorsdo) (f F.tbPtp_minorsdo) (f F.tbPtp_domain) 0 0 (p + 1) h.seq 0x7F ++
      List.replicate 20 0
    let step := 125000000000 * 2 ^ (d.rdI F.tsuCtrl_logpdly p + 3).toNat
    (d.modTsu p fun h => { h with next := d.now + step, seq := (h.seq + 1) % 65536, req := none }).ptpPut p macPdelay body .request

/-- Ports on which TB_0 sends as grandmaster (R59). -/
def Dev.gmPorts (d : Dev) : List Nat :=
  if d.flag F.tbCtrl_gm 0 then
    [0, 1].filter fun p => if p = 0 then d.flag F.tbGm_onp1 else d.flag F.tbGm_onp2
  else []

/-- Sends a message of the grandmaster on its ports; its sequence number is a free value, fresh for every message. -/
def Dev.gmSend (d : Dev) (fill : PtpFill) (body : Nat → Nat → List Nat) : Dev :=
  d.gmPorts.foldl (fun d p => (d.freed.ptpPut p macPtp (body p (d.free % 65536)) fill)) d

/-- Row GM_SYNC_SEND (R59): one-step; the origin is filled in as the frame leaves. -/
def Dev.gmSync (d : Dev) : Dev :=
  d.gmSend .sync fun p seq =>
    ptpHeader d.clockId 0 44 (d.rd F.tbPtp_majorsdo 0) (d.rd F.tbPtp_minorsdo 0) (d.rd F.tbPtp_domain 0) 0 0 (p + 1) seq
      (d.rdI F.tbGm_logsync) ++ List.replicate 10 0

/-- Row GM_ANNOUNCE_SEND (R59): once per second. -/
def Dev.gmAnnounce (d : Dev) : Dev :=
  let acc := d.free % 256
  let var := d.free / 256 % 65536
  let src := d.free / 2 ^ 24 % 256
  let utc := d.free / 2 ^ 32 % 65536
  let p2 := d.free / 2 ^ 48 % 256
  d.freed.gmSend .none fun p seq =>
    ptpHeader d.clockId 11 64 (d.rd F.tbPtp_majorsdo 0) (d.rd F.tbPtp_minorsdo 0) (d.rd F.tbPtp_domain 0) 0x0008 0 (p + 1) seq 0 ++
      List.replicate 10 0 ++ bytesBe 2 utc ++ [0, d.rd F.tbGm_prio1, d.rd F.tbGm_class, acc] ++ bytesBe 2 var ++ [p2] ++ d.clockId ++
      [0, 0, src]

/-! ### Egress -/

/-- The waiting frame that goes first: the lowest class, the oldest of it (R295). -/
def firstWaiting : List Waiting → Option Waiting
  | [] => none
  | w :: l => match firstWaiting l with
    | some x => if x.cls < w.cls then some x else some w
    | none => some w

/-- A BULK frame of the Gather stream is formed for P_p from the head of Q_30 (R286, R310). -/
def Dev.bulkForm (d : Dev) (p : Nat) : Dev :=
  match d.gth.q30 with
  | (last, body) :: l =>
    let sp := d.rd F.gthFrame_sport
    if sp < 2 ∧ (sp = p ∨ d.rd F.netCtrl_mode = 1) then
      let d := { d with gth := { d.gth with q30 := l } }
      (d.sendEvx (2 ^ sp) 8 8 (b2n last) (d.rd F.netStation_station) d.dst fun _ => body).streamFill 16
    else d
  | [] => d

/-- A STATUS frame starts (R305, R306): STSENT counts it, and more than 2,000 ns after its slot instant it is late. -/
def Dev.statusStarts (d : Dev) (p slot : Nat) : Dev :=
  let late := since16 (d.tb16 (d.portTb p)) slot
  let d := d.bumpMod F.netStat_stsent
  let is := decide (2000 * 65536 < late)
  (d.modNet fun h => { h with prevLate := is }).on is fun d =>
    (d.set1 F.netStat_stlate).ev E.netStatusLate (p + 1) (dwU (rneShr late 16))

/-- The waiting frames that may leave P_p: no STATUS frame while its time base is not good (R306). -/
def Dev.offered (d : Dev) (p : Nat) : List Waiting :=
  if d.tbGood (d.portTb p) then d.waitingAt p else (d.waitingAt p).filter (·.cls != 3)

/-- Row EGRESS_IDLE (R295): the port falls idle and sends the first waiting frame. -/
def Dev.egressIdle (d : Dev) (p : Nat) : Dev :=
  let d := d.modNet fun h => { h with busy := Tbl.put p false h.busy }
  if !d.flag F.netPLink_up p then d
  else
    let d := d.on (d.offered p).isEmpty (·.bulkForm p)
    match firstWaiting (d.offered p) with
    | some w => ((d.setWaiting p ((d.waitingAt p).erase w)).send p w).on (w.cls == 3) (·.statusStarts p w.slot)
    | none => d

/-- Takes from the front of Q_21 the records of a port and address that fit within `room` bytes (R303). -/
def takeRsp (port mac : Nat) : Nat → List Rsp → List Rsp × List Rsp
  | _, [] => ([], [])
  | room, r :: l =>
    let size := 8 + 4 * r.data.length
    if r.port == port && r.mac == mac then
      if size ≤ room then
        let x := takeRsp port mac (room - size) l
        (r :: x.1, x.2)
      else ([], r :: l)
    else
      let x := takeRsp port mac room l
      (x.1, r :: x.2)

/-- The words of a response record (R303). -/
def Rsp.words (r : Rsp) : List Nat :=
  [r.code.num + 256 * r.tag + 65536 * r.data.length + 2 ^ 24 * r.op, r.addr] ++ r.data

/-- Records that a port takes from Q_21, within `room` bytes, of the address of the first. -/
def Dev.rspTake (d : Dev) (port room : Nat) : List Rsp × Dev :=
  match d.net.q21.find? (·.port == port) with
  | some r =>
    let x := takeRsp port r.mac room d.net.q21
    (x.1, (d.modNet fun h => { h with q21 := x.2 }).rspDrain)
  | none => ([], d)

/-- A message on the host or service port (R311): its header and body words. -/
def serialMsg (kind : Nat) (body : List Nat) : List Nat := (kind + 65536 * (4 * body.length)) :: body

/-- What goes out on the host port (2), words, or on the service port (3), bytes. -/
def Dev.serialPut (d : Dev) (port : Nat) (m : List Nat) : Dev := d.modNet fun h => { h with serial := Tbl.put port m h.serial }

/-- A SLIP frame of the bytes (RFC 1055): END 0xC0 ends it, and 0xC0 and 0xDB in it are escaped. -/
def slipFrame (b : List Nat) : List Nat :=
  (b.flatMap fun x => if x = 0xC0 then [0xDB, 0xDC] else if x = 0xDB then [0xDB, 0xDD] else [x]) ++ [0xC0]

/-- A message on the service UART (R313): its bytes, a CRC-32 of them, framed under SLIP. -/
def Dev.servicePut (d : Dev) (kind : Nat) (body : List Nat) : Dev :=
  let b := (serialMsg kind body).flatMap (bytesOf 4)
  d.serialPut 3 (slipFrame (b ++ bytesOf 4 (crc32.over_ b)))

/-- The head of Q_30 leaves for the host or the service port (R286, R311): the payload of its BULK frame as a message of that kind of
frame. The spec gives these ports no message for it (DESIGN CHOICE, notes/assumptions/118.md). -/
def Dev.bulkSerial (d : Dev) : Dev :=
  let sp := d.rd F.gthFrame_sport
  match d.gth.q30 with
  | (_, body) :: l =>
    if sp < 2 then d
    else
      let w := wordsOf body (body.length / 4)
      let d := { d with gth := { d.gth with q30 := l } }
      (if sp = 2 then d.serialPut 2 (serialMsg 8 w) else d.servicePut 8 w).streamFill 16
  | [] => d

/-- Row RSP_FRAME (R303, R313): the records waiting for a port are sent; those of the host port wait for its next message. -/
def Dev.rspFrame (d : Dev) (port : Nat) : Dev :=
  if port = 2 then d
  else
    let x := d.rspTake port 1484
    match x.1 with
    | [] => d
    | r :: _ =>
      let w := x.1.flatMap Rsp.words
      if port = 3 then x.2.servicePut 2 w
      else x.2.sendEvx (2 ^ port) 6 3 0 (d.rd F.netStation_station) (fun _ => r.mac) fun _ => w.flatMap (bytesOf 4)

/-- Row EVENT_FRAME (R307, R313): up to 40 pushed records. -/
def Dev.eventFrame (d : Dev) : Dev :=
  let port := d.rd F.netEvcfg_dest
  let l := d.net.q22.take 40
  if l = [] ∨ port = 2 ∨ !d.flag F.netEvcfg_en then d
  else
    let d := d.modNet fun h => { h with q22 := h.q22.drop 40 }
    let w := l.flatMap Rec.words
    if port = 3 then d.servicePut 3 w
    else d.sendEvx (2 ^ port) 7 5 0 (d.rd F.netStation_station) d.dst fun _ => w.flatMap (bytesOf 4)

/-- HIRQ_N (R312): low, false, while responses or events wait for the host port. -/
def Dev.hirqN (d : Dev) : Bool :=
  !(d.net.q21.any (·.port == 2) || (d.rd F.netEvcfg_dest == 2 && !d.net.q22.isEmpty))

/-- Row NET_STATUS_GATED (R306): the gate follows the time base of P_p. -/
def Dev.statusGate (d : Dev) (p : Nat) : Dev :=
  let g := b2n (!d.tbGood (d.portTb p))
  if g = d.rd F.netStat_stgated then d else (d.wr F.netStat_stgated g).ev E.netStatusGated (p + 1) g

end Sys2Proof.Machine
end

