-- ==== Sys2Proof/Machine/Launch.lean ====
section
/-!
DEFINITION. Launch slots (R74, R75, 02_time_bases.md) and the actions of compare units (R130, 04_profiles_and_stepping.md).
-/

namespace Sys2Proof.Machine

/-- A pulse is placed on a ball: 0 TOUT_0, 1 TOUT_1, 2 TRIGBUS, at an instant of TB_n, `w` × 10 ns wide (R74, R130). -/
def Dev.pulsePut (d : Dev) (ball tb : Nat) (at16 : Int) (w : Nat) : Dev :=
  { d with tim := { d.tim with pulses := ({ ball := ball, tb := tb, at_ := at16, width := 10 * w } :: d.tim.pulses).take 16 } }

/-- LCH_n beside its registers. -/
def Dev.lch (d : Dev) (n : Nat) : LchH := Tbl.get {} n d.tim.lch

/-- Changes it. -/
def Dev.modLch (d : Dev) (n : Nat) (f : LchH → LchH) : Dev :=
  { d with tim := { d.tim with lch := Tbl.put n (f (d.lch n)) d.tim.lch } }

/-- How far the time base of LCH_n has passed its launch time, 2^-16 ns (R74). -/
def Dev.lchPast (d : Dev) (n : Nat) : Int := since16 (d.tb16 (d.rd F.lchCtrl_tb n)) (d.lch n).t

/-- LCH_n is armed with the time it holds (R75). -/
def Dev.lchArm (d : Dev) (n : Nat) : Dev :=
  let past := decide (0 < d.lchPast n)
  (d.set1 F.lchStat_armed n).modLch n fun h => { h with passed := past }

/-- The event of LCH_n starts (R74); a pulse edge stands at `at16`. -/
def Dev.lchEvent (d : Dev) (n : Nat) (at16 : Int) : Dev :=
  let arg := d.rd F.lchCtrl_arg n
  let tb := d.rd F.lchCtrl_tb n
  let w := d.rd F.lchCtrl_width n
  match d.rd F.lchCtrl_kind n with
  | 1 => { d with tim := { d.tim with burst := some (arg % 64) } }
  | 2 => d.gthArmBy 0
  | 3 => d.each ((List.range 8).filter (bitOf arg)) fun k d => d.fioAsk k .on
  | 4 => d.each ((List.range 8).filter (bitOf arg)) fun k d => d.fioAsk k .off
  | 5 => d.pulsePut (arg % 2) tb at16 w
  | 6 => d.pulsePut 2 tb at16 w
  | 7 => d.canRef (arg % 16)
  | _ => d

/-- Row LAUNCH_FIRE (R74, R75). -/
def Dev.launchFire (d : Dev) (n : Nat) : Dev :=
  let past := d.lchPast n
  if !d.flag F.lchStat_armed n ∨ past < 0 then d
  else
    let late := (d.lch n).passed
    let now16 : Int := d.tb16 (d.rd F.lchCtrl_tb n)
    let at16 := if late then now16 else now16 - past
    let per := d.rd F.lchPer_per n
    let d := (d.bump F.lchStat_fired n).on late fun d => (d.set1 F.lchStat_late n).ev E.lchLate n (dwU (rneShr past 16))
    let d := d.lchEvent n at16
    if per = 0 then (d.clr F.lchStat_armed n).modLch n fun h => { h with passed := false }
    else
      let d := d.modLch n fun h => { h with t := (h.t + per) % (2 ^ 32 * 1000000000) }
      d.modLch n fun h => { h with passed := decide (0 < d.lchPast n) }

/-- LCH_n_TNS is written (R75): a firing due in the same clock comes first; then the launch time is committed with TSEC, and an enabled slot
is armed. -/
def Dev.lchCommit (d : Dev) (n ns : Nat) : Code × Dev :=
  if 1000000000 ≤ ns then (.range, d)
  else
    let d := d.launchFire n
    let d := (d.wr F.lchTns_ns ns n).modLch n fun h => { h with t := d.rd F.lchTsec_sec n * 1000000000 + ns }
    (.ok, d.on (d.flag F.lchCtrl_en n) (·.lchArm n))

/-- LCH_n_CTRL is written (R74, R75). A write with EN = 1 to a slot that has EN = 1 does not arm it again, be it a single-shot slot that has
fired (notes/assumptions/116.md). -/
def Dev.lchCtrlWrite (d : Dev) (n v : Nat) : Code × Dev :=
  let kind := bitsOf v 4 4
  let w := bitsOf v 16 8
  if 8 ≤ kind ∨ ((kind = 5 ∨ kind = 6) ∧ w = 0) then (.range, d)
  else
    let was := d.flag F.lchCtrl_en n
    let en := bitOf v 0
    let d := (((d.wr F.lchCtrl_en (b2n en) n).wr F.lchCtrl_tb (v / 2) n).wr F.lchCtrl_kind kind n).wr F.lchCtrl_arg (v / 256) n
    let d := d.wr F.lchCtrl_width w n
    (.ok, if en then d.on (!was) (·.lchArm n) else d.clr F.lchStat_armed n)

/-- LCH_n_PER is written. -/
def Dev.lchPerWrite (d : Dev) (n v : Nat) : Code × Dev :=
  if 1 ≤ v ∧ v < 1000 then (.range, d) else (.ok, d.wr F.lchPer_per v n)

/-- Row CMP_FIRED (R130): the action of a crossing falls due. -/
def Dev.cmpFire (d : Dev) (n c : Nat) : Dev :=
  let tb := d.rd F.axTick_tb n
  match (d.cmpu n c).due with
  | some (t, up) =>
    if !d.flag F.cmpCtrl_armed n c ∨ (d.tb16 tb : Int) < t then d
    else
      let arg := d.rd F.cmpCtrl_arg n c
      let w := d.rd F.cmpCtrl_width n c
      let d := match d.rd F.cmpCtrl_action n c with
        | 1 => d.fioAsk arg .on
        | 2 => d.fioAsk arg .off
        | 3 => d.fioAsk arg (.pulse w)
        | 4 => d.pulsePut arg tb t w
        | 5 => d.pulsePut 2 tb t w
        | 6 => d.gthArmBy 1
        | _ => d
      let per : Int := d.rd F.cmpPer_per n c * 65536
      let d := (d.set1 F.cmpCtrl_fired n c).ev E.cmpFired (n + 256 * c) (nsOf t.toNat)
      let d := d.modCmp n c fun h => { h with due := none, xc := satS 64 (if up then h.xc + per else h.xc - per) }
      if per = 0 then d.clr F.cmpCtrl_armed n c else d
  | none => d

/-- AX_n_CMPc_CTRL is written (R132, R133), by its ACTION, ARG, WIDTH and DISARM; `fields` holds the other RW fields, SRC in bit 0
and DIR in bits [2:1]. -/
def Dev.cmpCtrlWrite (d : Dev) (n c fields action arg width : Nat) (disarm : Bool) : Code × Dev :=
  let dir := fields / 2 % 4
  if dir = 3 ∨ 7 ≤ action ∨ (3 ≤ action ∧ action ≤ 5 ∧ width = 0) ∨ (1 ≤ action ∧ action ≤ 3 ∧ 7 < arg) ∨ (action = 4 ∧ 1 < arg) then
    (.range, d)
  else
    let d := (((d.wr F.cmpCtrl_src fields n c).wr F.cmpCtrl_dir dir n c).wr F.cmpCtrl_action action n c).wr F.cmpCtrl_arg arg n c
    let d := d.wr F.cmpCtrl_width width n c
    (.ok, d.on disarm (·.cmpDisarm n c))

end Sys2Proof.Machine
end

