-- ==== Sys2Proof/Machine/Mgt.lean ====
section
/-!
DEFINITION. The management core: mailbox, update streams, sensors, crystal check, telemetry, journal (R405 to R415, R422, R425,
R427, R428, 17_management_and_log.md).
-/

namespace Sys2Proof.Machine

/-- Changes the state of the management core. -/
def Dev.modMgt (d : Dev) (f : MgtH → MgtH) : Dev := { d with mgt := f d.mgt }

/-! ### Mailbox -/

/-- A Q_26 entry keeps its reserved bits and unused words at 0 and names a listed operation (R407). -/
def mbValid (w : List Nat) : Bool :=
  let z (n : Nat) : Bool := (w.drop n).all (· == 0)
  match w with
  | [] => false
  | w0 :: l =>
    let w1 := l.headD 0
    match w0 with
    | 1 => decide (w1 % 65536 ≤ 1) && z 3
    | 2 => decide (w1 % 65536 = 0) && z 2
    | 3 => z 1
    | 4 => decide (w1 < 256) && z 2
    | 5 => z 1
    | _ => false

/-- Q_26 is pushed (R39, R405, R407). A refusal is answered at once, an accepted entry when its operation completes. -/
def Dev.q26Push (d : Dev) (e : QEnt) : Option Code × Dev :=
  if !mbValid e.words then (some .range, d)
  else if !d.coreRuns then (some .wrongState, d)
  else if 16 ≤ d.mgt.q26.length then (some .queueFull, d)
  else (none, d.modMgt fun h => { h with q26 := h.q26 ++ [e] })

/-- The entry that the core takes next, if it is of operation `op` and its result has room (R407, R408). -/
def Dev.mbHead (d : Dev) (op : Nat) : Option QEnt :=
  match d.mgt.q26 with
  | e :: _ =>
    if !d.coreRuns ∨ e.words.headD 0 ≠ op ∨ (d.flag F.mgtMbcfg_results ∧ 16 ≤ d.mgt.q27.length) then none else some e
  | [] => none

/-- The operation at the head of Q_26 completes: its push is answered and, with RESULTS = 1, its record enters Q_27 (R407, R408). -/
def Dev.mbDone (d : Dev) (e : QEnt) (code : Code) (data : List Nat) : Dev :=
  let op := e.words.headD 0
  let d := (d.modMgt fun h => { h with q26 := h.q26.drop 1 }).answer e.by_ code
  if d.flag F.mgtMbcfg_results then
    let r := [op + 256 * code.num + 65536 * (d.mgt.mbSeq % 65536), e.by_.port] ++ (List.range 6).map fun i => data.getD i 0
    d.modMgt fun h => { h with q27 := h.q27 ++ [r], mbSeq := (h.mbSeq + 1) % 65536 }
  else d

/-- The word that a read of MGT_MBOUT_w returns to a port, and its effect (R408). -/
def Dev.mboutRead (d : Dev) (port w : Nat) : Nat × Dev :=
  let d := d.on (w == 0) fun d => d.modMgt fun h => { h with mbWin := Tbl.put port (h.q27.headD []) h.mbWin }
  let v := (Tbl.get [] port d.mgt.mbWin).getD w 0
  (v, d.on (w == 7) fun d => d.modMgt fun h => { h with q27 := h.q27.drop 1 })

/-! ### Slots and streams -/

/-- Base address of a slot: kind 0 firmware or 1 image, slot 0 A or 1 B (R391). -/
def slotBase (kind slot : Nat) : Nat := if kind = 0 then slot * 0x80000 else 0x100000 + slot * 0x200000

/-- Size of a slot (R391). -/
def slotSize (kind : Nat) : Nat := if kind = 0 then 0x80000 else 0x200000

/-- The slot in use (RST_BOOT). -/
def Dev.slotInUse (d : Dev) (kind : Nat) : Nat := d.rd (if kind = 0 then F.rstBoot_fwslot else F.rstBoot_imgslot)

/-- A slot is marked bad or not (R398). -/
def Dev.badMark (d : Dev) (kind slot : Nat) (v : Bool) : Dev :=
  d.wr F.rstBoot_bad (putBits (d.rd F.rstBoot_bad) (2 * kind + slot) 1 (b2n v))

/-- A slot is marked bad (R398). -/
def Dev.isBad (d : Dev) (kind slot : Nat) : Bool := bitOf (d.rd F.rstBoot_bad) (2 * kind + slot)

/-- A slot fails with a reason: it is marked bad and the reason is kept (R397, R398). -/
def Dev.slotFails (d : Dev) (kind slot reason : Nat) : Dev :=
  (d.badMark kind slot true).wr (if kind = 0 then F.rstBoot_fwreason else F.rstBoot_imgreason) reason

/-- Row UPD_OPEN (R409). The erase time of the result is a free value. -/
def Dev.updOpen (d : Dev) : Dev :=
  match d.mbHead 1 with
  | none => d
  | some e =>
    let w1 := e.words.getD 1 0
    let kind := w1 % 2
    let len := e.words.getD 2 0
    let slot := 1 - d.slotInUse kind
    if len % 4 ≠ 0 ∨ slotSize kind < len then d.mbDone e .range []
    else if d.flag F.mgtUpd_open ∨ (d.devstate = 0 ∧ !d.mgt.noImage) ∨
        (kind = 1 ∧ (List.range 8).any fun a => bitsOf (d.rd F.mgtAximg_slot) a 1 == slot) then d.mbDone e .wrongState []
    else
      let base := slotBase kind slot
      let stop := base + (len + 65535) / 65536 * 65536
      let ms := d.free % 2 ^ 32
      let d := { d.freed with flash := { d.flash with bytes := d.flash.bytes.filter fun x => x.1 < base || stop ≤ x.1 } }
      let d := d.badMark kind slot false
      let d := ((((d.set1 F.mgtUpd_open).wr F.mgtUpd_kind kind).wr F.mgtUpd_slot slot).clr F.mgtUpd_broken).clr F.mgtUpd_ver
      let d := (d.wr F.mgtUpd_stream (w1 / 65536)).clr F.mgtUpdbytes_bytes
      let d := d.modMgt fun h =>
        { h with updLen := len, updBytes := [], verified := h.verified.filter (· != 2 * kind + slot) }
      (d.mbDone e .ok [slot, ms]).ev E.mgtUpdate (1 + 256 * kind + 512 * slot) (w1 / 65536) e.by_.port

/-- Bytes are programmed from an offset of the open stream (R410): a byte already written is compared and kept. -/
def Dev.program (d : Dev) (base : Nat) : Nat → List Nat → Dev
  | _, [] => d
  | off, b :: l =>
    let d := match Tbl.find off d.mgt.updBytes with
      | some x => d.on (x != b) (·.set1 F.mgtUpd_broken)
      | none =>
        let d := { d with flash := { d.flash with bytes := Tbl.set 0xFF (base + off) b d.flash.bytes } }
        (d.modMgt fun h => { h with updBytes := Tbl.put off b h.updBytes }).bump F.mgtUpdbytes_bytes
    Dev.program d base (off + 1) l

/-- Row UPDATE_CHUNK (R410): the chunk at the head of Q_31. -/
def Dev.updateChunk (d : Dev) : Dev :=
  match d.mgt.q31 with
  | [] => d
  | c :: l =>
    if d.rd F.mgtState_core = 1 then d
    else
      let d := d.modMgt fun h => { h with q31 := l }
      let refuse (code : Code) : Dev := match c.by_ with
        | some b => d.answer b code
        | none => d.bump F.mgtUpdref_refused
      let opened := d.flag F.mgtUpd_open
      if c.offset % 4 ≠ 0 ∨ (opened ∧ d.mgt.updLen < c.offset + c.data.length) then refuse .range
      else if !opened ∨ d.rd F.mgtUpd_stream ≠ c.stream then refuse .wrongState
      else
        let base := slotBase (d.rd F.mgtUpd_kind) (d.rd F.mgtUpd_slot)
        let d := (d.program base c.offset c.data).lehrDid 1
        match c.by_ with
        | some b => d.answer b .ok
        | none => d

/-- Q_31 is pushed with 64 words (R39, R405, R410). -/
def Dev.q31Push (d : Dev) (by_ : Cmdr) (w : List Nat) : Option Code × Dev :=
  let w0 := w.getD 0 0
  let n := w.getD 2 0 % 2048
  if w0 % 256 ≠ 1 ∨ n < 4 ∨ 244 < n ∨ n % 4 ≠ 0 then (some .range, d)
  else if d.rd F.mgtState_core = 1 then (some .wrongState, d)
  else if 8 ≤ d.mgt.q31.length then (some .queueFull, d)
  else
    let data := (((w.drop 3).map (bytesOf 4)).flatten).take n
    (none, d.modMgt fun h =>
      { h with q31 := h.q31 ++ [{ by_ := some by_, stream := w0 / 65536, offset := w.getD 1 0, data := data }] })

/-! ### Journal -/

/-- A write after the configuration step is staged for the journal; with 1,024 staged it is lost (R427). -/
def Dev.jrnNote (d : Dev) (addr w : Nat) : Dev :=
  if d.devstate < 2 then d
  else if 1024 ≤ d.mgt.stage.length then
    (d.bump F.lehrJrn_nosrc).modMgt fun h => { h with noSrc := if h.noSrc.contains addr then h.noSrc else addr :: h.noSrc }
  else d.modMgt fun h => { h with stage := h.stage ++ [(addr, w)], noSrc := h.noSrc.filter (· != addr) }

/-- One staged write moves into the journal, which holds 131,072 addresses (R427). -/
def Dev.journalPut (d : Dev) (x : Nat × Nat) : Dev :=
  if (Tbl.find x.1 d.flash.journal).isNone ∧ 131072 ≤ d.flash.journal.length then
    (d.bump F.lehrJrn_nosrc).modMgt fun h => { h with noSrc := if h.noSrc.contains x.1 then h.noSrc else x.1 :: h.noSrc }
  else { d with flash := { d.flash with journal := Tbl.put x.1 x.2 d.flash.journal } }

/-- LEHR_JRN.FILL follows the journal (R427). The 17-bit field has no value for the full 131,072 entries: then it is a free value. -/
def Dev.jrnFill (d : Dev) : Dev :=
  let n := d.flash.journal.length
  if n < 131072 then d.wr F.lehrJrn_fill n else (d.wr F.lehrJrn_fill d.free).freed

/-- The writers to the wear-managed area go on while Q_29 has room (R39): the mirror first, then the staged writes in order. -/
def Dev.flashPush (d : Dev) : Dev :=
  let d := match d.mgt.mirrorWait with
    | some v => if d.mgt.q29.length < 32 then d.modMgt fun h => { h with q29 := h.q29 ++ [FlashWr.mirror 2 v], mirrorWait := none } else d
    | none => d
  d.modMgt fun h =>
    let n := min h.flush (32 - h.q29.length)
    { h with
      q29 := h.q29 ++ (h.stage.take n).map fun x => FlashWr.journal x.1 x.2
      stage := h.stage.drop n, flush := if h.stage.length ≤ n then 0 else h.flush - n }

/-- Row JOURNAL_FLUSH (R427): the writes staged now move into Q_29, as it has room. -/
def Dev.journalFlush (d : Dev) : Dev :=
  if !d.coreRuns then d else (d.modMgt fun h => { h with flush := h.stage.length }).flashPush

/-- The head of Q_29 is written, and its producers go on (R39, R391). -/
def Dev.flashDrain (d : Dev) : Dev :=
  match d.mgt.q29 with
  | [] => d
  | x :: l =>
    if !d.coreRuns then d
    else
      let d := d.modMgt fun h => { h with q29 := l }
      Dev.flashPush (match x with
        | .mirror k v => Dev.lehrDid { d with flash := d.flash.mirrorPut k v } 3
        | .journal a w => (d.journalPut (a, w)).jrnFill.lehrDid 2)

/-- The address whose write waits in an entry of Q_29. -/
def FlashWr.addr? : FlashWr → Option Nat
  | .mirror _ _ => none
  | .journal a _ => some a

/-- Writes taken out of Q_29 are lost: their words have no batch source, unless a later write is staged (R427). -/
def Dev.flashLost (d : Dev) (l : List FlashWr) : Dev :=
  (l.filterMap FlashWr.addr?).foldl (fun d a =>
    if d.mgt.stage.any fun x => x.1 == a then d
    else (d.bump F.lehrJrn_nosrc).modMgt fun h => { h with noSrc := if h.noSrc.contains a then h.noSrc else a :: h.noSrc }) d

/-- A configuration word has a batch source: its latest write is in the journal or in the image (R427). -/
def Dev.hasSource (d : Dev) (addr : Nat) : Bool :=
  !(d.mgt.noSrc.contains addr) && !(d.mgt.stage.any fun x => x.1 == addr) && !(d.mgt.q29.any fun x => x.addr? == some addr)

/-- The journal entries of rewritten words are discarded (R427). -/
def Dev.jrnDiscard (d : Dev) (p : Nat → Bool) : Dev :=
  let d := { d with flash := { d.flash with journal := d.flash.journal.filter fun x => !p x.1 } }
  d.jrnFill.modMgt fun h =>
    { h with
      q29 := h.q29.filter fun x => !(x.addr?.any p), flush := h.flush - ((h.stage.take h.flush).filter fun x => p x.1).length
      stage := h.stage.filter fun x => !p x.1, noSrc := h.noSrc.filter fun a => !p a }

/-! ### Recycle -/

/-- A recycle begins (R405, R406, R43): the scope is discarded and an open stream is closed without verification (R411); the core is held for
1 ms. -/
def Dev.recycleBegin (d : Dev) (cause : Nat) : Dev :=
  let d := (d.wr F.mgtState_core 1).modMgt fun h => { h with recycle := some (d.now + 1000000000, cause) }
  let (d, _) := d.discardCmds (fun a => windowOf a == some 3) (fun q => q == 26 || q == 31)
  let d := d.mgt.q26.foldl (fun d e => d.answer e.by_ .discarded) d
  let d := d.mgt.q31.foldl (fun d c => match c.by_ with | some b => d.answer b .discarded | none => d) d
  let d := (d.modMgt fun h => { h with q26 := [], q31 := [], q29 := [], flush := 0, mirrorWait := none }).flashLost d.mgt.q29
  if d.flag F.mgtUpd_open then
    let kind := d.rd F.mgtUpd_kind
    let slot := d.rd F.mgtUpd_slot
    (((d.clr F.mgtUpd_open).wr F.mgtUpd_ver 2).slotFails kind slot 4).ev E.mgtUpdFail (256 * kind + 512 * slot) 4
  else d

/-- Row RECYCLE (R406, R407): cause 2. -/
def Dev.mbRecycle (d : Dev) : Dev :=
  match d.mbHead 5 with
  | none => d
  | some e => (d.mbDone e .ok []).recycleBegin 2

/-- Row MGMT_WATCHDOG_EXPIRY (R406): cause 3. -/
def Dev.watchdogExpiry (d : Dev) : Dev :=
  if !d.coreRuns then d
  else
    (d.modMgt fun h => { h with wdTimes := (d.now :: h.wdTimes).take 3 }).recycleBegin 3

/-! ### Sensors, crystal, telemetry -/

/-- The lowest and highest value of sensor `k` in thousandths of a volt or degree (R437, 18_package_and_electrical.md). -/
def Dev.sensRange (d : Dev) : Nat → Int × Int
  | 0 => (30000, 80000)
  | 1 => (95 * d.pwr.vdrv, 105 * d.pwr.vdrv)
  | 2 => (19200, 30000)
  | 3 => (3135, 3465)
  | 4 => (760, 840)
  | 5 => (1710, 1890)
  | 6 => (1800, 3600)
  | _ => (-40000, 125000)

/-- Sensor `k` reads `v`, signed Q16.16 (R414). -/
def Dev.sensor (d : Dev) (k : Nat) (v : Int) : Dev :=
  let d := d.wrI F.mgtSensNow_value v k
  let d := d.on (v < d.rdI F.mgtSensMin_value k) (·.wrI F.mgtSensMin_value v k)
  let d := d.on (d.rdI F.mgtSensMax_value k < v) (·.wrI F.mgtSensMax_value v k)
  let r := d.sensRange k
  let lo := r.1
  let hi := r.2
  let m : Int := v * 100000
  let out : Bool := decide (m < lo * 100 * 65536) || decide (hi * 100 * 65536 < m)
  let back : Bool := decide ((lo * 100 + |lo| * 2) * 65536 ≤ m) && decide (m ≤ (hi * 100 - |hi| * 2) * 65536)
  if out && !d.mgt.sensOut.contains k then (d.modMgt fun h => { h with sensOut := k :: h.sensOut }).ev E.mgtSensorLimit k (dw v)
  else if back then d.modMgt fun h => { h with sensOut := h.sensOut.filter (· != k) }
  else d

/-- Row SENSOR_SAMPLE (R414): the four values of the supply monitor are VIO, VCORE, VA and VBAT, Q16.16; the others are those of the
auxiliary converters. -/
def Dev.sensorSample (d : Dev) (vio vcore va vbat : Nat) : Dev :=
  if !d.coreRuns then d
  else
    let q8 (v : Nat) : Int := sx 16 v * 256
    let d := ((d.sensor 0 (sx 32 (d.rd F.snsVbus_v))).sensor 1 (sx 32 (d.rd F.snsVdrv_v))).sensor 2 (sx 32 (d.rd F.snsVfield_v))
    let d := (((d.sensor 3 (sx 32 vio)).sensor 4 (sx 32 vcore)).sensor 5 (sx 32 va)).sensor 6 (sx 32 vbat)
    let d := d.sensor 7 (q8 (d.rd F.snsTcore_t))
    let d := d.each (List.range 6) fun g d =>
      let t := d.rd F.snsTlg_t g
      (d.sensor (8 + g) (q8 t)).wrI F.lgOt_temp (satS 8 (rneShr (sx 16 t) 8)) g
    d.each (List.range 24) fun n d =>
      d.on ((d.snsLeg n).bstAt.isSome && decide (d.rd F.snsBst_v n < d.rd F.mgtBstmin_min n)) (·.wr F.mgtBstmin_min (d.rd F.snsBst_v n) n)

/-- Row SENSCTL_CLR (R414). -/
def Dev.sensClr (d : Dev) : Dev :=
  let d := d.each (List.range 14) fun k d =>
    let v := d.rd F.mgtSensNow_value k
    (d.wr F.mgtSensMin_value v k).wr F.mgtSensMax_value v k
  d.each (List.range 24) fun n d => d.wr F.mgtBstmin_min (d.rd F.snsBst_v n) n

/-- Row CRYSTAL_CHECK (R415): `count` REF edges in one second of the internal oscillator. -/
def Dev.crystalCheck (d : Dev) (count : Nat) : Dev :=
  if !d.coreRuns then d
  else
    let bad : Bool := decide (count * 20 < 25000000 * 19) || decide (25000000 * 21 < count * 20)
    let d := (d.wr F.mgtXtal_fail (b2n bad))
    let src := (List.range 4).find? fun n => d.rd F.tbCtrl_src n == 1 && d.rd F.tbState_state n == 3
    let d := match src with
      | some n => (d.set1 F.mgtXtal_ppmvalid).wrI F.mgtXtal_ppm (satS 16 (rneDiv (-(d.tb n).integ * 256000000) (2 ^ 40)))
      | none => d.clr F.mgtXtal_ppmvalid
    let ppm : Int := d.rdI F.mgtXtal_ppm
    let d := if bad then
        let d := d.ev E.mgtXtalFail 1 (dw ppm)
        if d.flag F.timRoot_holdover then d
        else { ((d.set1 F.timRoot_holdover).ev E.clkHoldover 0 0) with tim := { d.tim with holdSince := some d.now } }
      else if d.flag F.timRoot_src then d
      else if d.flag F.timRoot_holdover then
        let ms := rneDiv ((d.now - d.tim.holdSince.getD d.now : Nat) : Int) 1000000000
        { ((d.clr F.timRoot_holdover).ev E.clkRelocked 0 (dwU ms)) with tim := { d.tim with holdSince := none } }
      else d
    if src.isSome ∧ (ppm < -12800 ∨ 12800 < ppm) ∧ !d.mgt.ppmLogged then
      (d.modMgt fun h => { h with ppmLogged := true }).ev E.mgtXtalPpm (b2n bad) (dw ppm)
    else d

/-- A user of an activity of Lehr: its key in MgtH.lehrBase, what it has done since reset and its minimum in 1 s (R425). -/
structure LehrUser where
  key : Nat
  done : Nat
  least : Nat
deriving DecidableEq, Repr

/-- The users of activity `i` of LEHR_STARVE that have work at present (R424, R425). -/
def Dev.lehrUsers (d : Dev) (i : Nat) : List LehrUser :=
  let did (k : Nat) := Tbl.get 0 k d.mgt.did
  let cal (k : Nat) := Tbl.get 0 k d.sns.cals
  let due (b : Bool) (u : LehrUser) : Option LehrUser := if b then some u else none
  match i with
  | 0 => [⟨0, did 0, 1⟩]
  | 1 => (List.range 24).filterMap fun n =>
    due (d.rd F.legCfg_use n == 1 && d.flag F.snsCal_ofsen (n / 4) && !d.disabled (d.rd F.legCfg_axis n)) ⟨100 + n, cal n, 100⟩
  | 2 => (List.range 6).filterMap fun g => due (d.flag F.snsCal_injen g) ⟨200 + g, cal (100 + g), 100⟩
  | 3 => (List.range 32).map fun u => ⟨300 + u, cal (200 + u), 1⟩
  | 4 =>
    [ due (!d.mgt.q31.isEmpty) ⟨400, did 1, 10⟩,
      due (!d.mgt.stage.isEmpty || d.mgt.q29.any fun x => x.addr?.isSome) ⟨401, did 2, 10⟩,
      due (firstUnwritten d.evr.chip).isSome ⟨402, d.evr.writes, 10⟩,
      due (d.mgt.mirrorWait.isSome || d.mgt.q29.any fun x => x.addr?.isNone) ⟨403, did 3, 10⟩ ].filterMap id
  | _ => (due (d.flag F.mgtTele_en && d.flag F.netEvcfg_en) ⟨500, did 4, 1⟩).toList

/-- What activity `i` reached of its minimum in the window that ends, per mille: the least of its users with work at both ends (R425). -/
def Dev.lehrShare (d : Dev) (i : Nat) : Nat :=
  (d.lehrUsers i).foldl (fun m u => match Tbl.find u.key d.mgt.lehrBase with
    | some b => min m (1000 * (u.done - b) / u.least)
    | none => m) 1000

/-- A window of the minimum of activity `i` begins (R425); the windows are the model's choice (notes/assumptions/158.md). -/
def Dev.lehrWindow (d : Dev) (i : Nat) : Dev :=
  d.modMgt fun h =>
    { h with
      lehrAt := Tbl.put i d.now h.lehrAt
      lehrBase := (d.lehrUsers i).foldl (fun t u => Tbl.put u.key u.done t) (h.lehrBase.filter fun x => x.1 / 100 != i) }

/-- Row LEHR_STARVED (R425): a window of 1 s of activity `i` ends, and is reported where the activity fell short in it and did not in
the window before. The first row of an activity begins its first window. -/
def Dev.lehrStarved (d : Dev) (i : Nat) : Dev :=
  match Tbl.find i d.mgt.lehrAt with
  | none => d.on d.coreRuns (·.lehrWindow i)
  | some t =>
    if !d.coreRuns ∨ d.now < t + 1000000000000 then d
    else
      let share := d.lehrShare i
      let was := bitOf (d.rd F.lehrStarve_mask) i
      let short : Bool := share < 1000
      let d := (d.wr F.lehrStarve_mask (putBits (d.rd F.lehrStarve_mask) i 1 (b2n short))).on (short && !was) (·.ev E.lehrStarved i share)
      d.lehrWindow i

/-- Row HEALTH (R428). -/
def Dev.health (d : Dev) : Dev :=
  let deg (v : Nat) : Int := satS 8 (rneShr (sx 16 v) 8)
  let hot := (List.range 6).foldl (fun (m : Int) g => max m (deg (d.rd F.snsTlg_t g))) (-128)
  let r := d.stamp
    { code := E.health.code, sev := E.health.sev, src := 7
      d0 := d.vbus8 + 65536 * ux 8 (deg (d.rd F.snsTcore_t)) + 2 ^ 24 * ux 8 hot
      d1 := min 65535 d.mgt.stages + 65536 * min 65535 d.evr.admitted }
  let d := d.on (d.coreRuns && d.flag F.mgtTele_en && d.flag F.netEvcfg_en) fun d => (d.q22Push { r with seq := d.rd F.evrNewest_seq }).lehrDid 4
  (d.modMgt fun h => { h with stages := 0 }).modEvr fun h => { h with admitted := 0 }

/-- Row OPSEC_MIRROR (R422): MGT_OPSEC is put into Q_29 for its mirror, as it has room (R39, R391). -/
def Dev.opsecMirror (d : Dev) : Dev :=
  d.on d.coreRuns fun d => (d.modMgt fun h => { h with mirrorWait := some (d.rd F.mgtOpsec_opsec) }).flashPush

end Sys2Proof.Machine
end

