-- ==== Sys2Proof/Machine/Read.lean ====
section
/-!
DEFINITION. Reading the address map (R5 to R8, R10, R35, 00_scope.md and 01_line_and_tick.md): registers whose value is computed,
reads with an effect, and the windows that hold memories.
-/

namespace Sys2Proof.Machine

/-! ### The register map -/

/-- The registers of a window (R35). -/
def windowRegs : Nat → List RegDef
  | 0 => regsGlb | 1 => regsRst | 2 => regsEvr | 3 => regsMgt | 4 => regsSaf | 5 => regsTim | 6 => regsNet | 7 => regsCan
  | 8 => regsChk ++ regsFio | 9 => regsFbk | 10 => regsLeg ++ regsSns | 11 => regsAxs | 12 => regsGaf ++ regsGth | 13 => regsPnt
  | _ => []

/-- The instance of a register family at an address. -/
def RegDef.at_ (r : RegDef) (a : Nat) : Option (Nat × Nat) :=
  if a < r.base then none
  else
    let o := a - r.base
    let i := if r.n1 = 1 then 0 else o / r.s1
    let m := o - i * r.s1
    let m := if r.n1 = 1 then o else m
    if i < r.n1 ∧ m % r.s2 = 0 ∧ m / r.s2 < r.n2 then some (i, m / r.s2) else none

/-- The first register of a list at an address. -/
def findReg (a : Nat) : List RegDef → Option (RegDef × Nat × Nat)
  | [] => none
  | r :: l => match r.at_ a with
    | some x => some (r, x.1, x.2)
    | none => findReg a l

/-- What stands at a word address (R35, R138, R250, R282). -/
inductive Place where
  | reg (r : RegDef) (i j : Nat)
  /-- The memories of lane `n`, by byte offset in its window. -/
  | lane (n off : Nat)
  /-- Word `i` of W_14. -/
  | table (i : Nat)
  /-- Word `i` of the microstep table. -/
  | mstep (i : Nat)
  /-- Word `i` of the Gather buffer. -/
  | gather (i : Nat)
deriving DecidableEq, Repr

/-- What stands at an address, none where no register is (R6, R35). -/
def placeOf (a : Nat) : Option Place :=
  match windowOf a with
  | none => none
  | some 14 => some (.table ((a - 0x200000) / 4))
  | some 15 => some (.gather ((a - 0x300000) / 4))
  | some w =>
    if 0xC4000 ≤ a ∧ a < 0xC6000 then some (.mstep ((a - 0xC4000) / 4))
    else
      let off := a % 0x10000
      if w = 13 ∧ (off < 0x4000 ∨ 0x8000 ≤ off) then some (.lane ((a - 0x100000) / 0x10000) off)
      else (findReg (a - a % 4) (windowRegs w)).map fun x => .reg x.1 x.2.1 x.2.2

/-! ### Stored words -/

/-- The word of a register as its cells hold it. -/
def Dev.heldWord (d : Dev) (r : RegDef) (i j : Nat) : Nat :=
  (r.flds.map fun f => (if f.live.isSome then 0 else d.rd f i j) * 2 ^ f.lo).sum

/-- The word now held at an address, for the journal. -/
def Dev.placeWord (d : Dev) : Place → Nat
  | .reg r i j => d.heldWord r i j
  | .lane n off => if off < 0x4000 then Tbl.get 0 (off / 4) (d.pl n).imem else Tbl.get 0 ((off - 0x8000) / 4) (d.pl n).dmem
  | .table i => d.table i
  | .mstep i => Tbl.get 0 i d.mstep
  | .gather _ => 0

/-- A word of the first class of R426, which has a batch source: a register that an image can set (R399), a table word or a lane
instruction. -/
def configWord (a : Nat) : Place → Bool
  | .reg r _ _ =>
    (match windowOf a with | some 1 => a == 0x10040 | some 2 => false | some 4 => false | _ => true) &&
      r.flds.any fun f => f.acc == .rw || f.acc == .rwo || f.acc == .rwd || f.acc == .img
  | .lane _ off => decide (off < 0x4000)
  | .table _ => true
  | .mstep _ => true
  | .gather _ => false

/-- What storing a word at an address does besides: a parity error there is gone (R166), and a write to a configuration word after the
configuration step is staged for the journal (R427). -/
def Dev.stored (a : Nat) (d : Dev) : Dev :=
  let d := d.mended a
  match placeOf a with
  | some p => d.on (configWord a p) (·.jrnNote a (d.placeWord p))
  | none => d

/-! ### Computed fields -/

/-- Entries in queue `q` (GLB_QFILL; R39, 01_line_and_tick.md). -/
def Dev.qFill (d : Dev) (q : Nat) : Nat :=
  if q < 8 then (d.axis q).queue.length
  else if q < 16 then (d.gmc (q - 8)).queue.length
  else if q < 20 then (Tbl.get [] (q - 16) d.net.cmdq).length
  else match q with
    | 20 => d.can.q20.length
    | 21 => d.net.q21.length
    | 22 => d.net.q22.length
    | 23 => (((d.waitingAt 0) ++ d.waitingAt 1).filter (·.cls == 3)).length
    | 24 => d.net.q24.length
    | 25 => d.net.q25.length
    | 26 => d.mgt.q26.length
    | 27 => d.mgt.q27.length
    | 28 => d.evr.q28.length
    | 29 => d.mgt.q29.length
    | 30 => d.gth.q30.length
    | 31 => d.mgt.q31.length
    | _ => 0

/-- The highest VDRV level that a strap allows, 0.1 V (R378, 16_power_reset_boot.md). -/
def strapLevel : Nat → Nat
  | 0 => 50 | 1 => 60 | 2 => 100 | _ => 120

/-- LO or HI word of a signed 64-bit value. -/
def half (hi : Bool) (x : Int) : Nat := if hi then ux 64 x / 2 ^ 32 else ux 64 x % 2 ^ 32

/-- The head entry of a latch queue (R247). -/
def Dev.ltHead (d : Dev) (s : Nat) : LtEnt := (d.lt s).q.headD { x := 0, te := 0, extrap := false, old := false }

/-- AX_n_LOOPST: a loop that is not present reads 3 (R145, 05_marver_loops.md). -/
def Dev.loopShown (d : Dev) (n l : Nat) : Nat := if d.present n l then (d.loop n l).st.num else 3

/-- A computed field of instance `i`, `j`. -/
def Dev.liveVal (d : Dev) (i j : Nat) : Live → Nat
  | .glbStatus_devstate => d.shownState
  | .glbStatus_tblock => ((List.range 4).map fun n => b2n (d.rd F.tbState_state n == 3) * 2 ^ n).sum
  | .glbStatus_axfault => axMask fun n => d.axState n == 4
  | .glbStatus_axlive => axMask fun n => !d.disabled n
  | .glbTags_inflight => d.net.inflight.length
  | .glbQfill_fill0 => d.qFill (4 * i)
  | .glbQfill_fill1 => d.qFill (4 * i + 1)
  | .glbQfill_fill2 => d.qFill (4 * i + 2)
  | .glbQfill_fill3 => d.qFill (4 * i + 3)
  | .pwrVdrv_set => d.pwr.vdrv
  | .pwrVdrv_strap => strapLevel d.pwr.sel
  | .pwrVdrv_level => d.pwr.vdrv
  | .fuseW_value => Tbl.get 0 i d.pwr.fuses
  | .evrWin_word => 0
  | .evrCursor_seq => 0
  | .evrStat_fill => d.evr.chip.length
  | .evrOldest_seq => (d.evr.chip.head?.map (·.r.seq)).getD 0
  | .evrFloldest_seq => d.ringOldest.getD 0
  | .mgtMbout_word => 0
  | .safTest_age => d.safAgeMin
  | .netDup_sources => d.net.dup.length
  | .canRxnewlo_new => ((List.range 32).map fun k => d.rd F.rxoCtl_new k * 2 ^ k).sum
  | .canRxnewhi_new => ((List.range 32).map fun k => d.rd F.rxoCtl_new (32 + k) * 2 ^ k).sum
  | .chkResult_result => d.chkResult i
  | .chkStat_busy => b2n (d.chkBusy i)
  | .fioRb_drive => d.foDrives
  | .foSt_cur => d.free % 65536
  | .fioIn_valid => b2n (d.rd F.fioVf_state < 2)
  | .faWordlo_w => (d.fa i).w % 2 ^ 32
  | .faWordhi_w => (d.fa i).w / 2 ^ 32
  | .faLead_lead => satU 32 (rneDiv (d.faLeadPs i) 1000)
  | .fqCntlo_v => half false (d.fq i).count
  | .fqCnthi_v => half true (d.fq i).count
  | .fqIdxlo_v => half false (d.fq i).idx
  | .fqIdxhi_v => half true (d.fq i).idx
  | .ltQposlo_x => half false (d.ltHead i).x
  | .ltQposhi_x => half true (d.ltHead i).x
  | .ltQsec_sec => secOf (d.ltHead i).te.toNat
  | .ltQns_ns => nsOf (d.ltHead i).te.toNat
  | .ltQinfo_valid => b2n ((d.lt i).q != [])
  | .ltQinfo_extrap => b2n (d.ltHead i).extrap
  | .ltQinfo_old => b2n (d.ltHead i).old
  | .ltQinfo_fill => (d.lt i).q.length
  | .ltQinfo_frac => fracOf (d.ltHead i).te.toNat
  | .snsIfs_ifs => d.ifs i
  | .snsBst_age => match (d.snsLeg i).bstAt with
    | some t => min 65535 ((d.now - t) / 1000000)
    | none => 65535
  | .snsLat_l => d.latency i
  | .axPtgtlo_v => half false (d.axis i).prf.tgt
  | .axPtgthi_v => half true (d.axis i).prf.tgt
  | .axPposlo_v => half false (d.axis i).prf.p
  | .axPposhi_v => half true (d.axis i).prf.p
  | .axPvello_v => half false (d.axis i).prf.v
  | .axPvelhi_v => half true (d.axis i).prf.v
  | .axPacclo_v => half false (d.axis i).prf.a
  | .axPacchi_v => half true (d.axis i).prf.a
  | .axGremlo_remlo => (d.axis i).cpl.rem % 2 ^ 32
  | .axGremhi_remhi => (d.axis i).cpl.rem / 2 ^ 32 % 65536
  | .axEnglaglo_v => half false (d.axis i).cpl.lag
  | .axEnglaghi_v => half true (d.axis i).cpl.lag
  | .axCacclo_v => half false (d.axis i).cpl.c
  | .axCacchi_v => half true (d.axis i).cpl.c
  | .axScntlo_n => half false (d.axis i).stp.n
  | .axScnthi_n => half true (d.axis i).stp.n
  | .axSidx_index => ((d.axis i).stp.n % 4096).toNat
  | .axLoopst_pos => d.loopShown i 0
  | .axLoopst_vel => d.loopShown i 1
  | .axLoopst_cur0 => d.loopShown i 2
  | .axLoopst_cur1 => d.loopShown i 3
  | .lpIlo_v => half false (rneShr (d.loop i j).i 32)
  | .lpIhi_v => half true (rneShr (d.loop i j).i 32)
  | .lpOutlo_v => half false (d.loop i j).u
  | .lpOuthi_v => half true (d.loop i j).u
  | .axSeloutlo_w => half false (d.axis i).out.w
  | .axSelouthi_w => half true (d.axis i).out.w
  | .gmStat_fill => (d.gmc i).queue.length
  | .gmPoslo_v => (d.gmc i).pos % 2 ^ 32
  | .gmPoshi_v => (d.gmc i).pos / 2 ^ 32
  | .gmVello_v => half false (d.gmc i).vel
  | .gmVelhi_v => half true (d.gmc i).vel
  | .gmAcclo_v => half false (d.gmc i).acc
  | .gmAcchi_v => half true (d.gmc i).acc
  | .plStat_running => b2n (d.pl i).run.isSome

/-- The value of a field: computed, or its cell; write-only fields read 0 (R8). -/
def Dev.fldVal (d : Dev) (f : Fld) (i j : Nat) : Nat :=
  match f.live with
  | some l => d.liveVal i j l % 2 ^ f.len
  | none => if f.acc = .wo ∨ f.acc = .w1s then 0 else d.rd f i j

/-- The word of a register as a read shows it, before any effect of the read. -/
def Dev.regWord (d : Dev) (r : RegDef) (i j : Nat) : Nat := (r.flds.map fun f => d.fldVal f i j * 2 ^ f.lo).sum

/-- RC fields are cleared by the read (R8, R10). -/
def Dev.clearRc (d : Dev) (r : RegDef) (i j : Nat) : Dev :=
  r.flds.foldl (fun d f => d.on (f.acc == .rc && f.live.isNone) (·.clr f i j)) d

/-- Word number of a register within a CAN message object. -/
def objWord (r : RegDef) (base j : Nat) : Nat := (r.base - base) / 4 + j

/-- A read of a register by a port (R8, R10), with the effects that some reads have. -/
def Dev.regRead (d : Dev) (r : RegDef) (i j port : Nat) : Nat × Dev :=
  let plain (d : Dev) : Nat × Dev := (d.regWord r i j, d.clearRc r i j)
  match r.sp with
  | .evrWin => d.evrWinRead port i
  | .evrCursor => (Tbl.get 0 port d.evr.cursor, d)
  | .mbout => d.mboutRead port i
  | .tsfr => d.tsfrRead i
  | .ltQinfo => (d.regWord r i j, d.ltPop i)
  | .rxoId => (d.regWord r i j, d.rxoReadEffect i 0)
  | .rxoWord => (d.regWord r i j, d.rxoReadEffect i (objWord r 0x71000 j))
  | .chkCfg => plain (d.chkSettle i port Dev.stored)
  | .chkParam => plain (d.chkSettle i port Dev.stored)
  | .chkCmd => plain (d.chkSettle i port Dev.stored)
  | .chkData => plain (d.chkSettle i port Dev.stored)
  | .chkVal => plain (d.chkSettle i port Dev.stored)
  | .chkRead => plain (d.chkSettle i port Dev.stored)
  | .chkAlvcfg => plain (d.chkSettle i port Dev.stored)
  | .chkAlvin => plain (d.chkSettle i port Dev.stored)
  | _ =>
    let x := plain d
    (x.1, x.2.on (r.flds.any fun f => f.live == some .foSt_cur) Dev.freed)

/-- Words per row of the last capture (R282). -/
def Dev.capWidth (d : Dev) : Nat := match d.gth.cap with | (_, w) :: _ => w.length | [] => 0

/-- Word `k` of the Gather readout (R282). -/
def Dev.capWord (d : Dev) (k : Nat) : Nat :=
  let n := d.capWidth
  if n = 0 then 0 else ((d.gth.cap.getD (k / n) (0, [])).2).getD (k % n) 0

/-- A read of one word (R6, R11, R13, R282): the answer, the word and the device after it. -/
def Dev.busRead (d : Dev) (a port : Nat) : Code × Nat × Dev :=
  match placeOf a with
  | none => (.noSuchAddress, 0, d)
  | some p =>
    if a % 4 ≠ 0 then (.range, 0, d)
    else if d.bad.contains a then (.parity, 0, d)
    else match p with
      | .reg r i j => (.ok, d.regRead r i j port)
      | .lane n off =>
        (.ok, if off < 0x4000 then Tbl.get 0 (off / 4) (d.pl n).imem else Tbl.get 0 ((off - 0x8000) / 4) (d.pl n).dmem, d)
      | .table i => (.ok, d.table i, d)
      | .mstep i => (.ok, Tbl.get 0 i d.mstep, d)
      | .gather i => if d.gthRuns then (.wrongState, 0, d) else (.ok, d.capWord i, d)

end Sys2Proof.Machine
end

