-- ==== Sys2Proof/Machine/Bus.lean ====
section
/-!
DEFINITION. Writing the address map (R5 to R11, R35 to R37, 00_scope.md and 01_line_and_tick.md): what a write of one word does to
its register, for every register that has a rule of its own, and to the memories behind the windows.
-/

namespace Sys2Proof.Machine

/-! ### The value of a write -/

/-- A write of one word: its port, whether the configuration step makes it (R399), whether it is masked, and who is answered. -/
structure Wr where
  port : Nat
  img : Bool := false
  masked : Bool := false
  by_ : Cmdr := { port := port, tag := 0 }
deriving DecidableEq, Repr

/-- A field takes what is written with a write of this kind (R8, R399). -/
def Fld.takes (f : Fld) (img : Bool) : Bool :=
  match f.acc with
  | .rw | .rwo | .rwd | .wo | .w1c | .w1s => true
  | .img => img
  | .ro | .rc => false

/-- The value written to a field: bits outside the mask keep the old value (R300); a write-only bit or a bit that is set or cleared by
a 1 counts as written 0 there (R9). -/
def Dev.newFld (d : Dev) (f : Fld) (i j v m : Nat) : Nat :=
  let x := bitsOf v f.lo f.len
  let k := bitsOf m f.lo f.len
  match f.acc with
  | .wo | .w1c | .w1s => x &&& k
  | _ => let old := d.fldVal f i j; old - (old &&& k) + (x &&& k)

/-- A field value lies in its range. -/
def Fld.fits (f : Fld) (x : Nat) : Bool :=
  match f.rng with
  | none => true
  | some (lo, hi) => let y : Int := if f.sgn then sx f.len x else x; decide (lo ≤ y) && decide (y ≤ hi)

/-- The word that a write presents to a register, with the bits of fields it cannot write at 0. -/
def Dev.newWord (d : Dev) (r : RegDef) (i j v m : Nat) (img : Bool) : Nat :=
  (r.flds.map fun f => if f.takes img then d.newFld f i j v m * 2 ^ f.lo else 0).sum

/-- Stores the readable fields of a word (R8). -/
def Dev.putFlds (d : Dev) (r : RegDef) (i j w : Nat) (img : Bool) : Dev :=
  r.flds.foldl (fun d f =>
    match f.acc with
    | .rw | .rwo | .rwd => if f.live.isSome then d else d.wr f (bitsOf w f.lo f.len) i j
    | .img => if img then d.wr f (bitsOf w f.lo f.len) i j else d
    | _ => d) d

/-- Clears the W1C bits written with 1 (R8). -/
def Dev.putW1c (d : Dev) (r : RegDef) (i j w : Nat) : Dev :=
  r.flds.foldl (fun d f =>
    if f.acc = .w1c then
      let c := d.rd f i j
      d.wr f (c - (c &&& bitsOf w f.lo f.len)) i j
    else d) d

/-! ### Owners (R8, R9) -/

/-- The loops that own the RWO fields of a register. -/
def ownLoops (o : Own) (j : Nat) : List Nat :=
  match o with
  | .loop => [j] | .loopc => [2 + j] | .loopq => [1 + j] | .pos => [0] | .vel => [1] | .cur => [2, 3]
  | .none | .ax | .lane | .leg => []

/-- The answer that the owner of the guarded fields gives to a change, with the axis or lane it concerns (R9, R163, R268). -/
def Dev.ownFails (d : Dev) (o : Own) (i j : Nat) : Option (Code × Nat) :=
  match o with
  | .none => none
  | .ax => if d.disabled i then none else some (.wrongState, i)
  | .leg =>
    let a := d.rd F.legCfg_axis i
    if d.rd F.legCfg_use i = 0 ∨ d.disabled a then none else some (.wrongState, a)
  | .lane => if d.laneUsed i (d.outen i) then some (.loopClosed, i) else none
  | o => if (ownLoops o j).any fun l => d.present i l && (d.loop i l).st != .opened then some (.loopClosed, i) else none

/-- The refusal event of the block that owns an address (R9): `n` is the axis or lane. -/
def Dev.refusal (d : Dev) (a port n : Nat) : Dev :=
  let x := n + 256 * port
  match windowOf a with
  | some 9 => d.ev E.fbkWriteRefused x a port
  | some 10 => d.ev E.legWriteRefused x a port
  | some 11 => d.ev E.marvWriteRefused x a port
  | some 14 => d.ev E.marvWriteRefused x a port
  | some 13 => d.ev E.pntWriteRefused x a port
  | _ => d

/-! ### Registers with a rule of their own -/

/-- A LO and HI pair is committed by its HI word (R121, R149, R155). -/
def Dev.commitLo (d : Dev) (lo : Fld) (i : Nat) : Dev :=
  { d with cLo := Tbl.set lo.reset (lo.key i 0) (d.rd lo i) d.cLo }

/-- The present level of VDRV, nV: a ramp of 1 V/ms moves it by 1 nV per ps (R378). -/
def Dev.vdrvNow (d : Dev) : Nat :=
  let to_ := d.pwr.vdrv * 100000000
  match d.pwr.ramp with
  | some (_, t) => if d.pwr.rampFrom ≤ to_ then to_ - (t - d.now) else to_ + (t - d.now)
  | none => to_

/-- PWR_VDRV.SET is written (R378): the level ramps at 1 V/ms. -/
def Dev.vdrvWrite (d : Dev) (v : Nat) : Code × Dev :=
  if v < 50 ∨ strapLevel d.pwr.sel < v then (.range, d)
  else if !d.allDisabled then (.wrongState, d)
  else
    let old := d.pwr.vdrv
    if v = old then (.ok, d)
    else
      let low := match d.pwr.ramp with | some (l, _) => min l (min old v) | none => min old v
      let from_ := d.vdrvNow
      let to_ := v * 100000000
      (.ok, { d with pwr := { d.pwr with vdrv := v, ramp := some (low, d.now + (max from_ to_ - min from_ to_)), rampFrom := from_ } })

/-- FUSE_PCMD.GO is written with 1 (R403). -/
def Dev.fuseGo (d : Dev) : Code × Dev :=
  let w := d.rd F.fusePaddr_word
  let b := d.rd F.fusePdata_bits
  let locked := bitOf (Tbl.get 0 28 d.pwr.fuses) 14
  if (4 ≤ w ∧ w ≤ 11) ∨ 29 ≤ w then (.range, d)
  else if !d.allDisabled ∨ d.flag F.fusePstat_busy ∨ d.rd F.fuseKey_key ≠ 0xA5C3 then (.wrongState, d)
  else if locked ∧ ¬ (w = 28 ∧ b / 8 = 0) then (.wrongState, d)
  else
    let d := { d with pwr := { d.pwr with prog := some (w, b) } }
    (.ok, ((d.clr F.fuseKey_key).set1 F.fusePstat_busy).clr F.fusePstat_ok)

/-- TB_n_CTRL is written whole (R48 to R53, R57, R58): the source and the grandmaster role, MANUAL and LOSTSTOP, then REARM, then LOAD.
A refusal of one refuses all. -/
def Dev.tbCtrlNow (d : Dev) (n w : Nat) : Code × Dev :=
  let s : Source := { d.source n with src := bitsOf w 0 2, port := bitsOf w 2 1 }
  let gm := bitOf w 3
  match d.sourceOk n s gm with
  | .ok =>
    let d1 := ((d.wr F.tbCtrl_gm (b2n gm) n).wr F.tbCtrl_manual (bitsOf w 4 1) n).wr F.tbCtrl_loststop (bitsOf w 8 8) n
    let d1 := (d1.srcWrite n s).2
    let a := if bitOf w 5 then d1.tbRearm n else (.ok, d1)
    let b := if a.1 = .ok ∧ bitOf w 6 then a.2.tbLoad n else a
    match b.1 with
    | .ok => b
    | c => (c, if bitOf w 6 ∧ c = .timeStepRefused then (d.tbLoad n).2 else d)
  | c => (c, d)

/-- A write of TB_n_CTRL (R54): one that carries REARM or LOAD and is not refused at once is judged at the end of the clock. -/
def Dev.tbCtrlWrite (d : Dev) (n w : Nat) (by_ : Cmdr) : Option Code × Dev :=
  let y := d.tbCtrlNow n w
  if y.1 = .ok ∧ (bitOf w 5 ∨ bitOf w 6) then (none, d.judgeLater (.ctrl by_ n w)) else (some y.1, y.2)

/-- GM_m_CTRL is written whole (R77, R83, R88). -/
def Dev.gmWrite (d : Dev) (m w : Nat) : Code × Dev :=
  match d.gmCtrlWrite m (bitOf w 0) (bitsOf w 1 2) with
  | (.ok, d1) =>
    match d1.staleWrite m (bitsOf w 4 2) (d.rd F.gmGrace_grace m) with
    | (.ok, d2) => if bitOf w 6 then d2.gmFlush m else (.ok, d2)
    | (c, _) => (c, d)
  | (c, _) => (c, d)

/-- GTH_CMD is written (R277, R278, R280, R286). -/
def Dev.gthCmdWrite (d : Dev) (x : Nat) : Code × Dev :=
  match x % 16 with
  | 0 => (.ok, d)
  | 1 => d.gthArm
  | 2 => d.gthStop
  | 4 => d.gthForce
  | 8 => d.gthStream
  | _ => (.range, d)

/-- FQ_q_CMD is written (R223, R242). -/
def Dev.fqCmdWrite (d : Dev) (q x : Nat) : Code × Dev :=
  let a := if bitOf x 0 then d.mainret q else (.ok, d)
  match a.1 with
  | .ok => if bitOf x 1 then (match a.2.clrflt q with | (.ok, d2) => (.ok, d2) | (c, _) => (c, d)) else a
  | c => (c, d)

/-- The configuration of an absolute channel is written (R217, R227, R229). -/
def Dev.faCfgWrite (d : Dev) (r : RegDef) (n w : Nat) : Code × Dev :=
  let was := d.flag F.faCtrl_en n
  let d1 := d.putFlds r n 0 w false
  let on := d1.flag F.faCtrl_en n
  if on ∧ !d1.faFields n then (.range, d)
  else if !d.chanFree (n + 1) then (.wrongState, d)
  else (.ok, if on ∧ !was then d1.faEnable n else if was ∧ !on then d1.faDisable n else d1)

/-- FA_n_LDLY is written (R229): LDLY itself only with START = 0 and EN = 0. -/
def Dev.faLdlyWrite (d : Dev) (n w : Nat) : Code × Dev :=
  let free : Bool := !(d.flag F.faCtrl_start n) && !(d.flag F.faCtrl_en n)
  if free ∧ 2000 < bitsOf w 0 12 then (.range, d)
  else if !d.chanFree (n + 1) then (.wrongState, d)
  else (.ok, (d.on free (·.wr F.faLdly_ldly w n)).wr F.faLdly_asym (w / 65536) n)

/-- The configuration of an incremental channel is written (R217, R230). -/
def Dev.fqCfgWrite (d : Dev) (r : RegDef) (q w : Nat) : Code × Dev :=
  if !d.chanFree (q + 9) then (.wrongState, d)
  else
    let old := (d.rd F.fqCtrl_mode q, d.rd F.fqCtrl_en q)
    let d1 := d.putFlds r q 0 w false
    (.ok, if (d1.rd F.fqCtrl_mode q, d1.rd F.fqCtrl_en q) = old then d1 else d1.fqEnable q)

/-- A latch register is written (R244). -/
def Dev.ltWrite (d : Dev) (r : RegDef) (s w : Nat) : Code × Dev :=
  let w := if r.sp = .ltCfg ∧ s < 4 then putBits w 10 8 0 else w
  let clears : Bool := decide (r.sp = .ltCfg) && !(bitOf w 0)
  if d.flag F.ltCfg_en s then
    if clears then (.ok, (d.putFlds r s 0 w false).ltDisable s) else (.wrongState, d)
  else (.ok, d.putFlds r s 0 w false)

/-- LEG_n takes another use or another carrier (R170): both gates go low and what its old use held is gone; a brake is engaged first and
then follows the axis it now serves. -/
def Dev.useChange (d d1 : Dev) (r : RegDef) (n w : Nat) : Dev :=
  if d.rd F.legCfg_use n = d1.rd F.legCfg_use n ∧ d.rd F.legCfg_axis n = d1.rd F.legCfg_axis n then d1
  else
    let d := (((d.brakeTo n false).gatesOff n).wr F.legStat_mode 0 n).modLeg n fun l => { l with held := .free, chop := false, sh := [] }
    (d.putFlds r n 0 w false).brakeEval n

/-- A configuration register of a leg is written (R170, R185): both the axis named before and the one named after count. -/
def Dev.legCfgWrite (d : Dev) (r : RegDef) (n w a port : Nat) : Code × Dev :=
  let d1 := d.putFlds r n 0 w false
  let ax := d.rd F.legCfg_axis n
  let ax1 := d1.rd F.legCfg_axis n
  if r.sp = .legIsc ∧ d1.rd F.legIsc_hard n < d1.rd F.legIsc_soft n then (.range, d)
  else if d.heldWord r n 0 = d1.heldWord r n 0 then (.ok, d)
  else if !d.disabled ax then (.wrongState, d.refusal a port ax)
  else if !d.disabled ax1 then (.wrongState, d.refusal a port ax1)
  else (.ok, if r.sp = .legCfg then d.useChange d1 r n w else d1)

/-- LEG_n_BRK is written (R194). -/
def Dev.brkWrite (d : Dev) (r : RegDef) (n w m : Nat) : Code × Dev :=
  if bitsOf m 26 2 ≠ 0 ∧ bitsOf w 26 2 = 2 ∧ !d.disabled (d.rd F.legCfg_axis n) then (.wrongState, d)
  else (.ok, (d.putFlds r n 0 w false).brakeEval n)

/-- LEG_n_CHOP and LEG_n_CHOP2 are written (R193). -/
def Dev.chopWrite (d : Dev) (r : RegDef) (n w : Nat) : Code × Dev :=
  let d1 := d.putFlds r n 0 w false
  if d1.rd F.legChop_choff n < d1.rd F.legChop_chon n ∧ d1.rd F.legChop_chon n < d1.rd F.legChop2_chfull n then (.ok, d1)
  else (.range, d)

/-- SNS_LG_g_CFG is written (R198). -/
def Dev.snsCfgWrite (d : Dev) (r : RegDef) (g w a port : Nat) : Code × Dev :=
  let busy := (List.range 4).find? fun i => d.rd F.legCfg_use (4 * g + i) == 1 && !d.disabled (d.rd F.legCfg_axis (4 * g + i))
  match busy with
  | some i => (.wrongState, d.refusal a port (d.rd F.legCfg_axis (4 * g + i)))
  | none => (.ok, d.putFlds r g 0 w false)

/-- An active TRIP_k has been given a wider reach (R189, R195): axes that it reaches now react, and CHOPPER and BRAKE legs that it holds now
go low. -/
def Dev.tripReach (d d1 : Dev) (k : Nat) : Dev :=
  let src := 4 + k
  if !(d1.tripOn src) then d1
  else
    let hold := d1.chopHolds src && !(d.chopHolds src)
    let d1 := if hold then d1.each d1.chopBrk (fun n d => (d.gatesOff n).wr F.legStat_mode 2 n) else d1
    d1.each ((List.range 8).filter (fun n => d1.reaches src n && !(d.reaches src n))) fun n d => d.reactTo n (d.reactOf n src) (srcCause src)

/-- TRIP_k_CFG is written (R186): a write that sets EN or changes POL restarts the filter with the input inactive, and one that clears EN
makes it inactive. -/
def Dev.tripCfgWrite (d : Dev) (r : RegDef) (k w : Nat) : Code × Dev :=
  let same : Bool := d.flag F.tripCfg_en k && bitOf w 11 && d.rd F.tripCfg_pol k == bitsOf w 10 1
  let d1 := d.putFlds r k 0 w false
  (.ok, if same then d.tripReach d1 k
    else { (d1.tripInactive (4 + k)) with trip := { d1.trip with from_ := Tbl.put k d.now d1.trip.from_ } })

/-- AX_n_LOOPCTL is written (R145, R162): a command that names a loop which is not present is refused at once. -/
def Dev.loopctlWrite (d : Dev) (n x : Nat) (by_ : Cmdr) : Option Code × Dev :=
  match (List.range 6).filter (bitOf x) with
  | [] => (some .ok, d)
  | [b] =>
    if d.axState n ≠ 2 ∨ !(d.present n (2 - b % 3)) then (some .wrongState, d)
    else (none, d.modAxis n fun h => { h with loopPend := h.loopPend ++ [{ by_ := by_, bit := b }] })
  | _ => (some .range, d)

/-- AX_n_ECMD is written (R105, R108). -/
def Dev.ecmdWrite (d : Dev) (n x : Nat) (by_ : Cmdr) : Option Code × Dev :=
  match (List.range 3).filter (bitOf x) with
  | [] => (some .ok, d)
  | [_] => (none, d.modAxis n fun h => { h with pend := h.pend ++ [.ecmd by_ x] })
  | _ => (some .range, d)

/-- A profile limit is committed by its HI word (R121). -/
def Dev.limWrite (d : Dev) (r : RegDef) (n w : Nat) : Code × Dev :=
  let k := (r.base - 0xB0108) / 8
  let f := limRegs k
  let x := sx 64 (d.rd f.1 n + 2 ^ 32 * w)
  if x ≤ 0 then (.range, d)
  else (.ok, ((d.wr f.2 w n).commitLo f.1 n).modPrf n fun h => { h with lims := h.lims ++ [(k, x)] })

/-- A 64-bit limit of the position loop is committed by its HI word (R149, 05_marver_loops.md). -/
def Dev.posLimWrite (d : Dev) (r : RegDef) (n w : Nat) : Code × Dev :=
  let put (lo hi : Fld) : Dev := (d.wr hi w n).commitLo lo n
  let d1 := if r.base = F.lpOutmaxhi_v.base then put F.lpOutmaxlo_v F.lpOutmaxhi_v
    else if r.base = F.lpOutminhi_v.base then put F.lpOutminlo_v F.lpOutminhi_v
    else put F.lpImaxlo_v F.lpImaxhi_v
  if sx 64 (d1.pair F.lpOutmaxlo_v F.lpOutmaxhi_v n) < sx 64 (d1.pair F.lpOutminlo_v F.lpOutminhi_v n) then (.range, d) else (.ok, d1)

/-- A 32-bit loop limit is written (R149, 05_marver_loops.md). -/
def Dev.curLimWrite (d : Dev) (r : RegDef) (n j w : Nat) : Code × Dev :=
  let d1 := d.putFlds r n j w false
  if d1.rdI F.lqOutmaxlo_v n j < d1.rdI F.lqOutminlo_v n j then (.range, d) else (.ok, d1)

/-- C2 and C3 are committed by their HI words (R155). -/
def Dev.demandWrite (d : Dev) (r : RegDef) (n w : Nat) : Dev :=
  (d.putFlds r n 0 w false).commitLo (if r.base = F.axVlimhi_v.base then F.axVlimlo_v else F.axExtdemlo_v) n

/-- AX_n_BLENDLO and BLENDHI are written (R107). -/
def Dev.blendWrite (d : Dev) (r : RegDef) (n w : Nat) : Code × Dev :=
  let d1 := d.putFlds r n 0 w false
  if 2 ^ 48 < d1.rd64 F.axBlendlo_blend F.axBlendhi_blend n then (.range, d) else (.ok, d1)

/-- A register that R98 guards is written: a change needs the coupling state IDLE. -/
def Dev.cplCfgWrite (d : Dev) (r : RegDef) (n w : Nat) : Code × Dev :=
  let d1 := d.putFlds r n 0 w false
  if r.sp = .axCpl ∧ bitsOf w 0 5 = 8 + n then (.range, d)
  else if d.heldWord r n 0 ≠ d1.heldWord r n 0 ∧ d.rd F.axCstat_cstate n ≠ 0 then (.wrongState, d)
  else (.ok, d1)

/-- NET_STCFG is written (R306). -/
def Dev.stcfgWrite (d : Dev) (w : Nat) : Code × Dev :=
  let nl := bitsOf w 3 6
  let per := d.rd F.netStper_period
  let cyc := d.rd F.netCycle_cycle
  let bad : Bool := per % cyc != 0 || decide (per < 250000) || decide (per ≤ d.rd F.netStofs_offset) || decide (48 < nl) ||
    (List.range nl).any fun k => (placeOf (d.rd F.netStlist_addr k)).isNone
  let put (d : Dev) : Dev := ((d.wr F.netStcfg_en (bitsOf w 0 1)).wr F.netStcfg_ports (bitsOf w 1 2)).wr F.netStcfg_nlist nl
  if d.flag F.netStcfg_en then
    if bitsOf w 1 2 = d.rd F.netStcfg_ports ∧ nl = d.rd F.netStcfg_nlist then (.ok, put d) else (.wrongState, d)
  else if bitOf w 0 ∧ bad then (.range, d)
  else (.ok, put d)

/-- PL_n_CTRL is written whole (R266, R267): the binding is judged where the write changes it. -/
def Dev.plCtrlWrite (d : Dev) (n w port : Nat) : Code × Dev :=
  let bind := bitOf w 1
  let axis := bitsOf w 2 3
  let a := if bind = d.flag F.plCtrl_bind n ∧ axis = d.rd F.plCtrl_axis n then (.ok, d) else d.laneBindWrite n bind axis port
  match a.1 with
  | .ok => match a.2.laneRunWrite n (bitOf w 0) port with
    | (.ok, d2) => (.ok, d2)
    | (.range, _) => (.range, d)
    | (c, _) => (c, (d.laneRefused n port (F.plCtrl_run.addr n 0) c).2)
  | _ => a

/-- A check unit is written (R370 to R375) after what waits there has run (R373). -/
def Dev.chkWrite (d : Dev) (r : RegDef) (k w : Nat) : Code × Dev :=
  match r.sp with
  | .chkCfg => d.chkApply k (if bitsOf w 8 4 = 0 then .param 0 w else .preset (bitsOf w 8 4))
  | .chkParam => d.chkApply k (.param ((r.base - 0x80004) / 4 + 1) w)
  | .chkCmd => if bitOf w 0 then d.chkApply k .start else (.ok, d)
  | .chkData => d.chkApply k (.data (bytesOf 4 w))
  | .chkVal => d.chkApply k (.val w)
  | .chkAlvcfg => d.chkApply k (.alvcfg (bitsOf w 0 5) (bitOf w 8))
  | .chkAlvin => d.chkApply k (.alvin (bitsOf w 0 16))
  | _ => (.ok, d)

/-- STALLCFG is written (R142). -/
def Dev.stallWrite (d : Dev) (r : RegDef) (n w : Nat) : Code × Dev :=
  if bitOf w 0 ∧ d.rd F.axCfg_kind n ≠ 2 then (.range, d) else (.ok, d.putFlds r n 0 w false)

/-- A register is written whose fields have passed the range check: the rule of its kind. `w` is the word of `newWord`, `m` the mask;
no answer where the write is answered later. -/
def Dev.spWrite (d : Dev) (r : RegDef) (i j a w m : Nat) (x : Wr) : Option Code × Dev :=
  let now_ (y : Code × Dev) : Option Code × Dev := (some y.1, y.2)
  let plain : Option Code × Dev := (some .ok, d.putFlds r i j w x.img)
  match r.sp with
  | .axBlend => now_ (d.blendWrite r i w)
  | .axCamsel => now_ (d.camselWrite i (bitsOf w 0 4) (bitsOf w 4 4) (bitOf w 8))
  | .axCfg => (some .ok, ((d.stillChange i (bitsOf w 3 2)).putFlds r i j w x.img))
  | .axCmd => (none, d.modAxis i fun h => { h with pend := h.pend ++ [.cmd x.by_ (bitsOf w 0 3)] })
  | .axCper => if w % 2 = 1 then (some .range, d) else plain
  | .axCpl | .axCplCfg => now_ (d.cplCfgWrite r i w)
  | .axEcmd => d.ecmdWrite i w x.by_
  | .camDesc => now_ (d.camRegWrite i (r.base % 16 / 4) w)
  | .canBt => if d.flag F.canCtrl_en then (some .wrongState, d) else plain
  | .canCtrl => now_ (d.canCtrlWrite w m)
  | .canTxabort => now_ (d.txabort w)
  | .canTxreq => now_ (d.txreq w)
  | .chkAlvcfg | .chkAlvin | .chkCfg | .chkCmd | .chkData | .chkParam | .chkRead | .chkVal => now_ (d.chkWrite r i w)
  | .cmpCtrl =>
    now_ (d.cmpCtrlWrite i j (w / 2) (bitsOf w 4 4) (bitsOf w 8 4) (bitsOf w 12 8) (bitOf w 22))
  | .cmpPoshi =>
    let d1 := d.putFlds r i j w x.img
    (some .ok, d1.cmpCommit i j (d1.rdI64 F.cmpPoslo_pos F.cmpPoshi_pos i j))
  | .evrCmd => now_ (d.evrCmdWrite (bitOf w 0) (bitsOf w 8 8) x.port)
  | .evrCursor =>
    let old := Tbl.get 0 x.port d.evr.cursor
    (some .ok, d.modEvr fun h => { h with cursor := Tbl.put x.port (old - (old &&& m) + (w &&& m)) h.cursor })
  | .faCfg => now_ (d.faCfgWrite r i w)
  | .faLdly => now_ (d.faLdlyWrite i w)
  | .fiCfg => now_ (d.fiCfgWrite i w)
  | .fioCfg => match d.fioCfgWrite (bitsOf w 0 2) (bitsOf w 2 2) with
    | (.ok, d1) => (some .ok, d1.wr F.fioCfg_owen (w / 256))
    | y => now_ y
  | .fioOut => now_ (d.fioWrite ((r.base - 0x88000) / 4) w x.port)
  | .fioWd => now_ (d.fioWdWrite w x.port)
  | .fioWdTimeout => now_ (d.fioTimeoutWrite w)
  | .fqCfg => now_ (d.fqCfgWrite r i w)
  | .fqCmd => now_ (d.fqCmdWrite i w)
  | .fqm => now_ (d.shiftWrite (8 + i) w)
  | .fuse => plain
  | .fuseKey => (some .ok, d.wr F.fuseKey_key w)
  | .fusePcmd => if bitOf w 0 then now_ d.fuseGo else (some .ok, d)
  | .gmCtrl => now_ (d.gmWrite i w)
  | .gmGrace => now_ (d.staleWrite i (d.rd F.gmCtrl_stalemode i) w)
  | .gthCfg => if d.gthRuns then (some .wrongState, d) else plain
  | .gthSrc =>
    if !sigFits (bitsOf w 0 8) (bitsOf w 8 5) then (some .range, d) else if d.gthRuns then (some .wrongState, d) else plain
  | .gthCmd => now_ (d.gthCmdWrite w)
  | .hiCommit => (some .ok, d.demandWrite r i w)
  | .lchCtrl => now_ (d.lchCtrlWrite i w)
  | .lchPer => now_ (d.lchPerWrite i w)
  | .lchTns => now_ (d.lchCommit i (w % 2 ^ 30))
  | .legBrk => now_ (d.brkWrite r i w m)
  | .legCfg | .legReg | .legIsc => now_ (d.legCfgWrite r i w a x.port)
  | .legChop => now_ (d.chopWrite r i w)
  | .legFlt => (some .ok, d.on (bitOf w 16) (·.legRearm i))
  | .legSup => if bitsOf w 16 10 < bitsOf w 0 10 then plain else (some .range, d)
  | .limHi => now_ (d.limWrite r i w)
  | .lmshift => now_ (d.shiftWrite i w)
  | .loopcfg => if (bitOf w 1 && !bitOf w 0) || (bitOf w 2 && !bitOf w 1) then (some .range, d) else plain
  | .loopctl => d.loopctlWrite i w x.by_
  | .lpLimHi => now_ (d.posLimWrite r i w)
  | .lqLim => now_ (d.curLimWrite r i j w)
  | .ltCfg | .ltReg => now_ (d.ltWrite r i w)
  | .mdio => now_ (d.mdioWrite i w)
  | .netCycle => if x.img ∧ (w % 31250 ≠ 0 ∨ w = 0) then (some .range, d) else plain
  | .netPCtrl => (some .ok, (d.putFlds r i j w x.img).on (bitOf w 1) (·.anRestart i))
  | .netSt => if d.flag F.netStcfg_en then (some .wrongState, d) else plain
  | .netStcfg => now_ (d.stcfgWrite w)
  | .plCtrl => now_ (d.plCtrlWrite i w x.port)
  | .plOuten => now_ (d.laneOutenWrite i (w % 64) x.port)
  | .pwrVdrv => now_ (d.vdrvWrite (bitsOf w 0 7))
  | .rxoId => now_ (d.rxoIdWrite i w)
  | .sensctl => (some .ok, d.on (bitOf w 0) Dev.sensClr)
  | .snsCfg => now_ (d.snsCfgWrite r i w a x.port)
  | .stallcfg => now_ (d.stallWrite r i w)
  | .tbCtrl => d.tbCtrlWrite i w x.by_
  | .tbPtp =>
    now_ (d.srcWrite i { d.source i with domain := bitsOf w 0 8, minor := bitsOf w 8 8, major := bitsOf w 16 4 })
  | .tbRate => now_ (d.rateWrite i w)
  | .tbRlim => now_ (d.rlimWrite i (w % 2 ^ 31))
  | .tripCfg => now_ (d.tripCfgWrite r i w)
  | .txo => now_ (d.txoWrite i ((r.base - 0x74000) / 4 + j) w)
  | .evrWin | .mbout | .tsfr | .ltQinfo | .rxoWord => (some .ok, d)
  | .plain | .axCplImm | .lchTsec | .limLo =>
    (some .ok, (d.putFlds r i j w x.img).on (r.base == R.evrRl.base) Dev.clipTokens)

/-- Sp kinds that make the owner check of R9 themselves (R170, R198, R266 to R268). -/
def spOwns : Sp → Bool
  | .plCtrl | .plOuten | .snsCfg | .legCfg | .legReg | .legIsc => true
  | _ => false

/-- A write of a register word (R7 to R11): the range of every field, then the owners of its guarded fields, then the rule of the
register; W1C bits follow an accepted write. -/
def Dev.regWrite (d : Dev) (r : RegDef) (i j a v m : Nat) (x : Wr) : Option Code × Dev :=
  let d := match r.sp with
    | .chkCfg | .chkParam | .chkCmd | .chkData | .chkVal | .chkRead | .chkAlvcfg | .chkAlvin => d.chkSettle i x.port Dev.stored
    | _ => d
  let fs := r.flds.filter (·.takes x.img)
  let guarded (f : Fld) : Bool := (f.acc == .rwo || f.acc == .rwd) && d.newFld f i j v m != d.fldVal f i j
  let w := d.newWord r i j v m x.img
  if fs.any fun f => f.acc != .w1c && !f.fits (d.newFld f i j v m) then (some .range, d)
  else
    let own := if spOwns r.sp ∨ !fs.any guarded then none else d.ownFails r.own i j
    match own with
    | some (c, n) =>
      match d.spWrite r i j a w m x with
      | (some .range, d1) => (some .range, d1)
      | _ => (some c, d.refusal a x.port n)
    | none =>
      match d.spWrite r i j a w m x with
      | (some .ok, d1) =>
        let d1 := d1.putW1c r i j w
        (some .ok, if r.base = R.rstEvidence.base ∧ bitOf w 7 then d1.clr F.rstEvidence_stopstep else d1)
      | y => y

/-! ### Memories -/

/-- A word of the friction and cogging tables is written (R158). -/
def Dev.ffTableWrite (d : Dev) (i v a port : Nat) : Code × Dev :=
  let n := (a - 0x2C0000) / 0x8000
  let friction : Bool := decide ((a - 0x2C0000) % 0x8000 < 0x4000)
  if friction ∧ 2 ^ 31 ≤ v % 2 ^ 32 then (.range, d)
  else if d.present n 1 ∧ (d.loop n 1).st ≠ .opened then (.loopClosed, d.refusal a port n)
  else (.ok, { d with tables := Tbl.set 0 i (v % 2 ^ 32) d.tables })

/-- Word `i` of the microstep table is written (R138). -/
def Dev.mstepWrite (d : Dev) (i v : Nat) : Code × Dev :=
  if (List.range 8).any fun n => (d.rd F.axCfg_kind n == 2 || d.rd F.axCfg_kind n == 3) && !d.disabled n then (.wrongState, d)
  else (.ok, { d with mstep := Tbl.set 0 i (v % 2 ^ 32) d.mstep })

/-- A write of one word at an address (R6, R11): the answer, if it is given now, and the device. `m` selects the bits written. -/
def Dev.busWrite (d : Dev) (a v m : Nat) (x : Wr) : Option Code × Dev :=
  match placeOf a with
  | none => (some .noSuchAddress, d)
  | some p =>
    if a % 4 ≠ 0 then (some .range, d)
    else
      let merged (old : Nat) : Nat := old - (old &&& m) + (v &&& m)
      let y : Option Code × Dev := match p with
        | .reg r i j => d.regWrite r i j a v m x
        | .lane n off => let z := d.laneMemWrite n off (merged (d.placeWord p)) x.port; (some z.1, z.2)
        | .table i =>
          let z := if a < 0x2C0000 then d.pointWrite i (merged (d.table i)) else d.ffTableWrite i (merged (d.table i)) a x.port
          (some z.1, z.2)
        | .mstep i => let z := d.mstepWrite i (merged (Tbl.get 0 i d.mstep)); (some z.1, z.2)
        | .gather _ => (some .ok, d)
      match y with
      | (some .range, d1) => (some .range, d1)
      | _ =>
        if x.masked ∧ d.bad.contains a then (some .parity, d)
        else match y with
          | (some .ok, d1) => (some .ok, if x.img then d1.mended a else d1.stored a)
          | y => y

/-! ### Rights and single accesses -/

/-- A port may read (`wr` false) or write an address (R36, R37, R403); an address outside every window needs no right. -/
def Dev.mayAccess (d : Dev) (port a : Nat) (wr : Bool) : Bool :=
  match windowOf a with
  | none => true
  | some w =>
    let c := d.right port w
    (c == 0 || (c == 1 && !wr)) && !(wr && port != 3 && 0x10300 ≤ a && a < 0x10310)

/-- The records that an access behind port `p` has raised carry its code in SRC (R416). -/
def Dev.sourced (d old : Dev) (p : Nat) : Dev :=
  let fix (src : Nat) : Nat := if src = 7 then p else src
  let n := old.evr.q28.length
  let w := old.evr.waiting.length
  d.modEvr fun h =>
    { h with
      q28 := h.q28.take n ++ (h.q28.drop n).map fun r => { r with src := fix r.src }
      waiting := h.waiting.take w ++ (h.waiting.drop w).map fun o => { o with src := fix o.src } }

/-- An access of one word, with its rights check, carried out and answered (R11, R37, R304). -/
def Dev.access (d : Dev) (port a : Nat) (wr : Bool) (by_ : Cmdr) (f : Dev → Option Code × Dev) : Dev :=
  if !d.mayAccess port a wr then (d.violation port a).answer by_ .violation
  else
    let y := f d
    let d1 := y.2.sourced d port
    match y.1 with
    | some c => d1.answer by_ c
    | none => d1

/-- A write of the bits `m` of one word by a port, answered under its tag: the commands that name a register of their own. -/
def Dev.rowWrite (d : Dev) (port tag a v m : Nat) : Dev :=
  let by_ : Cmdr := { port := port, tag := tag, op := if m = 2 ^ 32 - 1 then 2 else 3, addr := a }
  d.access port a true by_ fun d => d.busWrite a v m { port := port, masked := m != 2 ^ 32 - 1, by_ := by_ }

/-- A write of one whole word. -/
def Dev.rowWord (d : Dev) (port tag a v : Nat) : Dev := d.rowWrite port tag a v (2 ^ 32 - 1)

/-- A write of one field of a register. -/
def Dev.rowField (d : Dev) (port tag : Nat) (f : Fld) (i j v : Nat) : Dev :=
  d.rowWrite port tag (f.addr i j) (v % 2 ^ f.len * 2 ^ f.lo) ((2 ^ f.len - 1) * 2 ^ f.lo)

/-- A read of one word by a port, answered under its tag with the word. -/
def Dev.rowRead (d : Dev) (port tag a : Nat) : Dev :=
  let by_ : Cmdr := { port := port, tag := tag, op := 1, addr := a }
  if !d.mayAccess port a false then (d.violation port a).answer by_ .violation
  else
    let y := d.busRead a port
    let d1 := y.2.2.sourced d port
    d1.respond { port := port, code := y.1, tag := tag, op := 1, addr := a, data := if y.1 = .ok then [y.2.1] else [] }

end Sys2Proof.Machine
end

