-- ==== Sys2Proof/Machine/Cmd.lean ====
section
/-!
DEFINITION. Commands: acceptance, the command engine, queue pushes, host and service messages, STATUS frames (R37 to R44,
01_line_and_tick.md; R300 to R306, R311 to R313, 11_network_ports.md).
-/

namespace Sys2Proof.Machine

/-! ### One command record -/

/-- The words that a record addresses, with value and mask (R300). -/
def CmdRec.words (c : CmdRec) : List (Nat × Nat × Nat) :=
  (List.range c.count).map fun k =>
    let a := (c.addr + 4 * k) % 2 ^ 32
    match c.op with
    | 2 => (a, c.data.getD k 0, 2 ^ 32 - 1)
    | 3 => (a, c.data.getD (2 * k) 0, c.data.getD (2 * k + 1) 0)
    | _ => (a, 0, 0)

/-- The management core, the ROM and a device without an image leave only part of the command set (R401, R405): the answer to a record
that they do not serve. -/
def Dev.served (d : Dev) (port : Nat) (c : CmdRec) : Bool :=
  let core := d.rd F.mgtState_core
  let ws := c.words.map (·.1)
  if core = 2 ∧ !d.mgt.fwRun then
    (port == 2 || port == 3) &&
      (if c.op = 4 then c.addr % 32 == 31 else c.op == 1 && ws.all fun a => decide (a < 0x30000))
  else if d.mgt.noImage ∧ ¬ (c.op = 1 ∨ (c.op = 4 ∧ (c.addr % 32 = 26 ∨ c.addr % 32 = 31))) then false
  else core == 0 || c.op == 4 || ws.all fun a => windowOf a != some 3

/-- A register or memory word takes a write of a committed command whose checks have been made (R42, R302). -/
def Dev.forceWrite (d : Dev) (a v m : Nat) : Dev :=
  let merged (old : Nat) : Nat := old - (old &&& m) + (v &&& m)
  match placeOf a with
  | some (.reg r i j) => (d.putFlds r i j (d.newWord r i j v m false) false).stored a
  | some (.table i) => ({ d with tables := Tbl.set 0 i (merged (d.table i)) d.tables }).stored a
  | some (.mstep i) => ({ d with mstep := Tbl.set 0 i (merged (Tbl.get 0 i d.mstep)) d.mstep }).stored a
  | some (.lane n off) =>
    if off < 0x4000 then
      (d.modPl n fun p => { p with imem := Tbl.set 0 (off / 4) (merged (Tbl.get 0 (off / 4) p.imem)) p.imem }).stored a
    else
      let k := (off - 0x8000) / 4
      (d.modPl n fun p => { p with dmem := Tbl.set 0 k (merged (Tbl.get 0 k p.dmem)) p.dmem }).stored a
  | some (.gather _) => d
  | none => d

/-- One word of a write in the trial of a command: the device after the words before it, the checks so far as answer, address and the
device that a refusal leaves, and whether a word is answered later. -/
structure Trial where
  dev : Dev
  fails : List (Code × Nat × Dev) := []
  later : Bool := false

/-- One word is checked against the state at the check and written after the words before it (R302): a value is judged with the words
before it in place, a state as it stood at the check. -/
def Trial.word (t : Trial) (d0 : Dev) (port : Nat) (ok : Bool) (x : Wr) (w : Nat × Nat × Nat) : Trial :=
  let a := w.1
  if !d0.mayAccess port a true then { t with fails := t.fails ++ [(.violation, a, d0.violation port a)] }
  else
    let x := { x with by_ := { x.by_ with word := some a } }
    let r0 := d0.busWrite a w.2.1 w.2.2 x
    let r1 := t.dev.busWrite a w.2.1 w.2.2 x
    let c0 := r0.1.getD .ok
    let c1 := r1.1.getD .ok
    let c := if c1 = .range then c1 else if c0 = .range then c1 else c0
    let c := if c = .ok ∧ !ok then .wrongState else if !ok then c.first .wrongState else c
    let dev := if c1 = .ok then r1.2 else t.dev.forceWrite a w.2.1 w.2.2
    if c = .ok then { t with dev := dev, later := t.later || r1.1.isNone }
    else { t with dev := dev, fails := t.fails ++ [(c, a, if c = c0 then r0.2 else d0)] }

/-- The refusal of a command: the first answer in the order of R11, at the first word that gives it. -/
def firstFail : List (Code × Nat × Dev) → Option (Code × Nat × Dev)
  | [] => none
  | f :: l => match firstFail l with
    | none => some f
    | some g => if g.1.rank < f.1.rank then some g else some f

/-- A WRITE or MASKED_WRITE is checked and carried out or refused whole (R37, R302). -/
def Dev.carryWrite (d : Dev) (port : Nat) (c : CmdRec) : Dev :=
  let by_ : Cmdr := { port := port, tag := c.tag, op := c.op, addr := c.addr, mac := c.mac }
  let x : Wr := { port := port, masked := c.op == 3, by_ := by_ }
  let t : Trial := c.words.foldl (fun (t : Trial) w => t.word d port (d.served port c) x w) { dev := d }
  match firstFail t.fails with
  | some f => (f.2.2.sourced d port).answer { by_ with addr := f.2.1 } f.1
  | none => if t.later then t.dev.sourced d port else (t.dev.sourced d port).answer by_ .ok

/-- A READ is checked and carried out or refused whole (R37, R302). -/
def Dev.carryRead (d : Dev) (port : Nat) (c : CmdRec) : Dev :=
  let ok := d.served port c
  let judge (a : Nat) : Option (Code × Nat × Dev) :=
    if !d.mayAccess port a false then some (.violation, a, d.violation port a)
    else
      let k := (d.busRead a port).1
      let k := if ok then k else k.first .wrongState
      if k = .ok then none else some (k, a, d)
  let as := c.words.map (·.1)
  let rsp (code : Code) (a : Nat) (l : List Nat) : Rsp :=
    { port := port, code := code, tag := c.tag, op := 1, addr := a, data := l, mac := c.mac }
  match firstFail (as.filterMap judge) with
  | some f => (f.2.2.sourced d port).respond (rsp f.1 f.2.1 [])
  | none =>
    let y := as.foldl (fun (s : Dev × List Nat) a => let r := s.1.busRead a port; (r.2.2, s.2 ++ [r.2.1])) (d, [])
    (y.1.sourced d port).respond (rsp .ok c.addr y.2)

/-- The window of a queue's consumer and the size of its entries (R38, R300, R324, R407, R410); none for a queue that takes no push. -/
def pushQueue (q : Nat) : Option (Nat × Nat) :=
  if q < 8 then some (11, 8)
  else if q < 16 then some (12, 12)
  else if q = 20 then some (7, 19)
  else if q = 26 then some (3, 16)
  else if q = 31 then some (3, 64)
  else none

/-- A QUEUE_PUSH is judged and answered when its entry is taken or refused (R38, R302). -/
def Dev.carryPush (d : Dev) (port : Nat) (c : CmdRec) : Dev :=
  let q := c.addr % 32
  let by_ : Cmdr := { port := port, tag := c.tag, op := 4, addr := c.addr, mac := c.mac }
  match pushQueue q with
  | none => d.answer by_ .range
  | some (win, size) =>
    if d.right port win ≠ 0 then (d.violation port c.addr).answer by_ .violation
    else if 32 ≤ c.addr ∨ c.count ≠ size then d.answer by_ .range
    else if !d.served port c then d.answer by_ .wrongState
    else
      let e : QEnt := { by_ := by_, words := c.data }
      let y : Option Code × Dev :=
        if q < 8 then d.qPush q e
        else if q < 16 then let z := d.segPush (q - 8) c.data; (some z.1, z.2)
        else if q = 20 then d.q20Push e
        else if q = 26 then d.q26Push e
        else d.q31Push by_ c.data
      let d1 := y.2.sourced d port
      match y.1 with
      | some k => d1.answer by_ k
      | none => d1

/-- A command record of a port is carried out or refused (R300, R302). -/
def Dev.carry (d : Dev) (port : Nat) (c : CmdRec) : Dev :=
  match c.op with
  | 1 => d.carryRead port c
  | 4 => d.carryPush port c
  | _ => d.carryWrite port c

/-- A record that addresses a domain in reset (R13, R384, R386): VIOLATION without the right, else WRONG_STATE (notes/assumptions/9.md). -/
def Dev.carryHeld (d : Dev) (port : Nat) (c : CmdRec) : Dev :=
  let by_ : Cmdr := { port := port, tag := c.tag, op := c.op, addr := c.addr, mac := c.mac }
  let bad : Option Nat :=
    if c.op = 4 then match pushQueue (c.addr % 32) with
      | some (win, _) => if d.right port win ≠ 0 then some c.addr else none
      | none => none
    else (c.words.map (·.1)).find? fun a => !d.mayAccess port a (c.op != 1)
  match bad with
  | some a => (d.violation port a).answer { by_ with addr := a } .violation
  | none => d.answer by_ .wrongState

/-! ### The command engine -/

/-- The next port in rotation with a waiting command (R302). -/
def Dev.nextPort (d : Dev) : Option Nat :=
  ((List.range 4).map fun k => (d.net.turn + k) % 4).find? fun p => Tbl.get [] p d.net.cmdq != []

/-- Row COMMAND_START (R302): the next command is carried out by `go`; with Q_21 full, execution waits (R39). -/
def Dev.commandStart (d : Dev) (go : Dev → Nat → CmdRec → Dev := Dev.carry) : Dev :=
  if 64 ≤ d.net.q21.length then d
  else match d.nextPort with
    | none => d
    | some p =>
      match Tbl.get [] p d.net.cmdq with
      | [] => d
      | c :: l => go (d.modNet fun h => { h with cmdq := Tbl.put p l h.cmdq, turn := (p + 1) % 4 }) p c

/-- Tag quota of a partner port (R41). -/
def Dev.quota (d : Dev) : Nat → Nat
  | 0 => d.rd F.netQuota_q0 | 1 => d.rd F.netQuota_q1 | 2 => d.rd F.netQuota_q2 | _ => d.rd F.netQuota_q3

/-- A well-formed record is judged at acceptance and queued (R40, R41, R301). -/
def Dev.acceptRec (d : Dev) (port : Nat) (c : CmdRec) : Dev :=
  let refuse (code : Code) : Dev :=
    d.respond { port := port, code := code, tag := c.tag, op := c.op, addr := c.addr, mac := c.mac } false
  if d.net.inflight.any fun x => x.1 == c.tag then refuse .tagInUse
  else if d.quota port ≤ (d.net.inflight.filter fun x => x.2 == port).length then refuse .queueFull
  else
    let d := d.modNet fun h =>
      { h with cmdq := Tbl.put port (Tbl.get [] port h.cmdq ++ [c]) h.cmdq, inflight := h.inflight ++ [(c.tag, port)] }
    d.wr F.glbTags_peak (max (d.rd F.glbTags_peak) d.net.inflight.length)

/-- Data words of a record (R300). -/
def recData (op count : Nat) : Nat := match op with | 1 => 0 | 3 => 2 * count | _ => count

/-- Command records are taken in order; one that is not well formed answers RANGE and ends the parsing (R301). -/
def Dev.acceptAll (d : Dev) (port mac : Nat) : Nat → List Nat → Dev
  | 0, _ => d
  | _, [] => d
  | n + 1, w0 :: l =>
    let op := w0 % 256
    let tag := bitsOf w0 8 7
    let count := bitsOf w0 16 8
    let a := l.headD 0
    let need := recData op count
    if op = 0 ∨ 4 < op ∨ count = 0 ∨ 64 < count ∨ bitOf w0 15 ∨ 2 ^ 24 ≤ w0 ∨ l.length < 1 + need then
      let d := d.respond { port := port, code := .range, tag := tag, op := op, addr := a, mac := mac } false
      d.on (decide (port < 2)) (·.bump F.netPCnt_malformed port)
    else
      (d.acceptRec port { op := op, tag := tag, count := count, addr := a, data := (l.drop 1).take need, mac := mac }).acceptAll port
        mac n (l.drop (1 + need))

/-- Row CMD_FRAME (R301). -/
def Dev.cmdFrame (d : Dev) : Dev :=
  match d.takeType 2 with
  | none => d
  | some (x, d) =>
    let n := x.frame.len / 4
    d.acceptAll x.port x.frame.src n (wordsOf x.frame.payload n)

/-! ### Host and service ports -/

/-- A message of one HCS_N low period (R311, R312). -/
inductive HostMsg where
  /-- KIND 1: the words of the body, and whether HCS_N cut it short. -/
  | commands (words : List (BitVec 32)) (cut : Bool)
  /-- KIND 2: responses, LEN bytes, of which HCS_N clocks out so many. -/
  | responses (len clocked : Nat)
  /-- KIND 3: events, LEN bytes, of which HCS_N clocks out so many. -/
  | events (len clocked : Nat)
deriving DecidableEq, Repr

/-- A body of `len` bytes: the words given, then zeros. -/
def padWords (len : Nat) (l : List Nat) : List Nat := l ++ List.replicate (len / 4 - l.length) 0

/-- Row HOST_MESSAGE (R312): HMISO sends zeros during KIND 1; records not fully clocked out stay queued. -/
def Dev.hostMessage (d : Dev) : HostMsg → Dev
  | .commands ws cut =>
    let d := d.serialPut 2 (List.replicate (1 + ws.length) 0)
    if cut then d.bump F.netHost_aborts
    else d.acceptAll 2 0 ws.length (ws.map BitVec.toNat)
  | .responses len clocked =>
    let len := len / 4 * 4 % 65536
    let shown := (d.rspTake 2 len).1
    (d.rspTake 2 (min len clocked)).2.serialPut 2 ((serialMsg 2 (padWords len (shown.flatMap Rsp.words))).take (1 + clocked / 4))
  | .events len clocked =>
    let len := len / 4 * 4 % 65536
    let l := if d.rd F.netEvcfg_dest = 2 then d.net.q22.take (len / 32) else []
    let out := min l.length (clocked / 32)
    (d.modNet fun h => { h with q22 := h.q22.drop out }).serialPut 2
      ((serialMsg 3 (padWords len (l.flatMap Rec.words))).take (1 + clocked / 4))

/-- The bytes of a SLIP frame (RFC 1055): END 0xC0 marks are dropped, and an escape 0xDB names 0xC0 or 0xDB. -/
def slipBytes : List Nat → List Nat
  | [] => []
  | 0xDB :: 0xDC :: l => 0xC0 :: slipBytes l
  | 0xDB :: 0xDD :: l => 0xDB :: slipBytes l
  | 0xC0 :: l => slipBytes l
  | b :: l => b :: slipBytes l

/-- Row SERVICE_MESSAGE (R313): the bytes received, framed under SLIP. -/
def Dev.serviceMessage (d : Dev) (raw : List (BitVec 8)) : Dev :=
  let b := slipBytes (raw.map BitVec.toNat)
  let n := b.length - 4
  let body := b.take n
  if b.length < 8 ∨ crc32.over_ body ≠ ofBytes (b.drop n) then d.bump F.netSvc_badcrc
  else if at8 body 0 ≠ 1 then d
  else
    let len := at8 body 2 + 256 * at8 body 3
    let k := min len (n - 4) / 4
    d.acceptAll 3 0 k (wordsOf (body.drop 4) k)

/-! ### STATUS frames -/

/-- Latest slot instant of a port, ns of its time base (R305). -/
def Dev.slotNow (d : Dev) (p : Nat) : Int :=
  let t : Int := d.tbNs (d.portTb p)
  t - (t - d.rd F.netStofs_offset) % (d.rd F.netStper_period : Int)

/-- Word `k` of a STATUS frame, a listed one as the management core reads it (R305). -/
def Dev.statusWord (d : Dev) (k : Nat) : Nat × Dev :=
  match k with
  | 0 => (d.regWord R.glbStatus 0 0, d)
  | 1 => (d.net.inflight.length + 65536 * d.rd F.netStat_stsent, d)
  | 2 => (d.rd F.evrNewest_seq, d)
  | 3 => (b2n d.net.prevLate, d)
  | k + 4 => let r := d.busRead (d.rd F.netStlist_addr k) 4; (r.2.1, r.2.2)

/-- Words of a STATUS frame (R305). -/
def Dev.statusLen (d : Dev) : Nat := 4 + d.rd F.netStcfg_nlist

/-- The snapshot of the slot instant `t` of port `p` takes its next `n` words (R305). -/
def Dev.snapTake (d : Dev) (p t : Nat) : Nat → Dev
  | 0 => d
  | n + 1 =>
    let l := match Tbl.find p d.net.snap with
      | some (t', l) => if t' = t then l else []
      | none => []
    if d.statusLen ≤ l.length then d
    else
      let x := d.statusWord l.length
      (x.2.modNet fun h => { h with snap := Tbl.put p (t, l ++ [x.1]) h.snap }).snapTake p t n

/-- One clock of the snapshot of port `p` (R305): from 2,000 ns before the next slot instant one word is read in each
(notes/assumptions/117.md). -/
def Dev.statusSnap (d : Dev) (p : Nat) : Dev :=
  if !d.flag F.netStcfg_en ∨ (p = 1 ∧ d.rd F.netCtrl_mode ≠ 2) then d
  else
    let t := d.slotNow p + d.rd F.netStper_period
    if t * 65536 ≤ d.tb16 (d.portTb p) + 2000 * 65536 then d.snapTake p t.toNat 1 else d

/-- The slot instant of port `p` that lies in the present TIME clock (R305). -/
def Dev.slotDue (d : Dev) (p : Nat) : Option Nat :=
  let tb := d.portTb p
  let t := d.slotNow p
  if 0 ≤ t ∧ ((d.tb tb).val : Int) - 4 * (2 ^ 40 + d.rdI F.tbRate_rate tb) < t * 2 ^ 40 then some t.toNat else none

/-- Row STATUS_SLOT (R305, R306): in LINE and RING one slot serves every port, in DUAL each port has its own. -/
def Dev.statusSlot (d : Dev) (p : Nat) : Dev :=
  let dual : Bool := d.rd F.netCtrl_mode == 2
  let p := if dual then p else 0
  let ports := (d.portsOf (d.rd F.netStcfg_ports)).filter fun q => !dual || q == p
  match d.slotDue p with
  | none => d
  | some t =>
    if !d.flag F.netStcfg_en ∨ !d.tbGood (d.portTb p) ∨ Tbl.find p d.net.slot = some t ∨ ports = [] then d
    else
      let d := d.snapTake p t d.statusLen
      let pay := (Tbl.get (0, []) p d.net.snap).2.flatMap (bytesOf 4)
      let put (d : Dev) (q : Nat) : Dev :=
        let d := d.setWaiting q ((d.waitingAt q).filter fun w => w.cls != 3)
        d.egressPut q
          { cls := 3, frame := d.evx (d.dst q) 4 0 (d.rd F.netStation_station) (t * 65536) pay, at_ := d.now, slot := t }
      let d := d.modNet fun h => { h with slot := Tbl.put p t h.slot, snap := Tbl.erase p h.snap }
      if d.rd F.netCtrl_mode = 1 then (ports.foldl put d).seqNext else ports.foldl (fun d q => (put d q).seqNext) d

/-! ### The end of a TIME clock (R54) -/

/-- A write of TB_n_CTRL that carries REARM or LOAD is judged and answered (R51, R52, R54). -/
def Dev.judgeCtrl (d : Dev) (by_ : Cmdr) (n w : Nat) : Dev :=
  let y := d.tbCtrlNow n w
  ((if y.1 = .ok then y.2.stored (F.tbCtrl_load.addr n 0) else y.2).sourced d by_.port).answer by_ y.1

/-- The enable of an axis is checked and answered (R54, R111). -/
def Dev.judgeEnable (d : Dev) (by_ : Cmdr) (n : Nat) : Dev :=
  let y := d.enable n
  (y.2.sourced d by_.port).answer by_ y.1

/-- One of the happenings that were left to the end of the clock. -/
def Dev.judgeOne (d : Dev) : Judge → Dev
  | .meas n ingress off stamp => d.measJudge n ingress off stamp
  | .ctrl by_ n w => d.judgeCtrl by_ n w
  | .enable by_ n => d.judgeEnable by_ n

/-- The place of a happening in the order of R54: a LOAD, then measurements, which a step discards, then enables, which a step refuses, then
a REARM, which an enable refuses. A write with both comes first unless an axis bound to the time base is to be enabled. -/
def Dev.judgeRank (d : Dev) (l : List Judge) : Judge → Nat
  | .meas .. => 1
  | .enable .. => 2
  | .ctrl _ n w =>
    let enabled : Bool := l.any fun j => match j with | .enable _ a => d.boundTo n a | _ => false
    if bitOf w 6 ∧ !(bitOf w 5 && enabled) then 0 else 3

/-- The happenings of a TIME clock that are judged together at its end (R54), and the tags released in it (R40). -/
def Dev.clockEnd (d : Dev) : Dev :=
  let l := d.tim.judge
  let go (d : Dev) (k : Nat) : Dev := (l.filter fun j => d.judgeRank l j == k).foldl Dev.judgeOne d
  ((if l = [] then d else [0, 1, 2, 3].foldl go { d with tim := { d.tim with judge := [] } })).tagsFree

end Sys2Proof.Machine
end

