-- ==== Sys2Proof/Machine/Sign.lean ====
section
/-!
DEFINITION. The checks of a signature block (R396, 16_power_reset_boot.md): SHA-256 as FIPS 180-4 defines it and the verification of
ECDSA over P-256 as FIPS 186-5 defines it. PRESUMED: the manual names both standards and does not repeat them; see
notes/assumptions/4.md.
-/

namespace Sys2Proof.Machine

/-! ### SHA-256 -/

/-- The round constants of SHA-256. -/
def shaK : List (BitVec 32) := [
  0x428A2F98, 0x71374491, 0xB5C0FBCF, 0xE9B5DBA5, 0x3956C25B, 0x59F111F1, 0x923F82A4, 0xAB1C5ED5,
  0xD807AA98, 0x12835B01, 0x243185BE, 0x550C7DC3, 0x72BE5D74, 0x80DEB1FE, 0x9BDC06A7, 0xC19BF174,
  0xE49B69C1, 0xEFBE4786, 0x0FC19DC6, 0x240CA1CC, 0x2DE92C6F, 0x4A7484AA, 0x5CB0A9DC, 0x76F988DA,
  0x983E5152, 0xA831C66D, 0xB00327C8, 0xBF597FC7, 0xC6E00BF3, 0xD5A79147, 0x06CA6351, 0x14292967,
  0x27B70A85, 0x2E1B2138, 0x4D2C6DFC, 0x53380D13, 0x650A7354, 0x766A0ABB, 0x81C2C92E, 0x92722C85,
  0xA2BFE8A1, 0xA81A664B, 0xC24B8B70, 0xC76C51A3, 0xD192E819, 0xD6990624, 0xF40E3585, 0x106AA070,
  0x19A4C116, 0x1E376C08, 0x2748774C, 0x34B0BCB5, 0x391C0CB3, 0x4ED8AA4A, 0x5B9CCA4F, 0x682E6FF3,
  0x748F82EE, 0x78A5636F, 0x84C87814, 0x8CC70208, 0x90BEFFFA, 0xA4506CEB, 0xBEF9A3F7, 0xC67178F2]

/-- The eight working words. -/
structure Sha8 where
  a : BitVec 32
  b : BitVec 32
  c : BitVec 32
  d : BitVec 32
  e : BitVec 32
  f : BitVec 32
  g : BitVec 32
  h : BitVec 32
deriving DecidableEq, Repr

/-- The initial hash value. -/
def shaInit : Sha8 :=
  { a := 0x6A09E667, b := 0xBB67AE85, c := 0x3C6EF372, d := 0xA54FF53A, e := 0x510E527F, f := 0x9B05688C, g := 0x1F83D9AB, h := 0x5BE0CD19 }

/-- One round with its constant and its schedule word. -/
def Sha8.round (s : Sha8) (k w : BitVec 32) : Sha8 :=
  let s1 := s.e.rotateRight 6 ^^^ s.e.rotateRight 11 ^^^ s.e.rotateRight 25
  let ch := (s.e &&& s.f) ^^^ (~~~s.e &&& s.g)
  let t1 := s.h + s1 + ch + k + w
  let s0 := s.a.rotateRight 2 ^^^ s.a.rotateRight 13 ^^^ s.a.rotateRight 22
  let maj := (s.a &&& s.b) ^^^ (s.a &&& s.c) ^^^ (s.b &&& s.c)
  { a := t1 + s0 + maj, b := s.a, c := s.b, d := s.c, e := s.d + t1, f := s.e, g := s.f, h := s.g }

/-- The rounds of one block: `w` holds the next sixteen words of the schedule. -/
def Sha8.rounds (s : Sha8) (w : List (BitVec 32)) : List (BitVec 32) → Sha8
  | [] => s
  | k :: ks =>
    let x1 := w.getD 1 0
    let x14 := w.getD 14 0
    let y0 := x1.rotateRight 7 ^^^ x1.rotateRight 18 ^^^ (x1 >>> 3)
    let y1 := x14.rotateRight 17 ^^^ x14.rotateRight 19 ^^^ (x14 >>> 10)
    (s.round k (w.getD 0 0)).rounds (w.drop 1 ++ [y1 + w.getD 9 0 + y0 + w.getD 0 0]) ks

/-- One block of sixteen words. -/
def Sha8.block (s : Sha8) (w : List (BitVec 32)) : Sha8 :=
  let t := s.rounds w shaK
  { a := s.a + t.a, b := s.b + t.b, c := s.c + t.c, d := s.d + t.d, e := s.e + t.e, f := s.f + t.f, g := s.g + t.g, h := s.h + t.h }

/-- Big-endian number of a list of bytes. -/
def beNat (l : List Nat) : Nat := l.foldl (fun n b => 256 * n + b % 256) 0

/-- `n` big-endian groups of four bytes. -/
def beWords : Nat → List Nat → List (BitVec 32)
  | 0, _ => []
  | n + 1, l => BitVec.ofNat 32 (beNat (l.take 4)) :: beWords n (l.drop 4)

/-- The blocks of a padded message. -/
def Sha8.blocks (s : Sha8) : Nat → List Nat → Sha8
  | 0, _ => s
  | n + 1, l => (s.block (beWords 16 (l.take 64))).blocks n (l.drop 64)

/-- SHA-256 of a list of bytes, as a big-endian number. -/
def sha256 (l : List Nat) : Nat :=
  let n := l.length
  let pad := (119 - n % 64) % 64
  let bits := 8 * n
  let m := l ++ 0x80 :: List.replicate pad 0 ++ (List.range 8).map fun i => bits / 256 ^ (7 - i) % 256
  let s := shaInit.blocks (m.length / 64) m
  [s.a, s.b, s.c, s.d, s.e, s.f, s.g, s.h].foldl (fun x w => 2 ^ 32 * x + w.toNat) 0

/-! ### ECDSA over P-256 -/

/-- The field prime of P-256. -/
def p256 : Nat := 2 ^ 256 - 2 ^ 224 + 2 ^ 192 + 2 ^ 96 - 1

/-- The coefficient b of P-256. -/
def p256b : Nat := 0x5AC635D8AA3A93E7B3EBBD55769886BC651D06B0CC53B0F63BCE3C3E27D2604B

/-- The order of P-256. -/
def p256n : Nat := 0xFFFFFFFF00000000FFFFFFFFFFFFFFFFBCE6FAADA7179E84F3B9CAC2FC632551

/-- The base point of P-256. -/
def p256g : Nat × Nat :=
  (0x6B17D1F2E12C4247F8BCE6E563A440F277037D812DEB33A0F4A13945D898C296,
   0x4FE342E2FE1A7F9B8EE7EB4A7C0F9E162BCE33576B315ECECBB6406837BF51F5)

/-- `x ^ e` modulo `m` over the low `n` bits of `e`, times `acc`. -/
def powMod (m : Nat) : Nat → Nat → Nat → Nat → Nat
  | 0, _, _, acc => acc
  | n + 1, x, e, acc => powMod m n (x * x % m) (e / 2) (if e % 2 = 1 then acc * x % m else acc)

/-- The inverse modulo a prime of 256 bits. -/
def invMod (m x : Nat) : Nat := powMod m 256 (x % m) (m - 2) 1

/-- The sum of two points; none is the point at infinity. -/
def p256add : Option (Nat × Nat) → Option (Nat × Nat) → Option (Nat × Nat)
  | none, q => q
  | p, none => p
  | some (x1, y1), some (x2, y2) =>
    if x1 = x2 ∧ (y1 + y2) % p256 = 0 then none
    else
      let l := if x1 = x2 then (3 * x1 * x1 + (p256 - 3)) * invMod p256 (2 * y1) % p256
        else (y2 + (p256 - y1)) * invMod p256 (x2 + (p256 - x1)) % p256
      let x := (l * l + (p256 - x1) + (p256 - x2)) % p256
      some (x, (l * (x1 + (p256 - x)) + (p256 - y1)) % p256)

/-- `k` times a point over the low `n` bits of `k`, added to `acc`. -/
def p256mul : Nat → Nat → Option (Nat × Nat) → Option (Nat × Nat) → Option (Nat × Nat)
  | 0, _, _, acc => acc
  | n + 1, k, q, acc => p256mul n (k / 2) (p256add q q) (if k % 2 = 1 then p256add acc q else acc)

/-- A signature `r`, `s` of a message digest by a public key is valid. -/
def ecdsaValid (qx qy digest r s : Nat) : Bool :=
  let curve : Bool := decide (qx < p256) && decide (qy < p256) && (qx * qx % p256 * qx + (p256 - 3) * qx + p256b) % p256 == qy * qy % p256
  if !curve ∨ r = 0 ∨ p256n ≤ r ∨ s = 0 ∨ p256n ≤ s then false
  else
    let w := invMod p256n s
    let u1 := digest * w % p256n
    let u2 := r * w % p256n
    match p256mul 256 u2 (some (qx, qy)) (p256mul 256 u1 (some p256g) none) with
    | none => false
    | some (x, _) => x % p256n == r

end Sys2Proof.Machine
end

