-- ==== Sys2Proof/Machine/Image.lean ====
section
/-!
DEFINITION. Images in flash: the container, the checks of a slot, the validation pass and the writes of a section (R391 to R399,
16_power_reset_boot.md).
-/

namespace Sys2Proof.Machine

/-! ### Reading the flash -/

/-- The bytes of the flash from an address (R391). -/
def Dev.flashBytes (d : Dev) (a n : Nat) : List Nat := (List.range n).map fun k => Tbl.get 0xFF (a + k) d.flash.bytes

/-- A little-endian number in flash. -/
def Dev.flashLe (d : Dev) (a n : Nat) : Nat := ofBytes (d.flashBytes a n)

/-- A word in flash. -/
def Dev.flashWord (d : Dev) (a : Nat) : Nat := d.flashLe a 4

/-! ### The container (R392) -/

/-- LENGTH of the image at `b`. -/
def Dev.imgLength (d : Dev) (b : Nat) : Nat := d.flashWord (b + 8)

/-- GEN of the image at `b`. -/
def Dev.imgGen (d : Dev) (b : Nat) : Nat := d.flashWord (b + 12)

/-- KEYSEL of the image at `b`. -/
def Dev.imgKeysel (d : Dev) (b : Nat) : Nat := d.flashLe (b + 19) 1

/-- An entry of the section table. -/
structure Sect where
  type : Nat
  index : Nat
  resv : Nat
  offset : Nat
  size : Nat
  crc : Nat
deriving DecidableEq, Repr

/-- The section table of the image at `b`. -/
def Dev.sects (d : Dev) (b : Nat) : List Sect :=
  (List.range (d.flashLe (b + 6) 2)).map fun k =>
    let e := b + 64 + 16 * k
    { type := d.flashLe e 1, index := d.flashLe (e + 1) 1, resv := d.flashLe (e + 2) 2, offset := d.flashWord (e + 4)
      size := d.flashWord (e + 8), crc := d.flashWord (e + 12) }

/-- Two sections do not overlap. -/
def Sect.apart (s t : Sect) : Bool := decide (s.offset + s.size ≤ t.offset) || decide (t.offset + t.size ≤ s.offset)

/-- No two sections of a list overlap. -/
def sectsApart : List Sect → Bool
  | [] => true
  | s :: l => l.all s.apart && sectsApart l

/-- Word `k` of a section. -/
def Dev.sectWord (d : Dev) (b : Nat) (s : Sect) (k : Nat) : Nat := d.flashWord (b + s.offset + 4 * k)

/-- The type, index and size of a section are those of R393 and R394. -/
def Dev.sectFits (d : Dev) (kind b : Nat) (s : Sect) : Bool :=
  match s.type with
  | 1 => kind == 1 && (s.index == 0xFF || decide (s.index < 8)) && s.size % 8 == 0
  | 2 => kind == 1 && (s.index == 0xFF || decide (s.index < 8)) && decide (4 ≤ s.size)
  | 3 =>
    let w := d.sectWord b s 22
    kind == 1 && decide (s.index < 8) && decide (w % 65536 ≤ 4096) && decide (w / 65536 ≤ 8192) &&
      s.size == 4 * (23 + w % 65536 + w / 65536)
  | 4 => kind == 1 && s.index == 0xFF
  | 5 => kind == 1 && s.index == 0xFF
  | 16 => kind == 0 && s.index == 0xFF
  | _ => false

/-- Check 4 of R397: the length fits the slot, and the header and the section table obey R392 and R393. -/
def Dev.tableOk (d : Dev) (kind b : Nat) : Bool :=
  let len := d.imgLength b
  let n := d.flashLe (b + 6) 2
  let ss := d.sects b
  decide (len + 136 ≤ slotSize kind) && len % 4 == 0 && decide (1 ≤ n) && decide (n ≤ 1024) && decide (64 + 16 * n ≤ len) &&
    (d.flashBytes (b + 28) 28).all (· == 0) && decide (d.imgKeysel b ≤ kind) &&
    ss.all (fun s => s.resv == 0 && s.offset % 4 == 0 && s.size % 4 == 0 && decide (64 + 16 * n ≤ s.offset) &&
      decide (s.offset + s.size ≤ len) && d.sectFits kind b s) &&
    sectsApart ss

/-- Checks 1 to 3 of R397: the reason of the first that fails, 0 for none. -/
def Dev.headerCheck (d : Dev) (kind b : Nat) : Nat :=
  if crc32.over_ (d.flashBytes b 60) ≠ d.flashWord (b + 60) then 1
  else if d.flashWord b ≠ (if kind = 0 then 0x57464B56 else 0x49424B56) ∨ d.flashLe (b + 4) 2 ≠ 1 then 2
  else if d.flashLe (b + 16) 2 ≠ 0x0824 ∨ d.rd F.glbId_step < d.flashLe (b + 18) 1 then 3
  else 0

/-! ### Keys (R396, R402) -/

/-- First fuse word of the key hash that an image names. -/
def keyWord (kind keysel : Nat) : Nat := if kind = 0 then 4 else 12 + 8 * keysel

/-- The fused key hash as bytes. -/
def Dev.keyHash (d : Dev) (kind keysel : Nat) : List Nat :=
  (List.range 8).flatMap fun k => bytesOf 4 (Tbl.get 0 (keyWord kind keysel + k) d.pwr.inUse)

/-- The key is revoked. -/
def Dev.keyRevoked (d : Dev) (kind keysel : Nat) : Bool := kind == 1 && bitOf (Tbl.get 0 28 d.pwr.inUse) (1 + keysel)

/-- A batch image whose key hash is blank needs no signature (R396). -/
def Dev.keyBlank (d : Dev) (kind keysel : Nat) : Bool := kind == 1 && (d.keyHash kind keysel).all (· == 0)

/-- Checks 7 and 8 of R397. -/
def Dev.signCheck (d : Dev) (kind b : Nat) : Nat :=
  let len := d.imgLength b
  let ks := d.imgKeysel b
  let key := d.flashBytes (b + len + 8) 64
  if d.keyRevoked kind ks then 7
  else if d.keyBlank kind ks then 0
  else if sha256 key ≠ beNat (d.keyHash kind ks) then 7
  else
    let sig := d.flashBytes (b + len + 72) 64
    let ok := d.flashWord (b + len) == 0x47534B56 && d.flashWord (b + len + 4) == 0 &&
      ecdsaValid (beNat (key.take 32)) (beNat (key.drop 32)) (sha256 (d.flashBytes b len)) (beNat (sig.take 32)) (beNat (sig.drop 32))
    if ok then 0 else 8

/-- Checks 4 to 8 of R397. -/
def Dev.bodyCheck (d : Dev) (kind b : Nat) : Nat :=
  let len := d.imgLength b
  if !d.tableOk kind b then 4
  else if crc32.over_ (d.flashBytes (b + 64) (len - 64)) ≠ d.flashWord (b + 56) then 5
  else if (d.sects b).any fun s => crc32.over_ (d.flashBytes (b + s.offset) s.size) != s.crc then 6
  else d.signCheck kind b

/-- GEN `x` is newer than GEN `y` (R398). -/
def genNewer (x y : Nat) : Bool :=
  let k := (x + 2 ^ 32 - y % 2 ^ 32) % 2 ^ 32
  decide (1 ≤ k) && decide (k < 2 ^ 31)

/-! ### The writes of an image -/

/-- The writes of a REG or TABLE section (R393). -/
def Dev.sectWrites (d : Dev) (b : Nat) (s : Sect) : List (Nat × Nat) :=
  match s.type with
  | 1 => (List.range (s.size / 8)).map fun k => (d.sectWord b s (2 * k), d.sectWord b s (2 * k + 1))
  | 2 => (List.range (s.size / 4 - 1)).map fun k => ((d.sectWord b s 0 + 4 * k) % 2 ^ 32, d.sectWord b s (k + 1))
  | _ => []

/-- The writes of a LANE section after RUN has been cleared (R271, R394): the lane's registers with RUN = 0, its whole memories with 0
where the section gives nothing, then PL_n_CTRL as given. -/
def Dev.laneWrites (d : Dev) (b : Nat) (s : Sect) : List (Nat × Nat) :=
  let w := laneBase s.index
  let w0 := d.sectWord b s 0
  let ni := d.sectWord b s 22 % 65536
  let nd := d.sectWord b s 22 / 65536
  [(w + 0x4000, w0 - w0 % 2), (w + 0x4004, d.sectWord b s 1), (w + 0x4008, d.sectWord b s 2)] ++
    ((List.range 3).map fun k => (w + 0x4010 + 4 * k, d.sectWord b s (3 + k))) ++
    ((List.range 16).map fun k => (w + 0x4100 + 4 * k, d.sectWord b s (6 + k))) ++
    ((List.range 4096).map fun k => (w + 4 * k, if k < ni then d.sectWord b s (23 + k) else 0)) ++
    ((List.range 8192).map fun k => (w + 0x8000 + 4 * k, if k < nd then d.sectWord b s (23 + ni + k) else 0)) ++
    [(w + 0x4000, w0)]

/-- The value that the REG sections of an image leave at an address, if they write it. -/
def Dev.imgValue (d : Dev) (b a : Nat) : Option Nat :=
  let l := ((d.sects b).filter (·.type == 1)).flatMap (d.sectWrites b)
  ((l.filter fun x => x.1 == a).getLast?).map (·.2)

/-- A section with an axis INDEX may address this word (R393). -/
def Dev.axisMay (d : Dev) (b : Nat) (s : Sect) (a : Nat) : Bool :=
  let n := s.index
  let owner (reg lo len dflt : Nat) : Nat := bitsOf ((d.imgValue b reg).getD dflt) lo len
  let legOwned (l : Nat) : Bool := owner (0xA0000 + l * 0x800) 4 3 0 == n
  if s.type = 2 then decide (0x2C0000 + n * 0x8000 ≤ a) && decide (a < 0x2C8000 + n * 0x8000)
  else if 0xB0000 ≤ a ∧ a < 0xC0000 then (a - 0xB0000) / 0x2000 == n
  else if 0xA0000 ≤ a ∧ a < 0xAC000 then decide ((a - 0xA0000) % 0x800 < 0x400) && legOwned ((a - 0xA0000) / 0x800)
  else if 0xAD000 ≤ a ∧ a < 0xAD300 then legOwned ((a - 0xAD000) / 0x20)
  else if 0x9F000 ≤ a ∧ a < 0x9F100 then (a - 0x9F000) / 0x20 == n
  else if 0x90000 ≤ a ∧ a < 0x90400 then owner (a - a % 0x80) 1 3 0 == n
  else if 0x90400 ≤ a ∧ a < 0x90600 then owner (a - a % 0x80) 16 3 0 == n
  else false

/-- An image may address this word in this section (R393, R399). -/
def Dev.imgMay (d : Dev) (b : Nat) (s : Sect) (a : Nat) : Bool :=
  (s.index == 0xFF || d.axisMay b s a) &&
    match placeOf a with
    | none => false
    | some (.reg r _ _) =>
      s.type == 1 && (r.flds.any fun f => f.takes true) &&
        (match windowOf a with | some 1 => a == 0x10040 | some 2 => false | some 4 => false | some 15 => false | _ => true)
    | some (.gather _) => false
    | some (.table _) => true
    | some (.mstep _) => true
    | some (.lane _ _) => s.type == 1

/-- One write of the configuration step. -/
def Dev.imgWrite (d : Dev) (a v : Nat) : Option Code × Dev := d.busWrite a v (2 ^ 32 - 1) { port := 4, img := true }

/-- The writes of a section pass the validation (R399), each judged on the state that those before it leave. -/
def Dev.sectValid (d : Dev) (src : Dev) (b : Nat) (s : Sect) : List (Nat × Nat) → Option Dev
  | [] => some d
  | (a, v) :: l =>
    if !src.imgMay b s a then none
    else match d.imgWrite a v with
      | (some .ok, d1) => d1.sectValid src b s l
      | (none, d1) => d1.sectValid src b s l
      | (some _, _) => none

/-- The validation pass over sections, in image order (R399). -/
def Dev.valid (d : Dev) (src : Dev) (b : Nat) : List Sect → Bool
  | [] => true
  | s :: l => match d.sectValid src b s (src.sectWrites b s) with
    | some d1 => d1.valid src b l
    | none => false

/-- The state that the validation pass of a device-wide image starts from (R399): the reset state. -/
def Dev.asReset (d : Dev) : Dev := { now := d.now, freeIdx := d.freeIdx, pwr := d.pwr, flash := d.flash }

/-- Check 9 of R397 for an image at `b`. -/
def Dev.imgValid (d : Dev) (b : Nat) : Bool := d.asReset.valid d b (d.sects b)

/-- Checks 4 to 9 of R397 for a slot of a kind. -/
def Dev.laterCheck (d : Dev) (kind b : Nat) : Nat :=
  match d.bodyCheck kind b with
  | 0 => if kind = 1 ∧ !d.imgValid b then 9 else 0
  | r => r

/-! ### Selection (R398) -/

/-- The candidates of a kind, newest first; at equal GEN slot A comes first. -/
def Dev.candidates (d : Dev) (kind : Nat) : List Nat :=
  let l := (List.range 2).filter fun s => d.headerCheck kind (slotBase kind s) == 0 && !d.isBad kind s
  if l = [0, 1] ∧ genNewer (d.imgGen (slotBase kind 1)) (d.imgGen (slotBase kind 0)) then [1, 0] else l

/-- A batch image accepted without a signature is logged (R396). -/
def Dev.unsignedLog (d : Dev) (kind slot : Nat) : Dev :=
  let b := slotBase kind slot
  d.on (d.keyBlank kind (d.imgKeysel b)) (·.ev E.bootUnsigned slot (d.imgGen b))

/-- The candidates are tried in order; one that fails is marked bad and logged (R397, R398). -/
def Dev.trySlots (d : Dev) (kind : Nat) : List Nat → Option Nat × Dev
  | [] => (none, d)
  | s :: l =>
    let b := slotBase kind s
    match d.laterCheck kind b with
    | 0 => (some s, d.unsignedLog kind s)
    | r => ((d.slotFails kind s r).ev E.bootRejected (kind + 2 * s + 256 * r) (d.imgGen b)).trySlots kind l

/-- The slot of a kind that is selected, none where no candidate is left (R398). -/
def Dev.selectSlot (d : Dev) (kind : Nat) : Option Nat × Dev := d.trySlots kind (d.candidates kind)

/-! ### Applying sections (R399, R413) -/

/-- Writes are made in order up to one that fails by a parity error (R400): whether all were made. -/
def Dev.applyWrites (d : Dev) (fail : Option Nat) : List (Nat × Nat) → Bool × Dev
  | [] => (true, d)
  | (a, v) :: l => if fail = some a then (false, d) else (d.imgWrite a v).2.applyWrites fail l

/-- A section is written; `fail` is the address whose write meets a parity error. -/
def Dev.applySect (d : Dev) (b : Nat) (s : Sect) (fail : Option Nat) : Bool × Dev :=
  if s.type = 3 then (d.laneRunWrite s.index false 4).2.applyWrites fail (d.laneWrites b s)
  else d.applyWrites fail (d.sectWrites b s)

/-- The addresses that a section writes. -/
def Dev.sectAddrs (d : Dev) (b : Nat) (s : Sect) : List Nat :=
  (if s.type = 3 then d.laneWrites b s else d.sectWrites b s).map (·.1)

/-- The sections of an image in the order of the write pass (R399), with their numbers. -/
def Dev.passOrder (d : Dev) (b : Nat) : List (Nat × Sect) :=
  let l := (List.range (d.sects b).length).zip (d.sects b)
  l.filter (fun x => x.2.type == 1 && x.2.index == 0xFF) ++ l.filter (fun x => x.2.type == 2) ++
    ((List.range 8).flatMap fun n => l.filter fun x => x.2.type == 1 && x.2.index == n) ++ l.filter (fun x => x.2.type == 3)

/-- The write pass (R399, R400): `fail` is the section and the address of a parity error; gives the failure met, if any. -/
def Dev.writePass (d : Dev) (b : Nat) (fail : Option (Nat × Nat)) : List (Nat × Sect) → Option (Nat × Nat) × Dev
  | [] => (none, d)
  | (k, s) :: l =>
    let here := match fail with | some (j, a) => if j = k then some a else none | none => none
    match d.applySect b s here with
    | (true, d1) => d1.writePass b fail l
    | (false, d1) => (some (k, here.getD 0), d1)

/-! ### The safety section (R395, R365) -/

/-- The six safety registers, in the order of the section. -/
def safRegs : List RegDef := [R.safCfg, R.safTp, R.safSs1, R.safWin, R.safTo, R.safAge]

/-- The safety section verifies (R395): its check, its ranges, its reserved bytes, and the ring or dual mode that FEN needs. -/
def Dev.safetyVerifies (d : Dev) (b : Nat) (s : Sect) : Bool :=
  let bytes := d.flashBytes (b + s.offset) 32
  let saddr := at8 bytes 0
  let inRange (k : Nat) (r : RegDef) : Bool :=
    let w := d.sectWord b s (1 + k)
    r.flds.all fun f => f.fits (bitsOf w f.lo f.len)
  let fen := bitOf (d.sectWord b s 1) 1
  let mode := ((d.imgValue b 0x60000).getD 0) % 4
  s.size == 36 && (safCrc saddr).over_ bytes == d.sectWord b s 8 && ((List.range 6).zip safRegs).all (fun x => inRange x.1 x.2) &&
    ((bytes.drop 1).take 3).all (· == 0) && (bytes.drop 28).all (· == 0) && (!fen || mode == 1 || mode == 2)

/-- The configuration step takes the safety section (R365): it is accepted, or refused with the latch SEAL. -/
def Dev.safetySection (d : Dev) (b : Nat) : Dev :=
  let l := (d.sects b).filter (·.type == 4)
  let saddr := match l with | s :: _ => d.flashLe (b + s.offset) 1 | [] => 0
  let d := d.wr F.safSeal_imgaddr saddr
  let refuse : Dev := (d.safLatch 2).ev E.safImageRefused (d.rd F.safSeal_addr) saddr
  match l with
  | [s] =>
    if d.safetyVerifies b s ∧ d.flag F.safSeal_valid ∧ d.rd F.safSeal_addr = saddr then
      ((List.range 6).zip safRegs).foldl (fun d x => d.putFlds x.2 0 0 (d.sectWord b s (1 + x.1)) true)
        (d.modSaf fun h => { h with section_ := true })
    else refuse
  | _ => refuse

end Sys2Proof.Machine
end

