-- ==== Sys2Proof/Machine/Boot.lean ====
section
/-!
DEFINITION. Start-up and activation: ROM boot, image selection, configuration, recycles, activation, reloads and the scrub (R365,
R366, R388, R389, R397 to R401, 16_power_reset_boot.md; R406, R411 to R413, R426, R427, 17_management_and_log.md).
-/

namespace Sys2Proof.Machine

/-! ### Firmware -/

/-- The ROM selects, verifies and starts a firmware slot, or enters service mode (R397, R398, R401). -/
def Dev.romSelect (d : Dev) : Dev :=
  match d.selectSlot 0 with
  | (some s, d) => ((d.wr F.rstBoot_fwslot s).wr F.mgtFwgen_gen (d.imgGen (slotBase 0 s))).wr F.mgtState_core 0
  | (none, d) => d.wr F.mgtState_core 2

/-- Row ROM_BOOT (R397, R398, R401): once after a main reset. -/
def Dev.romBoot (d : Dev) : Dev :=
  if d.mgt.fwRun ∨ d.rd F.mgtState_core ≠ 0 then d
  else
    let d := d.romSelect
    d.on (d.rd F.mgtState_core == 0) fun d => d.modMgt fun h => { h with fwRun := true }

/-- Row MGT_RECYCLE (R405, R406, R412): a recycle that is due begins, and 1 ms later, or when the row runs after that, the ROM starts a slot;
the third watchdog recycle within 600 s marks the running slot bad. The pause lasts from its begin to this row, at most 50 ms. -/
def Dev.mgtRecycle (d : Dev) : Dev :=
  match d.mgt.recycle with
  | none => d
  | some (t, cause) =>
    if d.now < t ∨ !d.mgt.fwRun then d
    else if d.rd F.mgtState_core ≠ 1 then d.recycleBegin cause
    else
      let old := d.rd F.rstBoot_fwslot
      let d := (d.modMgt fun h => { h with recycle := none }).romSelect
      let third : Bool := cause == 3 && d.mgt.wdTimes.length == 3 &&
        decide (d.mgt.wdTimes.headD 0 ≤ d.mgt.wdTimes.getLastD 0 + 600 * 1000000000000)
      let d := d.on third (·.badMark 0 old true)
      let pause := min 50 (rneDiv ((d.now + 1000000000 - t : Nat) : Int) 1000000000).toNat
      let d := d.bump F.mgtState_recycles
      d.ev (if cause = 4 then E.mgtRecycleFault else E.mgtRecycle) (cause + 16 * d.rd F.rstBoot_fwslot)
        (pause + 65536 * (d.rd F.mgtFwgen_gen % 65536))

/-- Row ACT_FW (R412): the recycle begins 1 ms later. -/
def Dev.actFw (d : Dev) : Dev :=
  match d.mbHead 3 with
  | none => d
  | some e =>
    let slot := 1 - d.slotInUse 0
    let gen := d.imgGen (slotBase 0 slot)
    if !d.mgt.verified.contains slot ∨ !genNewer gen (d.rd F.mgtFwgen_gen) then d.mbDone e .wrongState []
    else
      let d := (d.mbDone e .ok [gen]).modMgt fun h => { h with recycle := some (d.now + 1000000000, 1) }
      d.ev E.mgtUpdate (3 + 512 * slot) gen e.by_.port

/-! ### Start-up -/

/-- The counters are restored and their mirror is written (R388, R422). -/
def Dev.countersRestore (d : Dev) : Dev :=
  let m := d.flash.mirrorOf
  let d := if d.flag F.rstEvidence_bpor then
      let d := ((d.bump F.rstCount_count 0 0 (m 0)).bump F.rstPwrcyc_pwrcyc 0 0 (m 1)).clr F.rstEvidence_bpor
      d.ev E.cntRestored (d.rd F.rstCount_count) (d.rd F.rstPwrcyc_pwrcyc)
    else d
  { d with flash := (d.flash.mirrorPut 1 (d.rd F.rstPwrcyc_pwrcyc)).mirrorPut 0 (d.rd F.rstCount_count) }

/-- The operating seconds and the records held are corrected (R422). -/
def Dev.recordsRestore (d old : Dev) : Dev :=
  let ops := d.flash.mirrorOf 2
  let pwr := d.rd F.rstPwrcyc_pwrcyc - old.rd F.rstPwrcyc_pwrcyc
  (d.bump F.mgtOpsec_opsec 0 0 ops).recordsCorrect ops pwr

/-- Row IMAGE_SELECT (R388, R398, R401, R404, R422). -/
def Dev.imageSelect (d : Dev) : Dev :=
  if !d.coreRuns ∨ d.devstate ≠ 0 ∨ d.mgt.noImage then d
  else
    let old := d
    let d := d.ev E.rstStart (d.cellWord R.rstEvidence) (d.rd F.rstCount_count)
    let d := match d.pwr.stopNote with
      | some i => Dev.ev { d with pwr := { d.pwr with stopNote := none } } E.rstSeqStopped i 0
      | none => d
    let d := d.ev E.bootSlot (2 * d.rd F.rstBoot_fwslot) (d.rd F.mgtFwgen_gen)
    let d := d.countersRestore.recordsRestore old
    match d.selectSlot 1 with
    | (some s, d) =>
      let d := (d.wr F.rstBoot_imgslot s).wr F.mgtAximg_slot (255 * s)
      (d.ev E.bootSlot (1 + 2 * s) (d.imgGen (slotBase 1 s))).devTo 1
    | (none, d) => (d.modMgt fun h => { h with noImage := true }).ev E.bootNoimage 0 (d.cellWord R.rstBoot)

/-- Every time base with a source is LOCKED; TB_0 as grandmaster counts as LOCKED (R389). -/
def Dev.tbsReady (d : Dev) : Bool := (List.range 4).all fun n => d.rd F.tbCtrl_src n == 0 || d.tbGood n

/-- Row DEVICE_READY (R389). -/
def Dev.deviceReady (d : Dev) : Dev := d.on (d.devstate == 2 && d.tbsReady) (·.devTo 3)

/-- The start-up test of the gate-enable path (R366). -/
def Dev.startTest (d : Dev) (pass : Bool) : Dev :=
  if pass then
    (d.set1 F.safTest_startok).modSaf fun h => { h with passAt := (List.range 6).foldl (fun t g => Tbl.put g d.now t) h.passAt }
  else d.safFail 12

/-- Row CONFIGURATION (R399, R400): `pass` is the result of the start-up test, `fail` the section and the address of a write that meets a
parity error. -/
def Dev.configuration (d : Dev) (pass : Bool) (fail : Option (Nat × Nat)) : Dev :=
  if !d.coreRuns ∨ d.devstate ≠ 1 ∨ d.mgt.cfgFail then d
  else
    let slot := d.rd F.rstBoot_imgslot
    let b := slotBase 1 slot
    match d.writePass b fail (d.passOrder b) with
    | (some (k, a), d) =>
      ((d.slotFails 1 slot 10).modMgt fun h => { h with cfgFail := true }).ev E.bootCfgFail k a
    | (none, d) =>
      let d := ((d.safetySection b).startTest pass).modNet fun h => { h with preconfig := false }
      let d := d.devTo 2
      d.on ((List.range 4).all fun n => d.rd F.tbCtrl_src n == 0) (·.devTo 3)

/-- FAULT_N (R390): false is low. The sequencer's part of it is `Seq`'s. -/
def Dev.faultN (d : Dev) : Bool :=
  decide (2 ≤ d.devstate) && d.shownState != 4 && !d.mgt.cfgFail && !d.mgt.noImage && !(d.rd F.mgtState_core == 2 && !d.mgt.fwRun)

/-! ### Updates -/

/-- Row UPD_CLOSE (R411). -/
def Dev.updClose (d : Dev) : Dev :=
  match d.mbHead 2 with
  | none => d
  | some e =>
    let kind := d.rd F.mgtUpd_kind
    let slot := d.rd F.mgtUpd_slot
    let b := slotBase kind slot
    let gen := d.imgGen b
    if !d.flag F.mgtUpd_open ∨ d.rd F.mgtUpd_stream ≠ e.words.getD 1 0 / 65536 then d.mbDone e .wrongState []
    else
      let r := if d.mgt.updBytes.length < d.mgt.updLen ∨ d.flag F.mgtUpd_broken then 4
        else match d.headerCheck kind b with | 0 => d.laterCheck kind b | r => r
      let d := d.clr F.mgtUpd_open
      if r = 0 then
        let d := ((d.wr F.mgtUpd_ver 1).modMgt fun h => { h with verified := (2 * kind + slot) :: h.verified }).unsignedLog kind slot
        (d.mbDone e .ok [0, gen]).ev E.mgtUpdate (2 + 256 * kind + 512 * slot) gen e.by_.port
      else
        let d := (d.wr F.mgtUpd_ver 2).slotFails kind slot r
        (d.mbDone e .notVerified [r, gen]).ev E.mgtUpdFail (256 * kind + 512 * slot) r e.by_.port

/-- The axis that a LANE section of an image binds its lane to (R413). -/
def Dev.laneAxis (d : Dev) (b : Nat) (s : Sect) : Option Nat :=
  let w0 := d.sectWord b s 0
  if s.type = 3 ∧ bitOf w0 1 then some (bitsOf w0 2 3) else none

/-- The sections of an image that a per-axis activation of AX_n applies, in order (R413). -/
def Dev.axisSects (d : Dev) (b n : Nat) : List Sect :=
  let l := d.sects b
  l.filter (fun s => s.type == 1 && s.index == n) ++ l.filter (fun s => s.type == 2 && s.index == n) ++
    l.filter (fun s => d.laneAxis b s == some n)

/-- The axes whose legs a section addresses: the owner in force and the owner in the image (R413). -/
def Dev.legOwners (d : Dev) (b : Nat) (s : Sect) : List Nat :=
  let leg (a : Nat) : Option Nat :=
    if 0xA0000 ≤ a ∧ a < 0xAC000 then some ((a - 0xA0000) / 0x800)
    else if 0xAD000 ≤ a ∧ a < 0xAD300 then some ((a - 0xAD000) / 0x20)
    else none
  (if s.type = 1 then (d.sectWrites b s).filterMap fun x => leg x.1 else []).flatMap fun l =>
    let w := (d.imgValue b (0xA0000 + l * 0x800)).getD 0
    (if d.rd F.legCfg_use l = 0 then [] else [d.rd F.legCfg_axis l]) ++ (if w % 8 = 0 then [] else [bitsOf w 4 3])

/-- The axis that the lane of a section is bound to at present (R413). -/
def Dev.boundNow (d : Dev) (s : Sect) : List Nat :=
  if s.type = 3 ∧ d.flag F.plCtrl_bind s.index then [d.rd F.plCtrl_axis s.index] else []

/-- The axes of a mask are written in ascending order (R413): `fail` is the axis and the address of a write that meets a parity error.
The journal entries of the words written go (R427). Gives the mask activated. -/
def Dev.actWrite (d : Dev) (b slot : Nat) (fail : Option (Nat × Nat)) : List Nat → Nat × Dev
  | [] => (0, d)
  | n :: l =>
    let ss := d.axisSects b n
    let here := match fail with | some (m, a) => if m = n then some a else none | none => none
    let y := ss.foldl (fun (x : Bool × Dev) s => if x.1 then x.2.applySect b s here else x) (true, d)
    let addrs := ss.flatMap (d.sectAddrs b)
    let d1 := y.2.jrnDiscard addrs.contains
    if y.1 then
      let d1 := (d1.wr F.mgtAximg_slot (putBits (d1.rd F.mgtAximg_slot) n 1 slot)).wr F.mgtAximg_noact
        (putBits (d1.rd F.mgtAximg_noact) n 1 0)
      let r := d1.actWrite b slot fail l
      (r.1 + 2 ^ n, r.2)
    else
      ((d1.wr F.mgtAximg_noact (putBits (d1.rd F.mgtAximg_noact) n 1 1)).ev E.mgtActFail n (here.getD 0)).actWrite b slot fail l

/-- Row ACT_AXES (R413). -/
def Dev.actAxes (d : Dev) (fail : Option (Nat × Nat)) : Dev :=
  match d.mbHead 4 with
  | none => d
  | some e =>
    let mask := e.words.getD 1 0
    let axes := (List.range 8).filter (bitOf mask)
    let used := d.slotInUse 1
    let slot := 1 - used
    let b := slotBase 1 slot
    let gen := d.imgGen b
    let ss := axes.flatMap (d.axisSects b)
    let others := axes ++ ss.flatMap (d.legOwners b) ++ ss.flatMap d.boundNow
    if !d.mgt.verified.contains (2 + slot) ∨ !genNewer gen (d.imgGen (slotBase 1 used)) ∨ !others.all d.disabled then
      d.mbDone e .wrongState []
    else if !d.valid d b ss then (d.mbDone e .notVerified []).ev E.bootRejected (1 + 2 * slot + 256 * 9) gen e.by_.port
    else
      let y := d.actWrite b slot fail axes
      (y.2.mbDone e .ok [y.1]).ev E.mgtActAxes y.1 gen e.by_.port

/-! ### Reloads and the scrub -/

/-- The image slot that configured a lane (R427). -/
def Dev.laneSlot (d : Dev) (n : Nat) : Nat :=
  if d.flag F.plCtrl_bind n then bitsOf (d.rd F.mgtAximg_slot) (d.rd F.plCtrl_axis n) 1 else d.rd F.rstBoot_imgslot

/-- The initial value of data word `k` of PL_n from the image (R270, R394); 0 where it gives none. -/
def Dev.laneInitial (d : Dev) (n k : Nat) : Nat :=
  let b := slotBase 1 (d.laneSlot n)
  match (d.sects b).find? fun s => s.type == 3 && s.index == n with
  | some s =>
    let w := d.sectWord b s 22
    if k < w / 65536 then d.sectWord b s (23 + w % 65536 + k) else 0
  | none => 0

/-- A lane data word is reloaded with its initial value (R270, R426). -/
def Dev.laneDataReload (d : Dev) (a : Nat) : Dev :=
  let n := (a - 0x100000) / 0x10000
  let k := (a % 0x10000 - 0x8000) / 4
  ((d.modPl n fun p => { p with dmem := Tbl.set 0 k (d.laneInitial n k) p.dmem }).mended a).ev E.lehrReload 3 a

/-- An address is one of lane data memory. -/
def laneDataAt (a : Nat) : Bool := decide (0x100000 ≤ a) && decide (a < 0x180000) && decide (0x8000 ≤ a % 0x10000)

/-- A configuration word found bad is reloaded from its batch source, or has none (R427). -/
def Dev.configReload (d : Dev) (a : Nat) : Dev :=
  if d.hasSource a then (d.mended a).ev E.lehrReload 1 a
  else Dev.ev { d with bad := if d.bad.contains a then d.bad else a :: d.bad } E.lehrNosource 0 a

/-- Row BATCH_SOURCE_RELOAD (R166, R270, R427): a reload asked for is made. -/
def Dev.batchReload (d : Dev) (a : Nat) : Dev :=
  if !d.coreRuns ∨ !d.reloads.contains a then d
  else if laneDataAt a then d.laneDataReload a
  else Dev.configReload { d with reloads := d.reloads.filter (· != a) } a

/-- The list without its element number `k`. -/
def without {α : Type} (k : Nat) (l : List α) : List α := l.take k ++ l.drop (k + 1)

/-- An entry of a queue is discarded by the scrub (R426): a command or push is answered DISCARDED. -/
def Dev.queueScrub (d : Dev) (q k : Nat) : Dev :=
  let drop (l : List QEnt) : Dev := match l[k]? with | some e => d.answer e.by_ .discarded | none => d
  if q < 8 then (drop (d.axis q).queue).modAxis q fun h => { h with queue := without k h.queue }
  else if q < 16 then d.modGm (q - 8) fun g => { g with queue := without k g.queue }
  else if q < 20 then
    let l := Tbl.get [] (q - 16) d.net.cmdq
    let d := d.modNet fun h => { h with cmdq := Tbl.put (q - 16) (without k l) h.cmdq }
    match l[k]? with
    | some c => d.respond { port := q - 16, code := .discarded, tag := c.tag, op := c.op, addr := c.addr, mac := c.mac }
    | none => d
  else match q with
    | 20 => (drop d.can.q20).modCan fun h => { h with q20 := without k h.q20 }
    | 21 => d.modNet fun h => { h with q21 := without k h.q21 }
    | 22 => d.modNet fun h => { h with q22 := without k h.q22 }
    | 23 => d.setWaiting (k % 2) ((d.waitingAt (k % 2)).filter fun w => w.cls != 3)
    | 24 => d.modNet fun h => { h with q24 := without k h.q24 }
    | 25 => d.modNet fun h => { h with q25 := without k h.q25 }
    | 26 => (drop d.mgt.q26).modMgt fun h => { h with q26 := without k h.q26 }
    | 27 => d.modMgt fun h => { h with q27 := without k h.q27 }
    | 28 => d.modEvr fun h => { h with q28 := without k h.q28, settled := if k < h.settled then h.settled - 1 else h.settled }
    | 29 => (d.modMgt fun h => { h with q29 := without k h.q29 }).flashLost (d.mgt.q29[k]?).toList
    | 30 => d.modGth fun h => { h with q30 := without k h.q30 }
    | 31 =>
      let c := d.mgt.q31[k]?
      let d := d.modMgt fun h => { h with q31 := without k h.q31 }
      match c with
      | some x => match x.by_ with | some b => d.answer b .discarded | none => d
      | none => d
    | _ => d

/-- One error that the scrub finds (R426, R427). -/
def Dev.scrubOne (d : Dev) : ScrubErr → Dev
  | .config a => d.configReload a
  | .bank ax both motion a =>
    if both then d.modAxis ax.val fun h => { h with out := { h.out with scrub := some (motion, a) } } else d
  | .laneData a => if laneDataAt a then d.laneDataReload a else d
  | .gather a =>
    if 0x300000 ≤ a ∧ a < 0x380000 then
      Dev.ev { d.set1 F.gthStat_perr with bad := if d.bad.contains a then d.bad else a :: d.bad } E.gthParity 0 a
    else d
  | .queue q k => d.queueScrub q.val k
  | .record s =>
    match d.evr.chip.find? fun c => c.r.seq == s with
    | some c =>
      let d := d.modEvr fun h => { h with chip := h.chip.filter fun c => c.r.seq != s }
      if c.written then d else d.mirrorLost c.r
    | none => d
  | .code => d.ev E.lehrReload 7 0
  | .data => d.recycleBegin 4

/-- Row SCRUB_PASS (R426): the duration of the pass in ms and the errors it found. -/
def Dev.scrubPass (d : Dev) (ms : Nat) (l : List ScrubErr) : Dev :=
  if !d.coreRuns then d
  else
    let d := (l.foldl Dev.scrubOne d).lehrDid 0
    (d.wr F.lehrScrub_passms (min 65535 ms)).bump F.lehrScrub_errs 0 0 l.length

end Sys2Proof.Machine
end

