-- ==== Sys2Proof/Machine/Reset.lean ====
section
/-!
DEFINITION. Supplies, reset and the release sequence (R377 to R387, 16_power_reset_boot.md), and the end of fuse programming (R403).
-/

namespace Sys2Proof.Machine

/-! ### Reaches -/

/-- RST_GAP from the RSTGAP fuse (R402): 16 to 1,024 as written, any other value 64. -/
def rstGapOf (ctrl : Nat) : Nat :=
  let g := bitsOf ctrl 3 11
  if 16 ≤ g ∧ g ≤ 1024 then g else 64

/-- The fields the BACKUP domain holds (R387). -/
def backupFlds : List Fld :=
  [F.rstEvidence_resetn, F.rstEvidence_porcore, F.rstEvidence_porio, F.rstEvidence_pora, F.rstEvidence_pordrv, F.rstEvidence_bpor,
    F.rstEvidence_restart, F.rstEvidence_stopped, F.rstEvidence_stopstep, F.rstCount_count, F.rstPwrcyc_pwrcyc, F.rstBoot_bad]

/-- Every BACKUP field at its reset value (R12, R381). -/
def Dev.backupReset (d : Dev) : Dev := backupFlds.foldl (fun d f => d.wr f f.reset) d

/-- The fuse array once programming under way has been cut short: which of the bits were set is not stated. -/
def Dev.fusesCut (d : Dev) : Tbl Nat :=
  match d.pwr.prog with
  | some (w, b) => Tbl.set 0 w (Tbl.get 0 w d.pwr.fuses ||| (b &&& d.free)) d.pwr.fuses
  | none => d.pwr.fuses

/-- The reach of a main reset (R12, R43, R380, R403, R427): every domain except BACKUP. Flash and fuses keep their contents, the journal
goes, and the fuses come into use. -/
def Dev.mainReset (d : Dev) : Dev :=
  let f := d.fusesCut
  let n : Dev :=
    { now := d.now, freeIdx := d.freeIdx + 1, flash := { d.flash with journal := [] }
      pwr := { fuses := f, inUse := f, sel := d.pwr.sel, vdrv := strapLevel d.pwr.sel, stopNote := d.pwr.stopNote } }
  let n := backupFlds.foldl (fun n f => n.wr f (d.rd f)) n
  n.wr F.rstGap_gap (rstGapOf (Tbl.get 0 28 f))

/-! ### Sources -/

/-- A sequence is under way or stopped (R382). -/
def SeqPhase.cuttable : SeqPhase → Bool
  | .held => false
  | .done => false
  | _ => true

/-- Main sources are asserted (R380 to R382): every domain of their reach returns to reset. -/
def mainAssert (l : List MainSrc) (s : Seq) (d : Dev) : Seq × Dev :=
  ({ s with released := 0, phase := .held, since := s.since ++ l.filter (!s.since.contains ·), cut := s.cut || s.phase.cuttable },
    d.mainReset)

/-- Row RESET_N (R380): RESET_N low for a number of clocks of the internal oscillator; fewer than 250 are ignored. -/
def resetN (clocks : Nat) (s : Seq) (d : Dev) : Seq × Dev :=
  if 250 ≤ clocks then mainAssert [.resetN] s d else (s, d)

/-- The rails below their thresholds (R380 and the table above it). -/
def railsLow (r : Rails) : List MainSrc :=
  (if r.core < 720 then [MainSrc.core] else []) ++ (if r.io < 2900 then [MainSrc.io] else []) ++
    (if r.a < 1620 then [MainSrc.a] else []) ++ (if r.drv < 4500 then [MainSrc.drv] else [])

/-- All four rails stand above their thresholds plus 3 % (R380). -/
def railsBack (r : Rails) : Bool :=
  decide (103 * 720 < 100 * r.core ∧ 103 * 2900 < 100 * r.io ∧ 103 * 1620 < 100 * r.a ∧ 103 * 4500 < 100 * r.drv)

/-- Row MAIN_POWER_ON_RESET (R380): the levels of the rails over a number of clocks of the internal oscillator; less than 2 µs, 50
clocks, is ignored. -/
def mainPor (r : Rails) (clocks : Nat) (s : Seq) (d : Dev) : Seq × Dev :=
  if 50 ≤ clocks ∧ railsLow r ≠ [] then mainAssert (railsLow r) s d else (s, d)

/-- Row BACKUP_POWER_ON_RESET (R380, R381): VBAT below 1.6 V for 2 µs; BACKUP alone. -/
def backupPor (mV clocks : Nat) (s : Seq) (d : Dev) : Seq × Dev :=
  if mV < 1600 ∧ 50 ≤ clocks then ({ s with backup := true }, d.backupReset) else (s, d)

/-- Row BACKUP_RESET_RELEASE (R380): VBAT above 1.7 V for 2 µs. -/
def backupRelease (mV clocks : Nat) (s : Seq) (d : Dev) : Seq × Dev :=
  if 1700 < mV ∧ 50 ≤ clocks then ({ s with backup := false }, d) else (s, d)

/-- Row BUCK_START (R377, R378): VBUS above 26 V; the straps are sampled, VDRV ramps to their level in 1 ms, the other rails in 0.5 ms
after it. -/
def buckStart (sel mV : Nat) (s : Seq) (d : Dev) : Seq × Dev :=
  if s.buck ∨ mV ≤ 26000 then (s, d)
  else
    ({ s with buck := true, railsAt := d.now + 1500000000 }, { d with pwr := { d.pwr with sel := sel, vdrv := strapLevel sel, ramp := none } })

/-- Row BUCK_STOP (R377): VBUS below 24 V; every rail collapses and the main power-on reset acts. -/
def buckStop (mV : Nat) (s : Seq) (d : Dev) : Seq × Dev :=
  if s.buck ∧ mV < 24000 then mainAssert [.core, .io, .a, .drv] { s with buck := false } d else (s, d)

/-! ### The release sequence -/

/-- The causes and counters of BACKUP at a sequence start (R382, R387), not while BACKUP is in reset. -/
def Dev.evidence (d : Dev) (s : Seq) : Dev :=
  let has (m : MainSrc) : Nat := b2n (s.since.contains m)
  if s.backup then d
  else
    let d := (((((d.wr F.rstEvidence_resetn (has .resetN)).wr F.rstEvidence_porcore (has .core)).wr F.rstEvidence_porio (has .io)).wr
      F.rstEvidence_pora (has .a)).wr F.rstEvidence_pordrv (has .drv)).wr F.rstEvidence_restart (b2n s.cut)
    (d.bump F.rstCount_count).on (s.since.any (· != .resetN)) (·.bump F.rstPwrcyc_pwrcyc)

/-- Every asserted main source has been released and filtered (R377, R380, R381): RESET_N has been high for `high` clocks of the internal
oscillator, and the rails have stood at the levels `r` for `clocks` of them. -/
def Seq.allReleased (s : Seq) (now high : Nat) (r : Rails) (clocks : Nat) : Bool :=
  s.buck && decide (s.railsAt ≤ now) && (!s.since.contains .resetN || decide (250 ≤ high)) &&
    (!s.since.any (· != .resetN) || railsBack r && decide (50 ≤ clocks))

/-- Row SEQUENCE_START (R66, R381, R383, R387): the last main source has been released; `sync` is the level of CLKSRC. -/
def sequenceStart (sync : Bool) (high : Nat) (r : Rails) (clocks : Nat) (s : Seq) (d : Dev) : Seq × Dev :=
  if s.phase ≠ .held ∨ !s.allReleased d.now high r clocks then (s, d)
  else
    ({ s with phase := .source, since := [], cut := false, clksrc := sync, at_ := d.now },
      ((d.evidence s).set1 F.clkStat_oscgood).wr F.timRoot_src (b2n sync))

/-- The sequence stops: a source, a PLL or a CLKGOOD has not come in time (R386). -/
def seqStop (i : Nat) (s : Seq) (d : Dev) : Seq × Dev :=
  let d1 : Dev := { d with pwr := { d.pwr with stopNote := some i } }
  ({ s with phase := .stopped },
    d1.on (!s.backup) fun d => (d.set1 F.rstEvidence_stopped).wr F.rstEvidence_stopstep i)

/-- The step at which a sequence in this phase can stop, 15 for the source or the PLL, and the root time of its timeout (R383, R386). -/
def Seq.timeout (s : Seq) : Option (Nat × Nat) :=
  match s.phase with
  | .source => some (15, s.at_ + 20000000000)
  | .pll => some (15, s.at_ + 20000000000)
  | .step i => some (i, s.at_ + 100000000)
  | _ => none

/-- The step of a timeout whose REF clock is over: in that clock a source, a PLL lock or a CLKGOOD still wins (R386). -/
def Seq.late (s : Seq) (now : Nat) : Option Nat :=
  match s.timeout with
  | some (i, t) => if t + 40000 ≤ now then some i else none
  | none => none

/-- Row SEQUENCE_STOP (R386). -/
def sequenceStop (s : Seq) (d : Dev) : Seq × Dev :=
  match s.late d.now with
  | some i => seqStop i s d
  | none => (s, d)

/-- Row SOURCE_GOOD (R383): after 1,024 consecutive edges within ±1 % of 25 MHz REF switches to the source and the PLL starts. -/
def sourceGood (edges : Nat) (s : Seq) (d : Dev) : Seq × Dev :=
  if s.phase = .source ∧ (s.late d.now).isSome then sequenceStop s d
  else if s.phase = .source ∧ 1024 ≤ edges then
    ({ s with phase := .pll },
      ((d.set1 F.clkStat_srcgood).set1 F.clkStat_refonsrc).on s.clksrc (·.set1 F.timRoot_syncok))
  else (s, d)

/-- CLKGOOD of step `i` is seen and its domain is released (R384). -/
def releaseStep (i : Nat) (s : Seq) (d : Dev) : Seq × Dev :=
  ({ s with released := i, phase := if i = 13 then .done else .gap i, at_ := d.now },
    d.wr F.clkGood_clkgood (putBits (d.rd F.clkGood_clkgood) (i - 1) 1 1))

/-- Row DOMAIN_RELEASE (R384): the PLL locks and step 1 is made, or the present step is made, once the divider of its domain has produced 64
clocks with the PLL locked. -/
def domainRelease (clocks : Nat) (s : Seq) (d : Dev) : Seq × Dev :=
  match s.phase with
  | .pll =>
    if (s.late d.now).isSome then sequenceStop s d
    else if clocks < 64 then (s, d) else releaseStep 1 s (d.set1 F.clkStat_plllock)
  | .step i =>
    if (s.late d.now).isSome then sequenceStop s d
    else if clocks < 64 then (s, d) else releaseStep i s d
  | _ => (s, d)

/-- Row RST_GAP_EXPIRY (R384): RST_GAP REF clocks after a release the next step begins. -/
def rstGapExpiry (s : Seq) (d : Dev) : Seq × Dev :=
  match s.phase with
  | .gap i => if d.now < s.at_ + d.rd F.rstGap_gap * 40000 then (s, d) else ({ s with phase := .step (i + 1), at_ := d.now }, d)
  | _ => (s, d)

/-- FAULT_N (R390): false is low. -/
def faultN (s : Seq) (d : Dev) : Bool := s.phase != .held && s.phase != .stopped && d.faultN

/-! ### Gate supply and fuses -/

/-- Row VDRV_RAMP_END (R378). -/
def Dev.vdrvRampEnd (d : Dev) : Dev :=
  match d.pwr.ramp with
  | some (_, t) => if t ≤ d.now then { d with pwr := { d.pwr with ramp := none } } else d
  | none => d

/-- Row FUSE_PROGRAMMED (R403, R404): programming can only set bits (R402). -/
def Dev.fuseProgrammed (d : Dev) : Dev :=
  match d.pwr.prog with
  | some (w, b) =>
    let d : Dev := { d with
      pwr := { d.pwr with prog := none, fuses := Tbl.set 0 w (Tbl.get 0 w d.pwr.fuses ||| b) d.pwr.fuses } }
    ((d.clr F.fusePstat_busy).set1 F.fusePstat_ok).ev E.fuseProgrammed w b 3
  | none => d

end Sys2Proof.Machine
end

