-- ==== Sys2Proof/Syntax.lean ====
section
/-!
DEFINITION. The commands of the block: one constructor for each row of spec/opcode_table.json, with its operands. `w` is the maker of an
access, `n` the instance, `v` a word written; an event on a pin, a bus or a clock carries what the block meets there. A
default operand says that the condition has held for long enough, or lies far enough beyond its threshold, for the row to act (a converter's
value has the default 0, and a delay line no tap).
-/

namespace Sys2Proof

open Sys2Proof.Machine

/-- The commands (spec/opcode_table.json). -/
inductive Instr where
  -- Register accesses and commands (R9 to R13, R37 to R42, R300 to R302)
  /-- REGISTER_WRITE (R9). -/
  | registerWrite (w : Who) (addr v : BitVec 32)
  /-- READ (R300). -/
  | read (w : Who) (mac : BitVec 48) (addr : BitVec 32) (count : Fin 65)
  /-- WRITE (R300). -/
  | write (w : Who) (mac : BitVec 48) (addr : BitVec 32) (data : List (BitVec 32))
  /-- MASKED_WRITE (R300). -/
  | maskedWrite (w : Who) (mac : BitVec 48) (addr : BitVec 32) (data : List (BitVec 32 × BitVec 32))
  /-- QUEUE_PUSH (R38). -/
  | queuePush (w : Who) (mac : BitVec 48) (q : Fin 32) (data : List (BitVec 32))
  /-- CMD_FRAME (R301). -/
  | cmdFrame
  /-- COMMAND_START (R302). -/
  | commandStart
  -- Carrier, stages and time bases (R26 to R31, R45 to R68, R134, R152, R177)
  /-- CARRIER_UPDATE (R177). -/
  | carrierUpdate (n : Fin 8)
  /-- CURRENT_STAGE (R152). -/
  | currentStage (n : Fin 8) (p : Parity)
  /-- OUTER_STAGES (R29). -/
  | outerStages (n : Fin 8) (pos vel : Parity)
  /-- DISABLED_AXIS_FEEDBACK (R134). -/
  | disabledAxisFeedback (n : Fin 8)
  -- Time bases and launches (02_time_bases.md)
  /-- TSFR_READ (R47). -/
  | tsfrRead (w : Who) (tb : Fin 4)
  /-- SRC_WRITE (R50). -/
  | srcWrite (w : Who) (tb : Fin 4) (src : Fin 4) (port : Fin 2) (domain minor : Fin 256) (major : Fin 16)
  /-- LOAD (R51). -/
  | load (w : Who) (tb : Fin 4)
  /-- REARM (R52). -/
  | rearm (w : Who) (tb : Fin 4)
  /-- TB_RATE_WRITE (R57). -/
  | tbRateWrite (w : Who) (tb : Fin 4) (v : BitVec 32)
  /-- TB_RLIM_WRITE (R57). -/
  | tbRlimWrite (w : Who) (tb : Fin 4) (v : BitVec 32)
  /-- PTP_SYNC_MEASUREMENT (R64): the Sync passed `age` ps ago; its originTimestamp is `sec` and `ns`. -/
  | ptpSyncMeasurement (p : Fin 2) (domain : Fin 256) (major : Fin 16) (minor : Fin 256) (age sec ns : Nat) (corr : Int)
  /-- TB_SOURCE_TIMEOUT (R50). -/
  | tbSourceTimeout (tb : Fin 4)
  /-- TRIGBUS_TIME_PULSE (R68). -/
  | trigbusTimePulse (width age : Nat)
  /-- TB_RATE_AT_LIMIT (R57). -/
  | tbRateAtLimit (tb : Fin 4)
  /-- PDELAY_EXCHANGE (R65). -/
  | pdelayExchange (p : Fin 2) (answer : Option (Nat × Int))
  /-- PDELAY_RESPONSE (R59). -/
  | pdelayResponse (p : Fin 2) (r : PdelayReq)
  /-- GM_SYNC_SEND (R59). -/
  | gmSyncSend
  /-- GM_ANNOUNCE_SEND (R59). -/
  | gmAnnounceSend
  /-- SYNCCLK_STOP (R67). -/
  | syncclkStop
  /-- SYNCCLK_RETURN (R67). -/
  | syncclkReturn
  /-- LCH_COMMIT (R75). -/
  | lchCommit (w : Who) (n : Fin 16) (v : BitVec 32)
  /-- LAUNCH_FIRE (R74). -/
  | launchFire (n : Fin 16)
  -- Master channels, gearing and cams (03_gaffer_and_gearing.md)
  /-- GAFFER_SEGMENT (R80). -/
  | gafferSegment (m : Fin 8) (words : List (BitVec 32))
  /-- SEGMENT_LIVE (R78). -/
  | segmentLive (m : Fin 8)
  /-- GM_STALE (R87). -/
  | gmStale (m : Fin 8)
  /-- GM_GRACE_EXPIRED (R89). -/
  | gmGraceExpired (m : Fin 8)
  /-- GM_CTRL_WRITE (R77). -/
  | gmCtrlWrite (w : Who) (m : Fin 8) (v : BitVec 32)
  /-- GM_FLUSH (R83). -/
  | gmFlush (w : Who) (m : Fin 8)
  /-- STALEMODE_WRITE (R88). -/
  | stalemodeWrite (w : Who) (m : Fin 8) (mode : Fin 4) (grace : BitVec 32)
  /-- ENGAGE (R105). -/
  | engage (w : Who) (n : Fin 8) (phase : Bool)
  /-- DISENGAGE (R105). -/
  | disengage (w : Who) (n : Fin 8) (phase : Bool)
  /-- ABORT (R105). -/
  | abort (w : Who) (n : Fin 8)
  /-- CAMSEL_ARM (R103). -/
  | camselArm (w : Who) (n : Fin 8) (cur next : Fin 16) (nxv : Bool)
  /-- LMSHIFT_WRITE (R94). -/
  | lmshiftWrite (w : Who) (src : Fin 12) (v : Fin 64)
  /-- CAM_DESCRIPTOR_WRITE (R99). -/
  | camDescriptorWrite (w : Who) (addr v : BitVec 32)
  -- Axis state, profiles, compares and stepping (04_profiles_and_stepping.md)
  /-- ENABLE (R111). -/
  | enable (w : Who) (n : Fin 8)
  /-- RUN (R111). -/
  | run (w : Who) (n : Fin 8)
  /-- STILL (R111). -/
  | still (w : Who) (n : Fin 8)
  /-- STOP (R114). -/
  | stop (w : Who) (n : Fin 8)
  /-- DISABLE (R115). -/
  | disable (w : Who) (n : Fin 8)
  /-- FLUSH (R119). -/
  | flush (w : Who) (n : Fin 8)
  /-- AXIS_FAULT_ENTRY (R112). -/
  | axisFaultEntry (n : Fin 8) (by_ : FaultBy)
  /-- CONTROLLED_STOP_CAUSE (R112). -/
  | controlledStopCause (n : Fin 8) (by_ : StopBy)
  /-- AX_STOP_TIMEOUT (R112). -/
  | axStopTimeout (n : Fin 8)
  /-- AUTOSTILL (R112). -/
  | autostill (n : Fin 8)
  /-- MOVE_ABS (R116). -/
  | moveAbs (n : Fin 8)
  /-- MOVE_REL (R116). -/
  | moveRel (n : Fin 8)
  /-- VELOCITY (R116). -/
  | velocity (n : Fin 8)
  /-- OFFSET_ABS (R116). -/
  | offsetAbs (n : Fin 8)
  /-- OFFSET_REL (R116). -/
  | offsetRel (n : Fin 8)
  /-- LIMIT (R116). -/
  | limit (n : Fin 8)
  /-- MARK (R116). -/
  | mark (n : Fin 8)
  /-- LIMIT_COMMIT (R121). -/
  | limitCommit (w : Who) (n : Fin 8) (limit : Fin 6) (v : BitVec 32)
  /-- CMP_COMMIT (R129). -/
  | cmpCommit (w : Who) (n : Fin 8) (c : Fin 4) (v : BitVec 32)
  /-- CMP_FIRED (R130). -/
  | cmpFired (n : Fin 8) (c : Fin 4)
  /-- CMP_DISARM (R132). -/
  | cmpDisarm (w : Who) (n : Fin 8) (c : Fin 4)
  /-- CMP_CTRL_WRITE (R133). -/
  | cmpCtrlWrite (w : Who) (n : Fin 8) (c : Fin 4) (v : BitVec 32)
  /-- STEP_TIMER_EXPIRY (R136). -/
  | stepTimerExpiry (n : Fin 8)
  /-- STILL_MODE_CHANGE (R140). -/
  | stillModeChange (w : Who) (n : Fin 8) (still : Fin 3)
  -- Loop commands and tables (05_marver_loops.md)
  /-- CLOSE_CUR (R162). -/
  | closeCur (w : Who) (n : Fin 8)
  /-- CLOSE_VEL (R162). -/
  | closeVel (w : Who) (n : Fin 8)
  /-- CLOSE_POS (R162). -/
  | closePos (w : Who) (n : Fin 8)
  /-- OPEN_CUR (R162). -/
  | openCur (w : Who) (n : Fin 8)
  /-- OPEN_VEL (R162). -/
  | openVel (w : Who) (n : Fin 8)
  /-- OPEN_POS (R162). -/
  | openPos (w : Who) (n : Fin 8)
  /-- LOOP_HOLD_EXPIRED (R164). -/
  | loopHoldExpired (n : Fin 8)
  /-- FF_TABLE_WRITE (R158). -/
  | ffTableWrite (w : Who) (n : Fin 8) (word : Fin 8192) (v : BitVec 32)
  -- Legs, gate drive and protection (06_legs_and_gate_drive.md)
  /-- EDGE_DUE (R180). -/
  | edgeDue (n : Fin 24) (low : Bool)
  /-- HANDSHAKE_TIMEOUT (R182). -/
  | handshakeTimeout (legs : BitVec 24)
  /-- BST_UV (R183). -/
  | bstUv (legs : List (Fin 24 × Nat))
  /-- SC_REPORT (R185): the current of a cell of leg n, of its high side or its low side, and of the other cells of the same clock. -/
  | scReport (n : Fin 24) (high : Bool) (x : Int) (more : List (Fin 24 × Bool × Int))
  /-- TRIP_INPUT_CHANGE (R186). -/
  | tripInputChange (k : Fin 4) (level : Bool) (clocks : Nat := 65535)
  /-- TRIP_CFG_WRITE (R186). -/
  | tripCfgWrite (w : Who) (k : Fin 4) (v : BitVec 32)
  /-- SUPPLY_TRIP_CHANGE (R187). -/
  | supplyTripChange (src : Fin 3) (mV : Nat) (clocks : Nat := 256)
  /-- OT_MEASUREMENT (R187). -/
  | otMeasurement (g : Fin 6) (celsius : Int)
  /-- LEG_CFG_WRITE (R170). -/
  | legCfgWrite (w : Who) (n : Fin 24) (reg : Fin 6) (v : BitVec 32)
  /-- BRAKE_STATE (R194). -/
  | brakeState (n : Fin 24)
  /-- BRAKE_PULL_END (R194). -/
  | brakePullEnd (n : Fin 24)
  /-- LEG_REARM (R195). -/
  | legRearm (w : Who) (n : Fin 24)
  /-- GATE_SENSED_LOW (R182). -/
  | gateSensedLow (n : Fin 24)
  /-- BST_LOCKOUT_RELEASE (R183). -/
  | bstLockoutRelease (n : Fin 24) (mV : Nat := 20000)
  -- Sense channels and converters (07_current_sensing.md)
  /-- HOLD_SET (R200). -/
  | holdSet (n : Fin 24)
  /-- HOLD_SET_CONVERTED (R197). -/
  | holdSetConverted (g : Fin 6) (codes : List Int)
  /-- SNS_CFG_WRITE (R198). -/
  | snsCfgWrite (w : Who) (g : Fin 6) (v : BitVec 32)
  /-- OFFSET_CALIBRATION (R208). -/
  | offsetCalibration (n : Fin 24) (code : Int)
  /-- SNS_OFS_STALE (R208). -/
  | snsOfsStale (n : Fin 24)
  /-- GAIN_INJECTION (R209). -/
  | gainInjection (n : Fin 24) (code : Int)
  /-- DELAY_LINE_CALIBRATION (R210). -/
  | delayLineCalibration (unit : Fin 32) (taps : List Nat := [])
  /-- AUX_CONVERSION (R211). -/
  | auxConversion (c : Fin 2) (channel : Fin 38) (v : Int := 0)
  /-- SC_HOLD (R212). -/
  | scHold (q : Fin 4) (sin cos : Int)
  -- Feedback channels and latching (08_feedback_and_latching.md)
  /-- FA_FRAME_START (R228). -/
  | faFrameStart (n : Fin 8)
  /-- FA_WORD (R227). -/
  | faWord (n : Fin 8) (clk dly bits : Nat)
  /-- FA_DELAY_MEASUREMENT (R229). -/
  | faDelayMeasurement (n : Fin 8) (clk dly : Nat)
  /-- FA_DELAY_MEASURED (R229). -/
  | faDelayMeasured (n : Fin 8)
  /-- FQ_EDGE (R231). -/
  | fqEdge (q : Fin 4) (a b : FqLine)
  /-- FQ_INDEX (R236). -/
  | fqIndex (q : Fin 4) (level : Bool := true) (samples : Nat := 65536)
  /-- SINCOS_SAMPLE (R239). -/
  | sincosSample (q : Fin 4)
  /-- MAINRET (R242). -/
  | mainret (w : Who) (q : Fin 4)
  /-- CLRFLT (R223). -/
  | clrflt (w : Who) (q : Fin 4)
  /-- FBK_CFG_WRITE (R217). -/
  | fbkCfgWrite (w : Who) (reg : FbkReg) (v : BitVec 32)
  /-- TDC_EDGE (R243). -/
  | tdcEdge (t : Fin 8) (level : Bool) (age : Nat) (samples : Nat := 65536)
  /-- LATCH_EVENT (R245). -/
  | latchEvent (t : Fin 8)
  /-- QINFO_READ (R247). -/
  | qinfoRead (w : Who) (t : Fin 8)
  /-- LT_CFG_WRITE (R244). -/
  | ltCfgWrite (w : Who) (t : Fin 8) (reg : Fin 8) (v : BitVec 32)
  -- Punty lanes (09_punty_lanes.md)
  /-- HOOK_DUE (R263). -/
  | hookDue (n : Fin 8) (k : Fin 3)
  /-- LANE_RUN_START (R264). -/
  | laneRunStart (n : Fin 8)
  /-- LANE_BUDGET_EXPIRY (R265). -/
  | laneBudgetExpiry (n : Fin 8)
  /-- PNT_FAULT (R257). -/
  | pntFault (n : Fin 8)
  /-- PNT_PARITY (R270). -/
  | pntParity (n : Fin 8) (offset : Fin 65536)
  /-- NOP (R258). -/
  | nop (n : Fin 8)
  /-- LD (R253). -/
  | ld (n : Fin 8) (d : Fin 16) (a : Fin 8) (pa : Bool)
  /-- ST (R253). -/
  | st (n : Fin 8) (d : Fin 16) (a : Fin 8) (pa : Bool)
  /-- LDD (R258). -/
  | ldd (n : Fin 8) (d : Fin 16) (addr : Fin 16384)
  /-- STD (R258). -/
  | std (n : Fin 8) (d : Fin 16) (addr : Fin 16384)
  /-- LDI (R258). -/
  | ldi (n : Fin 8) (d : Fin 16) (imm : Fin 65536)
  /-- LDIH (R258). -/
  | ldih (n : Fin 8) (d : Fin 16) (imm : Fin 65536)
  /-- MOV (R258). -/
  | mov (n : Fin 8) (d r : Fin 16)
  /-- LDA (R258). -/
  | lda (n : Fin 8) (p : Fin 8) (imm : Fin 16384)
  /-- LDM (R258). -/
  | ldm (n : Fin 8) (p : Fin 8) (imm : Fin 16384)
  /-- MOVA (R258). -/
  | mova (n : Fin 8) (p : Fin 8) (r : Fin 16)
  /-- MOVM (R258). -/
  | movm (n : Fin 8) (p : Fin 8) (r : Fin 16)
  /-- ADD (R256). -/
  | add (n : Fin 8) (d r t : Fin 16)
  /-- SUB (R256). -/
  | sub (n : Fin 8) (d r t : Fin 16)
  /-- NEG (R256). -/
  | neg (n : Fin 8) (d r : Fin 16)
  /-- ABS (R256). -/
  | abs (n : Fin 8) (d r : Fin 16)
  /-- MIN (R258). -/
  | min (n : Fin 8) (d r t : Fin 16)
  /-- MAX (R258). -/
  | max (n : Fin 8) (d r t : Fin 16)
  /-- AND (R258). -/
  | and (n : Fin 8) (d r t : Fin 16)
  /-- OR (R258). -/
  | or (n : Fin 8) (d r t : Fin 16)
  /-- XOR (R258). -/
  | xor (n : Fin 8) (d r t : Fin 16)
  /-- SHL (R258). -/
  | shl (n : Fin 8) (d r : Fin 16) (k : Fin 32)
  /-- SHR (R258). -/
  | shr (n : Fin 8) (d r : Fin 16) (k : Fin 32)
  /-- MULQ (R258). -/
  | mulq (n : Fin 8) (d r t : Fin 16)
  /-- CMP (R256). -/
  | cmp (n : Fin 8) (r t : Fin 16)
  /-- MPY (R251). -/
  | mpy (n : Fin 8) (x : Fin 2) (r t : Fin 16)
  /-- MAC (R251). -/
  | mac (n : Fin 8) (x : Fin 2) (r t : Fin 16)
  /-- MSU (R251). -/
  | msu (n : Fin 8) (x : Fin 2) (r t : Fin 16)
  /-- MACM (R253). -/
  | macm (n : Fin 8) (x : Fin 2) (a : Fin 8) (pa : Bool) (b : Fin 8) (pb : Bool)
  /-- CLR (R258). -/
  | clr (n : Fin 8) (x : Fin 2)
  /-- LDACC (R251). -/
  | ldacc (n : Fin 8) (x : Fin 2) (r : Fin 16)
  /-- ACCADD (R251). -/
  | accadd (n : Fin 8) (x : Fin 2)
  /-- EXT (R251). -/
  | ext (n : Fin 8) (d : Fin 16) (x : Fin 2) (sh : Fin 64)
  /-- ACCSH (R251). -/
  | accsh (n : Fin 8) (x : Fin 2) (sh : Fin 64)
  /-- MAXI (R255). -/
  | maxi (n : Fin 8) (d r t : Fin 16)
  /-- MINI (R255). -/
  | mini (n : Fin 8) (d r t : Fin 16)
  /-- REP (R254). -/
  | rep (n : Fin 8) (count last : Fin 4096)
  /-- REPD (R254). -/
  | repd (n : Fin 8) (r : Fin 16) (last : Fin 4096)
  /-- BR (R254). -/
  | br (n : Fin 8) (target : Fin 4096)
  /-- BRC (R256). -/
  | brc (n : Fin 8) (cond : Fin 8) (target : Fin 4096)
  /-- END (R262). -/
  | fin (n : Fin 8)
  /-- LANE_RUN_WRITE (R266). -/
  | laneRunWrite (w : Who) (n : Fin 8) (run : Bool)
  /-- LANE_BIND_WRITE (R267). -/
  | laneBindWrite (w : Who) (n : Fin 8) (bind : Bool) (axis : Fin 8)
  /-- LANE_MEMORY_WRITE (R268). -/
  | laneMemoryWrite (w : Who) (n : Fin 8) (offset : Fin 65536) (v : BitVec 32)
  /-- PARAM_WRITE (R269). -/
  | paramWrite (w : Who) (n : Fin 8) (k : Fin 16) (v : BitVec 32)
  -- Gather (10_gather.md)
  /-- GTH_ARM (R278). -/
  | gthArm (w : Who)
  /-- GTH_STOP (R277). -/
  | gthStop (w : Who)
  /-- FORCE (R280). -/
  | force (w : Who)
  /-- STREAM (R286). -/
  | stream (w : Who)
  /-- ROW_COMMIT (R276). -/
  | rowCommit
  /-- CLASS_E_TRIGGER (R280). -/
  | classETrigger
  /-- HOLD_OFF_END (R283). -/
  | holdOffEnd
  /-- STREAM_END (R286). -/
  | streamEnd
  -- Network ports, frames and messages (11_network_ports.md)
  /-- LINK_UP (R290): synchronised, and negotiated where ANEN asks for it, for `ms` ms. -/
  | linkUp (p : Fin 2) (ms : Nat := 65535)
  /-- LINK_DOWN (R290). -/
  | linkDown (p : Fin 2) (why : DownBy)
  /-- FRAME_FORWARD (R293): `good` is what the frame check sequence shows. -/
  | frameForward (p : Fin 2) (f : Frame) (good : Bool)
  /-- EVX_FRAME_TAKEN (R297). -/
  | evxFrameTaken
  /-- GAFFER_FRAME (R299). -/
  | gafferFrame
  /-- SAFE_FRAME_RX (R308). -/
  | safeFrameRx
  /-- TRIG_FRAME (R309). -/
  | trigFrame
  /-- TRIG_FRAME_TRIGGER (R285). -/
  | trigFrameTrigger
  /-- BULK_FRAME (R310). -/
  | bulkFrame
  /-- EGRESS_IDLE (R295). -/
  | egressIdle (p : Fin 2)
  /-- RSP_FRAME (R303). -/
  | rspFrame (port : Fin 4)
  /-- STATUS_SLOT (R305). -/
  | statusSlot (p : Fin 2)
  /-- NET_STATUS_GATED (R306). -/
  | netStatusGated (p : Fin 2)
  /-- STCFG_EN_WRITE (R306). -/
  | stcfgEnWrite (w : Who) (en : Bool)
  /-- EVENT_FRAME (R307). -/
  | eventFrame
  /-- HOST_MESSAGE (R312). -/
  | hostMessage (m : HostMsg)
  /-- SERVICE_MESSAGE (R313). -/
  | serviceMessage (bytes : List (BitVec 8))
  /-- MDIO_OP (R289). -/
  | mdioOp (w : Who) (p : Fin 2) (v : BitVec 32)
  /-- MDIO_DONE (R289). -/
  | mdioDone (p : Fin 2) (data : BitVec 16)
  /-- AN_RESTART (R290). -/
  | anRestart (w : Who) (p : Fin 2)
  /-- RX_CLOCK_CHANGEOVER (R385). -/
  | rxClockChangeover (p : Fin 2) (recovered : Bool)
  -- CAN FD port (12_can_port.md)
  /-- CAN_ENABLE (R317). -/
  | canEnable (w : Who) (en : Bool)
  /-- CAN_FRAME_RX (R318): `esi` is the ESI bit as received. -/
  | canFrameRx (f : CanFrame) (esi : Bool)
  /-- RXO_LOCK_READ (R320). -/
  | rxoLockRead (w : Who) (k : Fin 64)
  /-- RXO_RELEASE_READ (R320). -/
  | rxoReleaseRead (w : Who) (k : Fin 64)
  /-- RXO_LOCK_TIMEOUT (R320). -/
  | rxoLockTimeout (k : Fin 64)
  /-- TXREQ (R322). -/
  | txreq (w : Who) (mask : BitVec 16)
  /-- CAN_Q20_ENTRY (R324). -/
  | canQ20Entry
  /-- ARBITRATION_START (R323). -/
  | arbitrationStart
  /-- CAN_TX_DONE (R322). -/
  | canTxDone
  /-- TXABORT (R325). -/
  | txabort (w : Who) (mask : BitVec 16)
  /-- CAN_MODE (R326). -/
  | canMode (w : Who) (mode : Fin 4)
  /-- CAN_WAKE (R327). -/
  | canWake (by_ : CanWaker)
  /-- CAN_ESTATE (R328). -/
  | canEstate
  /-- CAN_RECOVERED (R329). -/
  | canRecovered
  /-- CAN_BUS_ERROR (R328). -/
  | canBusError (tec : Bool) (rec : Fin 3) (failed : Bool)
  /-- CAN_BUS_IDLE (R326). -/
  | canBusIdle
  -- Field inputs and outputs (13_field_io.md)
  /-- FIO_OUT (R335). -/
  | fioOut (w : Who) (v : BitVec 8)
  /-- FIO_OUTSET (R335). -/
  | fioOutset (w : Who) (v : BitVec 8)
  /-- FIO_OUTCLR (R335). -/
  | fioOutclr (w : Who) (v : BitVec 8)
  /-- FIELD_OUTPUT_REQUEST (R335). -/
  | fieldOutputRequest
  /-- FO_PULSE_END (R336). -/
  | foPulseEnd (k : Fin 8)
  /-- FIO_CFG_WRITE (R337). -/
  | fioCfgWrite (w : Who) (v : BitVec 32)
  /-- FO_OVERLOAD (R339): in current limit for `us` µs. -/
  | foOverload (k : Fin 8) (us : Nat := 65535)
  /-- FO_OVERTEMP (R340). -/
  | foOvertemp (k : Fin 8)
  /-- FO_COOLED (R340). -/
  | foCooled (k : Fin 8)
  /-- FO_OPEN_WIRE (R341): the condition has held for `ms` ms. -/
  | foOpenWire (k : Fin 8) (ms : Nat := 65535)
  /-- FO_SHORT_TO_VF (R342): the readback has been high for `ms` ms. -/
  | foShortToVf (k : Fin 8) (ms : Nat := 65535)
  /-- FO_DIAG_CLEAR (R341): the condition has been absent for `ms` ms. -/
  | foDiagClear (k : Fin 8) (short : Bool) (ms : Nat := 65535)
  /-- FI_LEVEL_CHANGE (R345). -/
  | fiLevelChange (n : Fin 16) (millivolts : Nat) (samples : Nat := 65535)
  /-- FI_WIRE_BREAK (R347). -/
  | fiWireBreak (n : Fin 16) (ms : Nat := 65535)
  /-- FIO_WD_EXPIRED (R349). -/
  | fioWdExpired
  /-- KICK (R348). -/
  | kick (w : Who)
  /-- RESUME (R349). -/
  | resume (w : Who)
  /-- FIO_VF_STATE (R350): VFIELD in mV, on one side of the thresholds for `us` µs. -/
  | fioVfState (millivolts : Nat) (us : Nat := 10)
  /-- FI_WIRE_BREAK_CLEARED (R347). -/
  | fiWireBreakCleared (n : Fin 16) (ms : Nat := 65535)
  -- Safe stop and safety frames (14_safe_stop.md)
  /-- STO_N_LOW (R356). -/
  | stoNLow (clocks : Nat)
  /-- TEST_PULSE (R356). -/
  | testPulse (clocks : Nat)
  /-- STO_N_RELEASE (R356): STO_N has been high for so many REF clocks. -/
  | stoNRelease (clocks : Nat := 2500)
  /-- TPMISS (R357). -/
  | tpmiss
  /-- SAF_STO (R354). -/
  | safSto
  /-- SS1_ENTRY (R358). -/
  | ss1Entry
  /-- SS1T_EXPIRY (R358). -/
  | ss1tExpiry
  /-- SAFETY_RUN (R355). -/
  | safetyRun
  /-- SAFE_COPY_CHECK (R359). -/
  | safeCopyCheck
  /-- SAFE_WINDOW_EXPIRY (R359). -/
  | safeWindowExpiry
  /-- SAFE_PAIR_TIMEOUT (R359). -/
  | safePairTimeout
  /-- SAFETY_RESET (R363). -/
  | safetyReset (clocks : Nat)
  /-- SEAL_SCAN (R364). -/
  | sealScan (first second third : BitVec 8)
  /-- GEN_READBACK_FAIL (R354): the driver supply has been present for `us` µs. -/
  | genReadbackFail (g : Fin 6) (us : Nat := 10)
  /-- GEN_RUNTIME_TEST (R367): every leg of the group has had both gates low for `us` µs. -/
  | genRuntimeTest (g : Fin 6) (us : Nat) (pass : Bool := true)
  /-- SAF_TEST_OVERDUE (R367). -/
  | safTestOverdue (g : Fin 6)
  -- Check-value units (15_check_units.md)
  /-- CHK_DATA_WRITE (R372). -/
  | chkDataWrite (w : Who) (k : Fin 4) (off : Fin 4) (width : Fin 5) (v : BitVec 32)
  /-- CHK_FEED_DONE (R373). -/
  | chkFeedDone (k : Fin 4)
  /-- PRESET (R371). -/
  | preset (w : Who) (k : Fin 4) (p : Fin 16)
  /-- CHK_START (R370). -/
  | chkStart (w : Who) (k : Fin 4)
  /-- CHK_VAL_WRITE (R374). -/
  | chkValWrite (w : Who) (k : Fin 4) (v : BitVec 32)
  /-- CHK_PARAM_WRITE (R370). -/
  | chkParamWrite (w : Who) (k : Fin 4) (reg : Fin 4) (v : BitVec 32)
  /-- ALVIN (R375). -/
  | alvin (w : Who) (k : Fin 4) (c : BitVec 16)
  /-- ALV_ARM (R375). -/
  | alvArm (w : Who) (k : Fin 4) (width : Fin 32) (arm : Bool)
  -- Supplies, reset and the release sequence (16_power_reset_boot.md)
  /-- RESET_N (R380). -/
  | resetN (clocks : Nat)
  /-- MAIN_POWER_ON_RESET (R380). -/
  | mainPowerOnReset (mV : Rails) (clocks : Nat)
  /-- BACKUP_POWER_ON_RESET (R381). -/
  | backupPowerOnReset (mV : Nat := 0) (clocks : Nat := 50)
  /-- BUCK_START (R377). -/
  | buckStart (sel : Fin 4) (mV : Nat := 48000)
  /-- BUCK_STOP (R377). -/
  | buckStop (mV : Nat := 0)
  /-- SEQUENCE_START (R383). -/
  | sequenceStart (clksrc : Bool) (high : Nat := 250) (mV : Rails := ⟨800, 3300, 1800, 5000⟩) (clocks : Nat := 50)
  /-- SOURCE_GOOD (R383). -/
  | sourceGood (edges : Nat := 1024)
  /-- DOMAIN_RELEASE (R384). -/
  | domainRelease (clocks : Nat := 64)
  /-- RST_GAP_EXPIRY (R384). -/
  | rstGapExpiry
  /-- SEQUENCE_STOP (R386). -/
  | sequenceStop
  /-- BACKUP_RESET_RELEASE (R380). -/
  | backupResetRelease (mV : Nat := 3000) (clocks : Nat := 50)
  -- Start-up, management and Lehr (16_power_reset_boot.md, 17_management_and_log.md)
  /-- ROM_BOOT (R397). -/
  | romBoot
  /-- IMAGE_SELECT (R398). -/
  | imageSelect
  /-- CONFIGURATION (R399). -/
  | configuration (testPass : Bool) (parity : Option (Nat × Nat))
  /-- DEVICE_READY (R389). -/
  | deviceReady
  /-- PWR_VDRV_WRITE (R378). -/
  | pwrVdrvWrite (w : Who) (v : Fin 128)
  /-- GO (R403). -/
  | go (w : Who)
  /-- FUSE_PROGRAMMED (R403). -/
  | fuseProgrammed
  /-- UPD_OPEN (R409). -/
  | updOpen
  /-- UPD_CLOSE (R411). -/
  | updClose
  /-- ACT_FW (R412). -/
  | actFw
  /-- ACT_AXES (R413). -/
  | actAxes (parity : Option (Nat × Nat))
  /-- RECYCLE (R406). -/
  | recycle
  /-- UPDATE_CHUNK (R410). -/
  | updateChunk
  /-- MGMT_WATCHDOG_EXPIRY (R406). -/
  | mgmtWatchdogExpiry
  /-- MGT_RECYCLE (R406). -/
  | mgtRecycle
  /-- MBOUT_READ (R408). -/
  | mboutRead (w : Who) (word : Fin 8)
  /-- SENSOR_SAMPLE (R414). -/
  | sensorSample (vio vcore va vbat : BitVec 32)
  /-- SENSCTL_CLR (R414). -/
  | sensctlClr (w : Who)
  /-- CRYSTAL_CHECK (R415). -/
  | crystalCheck (count : Nat)
  /-- SCRUB_PASS (R426). -/
  | scrubPass (ms : Nat) (errors : List ScrubErr)
  /-- JOURNAL_FLUSH (R427). -/
  | journalFlush
  /-- LEHR_STARVED (R425): the window of activity `i` of LEHR_STARVE. -/
  | lehrStarved (i : Fin 6)
  /-- HEALTH (R428). -/
  | health
  /-- OPSEC_MIRROR (R422). -/
  | opsecMirror
  /-- BATCH_SOURCE_RELOAD (R166). -/
  | batchSourceReload (addr : BitVec 32)
  /-- VDRV_RAMP_END (R378). -/
  | vdrvRampEnd
  -- Event recorder (17_management_and_log.md)
  /-- RECORD_PUSH (R417). -/
  | recordPush (code : BitVec 16) (sev : Fin 5) (src : Fin 8) (data0 data1 : BitVec 32)
  /-- RECORD_ADMISSION (R418). -/
  | recordAdmission
  /-- TOKEN_REFILL (R418). -/
  | tokenRefill (code : BitVec 16)
  /-- FLASH_RING_WRITE (R420). -/
  | flashRingWrite
  /-- EVR_WIN_READ (R421). -/
  | evrWinRead (w : Who) (word : Fin 8)
  /-- EVR_FETCH (R421). -/
  | evrFetch
  /-- EVR_CLEAR (R423). -/
  | evrClear (w : Who) (key : BitVec 8)
  /-- RING_ERASE_DONE (R423). -/
  | ringEraseDone
deriving DecidableEq, Repr

end Sys2Proof
end

