-- ==== Sys2Proof/Decode.lean ====
section
/-!
DEFINITION. The commands that a word spells by the bits of spec/opcode_table.json: the table gives no row any bits, so no word spells one.
The words of lane instructions, which the spec does give, are read in Machine/LaneCode.lean.
-/

namespace Sys2Proof

/-- The command of a word: none, since no row of the table has bits. -/
def decodeTableWord (nbits w : Nat) : Option Instr :=
  match nbits, w with
  | _, _ => none

end Sys2Proof
end

