-- ==== Sys2Proof/Machine/State.lean ====
section
/-!
DEFINITION. The state of the block as a machine: the commands that wait, the reset sequencer and the device; and the state right after
reset.
-/

namespace Sys2Proof.Machine

/-- A fault of a step. -/
inductive Fault where
  /-- Raised by no meaning: the spec stops the block in no case. Safe. -/
  | unraised
deriving DecidableEq, Repr

/-- A refusal of a step. -/
inductive Refusal where
  /-- An arm of `exec` that has no meaning yet. Safe. -/
  | notModelled (mnemonic : String)
deriving DecidableEq, Repr

/-- The state. -/
structure State where
  /-- The commands that wait, first in, first out. The model's own field; reset empty. -/
  pending : List Instr := []
  /-- The reset sequencer. -/
  seq : Seq := {}
  /-- The device. -/
  dev : Dev := {}
deriving DecidableEq, Repr

/-- Right after reset: every domain in reset after a power-on, no sequence begun, every register at its reset value (R12, R380, R381). -/
def State.reset : State := {}

end Sys2Proof.Machine
end

