-- ==== Sys2Proof/Machine/Lift.lean ====
section
/-!
DEFINITION. How a command acts on the state: an event in a clock domain that is out of reset, an access to a register by a port, a step of
the reset sequencer, an instruction of a lane.
-/

namespace Sys2Proof.Machine

/-- The release step of the domain of each window W_0 to W_15 (R35, R384), at least that of FABRIC, through which every access goes. -/
def windowDom : Nat → Nat
  | 3 => 3 | 5 => 4 | 6 => 11 | 7 => 10 | 9 => 6 | 10 => 7 | 11 => 8 | 12 => 8 | 13 => 9 | 14 => 8 | 15 => 8 | _ => 2

/-- The release step of the domain that an address lies in. -/
def addrDom (a : Nat) : Nat := windowDom ((windowOf a).getD 0)

/-- The release step of the domain of a partner port (R22, R288): the network ports in NETSW, the others in FABRIC. -/
def portDom (p : Nat) : Nat := if p < 2 then 11 else 2

/-- The device changes if step `k` of the release sequence has been made: a domain in reset does nothing (R382, R384). -/
def State.event (s : State) (k : Nat) (f : Dev → Dev) : Host.Outcome State Fault Refusal :=
  .next (if k ≤ s.seq.released then { s with dev := f s.dev } else s)

/-- A step of the reset sequencer. -/
def State.sequence (s : State) (f : Seq → Dev → Seq × Dev) : Host.Outcome State Fault Refusal :=
  let y := f s.seq s.dev
  .next { s with seq := y.1, dev := y.2 }

/-- An access that needs step `k` of the release sequence: with the domain in reset and FABRIC released, it is answered by `held` (R13,
R386; notes/assumptions/9.md). -/
def State.reach (s : State) (k : Nat) (f held : Dev → Dev) : Host.Outcome State Fault Refusal :=
  if k ≤ s.seq.released then s.event k f else s.event 2 held

/-- The answer to an access of one word in a domain in reset (R11, R13): VIOLATION without the right, else WRONG_STATE. -/
def Dev.unreached (d : Dev) (w : Who) (a op : Nat) : Dev :=
  d.access w.port a (op != 1) { port := w.port, tag := w.tag, op := op, addr := a } fun d => (some .wrongState, d)

/-- A write of one word (R9 to R11). -/
def State.writeWord (s : State) (w : Who) (a v : Nat) : Host.Outcome State Fault Refusal :=
  s.reach (addrDom a) (·.rowWord w.port w.tag a v) (·.unreached w a 2)

/-- A write of one field of a register. -/
def State.writeField (s : State) (w : Who) (f : Fld) (i j v : Nat) : Host.Outcome State Fault Refusal :=
  s.reach (addrDom (f.addr i j)) (·.rowField w.port w.tag f i j v) (·.unreached w (f.addr i j) (if f.len = 32 then 2 else 3))

/-- A read of one word. -/
def State.readWord (s : State) (w : Who) (a : Nat) : Host.Outcome State Fault Refusal :=
  s.reach (addrDom a) (·.rowRead w.port w.tag a) (·.unreached w a 1)

/-- A write that is a command of its own to the register at an address (R37); no answer where it is given later. -/
def State.later (s : State) (w : Who) (a : Nat) (f : Cmdr → Dev → Option Code × Dev) : Host.Outcome State Fault Refusal :=
  let by_ : Cmdr := { port := w.port, tag := w.tag, addr := a }
  s.reach (addrDom a)
    (fun d => d.access w.port a true by_ fun d =>
      let y := f by_ d
      (y.1, if y.1 = some .ok then y.2.stored a else y.2))
    (·.unreached w a 2)

/-- A write that is a command of its own, with its answer, to the register at an address (R37). -/
def State.command (s : State) (w : Who) (a : Nat) (f : Dev → Code × Dev) : Host.Outcome State Fault Refusal :=
  s.later w a fun _ d => let y := f d; (some y.1, y.2)

/-- A command that writes a second register beside the one it is answered for stores a word there too. -/
def alsoAt (a : Nat) (y : Code × Dev) : Code × Dev := (y.1, if y.1 = .ok then y.2.stored a else y.2)

/-- The words of an operand. -/
def wordsNat (l : List (BitVec 32)) : List Nat := l.map (·.toNat)

/-- The data words of a MASKED_WRITE: value and mask by turns (R300). -/
def pairsNat (l : List (BitVec 32 × BitVec 32)) : List Nat := l.flatMap fun x => [x.1.toNat, x.2.toNat]

/-- A command record (R300). -/
def recOf (op : Nat) (w : Who) (mac : BitVec 48) (addr count : Nat) (data : List Nat) : CmdRec :=
  { op := op, tag := w.tag, count := count, addr := addr, data := data, mac := mac.toNat }

/-- The release step that the execution of a record needs: that of the window it addresses, or of its queue's consumer (R38). -/
def recDom (c : CmdRec) : Nat :=
  if c.op = 4 then match pushQueue (c.addr % 32) with | some (win, _) => windowDom win | none => 2
  else addrDom c.addr

/-- A command record of a port is carried out. -/
def State.record (s : State) (w : Who) (c : CmdRec) : Host.Outcome State Fault Refusal :=
  s.reach (recDom c) (·.carry w.port c) (·.carryHeld w.port c)

/-- The command that the engine would start next (R302). -/
def Dev.nextRec (d : Dev) : Option CmdRec := d.nextPort.bind fun p => (Tbl.get [] p d.net.cmdq).head?

/-- The command engine starts the next command (R302). -/
def State.engine (s : State) : Host.Outcome State Fault Refusal :=
  s.reach (match s.dev.nextRec with | some c => recDom c | none => 2) (·.commandStart) (·.commandStart Dev.carryHeld)

/-- An instruction of lane PL_n (R258). -/
def State.lane (s : State) (n : Nat) (o : LOp) : Host.Outcome State Fault Refusal := s.event 9 (·.laneOp n o)

/-- A write to a check unit, which waits while the unit feeds (R373). -/
def State.chk (s : State) (w : Who) (k : Nat) (f : Fld) (x : ChkWrite) : Host.Outcome State Fault Refusal :=
  s.event 2 fun d =>
    let a := f.addr k 0
    let by_ : Cmdr := { port := w.port, tag := w.tag, addr := a }
    d.access w.port a true by_ fun d => (none, d.chkArrive k Dev.stored by_ x)

/-- A write of `width` bytes to CHK_k_DATA from byte `off` on (R372); a width or place that DATA does not take answers RANGE. -/
def State.chkData (s : State) (w : Who) (k off width v : Nat) : Host.Outcome State Fault Refusal :=
  match chkBytes off width v with
  | some b => s.chk w k F.chkData_data (.data b)
  | none => s.command w (F.chkData_data.addr k 0) fun d => (.range, d)

/-- The parameter registers of a check unit: CFG, POLY, INIT, XOROUT (R370). -/
def chkParamFld : Nat → Fld
  | 0 => F.chkCfg_width | 1 => F.chkPoly_poly | 2 => F.chkInit_init | _ => F.chkXor_xorout

/-- A read of the word of receive object `k` that locks it, or of the last word, which releases it (R320). -/
def State.rxoRead (s : State) (w : Who) (k : Nat) (last : Bool) : Host.Outcome State Fault Refusal :=
  s.reach 10 (fun d => d.rowRead w.port w.tag (0x71000 + 0x80 * k + 4 * (if last then d.rxoLast k else 0)))
    (·.unreached w (0x71000 + 0x80 * k) 1)

/-- The address of the LMSHIFT of AX_n, or for sources 8 to 11 of GAF_FQM_q (R94). -/
def shiftAddr (src : Nat) : Nat := if src < 8 then F.axLmshift_shift.addr src 0 else R.gafFqm.base + 4 * (src - 8)

/-- One TIME clock without a command (notes/assumptions/5.md): what was left to the end of the clock is applied, judged or put in order (R40, R54, R373, R417); then root time and,
once their domain runs, the time bases advance (R22, R46), and with them the work that the clock drives of itself: operating seconds at each
full second of root time (R422), one write from Q_29 to the flash (R391), Pdelay_Req (R59), the STATUS snapshot (R305). -/
def State.idle (s : State) : State :=
  let r := s.seq.released
  let d := s.dev.on (decide (2 ≤ r)) fun d => d.q28Settle.each (List.range 4) fun k d => d.chkClock k Dev.stored
  let d := if 4 ≤ r then d.clockEnd.timeClock else { d.tagsFree with now := d.now + 4000 }
  let d := d.on (decide (3 ≤ r) && (s.dev.now + 4000) % 1000000000000 == 0) (·.bump F.mgtOpsec_opsec)
  let d := d.on (decide (3 ≤ r)) (·.flashDrain)
  let d := d.on (decide (11 ≤ r)) fun d => d.each [0, 1] fun p d => (d.pdelaySend p).statusSnap p
  { s with dev := { d with now := s.dev.now + 4000 } }

/-- A fault reaction on AX_n (R112, R115, R188, R189). -/
def Dev.faultBy (d : Dev) (n : Nat) : FaultBy → Dev
  | .legTrip low => d.reactTo n (b2n low) 9
  | .feedback => d.faultOff n 10
  | .unreplayable => d.faultOff n 11
  | .stall => d.faultOff n 14
  | .sto => d.reactTo n (d.reactOf n 12) 12
  | .driver vbus => let src := if vbus then 10 else 8; d.reactTo n (d.reactOf n src) 13

end Sys2Proof.Machine
end

