-- ==== Sys2Proof/Machine/RowsAxis.lean ====
section
/-!
DEFINITION. Meanings of the rows: Axis state, profiles, compares and stepping (04_profiles_and_stepping.md).
-/

namespace Sys2Proof.Machine

/-- ENABLE (R111). -/
def execEnable (w : Who) (n : Fin 8) (s : State) : Host.Outcome State Fault Refusal :=
  s.later w (F.axCmd_cmd.addr n 0) fun by_ d => d.axCmd n 1 by_

/-- RUN (R111). -/
def execRun (w : Who) (n : Fin 8) (s : State) : Host.Outcome State Fault Refusal :=
  s.later w (F.axCmd_cmd.addr n 0) fun by_ d => d.axCmd n 2 by_

/-- STILL (R111). -/
def execStill (w : Who) (n : Fin 8) (s : State) : Host.Outcome State Fault Refusal :=
  s.later w (F.axCmd_cmd.addr n 0) fun by_ d => d.axCmd n 3 by_

/-- STOP (R114). -/
def execStop (w : Who) (n : Fin 8) (s : State) : Host.Outcome State Fault Refusal :=
  s.later w (F.axCmd_cmd.addr n 0) fun by_ d => d.axCmd n 4 by_

/-- DISABLE (R115). -/
def execDisable (w : Who) (n : Fin 8) (s : State) : Host.Outcome State Fault Refusal :=
  s.later w (F.axCmd_cmd.addr n 0) fun by_ d => d.axCmd n 5 by_

/-- FLUSH (R119). -/
def execFlush (w : Who) (n : Fin 8) (s : State) : Host.Outcome State Fault Refusal :=
  s.later w (F.axCmd_cmd.addr n 0) fun by_ d => d.axCmd n 6 by_

/-- AXIS_FAULT_ENTRY (R112). -/
def execAxisFaultEntry (n : Fin 8) (by_ : FaultBy) (s : State) : Host.Outcome State Fault Refusal :=
  s.event 8 (·.faultBy n by_)

/-- CONTROLLED_STOP_CAUSE (R112). -/
def execControlledStopCause (n : Fin 8) (by_ : StopBy) (s : State) : Host.Outcome State Fault Refusal :=
  s.event 8 (·.ctlStop n by_.cause)

/-- AX_STOP_TIMEOUT (R112). -/
def execAxStopTimeout (n : Fin 8) (s : State) : Host.Outcome State Fault Refusal :=
  s.event 8 (·.stopTimeout n)

/-- AUTOSTILL (R112). -/
def execAutostill (n : Fin 8) (s : State) : Host.Outcome State Fault Refusal :=
  s.event 8 (·.autostill n)

/-- MOVE_ABS (R116). -/
def execMoveAbs (n : Fin 8) (s : State) : Host.Outcome State Fault Refusal :=
  s.event 8 (·.headTake n 1)

/-- MOVE_REL (R116). -/
def execMoveRel (n : Fin 8) (s : State) : Host.Outcome State Fault Refusal :=
  s.event 8 (·.headTake n 2)

/-- VELOCITY (R116). -/
def execVelocity (n : Fin 8) (s : State) : Host.Outcome State Fault Refusal :=
  s.event 8 (·.headTake n 3)

/-- OFFSET_ABS (R116). -/
def execOffsetAbs (n : Fin 8) (s : State) : Host.Outcome State Fault Refusal :=
  s.event 8 (·.headTake n 4)

/-- OFFSET_REL (R116). -/
def execOffsetRel (n : Fin 8) (s : State) : Host.Outcome State Fault Refusal :=
  s.event 8 (·.headTake n 5)

/-- LIMIT (R116). -/
def execLimit (n : Fin 8) (s : State) : Host.Outcome State Fault Refusal :=
  s.event 8 (·.headTake n 6)

/-- MARK (R116). -/
def execMark (n : Fin 8) (s : State) : Host.Outcome State Fault Refusal :=
  s.event 8 (·.headTake n 7)

/-- LIMIT_COMMIT (R121). -/
def execLimitCommit (w : Who) (n : Fin 8) (limit : Fin 6) (v : BitVec 32) (s : State) : Host.Outcome State Fault Refusal :=
  s.writeWord w (F.axVmaxhi_v.addr n 0 + 8 * limit) v.toNat

/-- CMP_COMMIT (R129). -/
def execCmpCommit (w : Who) (n : Fin 8) (c : Fin 4) (v : BitVec 32) (s : State) : Host.Outcome State Fault Refusal :=
  s.writeWord w (R.cmpPoshi.base + 0x2000 * n + 0x10 * c) v.toNat

/-- CMP_FIRED (R130). -/
def execCmpFired (n : Fin 8) (c : Fin 4) (s : State) : Host.Outcome State Fault Refusal :=
  s.event 8 (·.cmpFire n c)

/-- CMP_DISARM (R132). -/
def execCmpDisarm (w : Who) (n : Fin 8) (c : Fin 4) (s : State) : Host.Outcome State Fault Refusal :=
  s.writeField w F.cmpCtrl_disarm n c 1

/-- CMP_CTRL_WRITE (R133). -/
def execCmpCtrlWrite (w : Who) (n : Fin 8) (c : Fin 4) (v : BitVec 32) (s : State) : Host.Outcome State Fault Refusal :=
  s.writeWord w (F.cmpCtrl_width.addr n c) v.toNat

/-- STEP_TIMER_EXPIRY (R136). -/
def execStepTimerExpiry (n : Fin 8) (s : State) : Host.Outcome State Fault Refusal :=
  s.event 8 (·.stepExpiry n)

/-- STILL_MODE_CHANGE (R140). -/
def execStillModeChange (w : Who) (n : Fin 8) (still : Fin 3) (s : State) : Host.Outcome State Fault Refusal :=
  s.writeField w F.axCfg_still n 0 still

end Sys2Proof.Machine
end

