-- ==== Sys2Proof/Machine/RowsCan.lean ====
section
/-!
DEFINITION. Meanings of the rows: CAN FD port (12_can_port.md).
-/

namespace Sys2Proof.Machine

/-- CAN_ENABLE (R317). -/
def execCanEnable (w : Who) (en : Bool) (s : State) : Host.Outcome State Fault Refusal :=
  s.writeField w F.canCtrl_en 0 0 (b2n en)

/-- CAN_FRAME_RX (R318). -/
def execCanFrameRx (f : CanFrame) (esi : Bool) (s : State) : Host.Outcome State Fault Refusal :=
  s.event 10 (·.canFrameRx { f with esi := esi })

/-- RXO_LOCK_READ (R320). -/
def execRxoLockRead (w : Who) (k : Fin 64) (s : State) : Host.Outcome State Fault Refusal :=
  s.rxoRead w k false

/-- RXO_RELEASE_READ (R320). -/
def execRxoReleaseRead (w : Who) (k : Fin 64) (s : State) : Host.Outcome State Fault Refusal :=
  s.rxoRead w k true

/-- RXO_LOCK_TIMEOUT (R320). -/
def execRxoLockTimeout (k : Fin 64) (s : State) : Host.Outcome State Fault Refusal :=
  s.event 10 (·.rxoTimeout k)

/-- TXREQ (R322). -/
def execTxreq (w : Who) (mask : BitVec 16) (s : State) : Host.Outcome State Fault Refusal :=
  s.writeWord w (F.canTxreq_req.addr 0 0) mask.toNat

/-- CAN_Q20_ENTRY (R324). -/
def execCanQ20Entry (s : State) : Host.Outcome State Fault Refusal :=
  s.event 10 (·.q20Take)

/-- ARBITRATION_START (R323). -/
def execArbitrationStart (s : State) : Host.Outcome State Fault Refusal :=
  s.event 10 (·.canArbitrate)

/-- CAN_TX_DONE (R322). -/
def execCanTxDone (s : State) : Host.Outcome State Fault Refusal :=
  s.event 10 (·.canTxDone)

/-- TXABORT (R325). -/
def execTxabort (w : Who) (mask : BitVec 16) (s : State) : Host.Outcome State Fault Refusal :=
  s.writeWord w (F.canTxabort_abort.addr 0 0) mask.toNat

/-- CAN_MODE (R326). -/
def execCanMode (w : Who) (mode : Fin 4) (s : State) : Host.Outcome State Fault Refusal :=
  s.writeField w F.canCtrl_mode 0 0 mode

/-- CAN_WAKE (R327). -/
def execCanWake (by_ : CanWaker) (s : State) : Host.Outcome State Fault Refusal :=
  s.event 10 (·.canWake by_)

/-- CAN_ESTATE (R328). -/
def execCanEstate (s : State) : Host.Outcome State Fault Refusal :=
  s.event 10 (·.canEstate)

/-- CAN_RECOVERED (R329). -/
def execCanRecovered (s : State) : Host.Outcome State Fault Refusal :=
  s.event 10 (·.canRecover)

/-- CAN_BUS_ERROR (R328). -/
def execCanBusError (tec : Bool) (rec : Fin 3) (failed : Bool) (s : State) : Host.Outcome State Fault Refusal :=
  s.event 10 (·.canBusError tec rec failed)

/-- CAN_BUS_IDLE (R326). -/
def execCanBusIdle (s : State) : Host.Outcome State Fault Refusal :=
  s.event 10 (·.canBusIdle)

end Sys2Proof.Machine
end

