-- ==== Sys2Proof/Machine/RowsChk.lean ====
section
/-!
DEFINITION. Meanings of the rows: Check-value units (15_check_units.md).
-/

namespace Sys2Proof.Machine

/-- CHK_DATA_WRITE (R372). -/
def execChkDataWrite (w : Who) (k : Fin 4) (off : Fin 4) (width : Fin 5) (v : BitVec 32) (s : State) : Host.Outcome State Fault Refusal :=
  s.chkData w k off width v.toNat

/-- CHK_FEED_DONE (R373). -/
def execChkFeedDone (k : Fin 4) (s : State) : Host.Outcome State Fault Refusal :=
  s.event 2 (·.chkFeedDone k Dev.stored)

/-- PRESET (R371). -/
def execPreset (w : Who) (k : Fin 4) (p : Fin 16) (s : State) : Host.Outcome State Fault Refusal :=
  s.chk w k F.chkCfg_preset (.preset p)

/-- CHK_START (R370). -/
def execChkStart (w : Who) (k : Fin 4) (s : State) : Host.Outcome State Fault Refusal :=
  s.chk w k F.chkCmd_start .start

/-- CHK_VAL_WRITE (R374). -/
def execChkValWrite (w : Who) (k : Fin 4) (v : BitVec 32) (s : State) : Host.Outcome State Fault Refusal :=
  s.chk w k F.chkVal_v (.val v.toNat)

/-- CHK_PARAM_WRITE (R370). -/
def execChkParamWrite (w : Who) (k : Fin 4) (reg : Fin 4) (v : BitVec 32) (s : State) : Host.Outcome State Fault Refusal :=
  s.chk w k (chkParamFld reg) (.param reg v.toNat)

/-- ALVIN (R375). -/
def execAlvin (w : Who) (k : Fin 4) (c : BitVec 16) (s : State) : Host.Outcome State Fault Refusal :=
  s.chk w k F.chkAlvin_c (.alvin c.toNat)

/-- ALV_ARM (R375). -/
def execAlvArm (w : Who) (k : Fin 4) (width : Fin 32) (arm : Bool) (s : State) : Host.Outcome State Fault Refusal :=
  s.chk w k F.chkAlvcfg_width (.alvcfg width arm)

end Sys2Proof.Machine
end

