-- ==== Sys2Proof/Machine/RowsCmd.lean ====
section
/-!
DEFINITION. Meanings of the rows: Register accesses and commands (R9 to R13, R37 to R42, R300 to R302).
-/

namespace Sys2Proof.Machine

/-- REGISTER_WRITE (R9). -/
def execRegisterWrite (w : Who) (addr v : BitVec 32) (s : State) : Host.Outcome State Fault Refusal :=
  s.writeWord w addr.toNat v.toNat

/-- READ (R300). -/
def execRead (w : Who) (mac : BitVec 48) (addr : BitVec 32) (count : Fin 65) (s : State) : Host.Outcome State Fault Refusal :=
  s.record w (recOf 1 w mac addr.toNat count [])

/-- WRITE (R300). -/
def execWrite (w : Who) (mac : BitVec 48) (addr : BitVec 32) (data : List (BitVec 32)) (s : State) : Host.Outcome State Fault Refusal :=
  s.record w (recOf 2 w mac addr.toNat data.length (wordsNat data))

/-- MASKED_WRITE (R300). -/
def execMaskedWrite (w : Who) (mac : BitVec 48) (addr : BitVec 32) (data : List (BitVec 32 × BitVec 32))
    (s : State) : Host.Outcome State Fault Refusal :=
  s.record w (recOf 3 w mac addr.toNat data.length (pairsNat data))

/-- QUEUE_PUSH (R38). -/
def execQueuePush (w : Who) (mac : BitVec 48) (q : Fin 32) (data : List (BitVec 32)) (s : State) : Host.Outcome State Fault Refusal :=
  s.record w (recOf 4 w mac q data.length (wordsNat data))

/-- CMD_FRAME (R301). -/
def execCmdFrame (s : State) : Host.Outcome State Fault Refusal :=
  s.event 11 (·.cmdFrame)

/-- COMMAND_START (R302). -/
def execCommandStart (s : State) : Host.Outcome State Fault Refusal :=
  s.engine

end Sys2Proof.Machine
end

