-- ==== Sys2Proof/Machine/RowsEvr.lean ====
section
/-!
DEFINITION. Meanings of the rows: Event recorder (17_management_and_log.md).
-/

namespace Sys2Proof.Machine

/-- RECORD_PUSH (R417). -/
def execRecordPush (code : BitVec 16) (sev : Fin 5) (src : Fin 8) (data0 data1 : BitVec 32)
    (s : State) : Host.Outcome State Fault Refusal :=
  s.event 2 (·.occur { code := code.toNat, sev := sev, src := src, d0 := data0.toNat, d1 := data1.toNat })

/-- RECORD_ADMISSION (R418). -/
def execRecordAdmission (s : State) : Host.Outcome State Fault Refusal :=
  s.event 2 (·.recordAdmission)

/-- TOKEN_REFILL (R418). -/
def execTokenRefill (code : BitVec 16) (s : State) : Host.Outcome State Fault Refusal :=
  s.event 2 (·.tokenRefill code.toNat)

/-- FLASH_RING_WRITE (R420). -/
def execFlashRingWrite (s : State) : Host.Outcome State Fault Refusal :=
  s.event 3 (·.flashRingWrite)

/-- EVR_WIN_READ (R421). -/
def execEvrWinRead (w : Who) (word : Fin 8) (s : State) : Host.Outcome State Fault Refusal :=
  s.readWord w (F.evrWin_word.addr word 0)

/-- EVR_FETCH (R421). -/
def execEvrFetch (s : State) : Host.Outcome State Fault Refusal :=
  s.event 3 (·.evrFetch)

/-- EVR_CLEAR (R423). -/
def execEvrClear (w : Who) (key : BitVec 8) (s : State) : Host.Outcome State Fault Refusal :=
  s.writeWord w (F.evrCmd_clear.addr 0 0) (1 + 256 * key.toNat)

/-- RING_ERASE_DONE (R423). -/
def execRingEraseDone (s : State) : Host.Outcome State Fault Refusal :=
  s.event 3 (·.ringErased)

end Sys2Proof.Machine
end

