-- ==== Sys2Proof/Machine/RowsFbk.lean ====
section
/-!
DEFINITION. Meanings of the rows: Feedback channels and latching (08_feedback_and_latching.md).
-/

namespace Sys2Proof.Machine

/-- FA_FRAME_START (R228). -/
def execFaFrameStart (n : Fin 8) (s : State) : Host.Outcome State Fault Refusal :=
  s.event 6 (·.faFrameStart n)

/-- FA_WORD (R227). -/
def execFaWord (n : Fin 8) (clk dly bits : Nat) (s : State) : Host.Outcome State Fault Refusal :=
  s.event 6 (·.faWord n clk dly bits)

/-- FA_DELAY_MEASUREMENT (R229). -/
def execFaDelayMeasurement (n : Fin 8) (clk dly : Nat) (s : State) : Host.Outcome State Fault Refusal :=
  s.event 6 (·.faMeasure n clk dly)

/-- FA_DELAY_MEASURED (R229). -/
def execFaDelayMeasured (n : Fin 8) (s : State) : Host.Outcome State Fault Refusal :=
  s.event 6 (·.faMeasured n)

/-- FQ_EDGE (R231). -/
def execFqEdge (q : Fin 4) (a b : FqLine) (s : State) : Host.Outcome State Fault Refusal :=
  s.event 6 (·.fqEdge q a b)

/-- FQ_INDEX (R236). -/
def execFqIndex (q : Fin 4) (s : State) (level : Bool := true) (samples : Nat := 65536) : Host.Outcome State Fault Refusal :=
  s.event 6 (·.fqIndex q level samples)

/-- SINCOS_SAMPLE (R239). -/
def execSincosSample (q : Fin 4) (s : State) : Host.Outcome State Fault Refusal :=
  s.event 6 (·.sincosSample q)

/-- MAINRET (R242). -/
def execMainret (w : Who) (q : Fin 4) (s : State) : Host.Outcome State Fault Refusal :=
  s.writeField w F.fqCmd_mainret q 0 1

/-- CLRFLT (R223). -/
def execClrflt (w : Who) (q : Fin 4) (s : State) : Host.Outcome State Fault Refusal :=
  s.writeField w F.fqCmd_clrflt q 0 1

/-- FBK_CFG_WRITE (R217). -/
def execFbkCfgWrite (w : Who) (reg : FbkReg) (v : BitVec 32) (s : State) : Host.Outcome State Fault Refusal :=
  s.writeWord w reg.addr v.toNat

/-- TDC_EDGE (R243). -/
def execTdcEdge (t : Fin 8) (level : Bool) (age : Nat) (s : State) (samples : Nat := 65536) : Host.Outcome State Fault Refusal :=
  s.event 6 (·.tdcEdge t level age samples)

/-- LATCH_EVENT (R245). -/
def execLatchEvent (t : Fin 8) (s : State) : Host.Outcome State Fault Refusal :=
  s.event 6 (·.latchEvent t)

/-- QINFO_READ (R247). -/
def execQinfoRead (w : Who) (t : Fin 8) (s : State) : Host.Outcome State Fault Refusal :=
  s.readWord w (R.ltQinfo.base + 0x40 * t)

/-- LT_CFG_WRITE (R244). -/
def execLtCfgWrite (w : Who) (t : Fin 8) (reg : Fin 8) (v : BitVec 32) (s : State) : Host.Outcome State Fault Refusal :=
  s.writeWord w (0x90800 + 0x40 * t + 4 * reg) v.toNat

end Sys2Proof.Machine
end

