-- ==== Sys2Proof/Machine/RowsFio.lean ====
section
/-!
DEFINITION. Meanings of the rows: Field inputs and outputs (13_field_io.md).
-/

namespace Sys2Proof.Machine

/-- FIO_OUT (R335). -/
def execFioOut (w : Who) (v : BitVec 8) (s : State) : Host.Outcome State Fault Refusal :=
  s.writeWord w (F.fioOut_cmd.addr 0 0) v.toNat

/-- FIO_OUTSET (R335). -/
def execFioOutset (w : Who) (v : BitVec 8) (s : State) : Host.Outcome State Fault Refusal :=
  s.writeWord w (F.fioOutset_set.addr 0 0) v.toNat

/-- FIO_OUTCLR (R335). -/
def execFioOutclr (w : Who) (v : BitVec 8) (s : State) : Host.Outcome State Fault Refusal :=
  s.writeWord w (F.fioOutclr_clr.addr 0 0) v.toNat

/-- FIELD_OUTPUT_REQUEST (R335). -/
def execFieldOutputRequest (s : State) : Host.Outcome State Fault Refusal :=
  s.event 1 (·.fioRequests)

/-- FO_PULSE_END (R336). -/
def execFoPulseEnd (k : Fin 8) (s : State) : Host.Outcome State Fault Refusal :=
  s.event 1 (·.foPulseEnd k)

/-- FIO_CFG_WRITE (R337). -/
def execFioCfgWrite (w : Who) (v : BitVec 32) (s : State) : Host.Outcome State Fault Refusal :=
  s.writeWord w (F.fioCfg_parlo.addr 0 0) v.toNat

/-- FO_OVERLOAD (R339). -/
def execFoOverload (k : Fin 8) (s : State) (us : Nat := 65535) : Host.Outcome State Fault Refusal :=
  s.event 1 (·.foOverload k us)

/-- FO_OVERTEMP (R340). -/
def execFoOvertemp (k : Fin 8) (s : State) : Host.Outcome State Fault Refusal :=
  s.event 1 (·.foOvertemp k)

/-- FO_COOLED (R340). -/
def execFoCooled (k : Fin 8) (s : State) : Host.Outcome State Fault Refusal :=
  s.event 1 (·.foCooled k)

/-- FO_OPEN_WIRE (R341). -/
def execFoOpenWire (k : Fin 8) (s : State) (ms : Nat := 65535) : Host.Outcome State Fault Refusal :=
  s.event 1 (·.foOpenWire k ms)

/-- FO_SHORT_TO_VF (R342). -/
def execFoShortToVf (k : Fin 8) (s : State) (ms : Nat := 65535) : Host.Outcome State Fault Refusal :=
  s.event 1 (·.foShort k ms)

/-- FO_DIAG_CLEAR (R341). -/
def execFoDiagClear (k : Fin 8) (short : Bool) (s : State) (ms : Nat := 65535) : Host.Outcome State Fault Refusal :=
  s.event 1 (·.foDiagClear k short ms)

/-- FI_LEVEL_CHANGE (R345). -/
def execFiLevelChange (n : Fin 16) (millivolts : Nat) (s : State) (samples : Nat := 65535) : Host.Outcome State Fault Refusal :=
  s.event 1 (·.fiLevel n millivolts samples)

/-- FI_WIRE_BREAK (R347). -/
def execFiWireBreak (n : Fin 16) (s : State) (ms : Nat := 65535) : Host.Outcome State Fault Refusal :=
  s.event 1 (·.fiWire n true ms)

/-- FIO_WD_EXPIRED (R349). -/
def execFioWdExpired (s : State) : Host.Outcome State Fault Refusal :=
  s.event 1 (·.fioExpire)

/-- KICK (R348). -/
def execKick (w : Who) (s : State) : Host.Outcome State Fault Refusal :=
  s.writeField w F.fioWd_kick 0 0 1

/-- RESUME (R349). -/
def execResume (w : Who) (s : State) : Host.Outcome State Fault Refusal :=
  s.writeField w F.fioWd_resume 0 0 1

/-- FIO_VF_STATE (R350). -/
def execFioVfState (millivolts : Nat) (s : State) (us : Nat := 10) : Host.Outcome State Fault Refusal :=
  s.event 1 (·.fioVf millivolts us)

/-- FI_WIRE_BREAK_CLEARED (R347). -/
def execFiWireBreakCleared (n : Fin 16) (s : State) (ms : Nat := 65535) : Host.Outcome State Fault Refusal :=
  s.event 1 (·.fiWire n false ms)

end Sys2Proof.Machine
end

