-- ==== Sys2Proof/Machine/RowsGaf.lean ====
section
/-!
DEFINITION. Meanings of the rows: Master channels, gearing and cams (03_gaffer_and_gearing.md).
-/

namespace Sys2Proof.Machine

/-- GAFFER_SEGMENT (R80). -/
def execGafferSegment (m : Fin 8) (words : List (BitVec 32)) (s : State) : Host.Outcome State Fault Refusal :=
  s.event 8 fun d => (d.segPush m (wordsNat words)).2

/-- SEGMENT_LIVE (R78). -/
def execSegmentLive (m : Fin 8) (s : State) : Host.Outcome State Fault Refusal :=
  s.event 8 (·.segmentLive m)

/-- GM_STALE (R87). -/
def execGmStale (m : Fin 8) (s : State) : Host.Outcome State Fault Refusal :=
  s.event 8 (·.gmStale m)

/-- GM_GRACE_EXPIRED (R89). -/
def execGmGraceExpired (m : Fin 8) (s : State) : Host.Outcome State Fault Refusal :=
  s.event 8 (·.graceExpired m)

/-- GM_CTRL_WRITE (R77). -/
def execGmCtrlWrite (w : Who) (m : Fin 8) (v : BitVec 32) (s : State) : Host.Outcome State Fault Refusal :=
  s.writeWord w (F.gmCtrl_en.addr m 0) v.toNat

/-- GM_FLUSH (R83). -/
def execGmFlush (w : Who) (m : Fin 8) (s : State) : Host.Outcome State Fault Refusal :=
  s.writeField w F.gmCtrl_flush m 0 1

/-- STALEMODE_WRITE (R88). -/
def execStalemodeWrite (w : Who) (m : Fin 8) (mode : Fin 4) (grace : BitVec 32) (s : State) : Host.Outcome State Fault Refusal :=
  s.command w (F.gmCtrl_stalemode.addr m 0) fun d => alsoAt (F.gmGrace_grace.addr m 0) (d.staleWrite m mode grace.toNat)

/-- ENGAGE (R105). -/
def execEngage (w : Who) (n : Fin 8) (phase : Bool) (s : State) : Host.Outcome State Fault Refusal :=
  s.command w (F.axEcmd_engage.addr n 0) (·.engage n phase)

/-- DISENGAGE (R105). -/
def execDisengage (w : Who) (n : Fin 8) (phase : Bool) (s : State) : Host.Outcome State Fault Refusal :=
  s.command w (F.axEcmd_disengage.addr n 0) (·.disengage n phase)

/-- ABORT (R105). -/
def execAbort (w : Who) (n : Fin 8) (s : State) : Host.Outcome State Fault Refusal :=
  s.command w (F.axEcmd_abort.addr n 0) (·.abortCmd n)

/-- CAMSEL_ARM (R103). -/
def execCamselArm (w : Who) (n : Fin 8) (cur next : Fin 16) (nxv : Bool) (s : State) : Host.Outcome State Fault Refusal :=
  s.command w (F.axCamsel_cur.addr n 0) (·.camselWrite n cur next nxv)

/-- LMSHIFT_WRITE (R94). -/
def execLmshiftWrite (w : Who) (src : Fin 12) (v : Fin 64) (s : State) : Host.Outcome State Fault Refusal :=
  s.command w (shiftAddr src) (·.shiftWrite src v)

/-- CAM_DESCRIPTOR_WRITE (R99). -/
def execCamDescriptorWrite (w : Who) (addr v : BitVec 32) (s : State) : Host.Outcome State Fault Refusal :=
  s.command w addr.toNat (·.camWrite addr.toNat v.toNat)

end Sys2Proof.Machine
end

