-- ==== Sys2Proof/Machine/RowsGth.lean ====
section
/-!
DEFINITION. Meanings of the rows: Gather (10_gather.md).
-/

namespace Sys2Proof.Machine

/-- GTH_ARM (R278). -/
def execGthArm (w : Who) (s : State) : Host.Outcome State Fault Refusal :=
  s.writeField w F.gthCmd_arm 0 0 1

/-- GTH_STOP (R277). -/
def execGthStop (w : Who) (s : State) : Host.Outcome State Fault Refusal :=
  s.writeField w F.gthCmd_stop 0 0 1

/-- FORCE (R280). -/
def execForce (w : Who) (s : State) : Host.Outcome State Fault Refusal :=
  s.writeField w F.gthCmd_force 0 0 1

/-- STREAM (R286). -/
def execStream (w : Who) (s : State) : Host.Outcome State Fault Refusal :=
  s.writeField w F.gthCmd_stream 0 0 1

/-- ROW_COMMIT (R276). -/
def execRowCommit (s : State) : Host.Outcome State Fault Refusal :=
  s.event 8 (·.rowCommit)

/-- CLASS_E_TRIGGER (R280). -/
def execClassETrigger (s : State) : Host.Outcome State Fault Refusal :=
  s.event 8 (·.classE)

/-- HOLD_OFF_END (R283). -/
def execHoldOffEnd (s : State) : Host.Outcome State Fault Refusal :=
  s.event 8 (·.holdOffEnd)

/-- STREAM_END (R286). -/
def execStreamEnd (s : State) : Host.Outcome State Fault Refusal :=
  s.event 8 (·.bulkSerial.streamEnd)

end Sys2Proof.Machine
end

