-- ==== Sys2Proof/Machine/RowsLeg.lean ====
section
/-!
DEFINITION. Meanings of the rows: Legs, gate drive and protection (06_legs_and_gate_drive.md).
-/

namespace Sys2Proof.Machine

/-- EDGE_DUE (R180). -/
def execEdgeDue (n : Fin 24) (low : Bool) (s : State) : Host.Outcome State Fault Refusal :=
  s.event 7 (·.edgeDue n low)

/-- HANDSHAKE_TIMEOUT (R182). -/
def execHandshakeTimeout (legs : BitVec 24) (s : State) : Host.Outcome State Fault Refusal :=
  s.event 7 (·.handshake legs.toNat)

/-- BST_UV (R183). -/
def execBstUv (legs : List (Fin 24 × Nat)) (s : State) : Host.Outcome State Fault Refusal :=
  s.event 7 (·.bstUv (legs.map fun x => (x.1.val, x.2)))

/-- SC_REPORT (R185). -/
def execScReport (n : Fin 24) (high : Bool) (x : Int) (more : List (Fin 24 × Bool × Int)) (s : State) : Host.Outcome State Fault Refusal :=
  s.event 7 (·.scReport (((n, high, x) :: more).map fun x => { leg := x.1, high := x.2.1, i := x.2.2 }))

/-- TRIP_INPUT_CHANGE (R186). -/
def execTripInputChange (k : Fin 4) (level : Bool) (s : State) (clocks : Nat := 65535) : Host.Outcome State Fault Refusal :=
  s.event 7 (·.tripInput k level clocks)

/-- TRIP_CFG_WRITE (R186). -/
def execTripCfgWrite (w : Who) (k : Fin 4) (v : BitVec 32) (s : State) : Host.Outcome State Fault Refusal :=
  s.writeWord w (F.tripCfg_en.addr k 0) v.toNat

/-- SUPPLY_TRIP_CHANGE (R187). -/
def execSupplyTripChange (src : Fin 3) (mV : Nat) (s : State) (clocks : Nat := 256) : Host.Outcome State Fault Refusal :=
  s.event 7 (·.supplyTrip src mV clocks)

/-- OT_MEASUREMENT (R187). -/
def execOtMeasurement (g : Fin 6) (celsius : Int) (s : State) : Host.Outcome State Fault Refusal :=
  s.event 7 (·.otMeasure g celsius)

/-- LEG_CFG_WRITE (R170). -/
def execLegCfgWrite (w : Who) (n : Fin 24) (reg : Fin 6) (v : BitVec 32) (s : State) : Host.Outcome State Fault Refusal :=
  s.writeWord w (0xA0000 + 0x800 * n + 4 * reg) v.toNat

/-- BRAKE_STATE (R194). -/
def execBrakeState (n : Fin 24) (s : State) : Host.Outcome State Fault Refusal :=
  s.event 7 (·.brakeEval n)

/-- BRAKE_PULL_END (R194). -/
def execBrakePullEnd (n : Fin 24) (s : State) : Host.Outcome State Fault Refusal :=
  s.event 7 (·.brakePullEnd n)

/-- LEG_REARM (R195). -/
def execLegRearm (w : Who) (n : Fin 24) (s : State) : Host.Outcome State Fault Refusal :=
  s.writeField w F.legFlt_rearm n 0 1

/-- GATE_SENSED_LOW (R182). -/
def execGateSensedLow (n : Fin 24) (s : State) : Host.Outcome State Fault Refusal :=
  s.event 7 (·.gateSensedLow n)

/-- BST_LOCKOUT_RELEASE (R183). -/
def execBstLockoutRelease (n : Fin 24) (s : State) (mV : Nat := 20000) : Host.Outcome State Fault Refusal :=
  s.event 7 (·.bstRelease n mV)

end Sys2Proof.Machine
end

