-- ==== Sys2Proof/Machine/RowsLoop.lean ====
section
/-!
DEFINITION. Meanings of the rows: Loop commands and tables (05_marver_loops.md).
-/

namespace Sys2Proof.Machine

/-- CLOSE_CUR (R162). -/
def execCloseCur (w : Who) (n : Fin 8) (s : State) : Host.Outcome State Fault Refusal :=
  s.command w (R.axLoopctl.base + 0x2000 * n) (·.loopCmd n 0)

/-- CLOSE_VEL (R162). -/
def execCloseVel (w : Who) (n : Fin 8) (s : State) : Host.Outcome State Fault Refusal :=
  s.command w (R.axLoopctl.base + 0x2000 * n) (·.loopCmd n 1)

/-- CLOSE_POS (R162). -/
def execClosePos (w : Who) (n : Fin 8) (s : State) : Host.Outcome State Fault Refusal :=
  s.command w (R.axLoopctl.base + 0x2000 * n) (·.loopCmd n 2)

/-- OPEN_CUR (R162). -/
def execOpenCur (w : Who) (n : Fin 8) (s : State) : Host.Outcome State Fault Refusal :=
  s.command w (R.axLoopctl.base + 0x2000 * n) (·.loopCmd n 3)

/-- OPEN_VEL (R162). -/
def execOpenVel (w : Who) (n : Fin 8) (s : State) : Host.Outcome State Fault Refusal :=
  s.command w (R.axLoopctl.base + 0x2000 * n) (·.loopCmd n 4)

/-- OPEN_POS (R162). -/
def execOpenPos (w : Who) (n : Fin 8) (s : State) : Host.Outcome State Fault Refusal :=
  s.command w (R.axLoopctl.base + 0x2000 * n) (·.loopCmd n 5)

/-- LOOP_HOLD_EXPIRED (R164). -/
def execLoopHoldExpired (n : Fin 8) (s : State) : Host.Outcome State Fault Refusal :=
  s.event 8 (·.holdExpire n)

/-- FF_TABLE_WRITE (R158). -/
def execFfTableWrite (w : Who) (n : Fin 8) (word : Fin 8192) (v : BitVec 32) (s : State) : Host.Outcome State Fault Refusal :=
  s.writeWord w (0x2C0000 + 0x8000 * n + 4 * word) v.toNat

end Sys2Proof.Machine
end

