-- ==== Sys2Proof/Machine/RowsMarv.lean ====
section
/-!
DEFINITION. Meanings of the rows: Carrier, stages and time bases (R26 to R31, R45 to R68, R134, R152, R177).
-/

namespace Sys2Proof.Machine

/-- CARRIER_UPDATE (R177). -/
def execCarrierUpdate (n : Fin 8) (s : State) : Host.Outcome State Fault Refusal :=
  s.event 8 (·.carrierUpdate n)

/-- CURRENT_STAGE (R152). -/
def execCurrentStage (n : Fin 8) (p : Parity) (s : State) : Host.Outcome State Fault Refusal :=
  s.event 8 (·.currentStage n p)

/-- OUTER_STAGES (R29). -/
def execOuterStages (n : Fin 8) (pos vel : Parity) (s : State) : Host.Outcome State Fault Refusal :=
  s.event 8 (·.outerStages n pos vel)

/-- DISABLED_AXIS_FEEDBACK (R134). -/
def execDisabledAxisFeedback (n : Fin 8) (s : State) : Host.Outcome State Fault Refusal :=
  s.event 6 (·.disabledFeedback n)

end Sys2Proof.Machine
end

