-- ==== Sys2Proof/Machine/RowsMgt.lean ====
section
/-!
DEFINITION. Meanings of the rows: Start-up, management and Lehr (16_power_reset_boot.md, 17_management_and_log.md).
-/

namespace Sys2Proof.Machine

/-- ROM_BOOT (R397). -/
def execRomBoot (s : State) : Host.Outcome State Fault Refusal :=
  s.event 3 (·.romBoot)

/-- IMAGE_SELECT (R398). -/
def execImageSelect (s : State) : Host.Outcome State Fault Refusal :=
  s.event 3 (·.imageSelect)

/-- CONFIGURATION (R399). -/
def execConfiguration (testPass : Bool) (parity : Option (Nat × Nat)) (s : State) : Host.Outcome State Fault Refusal :=
  s.event 3 (·.configuration testPass parity)

/-- DEVICE_READY (R389). -/
def execDeviceReady (s : State) : Host.Outcome State Fault Refusal :=
  s.event 2 (·.deviceReady)

/-- PWR_VDRV_WRITE (R378). -/
def execPwrVdrvWrite (w : Who) (v : Fin 128) (s : State) : Host.Outcome State Fault Refusal :=
  s.writeField w F.pwrVdrv_set 0 0 v

/-- GO (R403). -/
def execGo (w : Who) (s : State) : Host.Outcome State Fault Refusal :=
  s.writeField w F.fusePcmd_go 0 0 1

/-- FUSE_PROGRAMMED (R403). -/
def execFuseProgrammed (s : State) : Host.Outcome State Fault Refusal :=
  s.event 1 (·.fuseProgrammed)

/-- UPD_OPEN (R409). -/
def execUpdOpen (s : State) : Host.Outcome State Fault Refusal :=
  s.event 3 (·.updOpen)

/-- UPD_CLOSE (R411). -/
def execUpdClose (s : State) : Host.Outcome State Fault Refusal :=
  s.event 3 (·.updClose)

/-- ACT_FW (R412). -/
def execActFw (s : State) : Host.Outcome State Fault Refusal :=
  s.event 3 (·.actFw)

/-- ACT_AXES (R413). -/
def execActAxes (parity : Option (Nat × Nat)) (s : State) : Host.Outcome State Fault Refusal :=
  s.event 3 (·.actAxes parity)

/-- RECYCLE (R406). -/
def execRecycle (s : State) : Host.Outcome State Fault Refusal :=
  s.event 3 (·.mbRecycle)

/-- UPDATE_CHUNK (R410). -/
def execUpdateChunk (s : State) : Host.Outcome State Fault Refusal :=
  s.event 3 (·.updateChunk)

/-- MGMT_WATCHDOG_EXPIRY (R406). -/
def execMgmtWatchdogExpiry (s : State) : Host.Outcome State Fault Refusal :=
  s.event 3 (·.watchdogExpiry)

/-- MGT_RECYCLE (R406). -/
def execMgtRecycle (s : State) : Host.Outcome State Fault Refusal :=
  s.event 3 (·.mgtRecycle)

/-- MBOUT_READ (R408). -/
def execMboutRead (w : Who) (word : Fin 8) (s : State) : Host.Outcome State Fault Refusal :=
  s.readWord w (F.mgtMbout_word.addr word 0)

/-- SENSOR_SAMPLE (R414). -/
def execSensorSample (vio vcore va vbat : BitVec 32) (s : State) : Host.Outcome State Fault Refusal :=
  s.event 3 (·.sensorSample vio.toNat vcore.toNat va.toNat vbat.toNat)

/-- SENSCTL_CLR (R414). -/
def execSensctlClr (w : Who) (s : State) : Host.Outcome State Fault Refusal :=
  s.writeField w F.mgtSensctl_clr 0 0 1

/-- CRYSTAL_CHECK (R415). -/
def execCrystalCheck (count : Nat) (s : State) : Host.Outcome State Fault Refusal :=
  s.event 3 (·.crystalCheck count)

/-- SCRUB_PASS (R426). -/
def execScrubPass (ms : Nat) (errors : List ScrubErr) (s : State) : Host.Outcome State Fault Refusal :=
  s.event 3 (·.scrubPass ms errors)

/-- JOURNAL_FLUSH (R427). -/
def execJournalFlush (s : State) : Host.Outcome State Fault Refusal :=
  s.event 3 (·.journalFlush)

/-- LEHR_STARVED (R425). -/
def execLehrStarved (i : Fin 6) (s : State) : Host.Outcome State Fault Refusal :=
  s.event 3 (·.lehrStarved i)

/-- HEALTH (R428). -/
def execHealth (s : State) : Host.Outcome State Fault Refusal :=
  s.event 3 (·.health)

/-- OPSEC_MIRROR (R422). -/
def execOpsecMirror (s : State) : Host.Outcome State Fault Refusal :=
  s.event 3 (·.opsecMirror)

/-- BATCH_SOURCE_RELOAD (R166). -/
def execBatchSourceReload (addr : BitVec 32) (s : State) : Host.Outcome State Fault Refusal :=
  s.event 3 (·.batchReload addr.toNat)

/-- VDRV_RAMP_END (R378). -/
def execVdrvRampEnd (s : State) : Host.Outcome State Fault Refusal :=
  s.event 1 (·.vdrvRampEnd)

end Sys2Proof.Machine
end

