-- ==== Sys2Proof/Machine/RowsNet.lean ====
section
/-!
DEFINITION. Meanings of the rows: Network ports, frames and messages (11_network_ports.md).
-/

namespace Sys2Proof.Machine

/-- LINK_UP (R290). -/
def execLinkUp (p : Fin 2) (s : State) (ms : Nat := 65535) : Host.Outcome State Fault Refusal :=
  s.event 11 (·.linkUp p ms)

/-- LINK_DOWN (R290). -/
def execLinkDown (p : Fin 2) (why : DownBy) (s : State) : Host.Outcome State Fault Refusal :=
  s.event 11 (·.linkDown p why)

/-- FRAME_FORWARD (R293). -/
def execFrameForward (p : Fin 2) (f : Frame) (good : Bool) (s : State) : Host.Outcome State Fault Refusal :=
  s.event (12 + p) (·.frameForward p { f with fcs := good })

/-- EVX_FRAME_TAKEN (R297). -/
def execEvxFrameTaken (s : State) : Host.Outcome State Fault Refusal :=
  s.event 11 (·.evxTaken)

/-- GAFFER_FRAME (R299). -/
def execGafferFrame (s : State) : Host.Outcome State Fault Refusal :=
  s.event 11 (·.gafferFrame)

/-- SAFE_FRAME_RX (R308). -/
def execSafeFrameRx (s : State) : Host.Outcome State Fault Refusal :=
  s.event 11 (·.safeFrameRx)

/-- TRIG_FRAME (R309). -/
def execTrigFrame (s : State) : Host.Outcome State Fault Refusal :=
  s.event 11 (·.trigFrame)

/-- TRIG_FRAME_TRIGGER (R285). -/
def execTrigFrameTrigger (s : State) : Host.Outcome State Fault Refusal :=
  s.event 11 (·.trigFrameTrigger)

/-- BULK_FRAME (R310). -/
def execBulkFrame (s : State) : Host.Outcome State Fault Refusal :=
  s.event 11 (·.bulkFrame)

/-- EGRESS_IDLE (R295). -/
def execEgressIdle (p : Fin 2) (s : State) : Host.Outcome State Fault Refusal :=
  s.event 11 (·.egressIdle p)

/-- RSP_FRAME (R303). -/
def execRspFrame (port : Fin 4) (s : State) : Host.Outcome State Fault Refusal :=
  s.event (portDom port) (·.rspFrame port)

/-- STATUS_SLOT (R305). -/
def execStatusSlot (p : Fin 2) (s : State) : Host.Outcome State Fault Refusal :=
  s.event 11 (·.statusSlot p)

/-- NET_STATUS_GATED (R306). -/
def execNetStatusGated (p : Fin 2) (s : State) : Host.Outcome State Fault Refusal :=
  s.event 11 (·.statusGate p)

/-- STCFG_EN_WRITE (R306). -/
def execStcfgEnWrite (w : Who) (en : Bool) (s : State) : Host.Outcome State Fault Refusal :=
  s.writeField w F.netStcfg_en 0 0 (b2n en)

/-- EVENT_FRAME (R307). -/
def execEventFrame (s : State) : Host.Outcome State Fault Refusal :=
  s.event 2 (·.eventFrame)

/-- HOST_MESSAGE (R312). -/
def execHostMessage (m : HostMsg) (s : State) : Host.Outcome State Fault Refusal :=
  s.event 2 (·.hostMessage m)

/-- SERVICE_MESSAGE (R313). -/
def execServiceMessage (bytes : List (BitVec 8)) (s : State) : Host.Outcome State Fault Refusal :=
  s.event 2 (·.serviceMessage bytes)

/-- MDIO_OP (R289). -/
def execMdioOp (w : Who) (p : Fin 2) (v : BitVec 32) (s : State) : Host.Outcome State Fault Refusal :=
  s.writeWord w (F.netPMdio_op.addr p 0) v.toNat

/-- MDIO_DONE (R289). -/
def execMdioDone (p : Fin 2) (data : BitVec 16) (s : State) : Host.Outcome State Fault Refusal :=
  s.event 11 (·.mdioDone p data.toNat)

/-- AN_RESTART (R290). -/
def execAnRestart (w : Who) (p : Fin 2) (s : State) : Host.Outcome State Fault Refusal :=
  s.writeField w F.netPCtrl_restart p 0 1

/-- RX_CLOCK_CHANGEOVER (R385). -/
def execRxClockChangeover (p : Fin 2) (recovered : Bool) (s : State) : Host.Outcome State Fault Refusal :=
  s.event (12 + p) (·.rxClock p recovered)

end Sys2Proof.Machine
end

