-- ==== Sys2Proof/Machine/RowsPnt.lean ====
section
/-!
DEFINITION. Meanings of the rows: Punty lanes (09_punty_lanes.md).
-/

namespace Sys2Proof.Machine

/-- HOOK_DUE (R263). -/
def execHookDue (n : Fin 8) (k : Fin 3) (s : State) : Host.Outcome State Fault Refusal :=
  s.event 9 (·.hookDue n k)

/-- LANE_RUN_START (R264). -/
def execLaneRunStart (n : Fin 8) (s : State) : Host.Outcome State Fault Refusal :=
  s.event 9 (·.laneStart n)

/-- LANE_BUDGET_EXPIRY (R265). -/
def execLaneBudgetExpiry (n : Fin 8) (s : State) : Host.Outcome State Fault Refusal :=
  s.event 9 (·.laneExpiry n)

/-- PNT_FAULT (R257). -/
def execPntFault (n : Fin 8) (s : State) : Host.Outcome State Fault Refusal :=
  s.event 9 (·.pntFaultRow n)

/-- PNT_PARITY (R270). -/
def execPntParity (n : Fin 8) (offset : Fin 65536) (s : State) : Host.Outcome State Fault Refusal :=
  s.event 9 (·.pntParityRow n offset)

/-- NOP (R258). -/
def execNop (n : Fin 8) (s : State) : Host.Outcome State Fault Refusal :=
  s.lane n .nop

/-- LD (R253). -/
def execLd (n : Fin 8) (d : Fin 16) (a : Fin 8) (pa : Bool) (s : State) : Host.Outcome State Fault Refusal :=
  s.lane n (.ld d a pa)

/-- ST (R253). -/
def execSt (n : Fin 8) (d : Fin 16) (a : Fin 8) (pa : Bool) (s : State) : Host.Outcome State Fault Refusal :=
  s.lane n (.st d a pa)

/-- LDD (R258). -/
def execLdd (n : Fin 8) (d : Fin 16) (addr : Fin 16384) (s : State) : Host.Outcome State Fault Refusal :=
  s.lane n (.ldd d addr)

/-- STD (R258). -/
def execStd (n : Fin 8) (d : Fin 16) (addr : Fin 16384) (s : State) : Host.Outcome State Fault Refusal :=
  s.lane n (.std d addr)

/-- LDI (R258). -/
def execLdi (n : Fin 8) (d : Fin 16) (imm : Fin 65536) (s : State) : Host.Outcome State Fault Refusal :=
  s.lane n (.ldi d imm)

/-- LDIH (R258). -/
def execLdih (n : Fin 8) (d : Fin 16) (imm : Fin 65536) (s : State) : Host.Outcome State Fault Refusal :=
  s.lane n (.ldih d imm)

/-- MOV (R258). -/
def execMov (n : Fin 8) (d r : Fin 16) (s : State) : Host.Outcome State Fault Refusal :=
  s.lane n (.mov d r)

/-- LDA (R258). -/
def execLda (n : Fin 8) (p : Fin 8) (imm : Fin 16384) (s : State) : Host.Outcome State Fault Refusal :=
  s.lane n (.lda p imm)

/-- LDM (R258). -/
def execLdm (n : Fin 8) (p : Fin 8) (imm : Fin 16384) (s : State) : Host.Outcome State Fault Refusal :=
  s.lane n (.ldm p imm)

/-- MOVA (R258). -/
def execMova (n : Fin 8) (p : Fin 8) (r : Fin 16) (s : State) : Host.Outcome State Fault Refusal :=
  s.lane n (.mova p r)

/-- MOVM (R258). -/
def execMovm (n : Fin 8) (p : Fin 8) (r : Fin 16) (s : State) : Host.Outcome State Fault Refusal :=
  s.lane n (.movm p r)

/-- ADD (R256). -/
def execAdd (n : Fin 8) (d r t : Fin 16) (s : State) : Host.Outcome State Fault Refusal :=
  s.lane n (.add d r t)

/-- SUB (R256). -/
def execSub (n : Fin 8) (d r t : Fin 16) (s : State) : Host.Outcome State Fault Refusal :=
  s.lane n (.sub d r t)

/-- NEG (R256). -/
def execNeg (n : Fin 8) (d r : Fin 16) (s : State) : Host.Outcome State Fault Refusal :=
  s.lane n (.neg d r)

/-- ABS (R256). -/
def execAbs (n : Fin 8) (d r : Fin 16) (s : State) : Host.Outcome State Fault Refusal :=
  s.lane n (.abs d r)

/-- MIN (R258). -/
def execMin (n : Fin 8) (d r t : Fin 16) (s : State) : Host.Outcome State Fault Refusal :=
  s.lane n (.min d r t)

/-- MAX (R258). -/
def execMax (n : Fin 8) (d r t : Fin 16) (s : State) : Host.Outcome State Fault Refusal :=
  s.lane n (.max d r t)

/-- AND (R258). -/
def execAnd (n : Fin 8) (d r t : Fin 16) (s : State) : Host.Outcome State Fault Refusal :=
  s.lane n (.and d r t)

/-- OR (R258). -/
def execOr (n : Fin 8) (d r t : Fin 16) (s : State) : Host.Outcome State Fault Refusal :=
  s.lane n (.or d r t)

/-- XOR (R258). -/
def execXor (n : Fin 8) (d r t : Fin 16) (s : State) : Host.Outcome State Fault Refusal :=
  s.lane n (.xor d r t)

/-- SHL (R258). -/
def execShl (n : Fin 8) (d r : Fin 16) (k : Fin 32) (s : State) : Host.Outcome State Fault Refusal :=
  s.lane n (.shl d r k)

/-- SHR (R258). -/
def execShr (n : Fin 8) (d r : Fin 16) (k : Fin 32) (s : State) : Host.Outcome State Fault Refusal :=
  s.lane n (.shr d r k)

/-- MULQ (R258). -/
def execMulq (n : Fin 8) (d r t : Fin 16) (s : State) : Host.Outcome State Fault Refusal :=
  s.lane n (.mulq d r t)

/-- CMP (R256). -/
def execCmp (n : Fin 8) (r t : Fin 16) (s : State) : Host.Outcome State Fault Refusal :=
  s.lane n (.cmp r t)

/-- MPY (R251). -/
def execMpy (n : Fin 8) (x : Fin 2) (r t : Fin 16) (s : State) : Host.Outcome State Fault Refusal :=
  s.lane n (.mpy x r t)

/-- MAC (R251). -/
def execMac (n : Fin 8) (x : Fin 2) (r t : Fin 16) (s : State) : Host.Outcome State Fault Refusal :=
  s.lane n (.mac x r t)

/-- MSU (R251). -/
def execMsu (n : Fin 8) (x : Fin 2) (r t : Fin 16) (s : State) : Host.Outcome State Fault Refusal :=
  s.lane n (.msu x r t)

/-- MACM (R253). -/
def execMacm (n : Fin 8) (x : Fin 2) (a : Fin 8) (pa : Bool) (b : Fin 8) (pb : Bool) (s : State) : Host.Outcome State Fault Refusal :=
  s.lane n (.macm x a pa b pb)

/-- CLR (R258). -/
def execClr (n : Fin 8) (x : Fin 2) (s : State) : Host.Outcome State Fault Refusal :=
  s.lane n (.clr x)

/-- LDACC (R251). -/
def execLdacc (n : Fin 8) (x : Fin 2) (r : Fin 16) (s : State) : Host.Outcome State Fault Refusal :=
  s.lane n (.ldacc x r)

/-- ACCADD (R251). -/
def execAccadd (n : Fin 8) (x : Fin 2) (s : State) : Host.Outcome State Fault Refusal :=
  s.lane n (.accadd x)

/-- EXT (R251). -/
def execExt (n : Fin 8) (d : Fin 16) (x : Fin 2) (sh : Fin 64) (s : State) : Host.Outcome State Fault Refusal :=
  s.lane n (.ext d x sh)

/-- ACCSH (R251). -/
def execAccsh (n : Fin 8) (x : Fin 2) (sh : Fin 64) (s : State) : Host.Outcome State Fault Refusal :=
  s.lane n (.accsh x sh)

/-- MAXI (R255). -/
def execMaxi (n : Fin 8) (d r t : Fin 16) (s : State) : Host.Outcome State Fault Refusal :=
  s.lane n (.maxi d r t)

/-- MINI (R255). -/
def execMini (n : Fin 8) (d r t : Fin 16) (s : State) : Host.Outcome State Fault Refusal :=
  s.lane n (.mini d r t)

/-- REP (R254). -/
def execRep (n : Fin 8) (count last : Fin 4096) (s : State) : Host.Outcome State Fault Refusal :=
  s.lane n (.rep count last)

/-- REPD (R254). -/
def execRepd (n : Fin 8) (r : Fin 16) (last : Fin 4096) (s : State) : Host.Outcome State Fault Refusal :=
  s.lane n (.repd r last)

/-- BR (R254). -/
def execBr (n : Fin 8) (target : Fin 4096) (s : State) : Host.Outcome State Fault Refusal :=
  s.lane n (.br target)

/-- BRC (R256). -/
def execBrc (n : Fin 8) (cond : Fin 8) (target : Fin 4096) (s : State) : Host.Outcome State Fault Refusal :=
  s.lane n (.brc cond target)

/-- END (R262). -/
def execFin (n : Fin 8) (s : State) : Host.Outcome State Fault Refusal :=
  s.event 9 (·.laneEnd n)

/-- LANE_RUN_WRITE (R266). -/
def execLaneRunWrite (w : Who) (n : Fin 8) (run : Bool) (s : State) : Host.Outcome State Fault Refusal :=
  s.writeField w F.plCtrl_run n 0 (b2n run)

/-- LANE_BIND_WRITE (R267). -/
def execLaneBindWrite (w : Who) (n : Fin 8) (bind : Bool) (axis : Fin 8) (s : State) : Host.Outcome State Fault Refusal :=
  s.command w (F.plCtrl_bind.addr n 0) (·.laneBindWrite n bind axis w.port)

/-- LANE_MEMORY_WRITE (R268). -/
def execLaneMemoryWrite (w : Who) (n : Fin 8) (offset : Fin 65536) (v : BitVec 32) (s : State) : Host.Outcome State Fault Refusal :=
  s.writeWord w (laneBase n + offset) v.toNat

/-- PARAM_WRITE (R269). -/
def execParamWrite (w : Who) (n : Fin 8) (k : Fin 16) (v : BitVec 32) (s : State) : Host.Outcome State Fault Refusal :=
  s.writeWord w (F.plParam_value.addr n k) v.toNat

end Sys2Proof.Machine
end

