-- ==== Sys2Proof/Machine/RowsRst.lean ====
section
/-!
DEFINITION. Meanings of the rows: Supplies, reset and the release sequence (16_power_reset_boot.md).
-/

namespace Sys2Proof.Machine

/-- RESET_N (R380). -/
def execResetN (clocks : Nat) (s : State) : Host.Outcome State Fault Refusal :=
  s.sequence (resetN clocks)

/-- MAIN_POWER_ON_RESET (R380). -/
def execMainPowerOnReset (mV : Rails) (clocks : Nat) (s : State) : Host.Outcome State Fault Refusal :=
  s.sequence (mainPor mV clocks)

/-- BACKUP_POWER_ON_RESET (R381). -/
def execBackupPowerOnReset (s : State) (mV : Nat := 0) (clocks : Nat := 50) : Host.Outcome State Fault Refusal :=
  s.sequence (backupPor mV clocks)

/-- BUCK_START (R377). -/
def execBuckStart (sel : Fin 4) (s : State) (mV : Nat := 48000) : Host.Outcome State Fault Refusal :=
  s.sequence (buckStart sel mV)

/-- BUCK_STOP (R377). -/
def execBuckStop (s : State) (mV : Nat := 0) : Host.Outcome State Fault Refusal :=
  s.sequence (buckStop mV)

/-- SEQUENCE_START (R383). -/
def execSequenceStart (clksrc : Bool) (s : State) (high : Nat := 250) (mV : Rails := ⟨800, 3300, 1800, 5000⟩) (clocks : Nat := 50) :
    Host.Outcome State Fault Refusal :=
  s.sequence (sequenceStart clksrc high mV clocks)

/-- SOURCE_GOOD (R383). -/
def execSourceGood (s : State) (edges : Nat := 1024) : Host.Outcome State Fault Refusal :=
  s.sequence (sourceGood edges)

/-- DOMAIN_RELEASE (R384). -/
def execDomainRelease (s : State) (clocks : Nat := 64) : Host.Outcome State Fault Refusal :=
  s.sequence (domainRelease clocks)

/-- RST_GAP_EXPIRY (R384). -/
def execRstGapExpiry (s : State) : Host.Outcome State Fault Refusal :=
  s.sequence rstGapExpiry

/-- SEQUENCE_STOP (R386). -/
def execSequenceStop (s : State) : Host.Outcome State Fault Refusal :=
  s.sequence sequenceStop

/-- BACKUP_RESET_RELEASE (R380). -/
def execBackupResetRelease (s : State) (mV : Nat := 3000) (clocks : Nat := 50) : Host.Outcome State Fault Refusal :=
  s.sequence (backupRelease mV clocks)

end Sys2Proof.Machine
end

