-- ==== Sys2Proof/Machine/RowsSaf.lean ====
section
/-!
DEFINITION. Meanings of the rows: Safe stop and safety frames (14_safe_stop.md).
-/

namespace Sys2Proof.Machine

/-- STO_N_LOW (R356). -/
def execStoNLow (clocks : Nat) (s : State) : Host.Outcome State Fault Refusal :=
  s.event 1 (·.stoLow clocks)

/-- TEST_PULSE (R356). -/
def execTestPulse (clocks : Nat) (s : State) : Host.Outcome State Fault Refusal :=
  s.event 1 (·.testPulse clocks)

/-- STO_N_RELEASE (R356). -/
def execStoNRelease (s : State) (clocks : Nat := 2500) : Host.Outcome State Fault Refusal :=
  s.event 1 (·.stoRelease clocks)

/-- TPMISS (R357). -/
def execTpmiss (s : State) : Host.Outcome State Fault Refusal :=
  s.event 1 (·.tpMiss)

/-- SAF_STO (R354). -/
def execSafSto (s : State) : Host.Outcome State Fault Refusal :=
  s.event 1 (·.safEnterSto)

/-- SS1_ENTRY (R358). -/
def execSs1Entry (s : State) : Host.Outcome State Fault Refusal :=
  s.event 1 (·.safEnterSs1)

/-- SS1T_EXPIRY (R358). -/
def execSs1tExpiry (s : State) : Host.Outcome State Fault Refusal :=
  s.event 1 (·.safSs1Expiry)

/-- SAFETY_RUN (R355). -/
def execSafetyRun (s : State) : Host.Outcome State Fault Refusal :=
  s.event 1 (·.safRun)

/-- SAFE_COPY_CHECK (R359). -/
def execSafeCopyCheck (s : State) : Host.Outcome State Fault Refusal :=
  s.event 1 (·.safTake)

/-- SAFE_WINDOW_EXPIRY (R359). -/
def execSafeWindowExpiry (s : State) : Host.Outcome State Fault Refusal :=
  s.event 1 (·.safWindow)

/-- SAFE_PAIR_TIMEOUT (R359). -/
def execSafePairTimeout (s : State) : Host.Outcome State Fault Refusal :=
  s.event 1 (·.safTimeout)

/-- SAFETY_RESET (R363). -/
def execSafetyReset (clocks : Nat) (s : State) : Host.Outcome State Fault Refusal :=
  s.event 1 (·.safReset clocks)

/-- SEAL_SCAN (R364). -/
def execSealScan (first second third : BitVec 8) (s : State) : Host.Outcome State Fault Refusal :=
  s.event 1 (·.sealScan first.toNat second.toNat third.toNat)

/-- GEN_READBACK_FAIL (R354). -/
def execGenReadbackFail (g : Fin 6) (s : State) (us : Nat := 10) : Host.Outcome State Fault Refusal :=
  s.event 1 (·.genReadback g us)

/-- GEN_RUNTIME_TEST (R367). -/
def execGenRuntimeTest (g : Fin 6) (us : Nat) (s : State) (pass : Bool := true) : Host.Outcome State Fault Refusal :=
  s.event 1 (·.genTest g us pass)

/-- SAF_TEST_OVERDUE (R367). -/
def execSafTestOverdue (g : Fin 6) (s : State) : Host.Outcome State Fault Refusal :=
  s.event 1 (·.safOverdue g)

end Sys2Proof.Machine
end

