-- ==== Sys2Proof/Machine/RowsSns.lean ====
section
/-!
DEFINITION. Meanings of the rows: Sense channels and converters (07_current_sensing.md).
-/

namespace Sys2Proof.Machine

/-- HOLD_SET (R200). -/
def execHoldSet (n : Fin 24) (s : State) : Host.Outcome State Fault Refusal :=
  s.event 7 (·.holdSet n)

/-- HOLD_SET_CONVERTED (R197). -/
def execHoldSetConverted (g : Fin 6) (codes : List Int) (s : State) : Host.Outcome State Fault Refusal :=
  s.event 5 (·.holdConverted g codes)

/-- SNS_CFG_WRITE (R198). -/
def execSnsCfgWrite (w : Who) (g : Fin 6) (v : BitVec 32) (s : State) : Host.Outcome State Fault Refusal :=
  s.writeWord w (R.snsCfg.base + 0x40 * g) v.toNat

/-- OFFSET_CALIBRATION (R208). -/
def execOffsetCalibration (n : Fin 24) (code : Int) (s : State) : Host.Outcome State Fault Refusal :=
  s.event 5 (·.offsetCal n code)

/-- SNS_OFS_STALE (R208). -/
def execSnsOfsStale (n : Fin 24) (s : State) : Host.Outcome State Fault Refusal :=
  s.event 5 (·.ofsStale n)

/-- GAIN_INJECTION (R209). -/
def execGainInjection (n : Fin 24) (code : Int) (s : State) : Host.Outcome State Fault Refusal :=
  s.event 5 (·.gainInject n code)

/-- DELAY_LINE_CALIBRATION (R210). -/
def execDelayLineCalibration (unit : Fin 32) (s : State) (taps : List Nat := []) : Host.Outcome State Fault Refusal :=
  s.event 7 (·.delayCal unit taps)

/-- AUX_CONVERSION (R211). -/
def execAuxConversion (c : Fin 2) (channel : Fin 38) (s : State) (v : Int := 0) : Host.Outcome State Fault Refusal :=
  s.event 5 (·.auxConv c channel v)

/-- SC_HOLD (R212). -/
def execScHold (q : Fin 4) (sin cos : Int) (s : State) : Host.Outcome State Fault Refusal :=
  s.event 5 (·.scHold q sin cos)

end Sys2Proof.Machine
end

