-- ==== Sys2Proof/Machine/RowsTime.lean ====
section
/-!
DEFINITION. Meanings of the rows: Time bases and launches (02_time_bases.md).
-/

namespace Sys2Proof.Machine

/-- TSFR_READ (R47). -/
def execTsfrRead (w : Who) (tb : Fin 4) (s : State) : Host.Outcome State Fault Refusal :=
  s.readWord w (R.tbTsfr.base + 0x100 * tb)

/-- SRC_WRITE (R50). -/
def execSrcWrite (w : Who) (tb : Fin 4) (src : Fin 4) (port : Fin 2) (domain minor : Fin 256) (major : Fin 16)
    (s : State) : Host.Outcome State Fault Refusal :=
  s.command w (F.tbCtrl_src.addr tb 0) fun d => alsoAt (F.tbPtp_domain.addr tb 0) (d.srcWrite tb
    { src := src, port := port, domain := domain, minor := minor, major := major })

/-- LOAD (R51). -/
def execLoad (w : Who) (tb : Fin 4) (s : State) : Host.Outcome State Fault Refusal :=
  s.writeField w F.tbCtrl_load tb 0 1

/-- REARM (R52). -/
def execRearm (w : Who) (tb : Fin 4) (s : State) : Host.Outcome State Fault Refusal :=
  s.writeField w F.tbCtrl_rearm tb 0 1

/-- TB_RATE_WRITE (R57). -/
def execTbRateWrite (w : Who) (tb : Fin 4) (v : BitVec 32) (s : State) : Host.Outcome State Fault Refusal :=
  s.writeWord w (F.tbRate_rate.addr tb 0) v.toNat

/-- TB_RLIM_WRITE (R57). -/
def execTbRlimWrite (w : Who) (tb : Fin 4) (v : BitVec 32) (s : State) : Host.Outcome State Fault Refusal :=
  s.writeWord w (F.tbRlim_rlim.addr tb 0) v.toNat

/-- PTP_SYNC_MEASUREMENT (R64). -/
def execPtpSyncMeasurement (p : Fin 2) (domain : Fin 256) (major : Fin 16) (minor : Fin 256) (age sec ns : Nat) (corr : Int)
    (s : State) : Host.Outcome State Fault Refusal :=
  s.event 4 (·.ptpSync p domain major minor age (sec * 1000000000 + ns) corr)

/-- TB_SOURCE_TIMEOUT (R50). -/
def execTbSourceTimeout (tb : Fin 4) (s : State) : Host.Outcome State Fault Refusal :=
  s.event 4 (·.sourceTimeout tb)

/-- TRIGBUS_TIME_PULSE (R68). -/
def execTrigbusTimePulse (width age : Nat) (s : State) : Host.Outcome State Fault Refusal :=
  s.event 4 (·.trigPulse width age)

/-- TB_RATE_AT_LIMIT (R57). -/
def execTbRateAtLimit (tb : Fin 4) (s : State) : Host.Outcome State Fault Refusal :=
  s.event 4 (·.rateAtLimit tb)

/-- PDELAY_EXCHANGE (R65). -/
def execPdelayExchange (p : Fin 2) (answer : Option (Nat × Int)) (s : State) : Host.Outcome State Fault Refusal :=
  s.event 4 (·.pdelay p answer)

/-- PDELAY_RESPONSE (R59). -/
def execPdelayResponse (p : Fin 2) (r : PdelayReq) (s : State) : Host.Outcome State Fault Refusal :=
  s.event 11 (·.pdelayResponse p r)

/-- GM_SYNC_SEND (R59). -/
def execGmSyncSend (s : State) : Host.Outcome State Fault Refusal :=
  s.event 11 (·.gmSync)

/-- GM_ANNOUNCE_SEND (R59). -/
def execGmAnnounceSend (s : State) : Host.Outcome State Fault Refusal :=
  s.event 11 (·.gmAnnounce)

/-- SYNCCLK_STOP (R67). -/
def execSyncclkStop (s : State) : Host.Outcome State Fault Refusal :=
  s.event 4 (·.syncStop)

/-- SYNCCLK_RETURN (R67). -/
def execSyncclkReturn (s : State) : Host.Outcome State Fault Refusal :=
  s.event 4 (·.syncReturn)

/-- LCH_COMMIT (R75). -/
def execLchCommit (w : Who) (n : Fin 16) (v : BitVec 32) (s : State) : Host.Outcome State Fault Refusal :=
  s.writeWord w (F.lchTns_ns.addr n 0) v.toNat

/-- LAUNCH_FIRE (R74). -/
def execLaunchFire (n : Fin 16) (s : State) : Host.Outcome State Fault Refusal :=
  s.event 4 (·.launchFire n)

end Sys2Proof.Machine
end

