-- ==== Sys2Proof/Machine/Dispatch.lean ====
section
/-!
DEFINITION. The dispatch of a command to its meaning.
-/

namespace Sys2Proof.Machine

/-- The effect of a command on everything but the queue. -/
def exec (i : Instr) (s : State) : Host.Outcome State Fault Refusal :=
  match i with
  | .registerWrite w addr v => Sys2Proof.Machine.execRegisterWrite w addr v s
  | .read w mac addr count => Sys2Proof.Machine.execRead w mac addr count s
  | .write w mac addr data => Sys2Proof.Machine.execWrite w mac addr data s
  | .maskedWrite w mac addr data => Sys2Proof.Machine.execMaskedWrite w mac addr data s
  | .queuePush w mac q data => Sys2Proof.Machine.execQueuePush w mac q data s
  | .cmdFrame => Sys2Proof.Machine.execCmdFrame s
  | .commandStart => Sys2Proof.Machine.execCommandStart s
  | .carrierUpdate n => Sys2Proof.Machine.execCarrierUpdate n s
  | .currentStage n p => Sys2Proof.Machine.execCurrentStage n p s
  | .outerStages n pos vel => Sys2Proof.Machine.execOuterStages n pos vel s
  | .disabledAxisFeedback n => Sys2Proof.Machine.execDisabledAxisFeedback n s
  | .tsfrRead w tb => Sys2Proof.Machine.execTsfrRead w tb s
  | .srcWrite w tb src port domain minor major => Sys2Proof.Machine.execSrcWrite w tb src port domain minor major s
  | .load w tb => Sys2Proof.Machine.execLoad w tb s
  | .rearm w tb => Sys2Proof.Machine.execRearm w tb s
  | .tbRateWrite w tb v => Sys2Proof.Machine.execTbRateWrite w tb v s
  | .tbRlimWrite w tb v => Sys2Proof.Machine.execTbRlimWrite w tb v s
  | .ptpSyncMeasurement p domain major minor age sec ns corr => Sys2Proof.Machine.execPtpSyncMeasurement p domain major minor age sec ns corr s
  | .tbSourceTimeout tb => Sys2Proof.Machine.execTbSourceTimeout tb s
  | .trigbusTimePulse width age => Sys2Proof.Machine.execTrigbusTimePulse width age s
  | .tbRateAtLimit tb => Sys2Proof.Machine.execTbRateAtLimit tb s
  | .pdelayExchange p answer => Sys2Proof.Machine.execPdelayExchange p answer s
  | .pdelayResponse p r => Sys2Proof.Machine.execPdelayResponse p r s
  | .gmSyncSend => Sys2Proof.Machine.execGmSyncSend s
  | .gmAnnounceSend => Sys2Proof.Machine.execGmAnnounceSend s
  | .syncclkStop => Sys2Proof.Machine.execSyncclkStop s
  | .syncclkReturn => Sys2Proof.Machine.execSyncclkReturn s
  | .lchCommit w n v => Sys2Proof.Machine.execLchCommit w n v s
  | .launchFire n => Sys2Proof.Machine.execLaunchFire n s
  | .gafferSegment m words => Sys2Proof.Machine.execGafferSegment m words s
  | .segmentLive m => Sys2Proof.Machine.execSegmentLive m s
  | .gmStale m => Sys2Proof.Machine.execGmStale m s
  | .gmGraceExpired m => Sys2Proof.Machine.execGmGraceExpired m s
  | .gmCtrlWrite w m v => Sys2Proof.Machine.execGmCtrlWrite w m v s
  | .gmFlush w m => Sys2Proof.Machine.execGmFlush w m s
  | .stalemodeWrite w m mode grace => Sys2Proof.Machine.execStalemodeWrite w m mode grace s
  | .engage w n phase => Sys2Proof.Machine.execEngage w n phase s
  | .disengage w n phase => Sys2Proof.Machine.execDisengage w n phase s
  | .abort w n => Sys2Proof.Machine.execAbort w n s
  | .camselArm w n cur next nxv => Sys2Proof.Machine.execCamselArm w n cur next nxv s
  | .lmshiftWrite w src v => Sys2Proof.Machine.execLmshiftWrite w src v s
  | .camDescriptorWrite w addr v => Sys2Proof.Machine.execCamDescriptorWrite w addr v s
  | .enable w n => Sys2Proof.Machine.execEnable w n s
  | .run w n => Sys2Proof.Machine.execRun w n s
  | .still w n => Sys2Proof.Machine.execStill w n s
  | .stop w n => Sys2Proof.Machine.execStop w n s
  | .disable w n => Sys2Proof.Machine.execDisable w n s
  | .flush w n => Sys2Proof.Machine.execFlush w n s
  | .axisFaultEntry n by_ => Sys2Proof.Machine.execAxisFaultEntry n by_ s
  | .controlledStopCause n by_ => Sys2Proof.Machine.execControlledStopCause n by_ s
  | .axStopTimeout n => Sys2Proof.Machine.execAxStopTimeout n s
  | .autostill n => Sys2Proof.Machine.execAutostill n s
  | .moveAbs n => Sys2Proof.Machine.execMoveAbs n s
  | .moveRel n => Sys2Proof.Machine.execMoveRel n s
  | .velocity n => Sys2Proof.Machine.execVelocity n s
  | .offsetAbs n => Sys2Proof.Machine.execOffsetAbs n s
  | .offsetRel n => Sys2Proof.Machine.execOffsetRel n s
  | .limit n => Sys2Proof.Machine.execLimit n s
  | .mark n => Sys2Proof.Machine.execMark n s
  | .limitCommit w n limit v => Sys2Proof.Machine.execLimitCommit w n limit v s
  | .cmpCommit w n c v => Sys2Proof.Machine.execCmpCommit w n c v s
  | .cmpFired n c => Sys2Proof.Machine.execCmpFired n c s
  | .cmpDisarm w n c => Sys2Proof.Machine.execCmpDisarm w n c s
  | .cmpCtrlWrite w n c v => Sys2Proof.Machine.execCmpCtrlWrite w n c v s
  | .stepTimerExpiry n => Sys2Proof.Machine.execStepTimerExpiry n s
  | .stillModeChange w n still => Sys2Proof.Machine.execStillModeChange w n still s
  | .closeCur w n => Sys2Proof.Machine.execCloseCur w n s
  | .closeVel w n => Sys2Proof.Machine.execCloseVel w n s
  | .closePos w n => Sys2Proof.Machine.execClosePos w n s
  | .openCur w n => Sys2Proof.Machine.execOpenCur w n s
  | .openVel w n => Sys2Proof.Machine.execOpenVel w n s
  | .openPos w n => Sys2Proof.Machine.execOpenPos w n s
  | .loopHoldExpired n => Sys2Proof.Machine.execLoopHoldExpired n s
  | .ffTableWrite w n word v => Sys2Proof.Machine.execFfTableWrite w n word v s
  | .edgeDue n low => Sys2Proof.Machine.execEdgeDue n low s
  | .handshakeTimeout legs => Sys2Proof.Machine.execHandshakeTimeout legs s
  | .bstUv legs => Sys2Proof.Machine.execBstUv legs s
  | .scReport n high x more => Sys2Proof.Machine.execScReport n high x more s
  | .tripInputChange k level clocks => Sys2Proof.Machine.execTripInputChange k level s clocks
  | .tripCfgWrite w k v => Sys2Proof.Machine.execTripCfgWrite w k v s
  | .supplyTripChange src mV clocks => Sys2Proof.Machine.execSupplyTripChange src mV s clocks
  | .otMeasurement g celsius => Sys2Proof.Machine.execOtMeasurement g celsius s
  | .legCfgWrite w n reg v => Sys2Proof.Machine.execLegCfgWrite w n reg v s
  | .brakeState n => Sys2Proof.Machine.execBrakeState n s
  | .brakePullEnd n => Sys2Proof.Machine.execBrakePullEnd n s
  | .legRearm w n => Sys2Proof.Machine.execLegRearm w n s
  | .gateSensedLow n => Sys2Proof.Machine.execGateSensedLow n s
  | .bstLockoutRelease n mV => Sys2Proof.Machine.execBstLockoutRelease n s mV
  | .holdSet n => Sys2Proof.Machine.execHoldSet n s
  | .holdSetConverted g codes => Sys2Proof.Machine.execHoldSetConverted g codes s
  | .snsCfgWrite w g v => Sys2Proof.Machine.execSnsCfgWrite w g v s
  | .offsetCalibration n code => Sys2Proof.Machine.execOffsetCalibration n code s
  | .snsOfsStale n => Sys2Proof.Machine.execSnsOfsStale n s
  | .gainInjection n code => Sys2Proof.Machine.execGainInjection n code s
  | .delayLineCalibration unit taps => Sys2Proof.Machine.execDelayLineCalibration unit s taps
  | .auxConversion c channel v => Sys2Proof.Machine.execAuxConversion c channel s v
  | .scHold q sin cos => Sys2Proof.Machine.execScHold q sin cos s
  | .faFrameStart n => Sys2Proof.Machine.execFaFrameStart n s
  | .faWord n clk dly bits => Sys2Proof.Machine.execFaWord n clk dly bits s
  | .faDelayMeasurement n clk dly => Sys2Proof.Machine.execFaDelayMeasurement n clk dly s
  | .faDelayMeasured n => Sys2Proof.Machine.execFaDelayMeasured n s
  | .fqEdge q a b => Sys2Proof.Machine.execFqEdge q a b s
  | .fqIndex q level samples => Sys2Proof.Machine.execFqIndex q s level samples
  | .sincosSample q => Sys2Proof.Machine.execSincosSample q s
  | .mainret w q => Sys2Proof.Machine.execMainret w q s
  | .clrflt w q => Sys2Proof.Machine.execClrflt w q s
  | .fbkCfgWrite w reg v => Sys2Proof.Machine.execFbkCfgWrite w reg v s
  | .tdcEdge t level age samples => Sys2Proof.Machine.execTdcEdge t level age s samples
  | .latchEvent t => Sys2Proof.Machine.execLatchEvent t s
  | .qinfoRead w t => Sys2Proof.Machine.execQinfoRead w t s
  | .ltCfgWrite w t reg v => Sys2Proof.Machine.execLtCfgWrite w t reg v s
  | .hookDue n k => Sys2Proof.Machine.execHookDue n k s
  | .laneRunStart n => Sys2Proof.Machine.execLaneRunStart n s
  | .laneBudgetExpiry n => Sys2Proof.Machine.execLaneBudgetExpiry n s
  | .pntFault n => Sys2Proof.Machine.execPntFault n s
  | .pntParity n offset => Sys2Proof.Machine.execPntParity n offset s
  | .nop n => Sys2Proof.Machine.execNop n s
  | .ld n d a pa => Sys2Proof.Machine.execLd n d a pa s
  | .st n d a pa => Sys2Proof.Machine.execSt n d a pa s
  | .ldd n d addr => Sys2Proof.Machine.execLdd n d addr s
  | .std n d addr => Sys2Proof.Machine.execStd n d addr s
  | .ldi n d imm => Sys2Proof.Machine.execLdi n d imm s
  | .ldih n d imm => Sys2Proof.Machine.execLdih n d imm s
  | .mov n d r => Sys2Proof.Machine.execMov n d r s
  | .lda n p imm => Sys2Proof.Machine.execLda n p imm s
  | .ldm n p imm => Sys2Proof.Machine.execLdm n p imm s
  | .mova n p r => Sys2Proof.Machine.execMova n p r s
  | .movm n p r => Sys2Proof.Machine.execMovm n p r s
  | .add n d r t => Sys2Proof.Machine.execAdd n d r t s
  | .sub n d r t => Sys2Proof.Machine.execSub n d r t s
  | .neg n d r => Sys2Proof.Machine.execNeg n d r s
  | .abs n d r => Sys2Proof.Machine.execAbs n d r s
  | .min n d r t => Sys2Proof.Machine.execMin n d r t s
  | .max n d r t => Sys2Proof.Machine.execMax n d r t s
  | .and n d r t => Sys2Proof.Machine.execAnd n d r t s
  | .or n d r t => Sys2Proof.Machine.execOr n d r t s
  | .xor n d r t => Sys2Proof.Machine.execXor n d r t s
  | .shl n d r k => Sys2Proof.Machine.execShl n d r k s
  | .shr n d r k => Sys2Proof.Machine.execShr n d r k s
  | .mulq n d r t => Sys2Proof.Machine.execMulq n d r t s
  | .cmp n r t => Sys2Proof.Machine.execCmp n r t s
  | .mpy n x r t => Sys2Proof.Machine.execMpy n x r t s
  | .mac n x r t => Sys2Proof.Machine.execMac n x r t s
  | .msu n x r t => Sys2Proof.Machine.execMsu n x r t s
  | .macm n x a pa b pb => Sys2Proof.Machine.execMacm n x a pa b pb s
  | .clr n x => Sys2Proof.Machine.execClr n x s
  | .ldacc n x r => Sys2Proof.Machine.execLdacc n x r s
  | .accadd n x => Sys2Proof.Machine.execAccadd n x s
  | .ext n d x sh => Sys2Proof.Machine.execExt n d x sh s
  | .accsh n x sh => Sys2Proof.Machine.execAccsh n x sh s
  | .maxi n d r t => Sys2Proof.Machine.execMaxi n d r t s
  | .mini n d r t => Sys2Proof.Machine.execMini n d r t s
  | .rep n count last => Sys2Proof.Machine.execRep n count last s
  | .repd n r last => Sys2Proof.Machine.execRepd n r last s
  | .br n target => Sys2Proof.Machine.execBr n target s
  | .brc n cond target => Sys2Proof.Machine.execBrc n cond target s
  | .fin n => Sys2Proof.Machine.execFin n s
  | .laneRunWrite w n run => Sys2Proof.Machine.execLaneRunWrite w n run s
  | .laneBindWrite w n bind axis => Sys2Proof.Machine.execLaneBindWrite w n bind axis s
  | .laneMemoryWrite w n offset v => Sys2Proof.Machine.execLaneMemoryWrite w n offset v s
  | .paramWrite w n k v => Sys2Proof.Machine.execParamWrite w n k v s
  | .gthArm w => Sys2Proof.Machine.execGthArm w s
  | .gthStop w => Sys2Proof.Machine.execGthStop w s
  | .force w => Sys2Proof.Machine.execForce w s
  | .stream w => Sys2Proof.Machine.execStream w s
  | .rowCommit => Sys2Proof.Machine.execRowCommit s
  | .classETrigger => Sys2Proof.Machine.execClassETrigger s
  | .holdOffEnd => Sys2Proof.Machine.execHoldOffEnd s
  | .streamEnd => Sys2Proof.Machine.execStreamEnd s
  | .linkUp p ms => Sys2Proof.Machine.execLinkUp p s ms
  | .linkDown p why => Sys2Proof.Machine.execLinkDown p why s
  | .frameForward p f good => Sys2Proof.Machine.execFrameForward p f good s
  | .evxFrameTaken => Sys2Proof.Machine.execEvxFrameTaken s
  | .gafferFrame => Sys2Proof.Machine.execGafferFrame s
  | .safeFrameRx => Sys2Proof.Machine.execSafeFrameRx s
  | .trigFrame => Sys2Proof.Machine.execTrigFrame s
  | .trigFrameTrigger => Sys2Proof.Machine.execTrigFrameTrigger s
  | .bulkFrame => Sys2Proof.Machine.execBulkFrame s
  | .egressIdle p => Sys2Proof.Machine.execEgressIdle p s
  | .rspFrame port => Sys2Proof.Machine.execRspFrame port s
  | .statusSlot p => Sys2Proof.Machine.execStatusSlot p s
  | .netStatusGated p => Sys2Proof.Machine.execNetStatusGated p s
  | .stcfgEnWrite w en => Sys2Proof.Machine.execStcfgEnWrite w en s
  | .eventFrame => Sys2Proof.Machine.execEventFrame s
  | .hostMessage m => Sys2Proof.Machine.execHostMessage m s
  | .serviceMessage bytes => Sys2Proof.Machine.execServiceMessage bytes s
  | .mdioOp w p v => Sys2Proof.Machine.execMdioOp w p v s
  | .mdioDone p data => Sys2Proof.Machine.execMdioDone p data s
  | .anRestart w p => Sys2Proof.Machine.execAnRestart w p s
  | .rxClockChangeover p recovered => Sys2Proof.Machine.execRxClockChangeover p recovered s
  | .canEnable w en => Sys2Proof.Machine.execCanEnable w en s
  | .canFrameRx f esi => Sys2Proof.Machine.execCanFrameRx f esi s
  | .rxoLockRead w k => Sys2Proof.Machine.execRxoLockRead w k s
  | .rxoReleaseRead w k => Sys2Proof.Machine.execRxoReleaseRead w k s
  | .rxoLockTimeout k => Sys2Proof.Machine.execRxoLockTimeout k s
  | .txreq w mask => Sys2Proof.Machine.execTxreq w mask s
  | .canQ20Entry => Sys2Proof.Machine.execCanQ20Entry s
  | .arbitrationStart => Sys2Proof.Machine.execArbitrationStart s
  | .canTxDone => Sys2Proof.Machine.execCanTxDone s
  | .txabort w mask => Sys2Proof.Machine.execTxabort w mask s
  | .canMode w mode => Sys2Proof.Machine.execCanMode w mode s
  | .canWake by_ => Sys2Proof.Machine.execCanWake by_ s
  | .canEstate => Sys2Proof.Machine.execCanEstate s
  | .canRecovered => Sys2Proof.Machine.execCanRecovered s
  | .canBusError tec rec failed => Sys2Proof.Machine.execCanBusError tec rec failed s
  | .canBusIdle => Sys2Proof.Machine.execCanBusIdle s
  | .fioOut w v => Sys2Proof.Machine.execFioOut w v s
  | .fioOutset w v => Sys2Proof.Machine.execFioOutset w v s
  | .fioOutclr w v => Sys2Proof.Machine.execFioOutclr w v s
  | .fieldOutputRequest => Sys2Proof.Machine.execFieldOutputRequest s
  | .foPulseEnd k => Sys2Proof.Machine.execFoPulseEnd k s
  | .fioCfgWrite w v => Sys2Proof.Machine.execFioCfgWrite w v s
  | .foOverload k us => Sys2Proof.Machine.execFoOverload k s us
  | .foOvertemp k => Sys2Proof.Machine.execFoOvertemp k s
  | .foCooled k => Sys2Proof.Machine.execFoCooled k s
  | .foOpenWire k ms => Sys2Proof.Machine.execFoOpenWire k s ms
  | .foShortToVf k ms => Sys2Proof.Machine.execFoShortToVf k s ms
  | .foDiagClear k short ms => Sys2Proof.Machine.execFoDiagClear k short s ms
  | .fiLevelChange n millivolts samples => Sys2Proof.Machine.execFiLevelChange n millivolts s samples
  | .fiWireBreak n ms => Sys2Proof.Machine.execFiWireBreak n s ms
  | .fioWdExpired => Sys2Proof.Machine.execFioWdExpired s
  | .kick w => Sys2Proof.Machine.execKick w s
  | .resume w => Sys2Proof.Machine.execResume w s
  | .fioVfState millivolts us => Sys2Proof.Machine.execFioVfState millivolts s us
  | .fiWireBreakCleared n ms => Sys2Proof.Machine.execFiWireBreakCleared n s ms
  | .stoNLow clocks => Sys2Proof.Machine.execStoNLow clocks s
  | .testPulse clocks => Sys2Proof.Machine.execTestPulse clocks s
  | .stoNRelease clocks => Sys2Proof.Machine.execStoNRelease s clocks
  | .tpmiss => Sys2Proof.Machine.execTpmiss s
  | .safSto => Sys2Proof.Machine.execSafSto s
  | .ss1Entry => Sys2Proof.Machine.execSs1Entry s
  | .ss1tExpiry => Sys2Proof.Machine.execSs1tExpiry s
  | .safetyRun => Sys2Proof.Machine.execSafetyRun s
  | .safeCopyCheck => Sys2Proof.Machine.execSafeCopyCheck s
  | .safeWindowExpiry => Sys2Proof.Machine.execSafeWindowExpiry s
  | .safePairTimeout => Sys2Proof.Machine.execSafePairTimeout s
  | .safetyReset clocks => Sys2Proof.Machine.execSafetyReset clocks s
  | .sealScan first second third => Sys2Proof.Machine.execSealScan first second third s
  | .genReadbackFail g us => Sys2Proof.Machine.execGenReadbackFail g s us
  | .genRuntimeTest g us pass => Sys2Proof.Machine.execGenRuntimeTest g us s pass
  | .safTestOverdue g => Sys2Proof.Machine.execSafTestOverdue g s
  | .chkDataWrite w k off width v => Sys2Proof.Machine.execChkDataWrite w k off width v s
  | .chkFeedDone k => Sys2Proof.Machine.execChkFeedDone k s
  | .preset w k p => Sys2Proof.Machine.execPreset w k p s
  | .chkStart w k => Sys2Proof.Machine.execChkStart w k s
  | .chkValWrite w k v => Sys2Proof.Machine.execChkValWrite w k v s
  | .chkParamWrite w k reg v => Sys2Proof.Machine.execChkParamWrite w k reg v s
  | .alvin w k c => Sys2Proof.Machine.execAlvin w k c s
  | .alvArm w k width arm => Sys2Proof.Machine.execAlvArm w k width arm s
  | .resetN clocks => Sys2Proof.Machine.execResetN clocks s
  | .mainPowerOnReset mV clocks => Sys2Proof.Machine.execMainPowerOnReset mV clocks s
  | .backupPowerOnReset mV clocks => Sys2Proof.Machine.execBackupPowerOnReset s mV clocks
  | .buckStart sel mV => Sys2Proof.Machine.execBuckStart sel s mV
  | .buckStop mV => Sys2Proof.Machine.execBuckStop s mV
  | .sequenceStart clksrc high mV clocks => Sys2Proof.Machine.execSequenceStart clksrc s high mV clocks
  | .sourceGood edges => Sys2Proof.Machine.execSourceGood s edges
  | .domainRelease clocks => Sys2Proof.Machine.execDomainRelease s clocks
  | .rstGapExpiry => Sys2Proof.Machine.execRstGapExpiry s
  | .sequenceStop => Sys2Proof.Machine.execSequenceStop s
  | .backupResetRelease mV clocks => Sys2Proof.Machine.execBackupResetRelease s mV clocks
  | .romBoot => Sys2Proof.Machine.execRomBoot s
  | .imageSelect => Sys2Proof.Machine.execImageSelect s
  | .configuration testPass parity => Sys2Proof.Machine.execConfiguration testPass parity s
  | .deviceReady => Sys2Proof.Machine.execDeviceReady s
  | .pwrVdrvWrite w v => Sys2Proof.Machine.execPwrVdrvWrite w v s
  | .go w => Sys2Proof.Machine.execGo w s
  | .fuseProgrammed => Sys2Proof.Machine.execFuseProgrammed s
  | .updOpen => Sys2Proof.Machine.execUpdOpen s
  | .updClose => Sys2Proof.Machine.execUpdClose s
  | .actFw => Sys2Proof.Machine.execActFw s
  | .actAxes parity => Sys2Proof.Machine.execActAxes parity s
  | .recycle => Sys2Proof.Machine.execRecycle s
  | .updateChunk => Sys2Proof.Machine.execUpdateChunk s
  | .mgmtWatchdogExpiry => Sys2Proof.Machine.execMgmtWatchdogExpiry s
  | .mgtRecycle => Sys2Proof.Machine.execMgtRecycle s
  | .mboutRead w word => Sys2Proof.Machine.execMboutRead w word s
  | .sensorSample vio vcore va vbat => Sys2Proof.Machine.execSensorSample vio vcore va vbat s
  | .sensctlClr w => Sys2Proof.Machine.execSensctlClr w s
  | .crystalCheck count => Sys2Proof.Machine.execCrystalCheck count s
  | .scrubPass ms errors => Sys2Proof.Machine.execScrubPass ms errors s
  | .journalFlush => Sys2Proof.Machine.execJournalFlush s
  | .lehrStarved k => Sys2Proof.Machine.execLehrStarved k s
  | .health => Sys2Proof.Machine.execHealth s
  | .opsecMirror => Sys2Proof.Machine.execOpsecMirror s
  | .batchSourceReload addr => Sys2Proof.Machine.execBatchSourceReload addr s
  | .vdrvRampEnd => Sys2Proof.Machine.execVdrvRampEnd s
  | .recordPush code sev src data0 data1 => Sys2Proof.Machine.execRecordPush code sev src data0 data1 s
  | .recordAdmission => Sys2Proof.Machine.execRecordAdmission s
  | .tokenRefill code => Sys2Proof.Machine.execTokenRefill code s
  | .flashRingWrite => Sys2Proof.Machine.execFlashRingWrite s
  | .evrWinRead w word => Sys2Proof.Machine.execEvrWinRead w word s
  | .evrFetch => Sys2Proof.Machine.execEvrFetch s
  | .evrClear w key => Sys2Proof.Machine.execEvrClear w key s
  | .ringEraseDone => Sys2Proof.Machine.execRingEraseDone s

end Sys2Proof.Machine
end

