-- ==== Sys2Proof/Machine/Step.lean ====
section
/-!
DEFINITION. One step of the block: the command at the front of the queue, or with nothing waiting one tick of the TIME clock.
-/

namespace Sys2Proof.Machine

/-- The command at the front of the queue is carried out on the state with the rest of the queue; with an empty queue the block idles
for one TIME clock (notes/assumptions/5.md). -/
def step (s : State) : Host.Outcome State Fault Refusal :=
  match s.pending with
  | c :: l => exec c { s with pending := l }
  | [] => .next s.idle

/-- The state with the command that a word spells put at the front of its queue. -/
def State.withFetchWord (s : State) (nbits w : Nat) : State :=
  match Sys2Proof.decodeTableWord nbits w with
  | some i => { s with pending := i :: s.pending }
  | none => s

end Sys2Proof.Machine
end

