-- ==== Sys2Proof/WellFormed.lean ====
section
/-!
DEFINITION. Which commands are well formed: operands whose sizes the spec fixes and the types of Syntax.lean do not.

The meanings are total: an ill-formed command has a meaning too. The checks say what can reach the block at its pins and buses.
-/

namespace Sys2Proof

open Sys2Proof.Machine

/-- A converter code (R197, 07_current_sensing.md): 14-bit two's complement. -/
def codeOk (x : Int) : Bool := decide (-8192 ≤ x) && decide (x ≤ 8191)

/-- A code of an auxiliary converter (R211, 07_current_sensing.md): 16-bit two's complement. -/
def auxCodeOk (x : Int) : Bool := decide (-32768 ≤ x) && decide (x ≤ 32767)

/-- A command record comes through one of the four partner ports (R35, R300). -/
def recordOk (w : Who) (words : Nat) : Bool := decide (w.port.val < 4) && decide (1 ≤ words) && decide (words ≤ 64)

/-- The words of a QUEUE_PUSH are one entry of its queue; a queue that takes none is answered RANGE whatever comes (R38). -/
def pushOk (w : Who) (q : Fin 32) (words : Nat) : Bool :=
  decide (w.port.val < 4) && match pushQueue q with | some (_, size) => decide (words = size) | none => decide (words ≤ 64)

/-- A frame on a network port (R289, 11_network_ports.md): addresses of 48 bits, a type of 16, and bytes; one longer than 1,522 bytes can
arrive, and is cut. -/
def frameOk (f : Frame) : Bool :=
  decide (f.dst < 2 ^ 48) && decide (f.src < 2 ^ 48) && decide (f.etype < 2 ^ 16) && f.body.all (· < 256)

/-- A frame on the CAN bus (R318, 12_can_port.md): an identifier of 11 or 29 bits, and the bytes that DLC says. -/
def canFrameOk (f : CanFrame) : Bool :=
  decide (f.id < if f.ide then 2 ^ 29 else 2 ^ 11) && decide (f.dlc < 16) && decide (f.data.length = canBytes f.fdf f.dlc) && f.data.all (· < 256)

/-- The fields of a peer-delay request (R59, 02_time_bases.md). -/
def pdelayReqOk (r : PdelayReq) : Bool :=
  decide (r.major < 16) && decide (r.minor < 256) && decide (r.domain < 256) && decide (r.seq < 2 ^ 16) && decide (r.clock < 2 ^ 64) &&
    decide (r.port < 2 ^ 16) && decide (-(2 ^ 63) ≤ r.corr) && decide (r.corr < 2 ^ 63)

/-- Well-formedness of a command. -/
def Instr.wf : Instr → Bool
  | .read w _ _ count => recordOk w count.val
  | .write w _ _ data => recordOk w data.length
  | .maskedWrite w _ _ data => recordOk w data.length
  | .queuePush w _ q data => pushOk w q data.length
  | .gafferSegment _ words => decide (words.length = 12)
  | .holdSetConverted _ codes => decide (codes.length = 4) && codes.all codeOk
  | .offsetCalibration _ code => codeOk code
  | .gainInjection _ code => codeOk code
  | .scHold _ sin cos => auxCodeOk sin && auxCodeOk cos
  | .frameForward _ f _ => frameOk f
  | .pdelayResponse _ r => pdelayReqOk r
  | .canFrameRx f _ => canFrameOk f
  | .canWake (.frame f) => canFrameOk f
  | .chkDataWrite _ _ off width _ => (chkBytes off.val width.val 0).isSome
  | _ => true

end Sys2Proof
end

