-- ==== Sys2Proof/Safety.lean ====
section
/-!
DEFINITION. What counts as a safe run, in the terms the statements use: the invariant of the reset sequencer, the canonical form of the
memories, and the conditions under which a command has its own effect.
-/

namespace Sys2Proof.Machine

/-! ### Invariants -/

/-- The reset sequencer is consistent (R382 to R386, 16_power_reset_boot.md): what is released is what its phase says. -/
def Seq.ok (q : Seq) : Prop :=
  match q.phase with
  | .held => q.released = 0
  | .source => q.released = 0
  | .pll => q.released = 0
  | .step i => 1 ≤ i ∧ i ≤ 13 ∧ q.released = i - 1
  | .gap i => 1 ≤ i ∧ i ≤ 12 ∧ q.released = i
  | .done => q.released = 13
  | .stopped => q.released < 13

/-- The addressed memories of the device are canonical: the tables of W_14, the microstep table, the memories of the lanes, the flash. -/
def Dev.memWf (d : Dev) : Bool :=
  d.tables.wf 0 && d.mstep.wf 0 && d.flash.bytes.wf 255 && d.flash.ring.sorted && d.lane.sorted &&
    d.lane.all fun e => e.2.imem.wf 0 && e.2.dmem.wf 0

/-! ### Where a command has its own effect -/

/-- The state with another device. -/
def State.put (s : State) (d : Dev) : State := { s with dev := d }

/-- A write by `w` to address `a` is carried out: its domain runs and the port has the right (R36, R384). -/
abbrev State.Grants (s : State) (w : Who) (a : Nat) : Prop := addrDom a ≤ s.seq.released ∧ s.dev.mayAccess w.port a true = true

/-- As `Grants`, for a write of part of a word: no parity error stands there (R11, R300). -/
abbrev State.GrantsPart (s : State) (w : Who) (a : Nat) : Prop := s.Grants w a ∧ s.dev.bad.contains a = false

/-- A read by `w` of address `a` is carried out, and no parity error stands there. -/
abbrev State.GrantsRead (s : State) (w : Who) (a : Nat) : Prop :=
  addrDom a ≤ s.seq.released ∧ s.dev.mayAccess w.port a false = true ∧ s.dev.bad.contains a = false

/-- `t` is `u` with the answer `c` given to `w` for its access with operation `op` at address `a`, and the bookkeeping of a write: a write
staged for the journal (R427) and a parity error at `a` mended. Nothing else of `u` changes but the journal's own count of lost sources. -/
def State.Done (u t : State) (w : Who) (op a : Nat) (c : Code) : Prop :=
  t = u.put
    { u.dev with
      regs := t.dev.regs, net := t.dev.net, bad := t.dev.bad, reloads := t.dev.reloads
      mgt := { u.dev.mgt with stage := t.dev.mgt.stage, noSrc := t.dev.mgt.noSrc } } ∧
  t.dev.net = (u.dev.respond { port := w.port, code := c, tag := w.tag, op := op, addr := a }).net ∧
  (∀ x, x ≠ a → (x ∈ t.dev.bad ↔ x ∈ u.dev.bad)) ∧
  ∀ (f : Fld) (i j : Nat), f.key i j ≠ F.lehrJrn_nosrc.key 0 0 → t.dev.rd f i j = u.dev.rd f i j

/-- The answer `c` has been given to `w` for its access with operation `op` at address `a`; the network block is otherwise as it was. -/
abbrev State.Answered (s t : State) (w : Who) (op a : Nat) (c : Code) : Prop :=
  t.dev.net = (s.dev.respond { port := w.port, code := c, tag := w.tag, op := op, addr := a }).net

/-- A command by `w` with operation `op` at `a` leads from `s` to a state that is `d` with its answer: `o` is what `exec` answers. -/
def Leads (o : Host.Outcome State Fault Refusal) (s : State) (d : Dev) (w : Who) (op a : Nat) (c : Code) : Prop :=
  ∃ t, o = .next t ∧ (s.put d).Done t w op a c

/-- Lane PL_n has come to the instruction `o` of the run `r` (R252, R258). -/
abbrev State.LaneAt (s : State) (n : Nat) (o : LOp) (r : LaneRun) : Prop :=
  9 ≤ s.seq.released ∧ (s.dev.pl n).run = some r ∧ r.cycles < s.dev.rd F.plHook_budget n r.f.hook ∧ r.pc < 4096 ∧
    s.dev.bad.contains (imemAddr n r.pc) = false ∧ LOp.decode (Tbl.get 0 r.pc (s.dev.pl n).imem) = some o

/-- The state with lane PL_n as given, its run `r` one instruction of `cost` cycles further on. -/
def State.laneTo (s : State) (n : Nat) (p : Lane) (r : LaneRun) (cost : Nat) : State :=
  s.put (s.dev.modPl n fun _ => { p with run := some { r with cycles := r.cycles + cost } })

/-- The state after an ALU instruction whose exact result is `x` (R251, R256): D_i holds `x` saturated to 32 bits, Z and N follow the
result, V and the sticky SAT the saturation. -/
def State.aluDone (s : State) (n : Nat) (r : LaneRun) (i : Nat) (x : Int) : State :=
  let v := max (-(2 ^ 31)) (min (2 ^ 31 - 1) x)
  let l := s.dev.pl n
  let t := s.laneTo n { l with d := Tbl.set 0 i (ux 32 v) l.d } { r.advanced with z := decide (v = 0), n := decide (v < 0), v := decide (v ≠ x) } 1
  if v = x then t else t.put (t.dev.set1 F.plStat_sat n)

/-- The state after an accumulator instruction whose exact result is `x` (R251): ACC_k holds `x` saturated to 72 bits, and the sticky
ACCSAT follows the saturation; `l` is the lane with any post-modified address registers. -/
def State.accDone (s : State) (n : Nat) (l : Lane) (r : LaneRun) (k : Fin 2) (x : Int) : State :=
  let v := max (-(2 ^ 71)) (min (2 ^ 71 - 1) x)
  let t := s.laneTo n (if k = 0 then { l with acc0 := v } else { l with acc1 := v }) r.advanced 1
  if v = x then t else t.put (t.dev.set1 F.plStat_accsat n)

/-- The word at a data address of PL_n as a run sees it, where R250 maps one (R250, 09_punty_lanes.md). -/
def State.laneWord (s : State) (n : Nat) (r : LaneRun) (a : Nat) : Option Nat :=
  if a ≤ 0x1FFF then some (Tbl.get 0 a (s.dev.pl n).dmem % 2 ^ 32)
  else if 0x2000 ≤ a ∧ a ≤ 0x2010 then some (r.f.taps.getD (a - 0x2000) 0 % 2 ^ 32)
  else if 0x2020 ≤ a ∧ a ≤ 0x202B then some ((Tbl.find (a - 0x2020) r.outs).getD (s.dev.rd F.plOut_value n (a - 0x2020)) % 2 ^ 32)
  else if 0x2040 ≤ a ∧ a ≤ 0x204F then some (r.f.params.getD (a - 0x2040) 0 % 2 ^ 32)
  else none

/-- No parity error stands in the data word at `a` of PL_n. -/
def State.laneGood (s : State) (n a : Nat) : Prop := s.dev.bad.contains (dmemAddr n a) = false

/-- Address register A_i of `l` after a post-modify where `pa` asks for one (R253). -/
def Lane.postA (l : Lane) (i : Nat) (pa : Bool) : Tbl Nat :=
  if pa then Tbl.set 0 i ((Tbl.get 0 i l.a + Tbl.get 0 i l.m) % 2 ^ 14) l.a else l.a

/-- PL_n has faulted with a cause in the run `r` (R257): stopped, without publication. -/
def State.LaneFaulted (s t : State) (n : Nat) (r : LaneRun) (cause : Nat) : Prop :=
  (t.dev.pl n).run = none ∧ t.dev.rd F.plCtrl_run n = 0 ∧ t.dev.rd F.plStat_fault n = 1 ∧ t.dev.rd F.plFlt_pc n = r.pc % 2 ^ 12 ∧
    t.dev.rd F.plFlt_cause n = cause ∧ (∀ k < 16, t.dev.rd F.plOut_value n k = s.dev.rd F.plOut_value n k) ∧
    (t.dev.pl n).imem = (s.dev.pl n).imem ∧ (t.dev.pl n).dmem = (s.dev.pl n).dmem ∧ t.seq = s.seq ∧ t.pending = s.pending

end Sys2Proof.Machine
end

