-- ==== Sys2Proof/Certificates/Slice0/Obligations.lean ====
section
/-!
DEFINITION. The statements for the provers.

A statement about a command says, for every state and operands in which the command has its own effect, the next state that `exec`
answers; what it does not name is unchanged in that state.
-/

open Sys2Proof Sys2Proof.Machine

/-! ### Punty lanes (09_punty_lanes.md) -/

/-- NOP, LDI, LDIH, MOV, LDA, LDM, MOVA and MOVM (R258): the register named takes the operand, flags and everything else stay. CMP (R256):
flags from the exact difference. MAXI and MINI: flags of the extreme that D_d then holds, the model's reading of R256 (log entry 36). -/
def Obligations.LaneMovesAndCompares : Prop :=
  (∀ (s : State) (n : Fin 8) (r : LaneRun) (d a : Fin 16) (imm : Fin 65536) (k : Fin 16384) (q : Fin 8),
     let l := s.dev.pl n
     (s.LaneAt n .nop r → exec (.nop n) s = .next (s.laneTo n l r.advanced 1)) ∧
     (s.LaneAt n (.ldi d imm) r → exec (.ldi n d imm) s =
       .next (s.laneTo n { l with d := Tbl.set 0 d (if imm.val < 2 ^ 15 then imm else imm + 0xFFFF0000) l.d } r.advanced 1)) ∧
     (s.LaneAt n (.ldih d imm) r → exec (.ldih n d imm) s =
       .next (s.laneTo n { l with d := Tbl.set 0 d (imm * 65536 + Tbl.get 0 d l.d % 65536) l.d } r.advanced 1)) ∧
     (s.LaneAt n (.mov d a) r → exec (.mov n d a) s =
       .next (s.laneTo n { l with d := Tbl.set 0 d (Tbl.get 0 a l.d % 2 ^ 32) l.d } r.advanced 1)) ∧
     (s.LaneAt n (.lda q k) r → exec (.lda n q k) s = .next (s.laneTo n { l with a := Tbl.set 0 q k l.a } r.advanced 1)) ∧
     (s.LaneAt n (.ldm q k) r → exec (.ldm n q k) s = .next (s.laneTo n { l with m := Tbl.set 0 q k l.m } r.advanced 1)) ∧
     (s.LaneAt n (.mova q a) r → exec (.mova n q a) s =
       .next (s.laneTo n { l with a := Tbl.set 0 q (Tbl.get 0 a l.d % 2 ^ 14) l.a } r.advanced 1)) ∧
     (s.LaneAt n (.movm q a) r → exec (.movm n q a) s =
       .next (s.laneTo n { l with m := Tbl.set 0 q (Tbl.get 0 a l.d % 2 ^ 14) l.m } r.advanced 1))) ∧
  (∀ (s : State) (n : Fin 8) (r : LaneRun) (d a b : Fin 16),
     let l := s.dev.pl n
     let flags := fun (x : Int) => { r.advanced with z := decide (x = 0), n := decide (x < 0), v := false }
     let flagged := fun (o : Host.Outcome State Fault Refusal) (x : Int) => ∃ t u, o = .next t ∧ (t.dev.pl n).run = some u ∧
       u.z = decide (x = 0) ∧ u.n = decide (x < 0) ∧ u.v = false
     (s.LaneAt n (.cmp a b) r → exec (.cmp n a b) s = .next (s.laneTo n l (flags (l.dr a - l.dr b)) 1)) ∧
     (s.LaneAt n (.maxi d a b) r → flagged (exec (.maxi n d a b) s) (max (l.dr d) (l.dr a))) ∧
     (s.LaneAt n (.mini d a b) r → flagged (exec (.mini n d a b) s) (min (l.dr d) (l.dr a))))

/-- ADD, SUB, NEG, ABS, MIN, MAX and SHL (R251, R256, R258): the exact result, saturated, with its flags. AND, OR, XOR, SHR, MULQ and EXT:
bitwise on the words, or the exact result rounded (R4) and saturated. -/
def Obligations.LaneArithmetic : Prop :=
  (∀ (s : State) (n : Fin 8) (r : LaneRun) (d a b : Fin 16) (k : Fin 32),
     let x := (s.dev.pl n).dr a
     let y := (s.dev.pl n).dr b
     (s.LaneAt n (.add d a b) r → exec (.add n d a b) s = .next (s.aluDone n r d (x + y))) ∧
     (s.LaneAt n (.sub d a b) r → exec (.sub n d a b) s = .next (s.aluDone n r d (x - y))) ∧
     (s.LaneAt n (.neg d a) r → exec (.neg n d a) s = .next (s.aluDone n r d (-x))) ∧
     (s.LaneAt n (.abs d a) r → exec (.abs n d a) s = .next (s.aluDone n r d (if x < 0 then -x else x))) ∧
     (s.LaneAt n (.min d a b) r → exec (.min n d a b) s = .next (s.aluDone n r d (if x ≤ y then x else y))) ∧
     (s.LaneAt n (.max d a b) r → exec (.max n d a b) s = .next (s.aluDone n r d (if x ≤ y then y else x))) ∧
     (s.LaneAt n (.shl d a k) r → exec (.shl n d a k) s = .next (s.aluDone n r d (x * 2 ^ k.val)))) ∧
  (∀ (s : State) (n : Fin 8) (r : LaneRun) (d a b : Fin 16) (k : Fin 32) (x : Fin 2) (sh : Fin 64),
     let l := s.dev.pl n
     let u := Tbl.get 0 a l.d % 2 ^ 32
     let v := Tbl.get 0 b l.d % 2 ^ 32
     let acc := if x = 0 then l.acc0 else l.acc1
     (s.LaneAt n (.and d a b) r → exec (.and n d a b) s = .next (s.aluDone n r d (sx 32 (u &&& v)))) ∧
     (s.LaneAt n (.or d a b) r → exec (.or n d a b) s = .next (s.aluDone n r d (sx 32 (u ||| v)))) ∧
     (s.LaneAt n (.xor d a b) r → exec (.xor n d a b) s = .next (s.aluDone n r d (sx 32 (u ^^^ v)))) ∧
     (s.LaneAt n (.shr d a k) r → exec (.shr n d a k) s = .next (s.aluDone n r d (rneShr (l.dr a) k))) ∧
     (s.LaneAt n (.mulq d a b) r → exec (.mulq n d a b) s = .next (s.aluDone n r d (rneShr (l.dr a * l.dr b) 31))) ∧
     (s.LaneAt n (.ext d x sh) r → exec (.ext n d x sh) s =
       .next (s.aluDone n r d (rneShr acc (if sh.val < 32 then 31 - sh.val else 95 - sh.val)))))

/-- MAXI and MINI (R255): the extreme with its index, the earlier entry kept on equality. The flags are not stated here. -/
def Obligations.LaneExtremes : Prop :=
  ∀ (s : State) (n : Fin 8) (r : LaneRun) (d a b : Fin 16),
    let l := s.dev.pl n
    let lc := match r.stack with | [] => 0 | k :: _ => k.lc
    let took := { l with d := Tbl.set 0 b (lc % 2 ^ 32) (Tbl.set 0 d (Tbl.get 0 a l.d % 2 ^ 32) l.d) }
    let gives := fun (o : Host.Outcome State Fault Refusal) (l : Lane) => ∃ z n' v, o = .next (s.laneTo n l { r.advanced with z := z, n := n', v := v } 1)
    (s.LaneAt n (.maxi d a b) r → l.dr d < l.dr a → gives (exec (.maxi n d a b) s) took) ∧
    (s.LaneAt n (.maxi d a b) r → l.dr a ≤ l.dr d → gives (exec (.maxi n d a b) s) l) ∧
    (s.LaneAt n (.mini d a b) r → l.dr a < l.dr d → gives (exec (.mini n d a b) s) took) ∧
    (s.LaneAt n (.mini d a b) r → l.dr d ≤ l.dr a → gives (exec (.mini n d a b) s) l)

/-- MPY, MAC, MSU, CLR, LDACC, ACCADD and ACCSH (R251, R258): the exact result saturated to 72 bits. -/
def Obligations.LaneAccumulators : Prop :=
  ∀ (s : State) (n : Fin 8) (r : LaneRun) (x : Fin 2) (a b : Fin 16) (sh : Fin 64),
    let l := s.dev.pl n
    let acc := if x = 0 then l.acc0 else l.acc1
    (s.LaneAt n (.mpy x a b) r → exec (.mpy n x a b) s = .next (s.accDone n l r x (l.dr a * l.dr b))) ∧
    (s.LaneAt n (.mac x a b) r → exec (.mac n x a b) s = .next (s.accDone n l r x (acc + l.dr a * l.dr b))) ∧
    (s.LaneAt n (.msu x a b) r → exec (.msu n x a b) s = .next (s.accDone n l r x (acc - l.dr a * l.dr b))) ∧
    (s.LaneAt n (.clr x) r → exec (.clr n x) s = .next (s.accDone n l r x 0)) ∧
    (s.LaneAt n (.ldacc x a) r → exec (.ldacc n x a) s = .next (s.accDone n l r x (l.dr a * 2 ^ 31))) ∧
    (s.LaneAt n (.accadd x) r → exec (.accadd n x) s = .next (s.accDone n l r x (l.acc0 + l.acc1))) ∧
    (s.LaneAt n (.accsh x sh) r → exec (.accsh n x sh) s =
      .next (s.accDone n l r x (if sh.val < 32 then acc * 2 ^ sh.val else rneShr acc (64 - sh.val))))

/-- LD, LDD, ST, STD and MACM (R250, R251, R253, R270): the word at the address, a stored data word good again; and the address registers post-modified after the access: A + M modulo
2^14, and A + 2M where both operands of MACM name one. -/
def Obligations.LaneMemory : Prop :=
  ∀ (s : State) (n : Fin 8) (r : LaneRun) (d : Fin 16) (i j : Fin 8) (pa pb : Bool) (k : Fin 16384) (x : Fin 2) (u v : Nat),
    let l := s.dev.pl n
    let a := Tbl.get 0 i l.a
    let acc := if x = 0 then l.acc0 else l.acc1
    let m := Tbl.get 0 i l.m
    let stored := fun (l : Lane) (b : Nat) => let t := s.laneTo n l r.advanced 1; t.put (t.dev.mended (dmemAddr n b))
    (∀ b : Nat, Tbl.get 0 b (l.postA i true) = if b = i.val then (a + m) % 2 ^ 14 else Tbl.get 0 b l.a) ∧
    l.postA i false = l.a ∧
    Tbl.get 0 i.val (({ l with a := l.postA i true } : Lane).postA i true) = (a + 2 * m) % 2 ^ 14 ∧
    (s.LaneAt n (.ld d i pa) r → s.laneGood n a → s.laneWord n r a = some v →
      exec (.ld n d i pa) s = .next (s.laneTo n { l with d := Tbl.set 0 d v l.d, a := l.postA i pa } r.advanced 1)) ∧
    (s.LaneAt n (.ldd d k) r → s.laneGood n k → s.laneWord n r k = some v →
      exec (.ldd n d k) s = .next (s.laneTo n { l with d := Tbl.set 0 d v l.d } r.advanced 1)) ∧
    (s.LaneAt n (.st d i pa) r → a ≤ 0x1FFF →
      exec (.st n d i pa) s = .next (stored { l with dmem := Tbl.set 0 a (Tbl.get 0 d l.d) l.dmem, a := l.postA i pa } a)) ∧
    (s.LaneAt n (.st d i pa) r → 0x2020 ≤ a → a ≤ 0x202B →
      exec (.st n d i pa) s =
        .next (s.laneTo n { l with a := l.postA i pa } { r.advanced with outs := Tbl.put (a - 0x2020) (Tbl.get 0 d l.d) r.outs } 1)) ∧
    (s.LaneAt n (.std d k) r → k.val ≤ 0x1FFF →
      exec (.std n d k) s = .next (stored { l with dmem := Tbl.set 0 k (Tbl.get 0 d l.d) l.dmem } k)) ∧
    (s.LaneAt n (.std d k) r → 0x2020 ≤ k.val → k.val ≤ 0x202B →
      exec (.std n d k) s = .next (s.laneTo n l { r.advanced with outs := Tbl.put (k - 0x2020) (Tbl.get 0 d l.d) r.outs } 1)) ∧
    (s.LaneAt n (.macm x i pa j pb) r → s.laneGood n a → s.laneGood n (Tbl.get 0 j l.a) → s.laneWord n r a = some u →
      s.laneWord n r (Tbl.get 0 j l.a) = some v →
      exec (.macm n x i pa j pb) s =
        .next (s.accDone n { l with a := ({ l with a := l.postA i pa } : Lane).postA j pb } r x (acc + sx 32 u * sx 32 v)))

/-- Where execution goes after an instruction, REP, REPD, BR and BRC (R252, R254, R256). -/
def Obligations.LaneControl : Prop :=
  (∀ (r : LaneRun), r.stack = [] → r.advanced = { r with pc := r.pc + 1 }) ∧
  (∀ (r : LaneRun) (b : Rep) (l : List Rep), r.stack = b :: l →
    (r.pc ≠ b.stop → r.advanced = { r with pc := r.pc + 1 }) ∧
    (r.pc = b.stop → b.lc + 1 < b.count → r.advanced = { r with pc := b.start, stack := { b with lc := b.lc + 1 } :: l }) ∧
    (r.pc = b.stop → b.count ≤ b.lc + 1 → r.advanced = ({ r with stack := l } : LaneRun).advanced)) ∧
  ∀ (s : State) (n : Fin 8) (r : LaneRun) (a : Fin 16) (count last : Fin 4096) (c : Fin 8),
    let l := s.dev.pl n
    let fits := r.pc < last.val ∧ ∀ b ∈ r.stack.head?, last.val ≤ b.stop
    let block := fun k => s.laneTo n l { r with pc := r.pc + 1, stack := { start := r.pc + 1, stop := last, count := k } :: r.stack } 1
    let jump := s.laneTo n l { r with pc := last, stack := r.stack.dropWhile fun b => !decide (b.start ≤ last.val ∧ last.val ≤ b.stop) } 3
    let inside := ∀ b ∈ r.stack, b.stop ≠ r.pc
    let met := match c.val with
      | 0 => r.z | 1 => !r.z | 2 => r.n | 3 => !r.n | 4 => !r.z && !r.n | 5 => r.z || r.n | 6 => r.v | _ => !r.v
    (s.LaneAt n (.rep count last) r → fits → r.stack.length < 4 →
      exec (.rep n count last) s = .next (block (if count.val = 0 then 4096 else count))) ∧
    (s.LaneAt n (.repd a last) r → fits → r.stack.length < 4 → 0 < l.dr a → l.dr a ≤ 4096 →
      exec (.repd n a last) s = .next (block (l.dr a).toNat)) ∧
    (s.LaneAt n (.repd a last) r → fits → l.dr a = 0 →
      exec (.repd n a last) s = .next (s.laneTo n l ({ r with pc := last } : LaneRun).advanced 1)) ∧
    (s.LaneAt n (.br last) r → inside → exec (.br n last) s = .next jump) ∧
    (s.LaneAt n (.brc c last) r → inside → met = true → exec (.brc n c last) s = .next jump) ∧
    (s.LaneAt n (.brc c last) r → inside → met = false → exec (.brc n c last) s = .next (s.laneTo n l r.advanced 1))

/-- The lane faults of R250, R254 and R257: the lane stops without publishing, with the program counter and the cause in PL_n_FLT. -/
def Obligations.LaneFaultsStop : Prop :=
  ∀ (s : State) (n : Fin 8) (r : LaneRun) (d a : Fin 16) (k : Fin 16384) (i : Fin 8) (pa : Bool) (count last : Fin 4096) (o : LOp),
    let l := s.dev.pl n
    let faults := fun out cause => ∃ t, out = .next t ∧ s.LaneFaulted t n r cause
    let outside := fun a => (0x2000 ≤ a ∧ a < 0x2020) ∨ 0x202B < a
    s.dev.rd F.plCtrl_run n = 1 →
    (s.LaneAt n (.ldd d k) r → s.laneWord n r k = none → faults (exec (.ldd n d k) s) 2) ∧
    (s.LaneAt n (.ld d i pa) r → s.laneWord n r (Tbl.get 0 i l.a) = none → faults (exec (.ld n d i pa) s) 2) ∧
    (s.LaneAt n (.std d k) r → outside k.val → faults (exec (.std n d k) s) 2) ∧
    (s.LaneAt n (.st d i pa) r → outside (Tbl.get 0 i l.a) → faults (exec (.st n d i pa) s) 2) ∧
    (s.LaneAt n (.rep count last) r → r.stack.length = 4 → faults (exec (.rep n count last) s) 3) ∧
    (s.LaneAt n (.rep count last) r → last.val ≤ r.pc → faults (exec (.rep n count last) s) 3) ∧
    (s.LaneAt n (.repd a last) r → (l.dr a < 0 ∨ 4096 < l.dr a) → faults (exec (.repd n a last) s) 3) ∧
    (s.LaneAt n (.br last) r → (∃ b ∈ r.stack, b.stop = r.pc) → faults (exec (.br n last) s) 3) ∧
    (9 ≤ s.seq.released → l.run = some r → r.cycles < s.dev.rd F.plHook_budget n r.f.hook → 4096 ≤ r.pc →
      faults (exec (.pntFault n) s) 4) ∧
    (9 ≤ s.seq.released → l.run = some r → r.cycles < s.dev.rd F.plHook_budget n r.f.hook → r.pc < 4096 →
      s.dev.bad.contains (imemAddr n r.pc) = false → LOp.decode (Tbl.get 0 r.pc l.imem) = none → faults (exec (.pntFault n) s) 1) ∧
    (s.LaneAt n o r → exec (.pntFault n) s = .next s)

/-- END (R261, R262): the outputs written in the run are published together, the others stay; the cycles of the run are kept. -/
def Obligations.LaneEndPublishes : Prop :=
  ∀ (s : State) (n : Fin 8) (r : LaneRun), s.LaneAt n .fin r → r.outs.sorted = true → (∀ e ∈ r.outs, e.1 < 12) → r.cycles < 65535 →
    ∃ t, exec (.fin n) s = .next t ∧ (t.dev.pl n).run = none ∧ t.dev.rd F.plStat_lasthook n = r.f.hook % 4 ∧
      t.dev.rd F.plCyc_last n = r.cycles + 1 ∧
      (∀ k < 12, t.dev.rd F.plOut_value n k = match Tbl.find k r.outs with
        | some v => v % 2 ^ 32
        | none => s.dev.rd F.plOut_value n k) ∧
      (∀ k < 12, bitOf (t.dev.pl n).pub k = (bitOf (s.dev.pl n).pub k || (Tbl.find k r.outs).isSome)) ∧
      (t.dev.pl n).d = (s.dev.pl n).d ∧ (t.dev.pl n).dmem = (s.dev.pl n).dmem ∧ (t.dev.pl n).wait = (s.dev.pl n).wait ∧
      t.dev.rd F.plCtrl_run n = s.dev.rd F.plCtrl_run n

/-- HOOK_DUE, LANE_RUN_START, LANE_BUDGET_EXPIRY and PNT_PARITY (R249, R263 to R265, R270). -/
def Obligations.LaneRuns : Prop :=
  ∀ (s : State) (n : Fin 8) (h : Fin 3) (j : HookDue) (f : Firing) (rest : List Firing) (r : LaneRun) (off : Fin 65536),
    let l := s.dev.pl n
    9 ≤ s.seq.released →
    (Tbl.find h.val l.due = some j → s.dev.now < j.at_ → exec (.hookDue n h) s = .next s) ∧
    (Tbl.find h.val l.due = some j → j.at_ ≤ s.dev.now → l.wait = [] → l.run = none →
      ∃ t, exec (.hookDue n h) s = .next t ∧ t.dev = s.dev.modPl n (fun _ => (t.dev.pl n)) ∧ Tbl.find h.val (t.dev.pl n).due = none ∧
        ∃ g, (t.dev.pl n).wait = [g] ∧ g.hook = h ∧ g.dueAt = j.at_ ∧ g.ts = j.ts ∧
          g.params = (List.range 16).map fun i => s.dev.rd F.plParam_value n i) ∧
    (Tbl.find h.val l.due = some j → j.at_ ≤ s.dev.now → (∃ g ∈ l.wait, g.hook = h) →
      ∃ t, exec (.hookDue n h) s = .next t ∧ (t.dev.pl n).wait = l.wait ∧ (t.dev.pl n).run = l.run ∧
        t.dev.rd F.plStat_overrun n = 1 ∧ t.dev.rd F.plStat_skip n = 1 ∧
        t.dev.rd F.plCnt_skips n = min 65535 (s.dev.rd F.plCnt_skips n + 1)) ∧
    (l.run = none → l.wait = f :: rest → s.dev.rd F.plCtrl_run n = 1 →
      exec (.laneRunStart n) s = .next (s.put (s.dev.modPl n fun p =>
        { p with
          wait := rest
          run := some { f := f, pc := s.dev.rd F.plHook_entry n f.hook, z := false, n := false, v := false, stack := [], cycles := 0, at_ := s.dev.now, outs := [] } }))) ∧
    (l.run = some r → s.dev.rd F.plHook_budget n r.f.hook ≤ r.cycles →
      ∃ t, exec (.laneBudgetExpiry n) s = .next t ∧ (t.dev.pl n) = { l with run := none } ∧ t.dev.rd F.plStat_overrun n = 1 ∧
        t.dev.rd F.plCnt_overruns n = min 65535 (s.dev.rd F.plCnt_overruns n + 1) ∧
        ∀ k < 12, t.dev.rd F.plOut_value n k = s.dev.rd F.plOut_value n k) ∧
    (l.run = some r → off.val % 4 = 0 → (off.val < 0x4000 ∨ 0x8000 ≤ off.val) →
      ∃ t, exec (.pntParity n off) s = .next t ∧ (t.dev.pl n) = { l with run := none } ∧ t.dev.rd F.plStat_parity n = 1 ∧
        laneBase n + off ∈ t.dev.bad ∧ laneBase n + off ∈ t.dev.reloads)

/-- LANE_RUN_WRITE, LANE_BIND_WRITE, LANE_MEMORY_WRITE and PARAM_WRITE (R249, R266 to R269). -/
def Obligations.LaneWrites : Prop :=
  ∀ (s : State) (w : Who) (n : Fin 8) (bind : Bool) (axis : Fin 8) (k : Fin 16) (v : BitVec 32) (i : Nat),
    let ctrl := F.plCtrl_run.addr n 0
    let imem := laneBase n + 4 * i
    let dmem := laneBase n + 0x8000 + 4 * i
    (s.GrantsPart w ctrl → s.dev.rd F.plCtrl_run n = 0 → s.dev.budgetFits n = true →
      (s.dev.rd F.plCtrl_bind n = 0 ∨ s.dev.otherBound n = false) → s.dev.laneUsed n (s.dev.outen n) = false →
      Leads (exec (.laneRunWrite w n true) s) s
        (((s.dev.modPl n fun p => { imem := p.imem, dmem := p.dmem }).wr F.plCtrl_run 1 n).ev E.pntRunstate n 1 w.port) w 3 ctrl .ok) ∧
    (s.GrantsPart w ctrl → s.dev.rd F.plCtrl_run n = 1 → s.dev.laneUsed n (s.dev.outen n) = false →
      Leads (exec (.laneRunWrite w n false) s) s
        (((s.dev.wr F.plCtrl_run 0 n).modPl n fun p => { p with run := none, wait := [], due := [] }).ev E.pntRunstate n 0 w.port) w 3 ctrl .ok) ∧
    (s.Grants w ctrl → s.dev.rd F.plCtrl_run n = 0 →
      Leads (exec (.laneBindWrite w n bind axis) s) s ((s.dev.wr F.plCtrl_bind (b2n bind) n).wr F.plCtrl_axis axis n) w 2 ctrl .ok) ∧
    (s.Grants w ctrl → s.dev.rd F.plCtrl_run n = 1 →
      Leads (exec (.laneBindWrite w n bind axis) s) s (s.dev.ev E.pntWriteRefused (n + 256 * w.port) ctrl w.port) w 2 ctrl .wrongState) ∧
    (s.Grants w imem → i < 4096 → s.dev.rd F.plCtrl_run n = 0 → s.dev.laneUsed n (s.dev.outen n) = false →
      ∃ t, exec (.laneMemoryWrite w n ⟨4 * i % 65536, Nat.mod_lt _ (by decide)⟩ v) s = .next t ∧
        (t.dev.pl n) = { s.dev.pl n with imem := Tbl.set 0 i v.toNat (s.dev.pl n).imem }) ∧
    (s.Grants w dmem → i < 8192 → s.dev.laneUsed n (s.dev.outen n) = false →
      ∃ t, exec (.laneMemoryWrite w n ⟨(0x8000 + 4 * i) % 65536, Nat.mod_lt _ (by decide)⟩ v) s = .next t ∧
        (t.dev.pl n) = { s.dev.pl n with dmem := Tbl.set 0 i v.toNat (s.dev.pl n).dmem }) ∧
    (s.Grants w (F.plParam_value.addr n k) →
      Leads (exec (.paramWrite w n k v) s) s (s.dev.wr F.plParam_value v.toNat n k) w 2 (F.plParam_value.addr n k) .ok)

/-! ### Commands and register accesses (00_scope.md, 01_line_and_tick.md, 11_network_ports.md) -/

/-- READ, WRITE, MASKED_WRITE and REGISTER_WRITE (R9, R10, R300, R302), on the 32-bit registers PL_n_PARAM: the words read are answered; a
word written is read back; bits outside a mask stay. -/
def Obligations.RegisterAccesses : Prop :=
  ∀ (s : State) (w : Who) (mac : BitVec 48) (n : Fin 8) (k : Fin 16) (v m : BitVec 32),
    let a := F.plParam_value.addr n k
    let core := s.dev.rd F.mgtState_core = 0 ∧ s.dev.mgt.noImage = false
    let old := s.dev.rd F.plParam_value n k
    (s.GrantsRead w a → core → w.port.val < 4 → s.dev.net.q21.length < 64 →
      ∃ t, exec (.read w mac (BitVec.ofNat 32 a) 1) s = .next t ∧
        t = s.put { s.dev with net := t.dev.net } ∧
        t.dev.net.q21 = s.dev.net.q21 ++
          [{ port := w.port, code := .ok, tag := w.tag, op := 1, addr := a, data := [old], mac := mac.toNat }] ∧
        t.dev.net.inflight = s.dev.net.inflight ∧ t.dev.net.released = s.dev.net.released ++ [w.tag.val]) ∧
    (s.Grants w a → core →
      ∃ t, exec (.write w mac (BitVec.ofNat 32 a) [v]) s = .next t ∧
        ∀ f i j, f.key i j ≠ F.lehrJrn_nosrc.key 0 0 → t.dev.rd f i j = (s.dev.wr F.plParam_value v.toNat n k).rd f i j) ∧
    (s.GrantsPart w a → core →
      ∃ t, exec (.maskedWrite w mac (BitVec.ofNat 32 a) [(v, m)]) s = .next t ∧
        ∀ f i j, f.key i j ≠ F.lehrJrn_nosrc.key 0 0 →
          t.dev.rd f i j = (s.dev.wr F.plParam_value ((BitVec.ofNat 32 old &&& ~~~m) ||| (v &&& m)).toNat n k).rd f i j) ∧
    (s.Grants w a → Leads (exec (.registerWrite w (BitVec.ofNat 32 a) v) s) s (s.dev.wr F.plParam_value v.toNat n k) w 2 a .ok)

/-- R36, R6, R37: an access without the right changes nothing but NET_VIOL, its record and its answer; one where no register is, or that is
not aligned, changes nothing but its answer. -/
def Obligations.RefusedAccesses : Prop :=
  ∀ (s : State) (w : Who) (addr v : BitVec 32),
    let a := addr.toNat
    let resp := fun (d : Dev) (c : Code) => d.respond { port := w.port, code := c, tag := w.tag, op := 2, addr := a }
    addrDom a ≤ s.seq.released →
    (s.dev.mayAccess w.port a true = false →
      exec (.registerWrite w addr v) s =
        .next (s.put (resp ((s.dev.wr F.netViol_addr a w.port).ev E.netViolation w.port a w.port) .violation))) ∧
    (s.dev.mayAccess w.port a true = true → placeOf a = none →
      exec (.registerWrite w addr v) s = .next (s.put (resp s.dev .noSuchAddress))) ∧
    (s.dev.mayAccess w.port a true = true → (∃ p, placeOf a = some p) → a % 4 ≠ 0 →
      exec (.registerWrite w addr v) s = .next (s.put (resp s.dev .range)))

/-- QUEUE_PUSH (R38, R117): a valid entry for an axis in STANDSTILL or ENABLED joins its queue while it has room, and is answered later; with 16
entries waiting it is answered QUEUE_FULL, and on a DISABLED axis WRONG_STATE. -/
def Obligations.QueuePushes : Prop :=
  ∀ (s : State) (w : Who) (mac : BitVec 48) (n : Fin 8) (q : Fin 32) (data : List (BitVec 32)),
    let l := (s.dev.axis n).queue
    let by_ : Cmdr := { port := w.port, tag := w.tag, op := 4, addr := n, mac := mac.toNat }
    let push := exec (.queuePush w mac q data) s
    q.val = n → 8 ≤ s.seq.released → s.dev.right w.port 11 = 0 → data.length = 8 → entryOk (wordsNat data) = true →
    s.dev.rd F.mgtState_core = 0 → s.dev.mgt.noImage = false →
    ((s.dev.axState n = 1 ∨ s.dev.axState n = 2) → l.length < 16 →
      push = .next (s.put (s.dev.modAxis n fun h => { h with queue := l ++ [{ by_ := by_, words := wordsNat data }] }))) ∧
    ((s.dev.axState n = 1 ∨ s.dev.axState n = 2) → 16 ≤ l.length → push = .next (s.put (s.dev.answer by_ .queueFull))) ∧
    (s.dev.axState n = 0 → push = .next (s.put (s.dev.answer by_ .wrongState)))

/-- CMD_FRAME and COMMAND_START (R40, R41, R301, R302): a well-formed record with a free tag and quota joins its port's queue; the engine
takes the head of the queue whose turn it is, and turns to the next port. -/
def Obligations.CommandEngine : Prop :=
  ∀ (s : State) (x : RxFrame) (d : Dev) (w0 addr : Nat) (p : Fin 4) (c : CmdRec) (l : List CmdRec),
    let tag := w0 / 2 ^ 8 % 2 ^ 7
    let count := w0 / 2 ^ 16
    (11 ≤ s.seq.released → s.dev.takeType 2 = some (x, d) → x.frame.len = 8 → wordsOf x.frame.payload 2 = [w0, addr] → w0 % 256 = 1 →
      bitOf w0 15 = false → 1 ≤ count → count ≤ 64 → (∀ e ∈ s.dev.net.inflight, e.1 ≠ tag) →
      (s.dev.net.inflight.filter fun e => e.2 == x.port).length < s.dev.quota x.port →
      ∃ t, exec .cmdFrame s = .next t ∧ t = s.put { d with regs := t.dev.regs, net := t.dev.net } ∧
        t.dev.net = { d.net with
          cmdq := Tbl.put x.port
            (Tbl.get [] x.port d.net.cmdq ++ [{ op := 1, tag := tag, count := count, addr := addr, data := [], mac := x.frame.src }]) d.net.cmdq
          inflight := d.net.inflight ++ [(tag, x.port)] } ∧
        t.dev.rd F.glbTags_peak = max (s.dev.rd F.glbTags_peak) (s.dev.net.inflight.length + 1) % 2 ^ 8) ∧
    (recDom c ≤ s.seq.released → s.dev.net.q21.length < 64 → s.dev.nextPort = some p →
      Tbl.get [] p.val s.dev.net.cmdq = c :: l →
      exec .commandStart s =
        .next (s.put (({ s.dev with net := { s.dev.net with cmdq := Tbl.put p.val l s.dev.net.cmdq, turn := (p + 1) % 4 } } : Dev).carry p c)))

/-! ### Time bases and launches (02_time_bases.md) -/

/-- TSFR_READ, LOAD, REARM, SRC_WRITE, TB_RATE_WRITE and TB_RLIM_WRITE (R47 to R52, R54, R57). A LOAD or REARM that is not refused at once is
judged, takes effect and is answered at the end of its clock (`Dev.clockEnd`, with which a step on an empty queue begins). -/
def Obligations.TimeBaseCommands : Prop :=
  ∀ (s : State) (w : Who) (n : Fin 4) (v : BitVec 32) (port : Fin 2) (dom minor : Fin 256) (major : Fin 16) (by_ : Cmdr),
    let t0 := s.dev.tb16 n
    let sec := t0 / sec16
    let ctrl := F.tbCtrl_load.addr n 0
    let answered := fun (t : State) op a c => t.dev.net = (s.dev.respond { port := w.port, code := c, tag := w.tag, op := op, addr := a }).net
    let legal := s.dev.sourceOk n (s.dev.source n) (s.dev.flag F.tbCtrl_gm n) = .ok
    let live := ∃ a < 8, s.dev.rd F.axTick_tb a = n ∧ s.dev.axState a ≠ 0
    let src : Source := { src := 1, port := port, domain := dom, minor := minor, major := major }
    let fields := s.dev.rd F.tbCtrl_src n + 4 * s.dev.rd F.tbCtrl_port n + 8 * s.dev.rd F.tbCtrl_gm n + 16 * s.dev.rd F.tbCtrl_manual n +
      256 * s.dev.rd F.tbCtrl_loststop n
    let left := fun (o : Host.Outcome State Fault Refusal) (bit : Nat) => o = .next (s.put { s.dev with tim := { s.dev.tim with
      judge := s.dev.tim.judge ++ [.ctrl { port := w.port, tag := w.tag, op := 3, addr := ctrl } n (fields + bit)] } })
    let judged := fun (bit : Nat) => s.dev.tim.judge = [.ctrl by_ n (fields + bit)]
    let told := fun (d : Dev) => s.dev.net.q21.length < 64 → by_.port < 4 → d.net.q21 = s.dev.net.q21 ++
      [{ port := by_.port, code := .ok, tag := by_.tag, op := by_.op, addr := by_.addr, mac := by_.mac }]
    (s.GrantsRead w (R.tbTsfr.base + 0x100 * n) →
      ∃ t, exec (.tsfrRead w n) s = .next t ∧ t.dev.rd F.tbTns_ns n = t0 % sec16 / 65536 ∧ t.dev.rd F.tbTsec_seclo n = sec % 2 ^ 32 ∧
        t.dev.rd F.tbTsfr_frac n = t0 % 65536 ∧ t.dev.rd F.tbTsfr_sechi n = sec / 2 ^ 32 % 65536 ∧
        t.dev.net = (s.dev.respond { port := w.port, code := .ok, tag := w.tag, op := 1, addr := R.tbTsfr.base + 0x100 * n,
                                     data := [t0 % 65536 + 65536 * (sec / 2 ^ 32 % 65536)] }).net) ∧
    (s.GrantsPart w ctrl → legal → s.dev.rd F.tbState_stepok n = 1 → left (exec (.load w n) s) 64) ∧
    (judged 64 → legal → s.dev.rd F.tbState_stepok n = 1 → s.dev.rd F.tbLdns_ns n < 10 ^ 9 →
      let d := s.dev.clockEnd
      told d ∧ d.tim.judge = [] ∧ d.rd F.tbState_stepok n = 0 ∧
        d.tbNs n = (s.dev.rd F.tbLdhi_sechi n * 2 ^ 32 + s.dev.rd F.tbLdsec_seclo n) * 1000000000 + s.dev.rd F.tbLdns_ns n) ∧
    (s.GrantsPart w ctrl → legal → s.dev.rd F.tbState_stepok n = 0 →
      ∃ t, exec (.load w n) s = .next t ∧ answered t 3 ctrl .timeStepRefused ∧ t.dev.tim = s.dev.tim ∧
        t.dev.rd F.tbState_stepok n = 0) ∧
    (s.GrantsPart w ctrl → legal → ¬ live → left (exec (.rearm w n) s) 32) ∧
    (judged 32 → legal → ¬ live →
      let d := s.dev.clockEnd
      told d ∧ d.tim.judge = [] ∧ d.rd F.tbState_stepok n = 1 ∧ d.tb16 n = s.dev.tb16 n) ∧
    (s.GrantsPart w ctrl → legal → live → s.dev.rd F.tbState_stepok n = 0 →
      ∃ t, exec (.rearm w n) s = .next t ∧ answered t 3 ctrl .wrongState ∧ t.dev.rd F.tbState_stepok n = 0) ∧
    (s.Grants w (F.tbCtrl_src.addr n 0) → s.dev.sourceOk n src (s.dev.flag F.tbCtrl_gm n && n == 0) = .ok → s.dev.source n ≠ src →
      ∃ t, exec (.srcWrite w n 1 port dom minor major) s = .next t ∧ answered t 2 (F.tbCtrl_src.addr n 0) .ok ∧
        t.dev.source n = src ∧
        t.dev.rd F.tbState_state n = (if s.dev.rd F.tbState_stepok n = 1 then 1 else 2) ∧ t.dev.tb16 n = s.dev.tb16 n) ∧
    (s.Grants w (F.tbRate_rate.addr n 0) → s.dev.rd F.tbCtrl_manual n = 1 → v.toInt.natAbs ≤ s.dev.rd F.tbRlim_rlim n →
      ∃ t, exec (.tbRateWrite w n v) s = .next t ∧ answered t 2 (F.tbRate_rate.addr n 0) .ok ∧ t.dev.rd F.tbRate_rate n = v.toNat) ∧
    (s.Grants w (F.tbRlim_rlim.addr n 0) → v.toNat ≠ 0 → v.toNat < 2 ^ 31 →
      ∃ t, exec (.tbRlimWrite w n v) s = .next t ∧ answered t 2 (F.tbRlim_rlim.addr n 0) .ok ∧ t.dev.rd F.tbRlim_rlim n = v.toNat ∧
        (t.dev.rdI F.tbRate_rate n).natAbs ≤ v.toNat ∧ (t.dev.tb n).integ.natAbs ≤ v.toNat)

/-- PTP_SYNC_MEASUREMENT, TRIGBUS_TIME_PULSE, TB_SOURCE_TIMEOUT, TB_RATE_AT_LIMIT (R50, R54, R55, R57, R61, R64, R68): a measurement is stamped and
judged at the end of its clock; a valid one is counted with its offset, a stale one counts for nothing; a source that is not heard loses the
lock. -/
def Obligations.TimeBaseMeasurements : Prop :=
  ∀ (s : State) (n : Fin 4) (p : Fin 2) (dom minor : Fin 256) (major : Fin 16) (ingress sec ns width age since : Nat) (corr x stamp : Int),
    4 ≤ s.seq.released →
    let src : Source := { src := 1, port := p, domain := dom, minor := minor, major := major }
    let sync := exec (.ptpSyncMeasurement p dom major minor age sec ns corr) s
    let ball := s.dev.tbAgo n age / 32768 * 32768 - s.dev.rd F.tsuLat_inlat p * 32768
    let off := max (-(2 ^ 63)) (min (2 ^ 63 - 1) (ball - ((sec * 10 ^ 9 + ns) * 65536 + corr + s.dev.rdI F.tsuLinkdly_d p)))
    let fell := s.dev.tbAgo n age - s.dev.rdI F.gthTrigDly_dly * 65536
    let ref : Int := if s.dev.rd F.tbState_state n = 1 then
        ((s.dev.rd F.tbLdhi_sechi n * 2 ^ 32 + s.dev.rd F.tbLdsec_seclo n) * 10 ^ 9 + s.dev.rd F.tbLdns_ns n) * 2 ^ 16
      else rneDiv fell sec16 * sec16
    let d := s.dev.clockEnd
    (s.dev.source n = src → (∀ m < n.val, s.dev.source m ≠ src) →
      sync = .next (s.put { s.dev with tim := { s.dev.tim with judge := s.dev.tim.judge ++ [.meas n (s.dev.now - age) off ball] } })) ∧
    ((∀ m < 4, s.dev.source m ≠ src) → sync = .next s) ∧
    (2000000 ≤ width → width ≤ 2550000 → s.dev.rd F.tbCtrl_src n = 2 →
      ∃ t, exec (.trigbusTimePulse width age) s = .next t ∧ t = s.put { s.dev with tim := t.dev.tim } ∧
        .meas n (s.dev.now - age) (max (-(2 ^ 63)) (min (2 ^ 63 - 1) (fell - ref))) fell ∈ t.dev.tim.judge) ∧
    ((width < 2000000 ∨ 2550000 < width) → exec (.trigbusTimePulse width age) s = .next s) ∧
    (s.dev.tim.judge = [.meas n ingress x stamp] → s.dev.measStale n ingress = false →
      d.rd F.tbState_meascnt n = (s.dev.rd F.tbState_meascnt n + 1) % 2 ^ F.tbState_meascnt.len ∧ d.rd F.tbState_nosrc n = 0 ∧
        (d.tb n).lastMeas = s.dev.now ∧ d.rdI F.tbOffset_offset n = max (-(2 ^ 31)) (min (2 ^ 31 - 1) (rneShr x 8))) ∧
    (s.dev.tim.judge = [.meas n ingress x stamp] → s.dev.measStale n ingress = true →
      d = ({ s.dev with tim := { s.dev.tim with judge := [] } } : Dev).tagsFree) ∧
    (s.dev.rd F.tbCtrl_src n ≠ 0 → (s.dev.tb n).lastMeas + s.dev.rd F.tbSrcto_srcto n * 1000 ≤ s.dev.now →
      s.dev.rd F.tbState_state n = 3 →
      ∃ t, exec (.tbSourceTimeout n) s = .next t ∧ t.dev.rd F.tbState_nosrc n = 1 ∧ t.dev.rd F.tbState_state n = 4) ∧
    (s.dev.mgt.fwRun = true → s.dev.rd F.mgtState_core = 0 →
      (s.dev.tb n).limSince = some since → since + 10 ^ 12 ≤ s.dev.now → (s.dev.tb n).limLogged = false →
      exec (.tbRateAtLimit n) s =
        .next (s.put ((s.dev.modTb n fun h => { h with limLogged := true }).ev E.tbRateAtLimit n (s.dev.rd F.tbRate_rate n)))) ∧
    (s.dev.rd F.mgtState_core ≠ 0 → exec (.tbRateAtLimit n) s = .next s)

/-- PDELAY_EXCHANGE (R61, R62, R65): t4 is the stamp of the base that stamped the request, corrected by the port's ingress latency; the first delay
sample is loaded, a later one moves D by an eighth, the result rounded once (R4); the third exchange in a row without an answer keeps D and logs
PDELAY_LOST. -/
def Obligations.PeerDelay : Prop :=
  ∀ (s : State) (p : Fin 2) (age base : Nat) (t1 t32 : Int),
    let d := s.dev
    let tsu := d.tsu p
    let twice := d.stampAt base age - d.rd F.tsuLat_inlat p * 32768 - t1 - t32
    let D := d.rdI F.tsuLinkdly_d p
    let sat := fun (x : Int) => max (-(2 ^ 31)) (min (2 ^ 31 - 1) x)
    let answered := exec (.pdelayExchange p (some (age, t32))) s
    let silent := exec (.pdelayExchange p none) s
    let asked := tsu.req = some (t1, base)
    4 ≤ s.seq.released → d.rd F.tsuCtrl_pdly p = 1 →
    (asked → tsu.loaded = false →
      answered = .next (s.put ((d.wrI F.tsuLinkdly_d (sat (rneDiv twice 2)) p).modTsu p fun t =>
        { t with missed := 0, loaded := true, req := none }))) ∧
    (asked → tsu.loaded = true →
      answered = .next (s.put ((d.wrI F.tsuLinkdly_d (sat (rneDiv (16 * D + (twice - 2 * D)) 16)) p).modTsu p fun t =>
        { t with missed := 0, loaded := true, req := none }))) ∧
    (tsu.req = none → answered = .next s) ∧
    (tsu.missed ≠ 2 → silent = .next (s.put (d.modTsu p fun t => { t with missed := t.missed + 1, req := none }))) ∧
    (tsu.missed = 2 → silent = .next (s.put ((d.modTsu p fun t => { t with missed := 3, req := none }).ev E.pdelayLost (p + 1) (d.rd F.tsuLinkdly_d p))))

/-- PDELAY_RESPONSE, GM_SYNC_SEND, GM_ANNOUNCE_SEND, SYNCCLK_STOP and SYNCCLK_RETURN (R59, R65, R67), and the Pdelay_Req that a TIME clock sends
(`Dev.pdelaySend`) every 2^LOGPDLY s; that the first one falls due at once is the model's choice (log entry 115). -/
def Obligations.PeersAndRoot : Prop :=
  ∀ (s : State) (p : Fin 2) (since : Nat) (r : PdelayReq),
    let sent := fun (t : State) (p : Nat) => ∃ w, t.dev.waitingAt p = s.dev.waitingAt p ++ [w] ∧ w.cls = 1 ∧ w.frame.etype = 0x88F7
    (11 ≤ s.seq.released → ∃ t, exec (.pdelayResponse p r) s = .next t ∧ sent t p) ∧
    (11 ≤ s.seq.released → s.dev.rd F.tbCtrl_gm 0 = 1 → s.dev.rd F.tbGm_onp1 = 1 →
      (∃ t, exec .gmSyncSend s = .next t ∧ sent t 0) ∧ ∃ t, exec .gmAnnounceSend s = .next t ∧ sent t 0) ∧
    (4 ≤ s.seq.released → s.dev.rd F.timRoot_src = 1 → s.dev.rd F.timRoot_holdover = 0 →
      exec .syncclkStop s = .next (s.put
        { (((s.dev.clr F.timRoot_syncok).set1 F.timRoot_holdover).ev E.clkHoldover 0 0) with
          tim := { s.dev.tim with holdSince := some s.dev.now } })) ∧
    (4 ≤ s.seq.released → s.dev.rd F.timRoot_holdover = 1 → s.dev.rd F.timRoot_src = 1 → s.dev.tim.holdSince = some since →
      exec .syncclkReturn s = .next (s.put
        { (((s.dev.set1 F.timRoot_syncok).clr F.timRoot_holdover).ev E.clkRelocked 0
            (min (2 ^ 32 - 1) (rneDiv ((s.dev.now - since : Nat) : Int) (10 ^ 9)).toNat)) with
          tim := { s.dev.tim with holdSince := none } })) ∧
    (4 ≤ s.seq.released → (s.dev.rd F.timRoot_holdover = 0 ∨ s.dev.rd F.timRoot_src = 0) →
      exec .syncclkReturn s = .next (s.put (s.dev.set1 F.timRoot_syncok))) ∧
    (4 ≤ s.seq.released → s.dev.rd F.tsuCtrl_pdly p = 1 → s.dev.rd F.netPLink_up p = 1 → s.dev.net.preconfig = false →
      ((s.dev.tsu p).next ≤ s.dev.now → let d := s.dev.pdelaySend p; (d.tsu p).req = none ∧
        (d.tsu p).next = s.dev.now + 125 * 10 ^ 9 * 2 ^ (s.dev.rdI F.tsuCtrl_logpdly p + 3).toNat ∧
        ∃ w, d.waitingAt p = s.dev.waitingAt p ++ [w] ∧ w.cls = 1 ∧ w.frame.etype = 0x88F7 ∧ w.fill = .request) ∧
      (s.dev.now < (s.dev.tsu p).next → s.dev.pdelaySend p = s.dev))

/-- LCH_COMMIT and LAUNCH_FIRE (R74, R75): the launch time is committed with its seconds, after a firing that is due in the same clock, and arms an
enabled slot; an armed slot fires when its time base has reached it, and with a period it is armed again that much later. -/
def Obligations.Launches : Prop :=
  ∀ (s : State) (w : Who) (n : Fin 16) (v : BitVec 32),
    let ns := v.toNat % 2 ^ 30
    let a := F.lchTns_ns.addr n 0
    let at_ := s.dev.rd F.lchTsec_sec n * 10 ^ 9 + ns
    let per := s.dev.rd F.lchPer_per n
    let due := s.dev.rd F.lchStat_armed n = 1 ∧ 0 ≤ s.dev.lchPast n
    let fired := min (2 ^ F.lchStat_fired.len - 1) (s.dev.rd F.lchStat_fired n + 1)
    (s.Grants w a → ns < 10 ^ 9 →
      ∃ t, exec (.lchCommit w n v) s = .next t ∧ t.dev.rd F.lchTns_ns n = ns ∧ (t.dev.lch n).t = at_ ∧
        (¬ due → t.dev.rd F.lchStat_armed n = (if s.dev.rd F.lchCtrl_en n = 1 then 1 else s.dev.rd F.lchStat_armed n) ∧
          t.dev.rd F.lchStat_fired n = s.dev.rd F.lchStat_fired n) ∧
        (due → t.dev.rd F.lchStat_fired n = fired) ∧
        (s.dev.rd F.lchCtrl_en n = 1 → t.dev.rd F.lchStat_armed n = 1 ∧ (t.dev.lch n).passed = decide (0 < t.dev.lchPast n))) ∧
    (s.Grants w a → 10 ^ 9 ≤ ns → Leads (exec (.lchCommit w n v) s) s s.dev w 2 a .range) ∧
    (4 ≤ s.seq.released → due → (s.dev.lch n).passed = true →
      ∃ t, exec (.launchFire n) s = .next t ∧ t.dev.rd F.lchStat_fired n = fired ∧ t.dev.rd F.lchStat_late n = 1) ∧
    (4 ≤ s.seq.released → due → (s.dev.lch n).passed = false → s.dev.rd F.lchCtrl_kind n = 5 →
      ∃ t, exec (.launchFire n) s = .next t ∧ t.dev.rd F.lchStat_fired n = fired ∧
        t.dev.rd F.lchStat_armed n = (if per = 0 then 0 else 1) ∧
        (t.dev.lch n).t = (if per = 0 then (s.dev.lch n).t else ((s.dev.lch n).t + per) % (2 ^ 32 * 10 ^ 9)) ∧
        ∃ u ∈ t.dev.tim.pulses.head?, u.ball = s.dev.rd F.lchCtrl_arg n % 2 ∧ u.tb = s.dev.rd F.lchCtrl_tb n ∧
          u.at_ = s.dev.tb16 (s.dev.rd F.lchCtrl_tb n) - s.dev.lchPast n ∧ u.width = 10 * s.dev.rd F.lchCtrl_width n) ∧
    (4 ≤ s.seq.released → ¬ due → exec (.launchFire n) s = .next s)

/-! ### Master channels, gearing and cams (03_gaffer_and_gearing.md) -/

/-- GAFFER_SEGMENT, SEGMENT_LIVE, GM_STALE and GM_GRACE_EXPIRED (R78 to R81, R84, R87 to R89). -/
def Obligations.MasterSegments : Prop :=
  ∀ (s : State) (m : Fin 8) (words : List (BitVec 32)) (q old : Seg),
    let g := s.dev.gmc m
    let x := segOf (wordsNat words)
    8 ≤ s.seq.released →
    (s.dev.rd F.gmStat_state m = 1 → g.live = none → g.queue = [] → g.first = true → segFits (wordsNat words) = true →
      smod (s.dev.gmNow m) x.t0 span16 < 0 →
      exec (.gafferSegment m words) s =
        .next (s.put ((s.dev.modGm m fun g => { g with queue := [x], first := false }).wr F.gmStat_lastseq x.seq m))) ∧
    (s.dev.rd F.gmStat_state m = 0 →
      exec (.gafferSegment m words) s =
        .next (s.put (((s.dev.bump F.gmRefcnt_refused m).set1 F.gmStat_refused m).ev E.gmSegRefused m (1 + 65536 * x.seq)))) ∧
    (s.dev.rd F.gmCtrl_en m = 1 → g.queue = [q] → reached (s.dev.gmNow m) q.t0 = true → s.dev.rd F.gmStat_state m = 1 →
      exec (.segmentLive m) s =
        .next (s.put (((s.dev.modGm m fun g => { g with prev := g.live, live := some q, queue := [], expired := false }).wr
          F.gmStat_state 2 m).ev E.gmState m 2))) ∧
    (s.dev.rd F.gmCtrl_en m = 1 → g.queue = [q] → reached (s.dev.gmNow m) q.t0 = true → s.dev.rd F.gmStat_state m = 2 →
      exec (.segmentLive m) s =
        .next (s.put (s.dev.modGm m fun g => { g with prev := g.live, live := some q, queue := [], expired := false }))) ∧
    (g.live = some old → s.dev.rd F.gmStat_state m = 2 → reached (s.dev.gmNow m) (old.t0 + old.h * 65536) = true → g.queue = [] →
      s.dev.rd F.gmCtrl_stalemode m = 2 →
      exec (.gmStale m) s =
        .next (s.put ((((s.dev.modGm m fun g => { g with expired := false }).wr F.gmStat_state 3 m).ev E.gmState m 3).ev E.gmStale m
          ((old.t0 + old.h * 65536) % sec16 / 65536)))) ∧
    (g.live = some old → s.dev.rd F.gmStat_state m = 3 → g.expired = false → s.dev.rd F.gmCtrl_stalemode m = 1 →
      ∃ t, exec (.gmGraceExpired m) s = .next t ∧ (t.dev.gmc m) = { g with expired := true } ∧
        ∀ a < 8, (t.dev.axis a).cpl.due =
          (s.dev.axis a).cpl.due ++ (if s.dev.rd F.axCpl_msrc a = m ∧ s.dev.rd F.axCstat_cstate a ≠ 0 then [2] else []))

/-- GM_CTRL_WRITE, GM_FLUSH, STALEMODE_WRITE, LMSHIFT_WRITE and CAM_DESCRIPTOR_WRITE (R77, R83, R88, R94, R99, R104). -/
def Obligations.MasterWrites : Prop :=
  ∀ (s : State) (w : Who) (m : Fin 8) (tb : Fin 4) (mode : Fin 3) (grace v : BitVec 32) (src : Fin 12) (sh : Fin 48) (c : Fin 16)
      (i : Fin 196608),
    let ctrl := F.gmCtrl_en.addr m 0
    let word := 1 + 2 * tb.val + 16 * mode.val
    let desc := 0xC0800 + 16 * c.val
    let point := 0x200000 + 4 * i.val
    (s.Grants w ctrl → s.dev.followers m = [] → s.dev.rd F.gmCtrl_en m = 0 →
      ∃ t, exec (.gmCtrlWrite w m (BitVec.ofNat 32 word)) s = .next t ∧ t.dev.rd F.gmCtrl_en m = 1 ∧ t.dev.rd F.gmCtrl_tb m = tb ∧
        t.dev.rd F.gmCtrl_stalemode m = mode ∧ t.dev.rd F.gmStat_state m = 1 ∧ (t.dev.gmc m).live = none ∧ (t.dev.gmc m).queue = [] ∧
        (t.dev.gmc m).first = true) ∧
    (s.GrantsPart w ctrl → s.dev.rd F.gmCtrl_stalemode m ≤ 2 →
      ∃ t, exec (.gmFlush w m) s = .next t ∧ (t.dev.gmc m).queue = [] ∧ (t.dev.gmc m).live = (s.dev.gmc m).live ∧
        t.dev.rd F.gmCtrl_en m = s.dev.rd F.gmCtrl_en m) ∧
    (s.Grants w ctrl → s.dev.rd F.gmStat_state m ≠ 3 → s.dev.bad.contains (F.gmGrace_grace.addr m 0) = false →
      Leads (exec (.stalemodeWrite w m (mode.castLE (by decide)) grace) s) s
        ((s.dev.wr F.gmCtrl_stalemode mode m).wr F.gmGrace_grace grace.toNat m) w 2 ctrl .ok) ∧
    (s.Grants w (shiftAddr src) → s.dev.followed (8 + src) = false →
      Leads (exec (.lmshiftWrite w src (sh.castLE (by decide))) s) s
        (if src.val < 8 then s.dev.wr F.axLmshift_shift sh src else s.dev.wr F.gafFqm_shift sh (src - 8)) w 2 (shiftAddr src) .ok) ∧
    (s.Grants w desc → s.dev.camInUse c = false → v.toNat % 2 ^ 18 + 2 ^ s.dev.rd F.camFmt_log2n c ≤ 196608 →
      Leads (exec (.camDescriptorWrite w (BitVec.ofNat 32 desc) v) s) s (s.dev.wr F.camBase_base v.toNat c) w 2 desc .ok) ∧
    (s.Grants w desc → s.dev.camInUse c = true → v.toNat % 2 ^ 18 + 2 ^ s.dev.rd F.camFmt_log2n c ≤ 196608 →
      Leads (exec (.camDescriptorWrite w (BitVec.ofNat 32 desc) v) s) s s.dev w 2 desc .wrongState) ∧
    (s.Grants w point → s.dev.pointInUse i = false →
      Leads (exec (.camDescriptorWrite w (BitVec.ofNat 32 point) v) s) s { s.dev with tables := Tbl.set 0 i v.toNat s.dev.tables } w 2
        point .ok)

/-- ENGAGE, DISENGAGE, ABORT and CAMSEL_ARM (R98, R103, R105): the moves of the coupling state and their refusals. -/
def Obligations.Couplings : Prop :=
  ∀ (s : State) (w : Who) (n : Fin 8) (phase nxv : Bool) (cur next : Fin 16),
    let a := F.axEcmd_engage.addr n 0
    let sel := F.axCamsel_cur.addr n 0
    let cs := s.dev.rd F.axCstat_cstate n
    let answered := fun (t : State) c => t.dev.net = (s.dev.respond { port := w.port, code := c, tag := w.tag, op := 2, addr := a }).net
    let goes := fun o (st : Nat) => ∃ t, o = .next t ∧ answered t .ok ∧ t.dev.rd F.axCstat_cstate n = st
    s.Grants w a →
    (s.dev.engageOk n = true → ∃ t, exec (.engage w n phase) s = .next t ∧ answered t .ok ∧ t.dev.rd F.axCstat_cstate n = 1 ∧
      (t.dev.axis n).cpl.rem = 0 ∧ (t.dev.axis n).cpl.lag = 0 ∧ (t.dev.axis n).cpl.phase = phase) ∧
    (s.dev.engageOk n = false → Leads (exec (.engage w n phase) s) s s.dev w 2 a .wrongState) ∧
    (cs = 3 → goes (exec (.disengage w n phase) s) 4) ∧
    (cs = 1 → goes (exec (.disengage w n phase) s) 0) ∧
    (cs ≠ 1 → cs ≠ 3 → Leads (exec (.disengage w n phase) s) s s.dev w 2 a .wrongState) ∧
    (cs ≤ 1 → goes (exec (.abort w n) s) 0) ∧
    (∃ t, exec (.abort w n) s = .next t ∧ t.dev.rd F.axCstat_cstate n = 0) ∧
    (s.Grants w sel → (cur.val = s.dev.rd F.axCamsel_cur n ∨ cs = 0) → (nxv = false ∨ cs ≠ 0) →
      Leads (exec (.camselArm w n cur next nxv) s) s
        (((s.dev.wr F.axCamsel_cur cur n).wr F.axCamsel_next next n).wr F.axCamsel_nxv (b2n nxv) n) w 2 sel .ok)

/-! ### Axes, profiles, compares and stepping (04_profiles_and_stepping.md) -/

/-- ENABLE, RUN, STILL, STOP, DISABLE and FLUSH (R54, R111, R112, R114, R115, R119): the changes of the axis state, and the answers of a command that
changes nothing or is refused. An ENABLE that is not refused at once is judged, takes effect and is answered at the end of its clock
(`Dev.clockEnd`). -/
def Obligations.AxisCommands : Prop :=
  ∀ (s : State) (w : Who) (n : Fin 8) (by_ : Cmdr),
    let a := F.axCmd_cmd.addr n 0
    let st := s.dev.axState n
    let same := fun o c => Leads o s s.dev w 2 a c
    let quiet := (s.dev.axis n).loopPend = []
    let rest := s.dev.atRest n = true ∧ s.dev.rd F.axCstat_cstate n = 0
    let queue := (s.dev.axis n).queue
    let goes := fun o (to_ : Nat) => ∃ t, o = .next t ∧ s.Answered t w 2 a .ok ∧ t.dev.axState n = to_
    s.Grants w a →
    (s.dev.enableCheck n = .ok →
      exec (.enable w n) s = .next (s.put { s.dev with tim := { s.dev.tim with
        judge := s.dev.tim.judge ++ [.enable { port := w.port, tag := w.tag, addr := a } n] } })) ∧
    (s.dev.tim.judge = [.enable by_ n] → s.dev.enableCheck n = .ok → quiet → (∀ src < 13, s.dev.tripOn src = false) →
      let d := s.dev.clockEnd
      d.tim.judge = [] ∧ d.axState n = 1 ∧ (d.axis n).tick.driveAt = some (s.dev.t250 (s.dev.rd F.axTick_tb n) + 4000) ∧
        (∀ l ∈ s.dev.axLegs n, (d.legh l).left_ = true) ∧
        (s.dev.net.q21.length < 64 → by_.port < 4 → d.net.q21 = s.dev.net.q21 ++
          [{ port := by_.port, code := .ok, tag := by_.tag, op := by_.op, addr := by_.addr, mac := by_.mac }])) ∧
    (s.dev.enableCheck n ≠ .ok → same (exec (.enable w n) s) (s.dev.enableCheck n)) ∧
    (st = 1 → goes (exec (.run w n) s) 2) ∧
    (st = 2 → same (exec (.run w n) s) .ok) ∧
    (st ≠ 1 → st ≠ 2 → same (exec (.run w n) s) .wrongState) ∧
    (st = 2 → rest → quiet → goes (exec (.still w n) s) 1) ∧
    (st = 2 → ¬ rest → same (exec (.still w n) s) .wrongState) ∧
    (st = 1 → same (exec (.still w n) s) .ok) ∧
    (st ≠ 1 → st ≠ 2 → same (exec (.still w n) s) .wrongState) ∧
    (st = 2 → quiet → queue = [] →
      ∃ t, exec (.stop w n) s = .next t ∧ s.Answered t w 2 a .ok ∧ t.dev.axState n = 3 ∧ t.dev.rd F.axState_cause n = 1 ∧
        (t.dev.axis n).stopAt = s.dev.now ∧ (t.dev.axis n).stopDis = false) ∧
    (st = 1 ∨ st = 3 → same (exec (.stop w n) s) .ok) ∧
    (st = 0 ∨ 4 ≤ st → same (exec (.stop w n) s) .wrongState) ∧
    (∃ t, exec (.disable w n) s = .next t ∧ t.dev.axState n = 0 ∧
      (st ≠ 0 → (t.dev.axis n).queue = [] ∧ (t.dev.axis n).prf.v = 0 ∧ (t.dev.axis n).prf.a = 0 ∧ (t.dev.axis n).prf.p = (s.dev.axis n).prf.p ∧
        (∀ l ∈ s.dev.axLegs n, (t.dev.legh l).gh = false ∧ (t.dev.legh l).gl = false ∧ t.dev.rd F.legStat_mode l = 0) ∧
        ∀ l < 4, s.dev.present n l = true → (t.dev.loop n l).st = .opened ∧ (t.dev.loop n l).u = 0)) ∧
    (w.port ≠ 4 → (∀ e ∈ queue, e.by_.port ≠ 4) → s.dev.net.q21.length + queue.length < 64 →
      ∃ t, exec (.flush w n) s = .next t ∧ (t.dev.axis n).queue = [] ∧ t.dev.axState n = st ∧
        t.dev.net.q21 = s.dev.net.q21 ++
          (queue.map fun e => { port := e.by_.port, code := .discarded, tag := e.by_.tag, op := e.by_.op, addr := e.by_.addr, mac := e.by_.mac }) ++
          [{ port := w.port, code := .ok, tag := w.tag, op := 2, addr := a }])

/-- AXIS_FAULT_ENTRY, CONTROLLED_STOP_CAUSE, AX_STOP_TIMEOUT and AUTOSTILL (R112, R114, R115, R188, R189). -/
def Obligations.AxisStopsAndFaults : Prop :=
  ∀ (s : State) (n : Fin 8) (f : FaultBy) (c : StopBy),
    let st := s.dev.axState n
    let cause := match f with | .legTrip _ => 9 | .feedback => 10 | .unreplayable => 11 | .sto => 12 | .driver _ => 13 | .stall => 14
    let faulted := fun (t : State) (cause : Nat) =>
      t.dev.axState n = 4 ∧ t.dev.rd F.axState_cause n = cause ∧ (t.dev.axis n).queue = [] ∧ (t.dev.axis n).prf.v = 0 ∧
        (∀ l ∈ s.dev.axLegs n, (t.dev.legh l).gh = false ∧ (t.dev.legh l).gl = false ∧ t.dev.rd F.legStat_mode l = 2) ∧
        ∀ l < 4, s.dev.present n l = true → (t.dev.loop n l).st = .fault
    8 ≤ s.seq.released →
    (1 ≤ st → st ≤ 3 → Tbl.get 0 n.val s.dev.trip.react = 0 → f ≠ .legTrip true →
      (f = .driver true → s.dev.rd F.axReact_src10 n = 0) →
      ∃ t, exec (.axisFaultEntry n f) s = .next t ∧ faulted t cause) ∧
    (1 ≤ st → st ≤ 3 → Tbl.get 0 n.val s.dev.trip.react = 0 →
      ∃ t, exec (.axisFaultEntry n (.legTrip true)) s = .next t ∧ t.dev.axState n = 4 ∧ t.dev.rd F.axState_cause n = 9 ∧
        ∀ l ∈ s.dev.axLegs n, (t.dev.legh l).gh = false ∧
          t.dev.rd F.legStat_mode l = if s.dev.rd F.legFlt_scL l = 1 then 2 else 3) ∧
    (st = 0 → exec (.axisFaultEntry n f) s = .next s) ∧
    (st = 2 →
      ∃ t, exec (.controlledStopCause n c) s = .next t ∧ t.dev.axState n = 3 ∧ t.dev.rd F.axState_cause n = c.cause ∧
        (t.dev.axis n).queue = [] ∧ (t.dev.axis n).stopAt = s.dev.now ∧ (t.dev.axis n).stopDis = s.dev.flag F.axCfg_stopend n) ∧
    (st = 1 → s.dev.rd F.axCfg_stopend n = 1 → ∃ t, exec (.controlledStopCause n c) s = .next t ∧ t.dev.axState n = 0) ∧
    (st = 1 → s.dev.rd F.axCfg_stopend n = 0 → exec (.controlledStopCause n c) s = .next s) ∧
    (st = 3 → s.dev.rd F.axCfg_stopend n = 1 →
      exec (.controlledStopCause n c) s = .next (s.put (s.dev.modAxis n fun h => { h with stopDis := true }))) ∧
    (st = 0 ∨ 4 ≤ st → exec (.controlledStopCause n c) s = .next s) ∧
    (st = 3 → (s.dev.axis n).stopAt + s.dev.rd F.axStopto_stopto n * 1000 ≤ s.dev.now →
      ∃ t, exec (.axStopTimeout n) s = .next t ∧ faulted t 8) ∧
    (st ≠ 3 → exec (.axStopTimeout n) s = .next s) ∧
    (st = 2 → s.dev.rd F.axCfg_autostill n = 1 → s.dev.rd F.axCfg_stilldly n ≤ (s.dev.axis n).rest →
      ∃ t, exec (.autostill n) s = .next t ∧ t.dev.axState n = 1) ∧
    ((s.dev.axis n).rest < s.dev.rd F.axCfg_stilldly n → exec (.autostill n) s = .next s)

/-- MOVE_ABS to MARK (R116 to R118, R120, R121, R127): the head of the queue, where it is due. -/
def Obligations.QueueEntries : Prop :=
  ∀ (s : State) (n : Fin 8) (e : QEnt) (l : List QEnt),
    let h := (s.dev.axis n).prf
    let old := s.dev.rd F.axPstat_mode n
    let st := s.dev.axState n
    let p0 := fun (m : Nat) => if old = 2 ∧ m ≠ 2 then satS 64 (h.p + (s.dev.axis n).cpl.c) else h.p
    let base := fun (m : Nat) => if old = m then h.tgt else p0 m
    let moves := fun o (m : Nat) (x : Int) => ∃ t, o = .next t ∧ (t.dev.axis n).queue = l ∧ t.dev.rd F.axPstat_lastid n = e.id ∧
      t.dev.rd F.axPstat_mode n = m ∧ t.dev.axState n = 2 ∧ (t.dev.axis n).prf.tgt = x ∧ (t.dev.axis n).prf.p = p0 m ∧
      t.dev.net = (s.dev.answer e.by_ .ok).net
    let d := s.dev.modAxis n fun h => { h with queue := l }
    let lims := fun (h : PrfH) => [h.vmax, h.amax, h.dmax, h.jmax]
    let free := fun (m : Nat) => old = m ∨ s.dev.rd F.axCstat_cstate n = 0
    8 ≤ s.seq.released → (s.dev.axis n).queue = e :: l → (st = 1 ∨ st = 2) →
    (s.dev.entryDue n e (s.dev.tb16 (s.dev.rd F.axTick_tb n)) = true →
      (e.op = 1 → free 0 → moves (exec (.moveAbs n) s) 0 e.opA) ∧
      (e.op = 2 → free 0 → moves (exec (.moveRel n) s) 0 (satS 64 (base 0 + e.opA))) ∧
      (e.op = 3 → free 1 → moves (exec (.velocity n) s) 1 (if h.vmax < |e.opA| then sgnI e.opA * h.vmax else e.opA)) ∧
      (e.op = 4 → free 2 → moves (exec (.offsetAbs n) s) 2 e.opA) ∧
      (e.op = 5 → free 2 → moves (exec (.offsetRel n) s) 2 (satS 64 (base 2 + e.opA))) ∧
      (e.op = 1 → ¬ free 0 → exec (.moveAbs n) s = .next (s.put (d.answer e.by_ .wrongState))) ∧
      (e.op = 6 →
        let i := ux 64 e.opA % 4
        ∃ t, exec (.limit n) s = .next t ∧ (t.dev.axis n).queue = l ∧ t.dev.rd F.axPstat_lastid n = e.id ∧
          lims (t.dev.axis n).prf = (lims h).set i e.opB ∧ t.dev.rdI64 (limRegs i).1 (limRegs i).2 n = e.opB) ∧
      (e.op = 7 → exec (.mark n) s = .next (s.put (((d.wr F.axPstat_lastid e.id n).ev E.prfMark n e.id).answer e.by_ .ok)))) ∧
    (s.dev.entryDue n e (s.dev.tb16 (s.dev.rd F.axTick_tb n)) = false → exec (.moveAbs n) s = .next s ∧ exec (.mark n) s = .next s) ∧
    (e.op ≠ 1 → exec (.moveAbs n) s = .next s)

/-- CMP_COMMIT, CMP_FIRED, CMP_DISARM and CMP_CTRL_WRITE (R129 to R133). -/
def Obligations.Compares : Prop :=
  ∀ (s : State) (w : Who) (n : Fin 8) (c : Fin 4) (v : BitVec 32) (t0 : Int) (up : Bool),
    let hi := F.cmpPoshi_pos.addr n c
    let ctrl := F.cmpCtrl_armed.addr n c
    let x := sx 64 (s.dev.rd F.cmpPoslo_pos n c + 2 ^ 32 * v.toNat)
    let u := s.dev.cmpu n c
    let per : Int := s.dev.rd F.cmpPer_per n c * 65536
    let action := s.dev.rd F.cmpCtrl_action n c
    let arg := s.dev.rd F.cmpCtrl_arg n c
    let legal := fun (dir action arg width : Nat) =>
      dir ≤ 2 ∧ action ≤ 6 ∧ (3 ≤ action → action ≤ 5 → width ≠ 0) ∧ (1 ≤ action → action ≤ 3 → arg ≤ 7) ∧ (action = 4 → arg ≤ 1)
    let x' := v.toNat
    (s.Grants w hi →
      ∃ t, exec (.cmpCommit w n c v) s = .next t ∧ s.Answered t w 2 hi .ok ∧ (t.dev.cmpu n c) = { xc := x, due := none } ∧
        t.dev.rd F.cmpCtrl_armed n c = 1 ∧ t.dev.rd F.cmpPoshi_pos n c = v.toNat) ∧
    (8 ≤ s.seq.released → u.due = some (t0, up) → s.dev.rd F.cmpCtrl_armed n c = 1 → t0 ≤ s.dev.tb16 (s.dev.rd F.axTick_tb n) →
      ∃ t, exec (.cmpFired n c) s = .next t ∧ t.dev.rd F.cmpCtrl_fired n c = 1 ∧
        (t.dev.cmpu n c) = { xc := satS 64 (if up then u.xc + per else u.xc - per), due := none } ∧
        t.dev.rd F.cmpCtrl_armed n c = if per = 0 then 0 else 1) ∧
    (8 ≤ s.seq.released → u.due = some (t0, up) → s.dev.rd F.cmpCtrl_armed n c = 1 → t0 ≤ s.dev.tb16 (s.dev.rd F.axTick_tb n) →
      (action = 4 ∨ action = 5) →
      ∃ t, exec (.cmpFired n c) s = .next t ∧
        ∃ q ∈ t.dev.tim.pulses.head?, q.ball = (if action = 4 then arg else 2) ∧ q.tb = s.dev.rd F.axTick_tb n ∧
          q.width = 10 * s.dev.rd F.cmpCtrl_width n c) ∧
    (8 ≤ s.seq.released → u.due = some (t0, up) → s.dev.rd F.cmpCtrl_armed n c = 1 → t0 ≤ s.dev.tb16 (s.dev.rd F.axTick_tb n) →
      1 ≤ action → action ≤ 3 →
      ∃ t, exec (.cmpFired n c) s = .next t ∧ t.dev.fio.asks = s.dev.fio.asks ++
        [(arg, if action = 1 then .on else if action = 2 then .off else .pulse (s.dev.rd F.cmpCtrl_width n c))]) ∧
    (8 ≤ s.seq.released → u.due = none → exec (.cmpFired n c) s = .next s) ∧
    (s.GrantsPart w ctrl → legal (s.dev.rd F.cmpCtrl_dir n c) action arg (s.dev.rd F.cmpCtrl_width n c) →
      ∃ t, exec (.cmpDisarm w n c) s = .next t ∧ s.Answered t w 3 ctrl .ok ∧ t.dev.rd F.cmpCtrl_armed n c = 0 ∧
        (t.dev.cmpu n c) = { u with due := none }) ∧
    (s.Grants w ctrl → legal (bitsOf x' 2 2) (bitsOf x' 4 4) (bitsOf x' 8 4) (bitsOf x' 12 8) →
      ∃ t, exec (.cmpCtrlWrite w n c v) s = .next t ∧ s.Answered t w 2 ctrl .ok ∧ t.dev.rd F.cmpCtrl_src n c = bitsOf x' 1 1 ∧
        t.dev.rd F.cmpCtrl_dir n c = bitsOf x' 2 2 ∧ t.dev.rd F.cmpCtrl_action n c = bitsOf x' 4 4 ∧ t.dev.rd F.cmpCtrl_arg n c = bitsOf x' 8 4 ∧
        t.dev.rd F.cmpCtrl_width n c = bitsOf x' 12 8 ∧
        t.dev.rd F.cmpCtrl_armed n c = (if bitOf x' 22 then 0 else s.dev.rd F.cmpCtrl_armed n c)) ∧
    (s.Grants w ctrl → ¬ legal (bitsOf x' 2 2) (bitsOf x' 4 4) (bitsOf x' 8 4) (bitsOf x' 12 8) →
      Leads (exec (.cmpCtrlWrite w n c v) s) s s.dev w 2 ctrl .range)

/-- LIMIT_COMMIT, STEP_TIMER_EXPIRY and STILL_MODE_CHANGE (R121, R135 to R140). -/
def Obligations.LimitsAndSteps : Prop :=
  ∀ (s : State) (w : Who) (n : Fin 8) (k : Fin 6) (v : BitVec 32) (still : Fin 3) (due : Int),
    let hi := F.axVmaxhi_v.addr n 0 + 8 * k
    let fs := limRegs k
    let x := sx 64 (s.dev.rd fs.1 n + 2 ^ 32 * v.toNat)
    let h := (s.dev.axis n).stp
    let dir := if h.owed = 0 then sgnQ (h.vAt due) else h.owed
    let lvl := decide (dir < 0) == s.dev.flag F.axStep_dirpol n
    let turn := match h.pulseEnd with
      | some e => max due (e + s.dev.rd F.axStep_dirh n * (10 * 65536))
      | none => due
    let setup : Int := s.dev.rd F.axStep_dirsu n * (10 * 65536)
    let falls := 8 ≤ s.seq.released ∧ h.due = some due ∧ due ≤ s.dev.tb16 (s.dev.rd F.axTick_tb n)
    let made := ∃ t, exec (.stepTimerExpiry n) s = .next t ∧ (t.dev.axis n).stp.n = h.n + dir ∧ (t.dev.axis n).stp.dir = lvl ∧
      (t.dev.axis n).stp.pulseEnd = some (due + s.dev.rd F.axStep_stepw n * (10 * 65536))
    let cfg := F.axCfg_still.addr n 0
    (s.Grants w hi → 0 < x →
      ∃ t, exec (.limitCommit w n k v) s = .next t ∧ s.Answered t w 2 hi .ok ∧ t.dev.rd fs.2 n = v.toNat ∧
        (t.dev.axis n).prf = { (s.dev.axis n).prf with lims := (s.dev.axis n).prf.lims ++ [(k.val, x)] }) ∧
    (s.Grants w hi → x ≤ 0 → Leads (exec (.limitCommit w n k v) s) s s.dev w 2 hi .range) ∧
    (falls → s.dev.rd F.axStep_outen n = 0 →
      ∃ t, exec (.stepTimerExpiry n) s = .next t ∧ (t.dev.axis n).stp.n = h.n + dir ∧
        (t.dev.axis n).stp.dir = h.dir ∧ (t.dev.axis n).stp.pulseEnd = h.pulseEnd ∧
        ∀ e, (t.dev.axis n).stp.due = some e → due + 8 * (2 * 65536) ≤ e) ∧
    (falls → s.dev.rd F.axStep_outen n = 1 → dir ≠ 0 → lvl = h.dir → (∀ u ∈ h.dirAt, u + setup ≤ due) → made) ∧
    (falls → s.dev.rd F.axStep_outen n = 1 → dir ≠ 0 → lvl ≠ h.dir → turn + setup ≤ due → made) ∧
    (falls → s.dev.rd F.axStep_outen n = 1 → dir ≠ 0 → lvl ≠ h.dir → due < turn + setup →
      ∃ t, exec (.stepTimerExpiry n) s = .next t ∧ t.dev.rd F.axSidx_idle n = 0 ∧
        (t.dev.axis n).stp = { h with dir := lvl, dirAt := some turn, due := some (turn + setup) }) ∧
    (8 ≤ s.seq.released → h.due = some due → s.dev.tb16 (s.dev.rd F.axTick_tb n) < due → exec (.stepTimerExpiry n) s = .next s) ∧
    (s.GrantsPart w cfg → s.dev.axState n ≠ 1 → s.dev.rd F.axCfg_kind n ≤ 5 → 1 ≤ s.dev.rd F.axCfg_stilldly n →
      Leads (exec (.stillModeChange w n still) s) s (s.dev.wr F.axCfg_still still n) w 3 cfg .ok) ∧
    (s.GrantsPart w cfg → s.dev.axState n = 1 → s.dev.rd F.axCfg_still n ≠ still → s.dev.rd F.axCfg_kind n ≤ 5 →
      1 ≤ s.dev.rd F.axCfg_stilldly n →
      ∃ t, exec (.stillModeChange w n still) s = .next t ∧ s.Answered t w 3 cfg .ok ∧ t.dev.rd F.axCfg_still n = still ∧
        t.dev.axState n = 1 ∧ (t.dev.axis n).tick.still = true)

/-! ### Carrier updates, stages and loops (01_line_and_tick.md, 05_marver_loops.md) -/

/-- CARRIER_UPDATE (R26, R138, R177): the update number, the stages that fall due and the compares taken from the shadows. -/
def Obligations.CarrierUpdates : Prop :=
  ∀ (s : State) (n : Fin 8) (k : Int),
    let h := s.dev.axis n
    let j := s.dev.jNow n
    let c : Int := s.dev.rd F.axTick_cdiv n
    let v : Int := c * s.dev.rd F.axTick_vdiv n
    let p : Int := v * s.dev.rd F.axTick_pdiv n
    let kind := s.dev.rd F.axCfg_kind n
    let u := s.dev.updateAt n j / 8
    let tick : OTick := { j := j, ts := s.dev.sampleAt n j, pos := decide (j % p = 0) }
    let waits := h.tick.outer
    8 ≤ s.seq.released →
    ((∀ i ∈ h.tick.j, i < j) →
      ∃ t, exec (.carrierUpdate n) s = .next t ∧
        (t.dev.axis n) = { h with
          stp := { h.stp with nUpd := h.stp.n }
          tick := { h.tick with
            j := some j
            still := false
            cur := h.tick.cur || decide (j % c = 0 ∧ s.dev.axState n ≠ 0 ∧ kind ≠ 0 ∧ kind ≠ 5)
            outer := if j % v ≠ 0 then waits else if s.dev.axState n ≠ 0 then waits ++ [tick]
              else if j % p = 0 ∧ waits = [] then [tick] else waits
            ts := if j % v = 0 then s.dev.sampleAt n j else h.tick.ts
            fb := decide (j % v = 0) || h.tick.fb } } ∧
        ∀ l < 24, s.dev.legOf n l = true →
          let sh := (s.dev.legh l).sh
          (∀ A B arr, (sh.filter fun c => decide (c.2.2 / 8 < u)).getLast? = some (A, B, arr) →
            t.dev.rd F.legCmpa_cmp l = A % 2 ^ 32 ∧ t.dev.rd F.legCmpb_cmp l = B % 2 ^ 32 ∧
              (t.dev.legh l).sh = sh.filter fun c => decide (u ≤ c.2.2 / 8)) ∧
          (sh = [] → t.dev.rd F.legCmpa_cmp l = s.dev.rd F.legScmpa_scmp l ∧ t.dev.rd F.legCmpb_cmp l = s.dev.rd F.legScmpb_scmp l)) ∧
    (h.tick.j = some k → j ≤ k → exec (.carrierUpdate n) s = .next s)

/-- CURRENT_STAGE, OUTER_STAGES and DISABLED_AXIS_FEEDBACK (R28, R29, R31, R32, R111, R134, R175): a stage that is due runs once, when Marver is free
and no stage of another axis or kind goes before it; the current stage commits the compares of its duties to the shadows of every leg of the
axis in one clock; the outer stages are those of the oldest tick that waits. -/
def Obligations.StagesRun : Prop :=
  ∀ (s : State) (n : Fin 8) (pp pv : Parity) (o : OTick) (rest : List OTick) (r : Nat),
    let h := s.dev.axis n
    let tick := h.tick
    let j := tick.j.getD 0
    let per := s.dev.rd F.axCper_per n
    let due := max (s.dev.rootOf n (s.dev.updateAt n j) + s.dev.latency n * 1000) (s.dev.setAt n j fun _ => true)
    let now_ : Int := s.dev.tb16 (s.dev.rd F.axTick_tb n)
    let clean := s.dev.bad = [] ∧ h.out.scrub = none
    let src := s.dev.rd F.fbkSel_src n
    let at_ := o.ts + s.dev.rd F.axTick_outer n * (10 * 65536)
    let start := s.dev.rootAt (s.dev.rd F.axTick_tb n) (at_ * 2 ^ 24)
    let waits := tick.outer = o :: rest ∧ at_ ≤ now_
    let left := fun (t : State) => (t.dev.axis n).tick.outer = rest ∨
      t.dev.axState n = 0 ∧ (t.dev.axis n).tick.outer = (rest.filter (·.pos)).take 1
    8 ≤ s.seq.released →
    (s.dev.stageTurn r = true ↔ s.dev.busyTo ≤ s.dev.now ∧ ∀ m < 8,
      (∀ x ∈ s.dev.curStart m, x ≤ s.dev.now → r ≤ stageRank x 0 m) ∧ ∀ x ∈ s.dev.outStart m, x ≤ s.dev.now → r ≤ stageRank x 1 m) ∧
    (tick.cur = true → s.dev.axState n ≠ 0 → s.dev.setPending n j = false → due ≤ s.dev.now →
      s.dev.stageTurn (stageRank due 0 n) = true → clean →
      ∃ t, exec (.currentStage n .none) s = .next t ∧ (t.dev.axis n).tick.cur = false ∧
        ∀ l ∈ s.dev.axLegs n,
          let c := cmpOf per ((t.dev.axis n).out.duty.getD (s.dev.rd F.legCfg_slot l) 0)
          t.dev.rd F.legScmpa_scmp l = c.1 % 2 ^ 32 ∧ t.dev.rd F.legScmpb_scmp l = c.2 % 2 ^ 32 ∧
            ∃ arr, (t.dev.legh l).sh.getLast? = some (c.1, c.2, arr)) ∧
    ((tick.cur = false ∨ s.dev.axState n = 0 ∨ s.dev.setPending n j = true ∨ s.dev.now < due ∨
        s.dev.stageTurn (stageRank due 0 n) = false) → exec (.currentStage n pv) s = .next s) ∧
    (waits → o.pos = false → s.dev.axState n ≠ 0 → s.dev.stageTurn (stageRank start 1 n) = true → clean → src = 13 →
      ∃ t, exec (.outerStages n pp .none) s = .next t ∧ left t ∧ (t.dev.axis n).out.unrep = 0 ∧
        (t.dev.axis n).fb.xm = satS 64 (h.prf.p + h.cpl.c) ∧ (t.dev.axis n).fb.tv = o.ts ∧
        Tbl.find 1 (t.dev.axis n).tick.startAt = some (max start s.dev.busyTo)) ∧
    (waits → o.pos = true → s.dev.axState n ≠ 0 → s.dev.stageTurn (stageRank start 1 n) = true → clean →
      ∃ t, exec (.outerStages n .none .none) s = .next t ∧ left t) ∧
    (waits → s.dev.axState n ≠ 0 → s.dev.stageTurn (stageRank start 1 n) = false → exec (.outerStages n pp pv) s = .next s) ∧
    (waits → s.dev.axState n = 0 →
      let d := s.dev.modAxis n fun h => { h with tick := { h.tick with outer := rest } }
      exec (.outerStages n pp pv) s = .next (s.put (if o.pos then (d.cplLoad n).pendTake n else d))) ∧
    ((∀ x ∈ tick.outer.head?, now_ < x.ts + s.dev.rd F.axTick_outer n * (10 * 65536)) → exec (.outerStages n pp pv) s = .next s) ∧
    (tick.fb = true → s.dev.axState n = 0 → tick.ts ≤ now_ → 9 ≤ src → src ≤ 12 → s.dev.chanReady src = true →
      s.dev.rd F.fqCtrl_mode (src - 9) ≠ 4 →
      let x := (s.dev.fq (src - 9)).countAt tick.ts * 65536
      ∃ t, exec (.disabledAxisFeedback n) s = .next t ∧ (t.dev.axis n).tick.fb = false ∧ (t.dev.axis n).fb.tv = tick.ts ∧
        (t.dev.axis n).fb.xm = satS 64 ((if s.dev.rd F.fbkSel_neg n = 1 then -x else x) + s.dev.rdI64 F.fbkOfslo_ofs F.fbkOfshi_ofs n)) ∧
    (tick.fb = false ∨ s.dev.axState n ≠ 0 → exec (.disabledAxisFeedback n) s = .next s)

/-- R122: a position stage advances the generator in ENABLED and STOPPING alone; in VELOCITY mode by one jerk over the position interval, each line
rounded once, or to the target velocity where R124 says so. -/
def Obligations.ProfileAdvances : Prop :=
  ∀ (d : Dev) (n : Fin 8),
    let h := d.prf n
    let T := d.tpSec n
    let y := d.prfAdvance n
    (d.axState n ≠ 2 → d.axState n ≠ 3 → (y.prf n).p = h.p ∧ (y.prf n).v = h.v ∧ (y.prf n).a = h.a) ∧
    (d.axState n = 2 → d.rd F.axPstat_mode n = 1 →
      ∃ j : Rat,
        (y.prf n).p = satS 64 (rneQ (h.p + h.v * T + h.a * T * T / 2 + j * T * T * T / 6)) ∧
        let v := satS 64 (rneQ (h.v + h.a * T + j * T * T / 2))
        let a := satS 64 (rneQ (h.a + j * T))
        if (|v - h.tgt| : Int) ≤ (h.jmax * T * T : Rat) ∧ (|a| : Int) ≤ (h.jmax * T : Rat) then (y.prf n).v = h.tgt ∧ (y.prf n).a = 0
        else (y.prf n).v = v ∧ (y.prf n).a = a) ∧
    y.rd F.axPstat_vmaxAbove n = b2n (decide (h.vmax < |(y.prf n).v|))

/-- CLOSE_CUR to OPEN_POS, LOOP_HOLD_EXPIRED and FF_TABLE_WRITE (R158, R160, R162, R164). -/
def Obligations.LoopCommands : Prop :=
  ∀ (s : State) (w : Who) (n : Fin 8) (word : Fin 8192) (v : BitVec 32),
    let a := R.axLoopctl.base + 0x2000 * n.val
    let h := s.dev.axis n
    let tab := 0x2C0000 + 0x8000 * n.val + 4 * word.val
    let refused := fun o => Leads o s s.dev w 2 a .wrongState
    let closes := fun o (l : Nat) (ls : List Nat) =>
      (s.dev.axState n = 2 → s.dev.present n l = true → s.dev.innerClosed n l = true →
        ∃ t, o = .next t ∧ s.Answered t w 2 a .ok ∧
          ∀ k ∈ ls, s.dev.present n k = true → (s.dev.loop n k).st = .opened → (t.dev.loop n k).closing = true) ∧
      (s.dev.axState n ≠ 2 ∨ s.dev.present n l = false ∨ s.dev.innerClosed n l = false → refused o)
    let opens := fun o (l : Nat) (ls : List Nat) =>
      (s.dev.axState n = 2 → s.dev.present n l = true →
        ∃ t, o = .next t ∧ s.Answered t w 2 a .ok ∧ (∀ k ∈ ls, s.dev.present n k = true → (t.dev.loop n k).st = .opened) ∧
          (s.dev.rd F.axLoopst_holdrun n = 0 → (s.dev.rd F.axHoldv_vmov n : Int) * 65536 < |h.fb.vm| →
            t.dev.rd F.axLoopst_holdrun n = 1 ∧ t.dev.rd F.axHold_remain n = s.dev.rd F.axHold_ticks n)) ∧
      (s.dev.axState n ≠ 2 ∨ s.dev.present n l = false → refused o)
    (s.Grants w a →
      closes (exec (.closeCur w n) s) 2 [2, 3] ∧ closes (exec (.closeVel w n) s) 1 [1] ∧ closes (exec (.closePos w n) s) 0 [0] ∧
      opens (exec (.openCur w n) s) 2 [0, 1, 2, 3] ∧ opens (exec (.openVel w n) s) 1 [0, 1] ∧ opens (exec (.openPos w n) s) 0 [0]) ∧
    (8 ≤ s.seq.released → h.out.holdDue = true → s.dev.axState n = 2 →
      ∃ t, exec (.loopHoldExpired n) s = .next t ∧ t.dev.axState n = 3 ∧ t.dev.rd F.axState_cause n = 5 ∧
        (t.dev.axis n).prf.p = satS 64 (h.fb.xm - h.cpl.c) ∧ (t.dev.axis n).prf.v = h.fb.vm ∧ (t.dev.axis n).prf.a = 0 ∧
        ∀ l < 4, s.dev.present n l = true → s.dev.encl n l = true → (s.dev.loop n l).st = .opened → (t.dev.loop n l).st = .closed) ∧
    (8 ≤ s.seq.released → h.out.holdDue = false → exec (.loopHoldExpired n) s = .next s) ∧
    (s.Grants w tab → (word.val < 4096 → v.toNat < 2 ^ 31) → (s.dev.present n 1 = false ∨ (s.dev.loop n 1).st = .opened) →
      Leads (exec (.ffTableWrite w n word v) s) s
        { s.dev with tables := Tbl.set 0 (0x30000 + 0x2000 * n.val + word.val) v.toNat s.dev.tables } w 2 tab .ok) ∧
    (s.Grants w tab → word.val < 4096 → 2 ^ 31 ≤ v.toNat → Leads (exec (.ffTableWrite w n word v) s) s s.dev w 2 tab .range) ∧
    (s.Grants w tab → (word.val < 4096 → v.toNat < 2 ^ 31) → s.dev.present n 1 = true → (s.dev.loop n 1).st ≠ .opened →
      Leads (exec (.ffTableWrite w n word v) s) s (s.dev.ev E.marvWriteRefused (n + 256 * w.port) tab w.port) w 2 tab .loopClosed)

/-! ### Legs, gate drive and protection (06_legs_and_gate_drive.md) -/

/-- EDGE_DUE, GATE_SENSED_LOW, HANDSHAKE_TIMEOUT, BST_UV and BST_LOCKOUT_RELEASE (R173, R180 to R183): edges and turn-ons that are due, and the two
driver reports. -/
def Obligations.GateDrive : Prop :=
  ∀ (s : State) (n : Fin 24) (low : Bool) (t0 : Int) (w : TurnOn) (legs : BitVec 24) (mV : Nat),
    let h := s.dev.legh n
    let ax := s.dev.rd F.legCfg_axis n
    let now_ := s.dev.t250 (s.dev.rd F.axTick_tb ax)
    let open_ := s.dev.rd F.legFlt_lockout n = 0
    let noEdges := dueAt now_ h.refEnd = false ∧ dueAt now_ h.ea = false ∧ dueAt now_ h.eb = false
    let at_ := if s.dev.now < w.at_ + 4000 then w.at_ else s.dev.now
    let made := s.put (s.dev.modLeg n fun l =>
      if w.high then { l with gh := true, ghSince := some at_, want := none }
      else { l with gl := true, glSince := some at_, want := none })
    let rising := dueAt now_ h.refEnd = false ∧ dueAt now_ h.eb = false ∧ h.ea = some t0 ∧ t0 ≤ now_ ∧ h.high = false
    let gap := s.dev.nextEdge n true - t0
    let least : Int := s.dev.rd F.legTmin_tmin n + s.dev.rd F.legDt_dt n
    let inTime := w.at_ ≤ s.dev.now ∧ s.dev.now ≤ w.at_ + 1000000
    let handshake := exec (.handshakeTimeout legs) s
    let uv := exec (.bstUv [(n, mV)]) s
    let th := match s.dev.rd F.legBst_uvsel n with
      | 0 => 3500
      | 1 => 4500
      | 2 => 7000
      | _ => 8500
    7 ≤ s.seq.released →
    (noEdges → h.want = some w → inTime → open_ → exec (.edgeDue n true) s = .next made) ∧
    (noEdges → (h.want = none ∨ low = false ∧ open_) → exec (.edgeDue n low) s = .next s) ∧
    (noEdges → h.want = some w → w.at_ + 1000000 < s.dev.now → open_ → exec (.edgeDue n low) s = .next s) ∧
    (noEdges → h.want = some w → w.high = true → w.at_ ≤ s.dev.now → ¬ open_ →
      exec (.edgeDue n low) s = .next (s.put (s.dev.modLeg n fun l => { l with want := none }))) ∧
    (rising → gap < least → (h.want = none ∨ open_) →
      exec (.edgeDue n false) s = .next (s.put ((s.dev.modLeg n fun l => { l with ea := none }).bump F.legStat_suppr n))) ∧
    (rising → least ≤ gap → s.dev.rd F.legCfg_use n = 1 → s.dev.latches n = 0 → open_ → h.gh = false →
      ∃ t, exec (.edgeDue n false) s = .next t ∧ (t.dev.legh n).high = true ∧ (t.dev.legh n).hiSince = t0 ∧ (t.dev.legh n).gl = false ∧
        (t.dev.legh n).want = some { high := true, at_ := s.dev.rootOf ax t0 + 250 * s.dev.rd F.legDt_dt n }) ∧
    (h.want = some w → inTime → open_ → exec (.gateSensedLow n) s = .next made) ∧
    (h.want = none → exec (.gateSensedLow n) s = .next s) ∧
    ((∀ k < 24, bitOf legs.toNat k = true → (s.dev.legh k).want = none) → handshake = .next s) ∧
    (bitOf legs.toNat n = true → h.want = some w → w.at_ + 1000000 ≤ s.dev.now → open_ →
      ∃ t, handshake = .next t ∧ t.dev.rd F.legFlt_hsk n = 1 ∧
        (s.dev.rd F.legCfg_use n = 1 → s.dev.reactOf ax 2 = 0 → 1 ≤ s.dev.axState ax → s.dev.axState ax ≤ 3 → Tbl.get 0 ax s.dev.trip.react = 0 →
          t.dev.axState ax = 4 ∧ t.dev.rd F.axState_cause ax = 9 ∧ (t.dev.legh n).gh = false ∧ (t.dev.legh n).gl = false)) ∧
    ((¬ open_ ∨ th ≤ mV) → uv = .next s) ∧
    (open_ → mV < th → (h.gh = true ∨ h.want = some w ∧ w.high = true ∧ w.at_ ≤ s.dev.now) →
      ∃ t, uv = .next t ∧ t.dev.rd F.legFlt_lockout n = 1 ∧ t.dev.rd F.legFlt_bstUv n = 1 ∧ (t.dev.legh n).gh = false) ∧
    (open_ → mV < th → h.gh = false → h.want = none →
      uv = .next (s.put ((s.dev.set1 F.legFlt_lockout n).modLeg n fun l => { l with gh := false, ghSince := none }))) ∧
    (th + 500 < mV → exec (.bstLockoutRelease n mV) s = .next (s.put (s.dev.clr F.legFlt_lockout n))) ∧
    (mV ≤ th + 500 → exec (.bstLockoutRelease n mV) s = .next s)

/-- BRAKE_STATE, BRAKE_PULL_END, LEG_REARM and LEG_CFG_WRITE (R170, R194, R195). -/
def Obligations.LegsAndBrakes : Prop :=
  ∀ (s : State) (w : Who) (n : Fin 24) (v : BitVec 32) (t0 : Nat),
    let h := s.dev.legh n
    let ax := s.dev.rd F.legCfg_axis n
    let use := s.dev.rd F.legCfg_use n
    let rearm := F.legFlt_rearm.addr n 0
    let cfg := 0xA0000 + 0x800 * n.val
    let regs := fun (r : Nat) => cfg + 4 * r
    (7 ≤ s.seq.released → use = 3 → s.dev.rd F.legBrkst_released n = 0 → s.dev.brakeWanted n = true →
      ∃ t, exec (.brakeState n) s = .next t ∧ t.dev.rd F.legBrkst_released n = 1 ∧ t.dev.rd F.legBrkst_pulling n = 1 ∧
        (t.dev.legh n).pull = some (s.dev.now + s.dev.rd F.legBrkt_tpull n * 10 ^ 9)) ∧
    (7 ≤ s.seq.released → use = 3 → s.dev.rd F.legBrkst_released n = 1 → s.dev.brakeWanted n = false →
      ∃ t, exec (.brakeState n) s = .next t ∧ t.dev.rd F.legBrkst_released n = 0 ∧ t.dev.rd F.legBrkst_pulling n = 0 ∧
        (t.dev.legh n).gh = false ∧ (t.dev.legh n).gl = false ∧ t.dev.rd F.legStat_mode n = 0) ∧
    (7 ≤ s.seq.released → use ≠ 3 → exec (.brakeState n) s = .next s) ∧
    (7 ≤ s.seq.released → h.pull = some t0 → t0 ≤ s.dev.now →
      exec (.brakePullEnd n) s = .next (s.put ((s.dev.clr F.legBrkst_pulling n).modLeg n fun l => { l with pull := none }))) ∧
    (7 ≤ s.seq.released → h.pull = some t0 → s.dev.now < t0 → exec (.brakePullEnd n) s = .next s) ∧
    (s.GrantsPart w rearm → 2 ≤ use → Leads (exec (.legRearm w n) s) s (s.dev.modLeg n fun l => { l with left_ := true }) w 3 rearm .ok) ∧
    (s.GrantsPart w rearm → use ≤ 1 → Leads (exec (.legRearm w n) s) s s.dev w 3 rearm .ok) ∧
    (s.Grants w (regs 1) → s.dev.axState ax = 0 → 40 ≤ v.toNat % 2 ^ 12 → v.toNat % 2 ^ 12 ≤ 4000 →
      ∃ t, exec (.legCfgWrite w n 1 v) s = .next t ∧ s.Answered t w 2 (regs 1) .ok ∧ t.dev.rd F.legDt_dt n = v.toNat % 2 ^ 12) ∧
    (s.Grants w (regs 1) → s.dev.axState ax ≠ 0 → 40 ≤ v.toNat % 2 ^ 12 → v.toNat % 2 ^ 12 ≤ 4000 → v.toNat % 2 ^ 12 ≠ s.dev.rd F.legDt_dt n →
      Leads (exec (.legCfgWrite w n 1 v) s) s (s.dev.ev E.legWriteRefused (ax + 256 * w.port) (regs 1) w.port) w 2 (regs 1) .wrongState) ∧
    (s.Grants w (regs 1) → (v.toNat % 2 ^ 12 < 40 ∨ 4000 < v.toNat % 2 ^ 12) →
      Leads (exec (.legCfgWrite w n 1 v) s) s s.dev w 2 (regs 1) .range) ∧
    (s.Grants w cfg → s.dev.axState ax = 0 → s.dev.axState (bitsOf v.toNat 4 3) = 0 → bitsOf v.toNat 0 3 ≤ 3 →
      ∃ t, exec (.legCfgWrite w n 0 v) s = .next t ∧ s.Answered t w 2 cfg .ok ∧ t.dev.rd F.legCfg_use n = bitsOf v.toNat 0 3 ∧
        t.dev.rd F.legCfg_axis n = bitsOf v.toNat 4 3 ∧ t.dev.rd F.legCfg_slot n = bitsOf v.toNat 8 2 ∧
        (bitsOf v.toNat 0 3 ≠ use → (t.dev.legh n).gh = false ∧ (t.dev.legh n).gl = false))

/-- SC_REPORT, TRIP_INPUT_CHANGE, TRIP_CFG_WRITE, SUPPLY_TRIP_CHANGE and OT_MEASUREMENT (R185 to R191): what a source latches, and the FAULT of
every axis it reaches with the reaction ALL_OFF. -/
def Obligations.TripsAndShorts : Prop :=
  ∀ (s : State) (w : Who) (n : Fin 24) (k : Fin 4) (src : Fin 3) (g : Fin 6) (x : Int) (v : BitVec 32) (level : Bool) (mV clocks since : Nat),
    let soft : Int := s.dev.rd F.legIsc_soft n * 2 ^ 21
    let hard : Int := s.dev.rd F.legIsc_hard n * 2 ^ 21
    let ax := s.dev.rd F.legCfg_axis n
    let runs := fun a => 1 ≤ s.dev.axState a ∧ s.dev.axState a ≤ 3 ∧ Tbl.get 0 a s.dev.trip.react = 0
    let stat := s.dev.rd F.tripStat_level
    let run := min clocks ((s.dev.now - Tbl.get 0 k.val s.dev.trip.from_) / 2000)
    let input := exec (.tripInputChange k level clocks) s
    let pol := s.dev.rd F.tripCfg_pol k = 1
    let supply := exec (.supplyTripChange src mV clocks) s
    let uv := if src = 0 then 80 * s.dev.vdrvLevel else 12500 * s.dev.rd F.legSup_uv
    let ov := 125 * s.dev.rd F.legSup_ov
    let beyond := if src = 1 then ov < mV else 100 * mV < uv
    let stays := if src = 1 then 98 * ov < 100 * mV else 100 * (100 * mV) < 102 * uv
    let trips := fun (t : State) (q : Nat) (cause : Nat) =>
      t.dev.tripOn q = true ∧ bitOf (t.dev.rd F.tripStat_sticky) q = true ∧
        ∀ a < 8, s.dev.reaches q a = true → runs a → s.dev.reactOf a q = 0 → t.dev.axState a = 4 ∧ t.dev.rd F.axState_cause a = cause
    let ends := fun (q : Nat) => s.put ((s.dev.wr F.tripStat_level (stat - 2 ^ q)).ev E.tripCleared q 0)
    let cfg := F.tripCfg_en.addr k 0
    let th : Int := s.dev.rd F.lgOt_thresh g
    (7 ≤ s.seq.released →
      ((s.dev.legh n).gh = true → hard ≤ x →
        ∃ t, exec (.scReport n true x []) s = .next t ∧ t.dev.rd F.legFlt_scH n = 1 ∧ t.dev.rd F.legFlt_hard n = 1 ∧
          (s.dev.rd F.legCfg_use n = 1 → runs ax → s.dev.reactOf ax 1 = 0 →
            t.dev.axState ax = 4 ∧ t.dev.rd F.axState_cause ax = 9 ∧ (t.dev.legh n).gh = false ∧ (t.dev.legh n).gl = false)) ∧
      ((s.dev.legh n).glSince = some since → since + s.dev.rd F.legTblank_tblank n * 1000 ≤ s.dev.now → soft ≤ x → x < hard →
        s.dev.rd F.legCfg_use n = 1 → s.dev.reactOf ax 0 = 2 →
        ∃ t, exec (.scReport n false x []) s = .next t ∧ t.dev.rd F.legFlt_scL n = 1 ∧ t.dev.axState ax = s.dev.axState ax ∧
          (t.dev.legh n).gl = (s.dev.legh n).gl) ∧
      (x < soft → x < hard → exec (.scReport n level x []) s = .next s)) ∧
    (7 ≤ s.seq.released → s.dev.rd F.tripCfg_en k = 1 → s.dev.rd F.tripCfg_filt k ≤ run → (level = true ↔ pol) → s.dev.tripOn (4 + k) = false →
      ∃ t, input = .next t ∧ trips t (4 + k) 9) ∧
    (7 ≤ s.seq.released → s.dev.rd F.tripCfg_en k = 1 → s.dev.rd F.tripCfg_filt k ≤ run → ¬ (level = true ↔ pol) → s.dev.tripOn (4 + k) = true →
      input = .next (ends (4 + k))) ∧
    (7 ≤ s.seq.released → (s.dev.rd F.tripCfg_en k = 0 ∨ run < s.dev.rd F.tripCfg_filt k) → input = .next s) ∧
    (7 ≤ s.seq.released → 256 ≤ clocks → beyond → s.dev.tripOn (8 + src) = false →
      ∃ t, supply = .next t ∧ trips t (8 + src) (if src.val = 1 then 9 else 13)) ∧
    (7 ≤ s.seq.released → 256 ≤ clocks → ¬ stays → s.dev.tripOn (8 + src) = true → supply = .next (ends (8 + src))) ∧
    (7 ≤ s.seq.released → (clocks < 256 ∨ s.dev.tripOn (8 + src) = true ∧ stays ∨ s.dev.tripOn (8 + src) = false ∧ ¬ beyond) → supply = .next s) ∧
    (7 ≤ s.seq.released → x < th → s.dev.trip.ot = 0 → s.dev.tripOn 11 = false →
      exec (.otMeasurement g x) s = .next (s.put (s.dev.wrI F.lgOt_temp (satS 8 x) g))) ∧
    (7 ≤ s.seq.released → th ≤ x → s.dev.trip.ot = 0 → s.dev.tripOn 11 = false →
      ∃ t, exec (.otMeasurement g x) s = .next t ∧ t.dev.tripOn 11 = true ∧ t.dev.trip.ot = 2 ^ g.val) ∧
    (s.Grants w cfg → s.dev.tripOn (4 + k) = false →
      ∃ t, exec (.tripCfgWrite w k v) s = .next t ∧ s.Answered t w 2 cfg .ok ∧ t.dev.rd F.tripCfg_en k = bitsOf v.toNat 11 1 ∧
        t.dev.rd F.tripCfg_pol k = bitsOf v.toNat 10 1 ∧ t.dev.rd F.tripCfg_filt k = bitsOf v.toNat 0 10 ∧
        t.dev.rd F.tripCfg_axmask k = bitsOf v.toNat 16 8 ∧ t.dev.rd F.tripStat_level = stat ∧
        (¬ (s.dev.rd F.tripCfg_en k = 1 ∧ bitOf v.toNat 11 = true ∧ s.dev.rd F.tripCfg_pol k = bitsOf v.toNat 10 1) →
          Tbl.get 0 k.val t.dev.trip.from_ = s.dev.now))

/-! ### Current sensing and converters (07_current_sensing.md) -/

/-- HOLD_SET and HOLD_SET_CONVERTED (R197, R199 to R203, R206): a hold at its instant, the set of codes, and the current of a complete set.
The hold that falls due is the earliest of the last 5 ns (model's choice, log entry 65) that comes after the latest one. -/
def Obligations.SampleSets : Prop :=
  ∀ (s : State) (n : Fin 24) (g : Fin 6) (i : Fin 4) (codes : List Int) (k since : Nat) (p at_ t0 : Int) (w : HeldS) (f0 : Machine.SSet),
    let h := s.dev.snsLeg n
    let ax := s.dev.rd F.legCfg_axis n
    let per : Int := s.dev.rd F.axCper_per ax
    let now_ := s.dev.t250 (s.dev.rd F.axTick_tb ax)
    let ph : Int := s.dev.rd F.axCphase_phase ax
    let navg := s.dev.rd F.snsSmp_navg n
    let off := fun (k : Nat) => s.dev.rdI F.snsSpos_spos n + (2 * (k : Int) - navg + 1) * s.dev.rd F.snsSmp_space n / 2
    let root : Int := ((s.dev.rootOf ax at_ : Int) + 125) / 250 * 250
    let due := fun (x : Int) => now_ - 20 < x ∧ x ≤ now_ ∧ ∀ l ∈ h.last, l ≤ now_ → l < x
    let settle : Int := s.dev.rd F.snsSmp_settle n * 4000
    (0 < per →
      (s.dev.holdDue n = some (k, p, at_) →
        k < navg ∧ (p - ph) % per = 0 ∧ at_ = p + off k ∧ due at_ ∧
          ∀ m < navg, ∀ x, (x - ph - off m) % per = 0 → due x → now_ < x + per → at_ ≤ x) ∧
      (k < navg → (at_ - ph - off k) % per = 0 → now_ < at_ + per → due at_ → s.dev.holdDue n ≠ none)) ∧
    (7 ≤ s.seq.released → s.dev.holds n = true → s.dev.holdDue n = some (k, p, at_) →
      (h.hold = none →
        ∃ t, exec (.holdSet n) s = .next t ∧ (t.dev.snsLeg n).last = some at_ ∧ (t.dev.snsLeg n).heldAt = some root ∧
          ((∀ f ∈ h.sets, f.per ≠ p) →
            { per := p, k := k + 1, codes := [], corr := s.dev.corrAt n root } ∈ (t.dev.snsLeg n).sets) ∧
          (h.sets = [f0] → f0.per = p → (t.dev.snsLeg n).sets = [{ f0 with k := k + 1 }]) ∧
          ∃ v, (t.dev.snsLeg n).hold = some { at_ := root, per := p, valid := v } ∧
            ((s.dev.legh n).gl = true → (s.dev.legh n).glSince = some since → (since : Int) + settle ≤ root → v = true) ∧
            ((s.dev.legh n).gl = true → (s.dev.legh n).glSince = some since → root < (since : Int) + settle → (s.dev.legh n).glOffSince ≤ root →
              v = false) ∧
            ((s.dev.legh n).gl = false → (s.dev.legh n).glOffSince ≤ root → v = false)) ∧
      (h.hold.isSome = true → k + 1 < navg → h.skipLog = some p →
        ∃ t, exec (.holdSet n) s = .next t ∧ (t.dev.snsLeg n).hold = h.hold ∧ (t.dev.snsLeg n).last = some at_ ∧
          t.dev.rd F.snsSt_skip n = min (2 ^ F.snsSt_skip.len - 1) (s.dev.rd F.snsSt_skip n + 1) ∧ t.dev.evr = s.dev.evr)) ∧
    (7 ≤ s.seq.released → (s.dev.holds n = false ∨ s.dev.holdDue n = none) → exec (.holdSet n) s = .next s) ∧
    (5 ≤ s.seq.released → s.dev.firstHold g = none → exec (.holdSetConverted g codes) s = .next s) ∧
    (5 ≤ s.seq.released → s.dev.firstHold g = some t0 →
      let m := 4 * g.val + i.val
      let f := s.dev.snsLeg m
      let code := max (-8192) (min 8191 (codes.getD i 0))
      let done := if (s.dev.now : Int) < t0 + 54000 then (t0 + 50000).toNat else s.dev.now
      let ts := (w.per + s.dev.rdI F.snsSpos_spos m) * 16384
      let value := satS 32 (rneDiv ((256 * code - f0.corr.1) * f0.corr.2 * 2 ^ 18) (256 * 2 ^ 30))
      f.hold = some w → w.at_ = t0 → f.sets = [f0] → f0.per = w.per →
      ∃ t, exec (.holdSetConverted g codes) s = .next t ∧ (t.dev.snsLeg m).hold = none ∧
        t.dev.rd F.snsStat_sets g = (s.dev.rd F.snsStat_sets g + 1) % 2 ^ F.snsStat_sets.len ∧
        (f0.k < s.dev.rd F.snsSmp_navg m →
          (t.dev.snsLeg m).sets = [{ f0 with codes := if w.valid then code :: f0.codes else f0.codes }] ∧
            t.dev.rd F.snsI_i m = s.dev.rd F.snsI_i m) ∧
        (s.dev.rd F.snsSmp_navg m ≤ f0.k → f0.codes = [] → w.valid = true →
          t.dev.rd F.snsSt_nv m = 1 ∧ (t.dev.snsLeg m).sets = [] ∧ t.dev.rdI F.snsI_i m = value ∧
            (t.dev.snsLeg m).done.head? = some { ts := ts, i := some value, ready := done + 25000 }) ∧
        (s.dev.rd F.snsSmp_navg m ≤ f0.k → f0.codes = [] → w.valid = false →
          t.dev.rd F.snsSt_nv m = 0 ∧ (t.dev.snsLeg m).sets = [] ∧ t.dev.rd F.snsI_i m = s.dev.rd F.snsI_i m ∧
            (t.dev.snsLeg m).done.head? = some { ts := ts, i := none, ready := done + 25000 }))

/-- SNS_CFG_WRITE, OFFSET_CALIBRATION, SNS_OFS_STALE, GAIN_INJECTION and DELAY_LINE_CALIBRATION (R198, R207 to R210).
AUX_CONVERSION and SC_HOLD (R211 to R214, R238): the readback of the channel whose turn it is takes the conversion; BST only with the
low-side gate on for 200 ns. -/
def Obligations.SenseConversions : Prop :=
  (∀ (s : State) (w : Who) (n : Fin 24) (g : Fin 6) (m : Int) (v : BitVec 32) (u : Fin 32) (taps : List Nat),
     let c := n.val / 4
     let h := s.dev.snsLeg n
     let code := max (-8192) (min 8191 m)
     let o := s.dev.rdI F.snsOfs_ofs n
     let k := s.dev.rd F.snsCal_ofsk c
     let cfg := R.snsCfg.base + 0x40 * g.val
     let ratio := v.toNat % 2 ^ 16
     let irange := bitsOf v.toNat 16 3
     let fits := 2000 ≤ ratio ∧ ratio ≤ 50000 ∧ irange ≤ 5
     let live := fun (l : Nat) => s.dev.rd F.legCfg_use l = 1 ∧ s.dev.axState (s.dev.rd F.legCfg_axis l) ≠ 0
     let quiet := fun (l ps : Nat) => ∀ t ∈ (s.dev.snsLeg l).heldAt, t + ps ≤ (s.dev.now : Int)
     let idle := ∀ i < 4, (s.dev.snsLeg (4 * c + i)).hold = none ∧ quiet (4 * c + i) 50000
     let runs := s.dev.mgt.fwRun = true ∧ s.dev.rd F.mgtState_core = 0
     let calibrates := runs ∧ s.dev.rd F.snsCal_ofsen c = 1 ∧ s.dev.lowOffFor n (s.dev.rd F.snsSmp_settle n * 4000) = true ∧ idle
     let injects := runs ∧ s.dev.rd F.snsCal_injen c = 1 ∧ s.dev.lowOffFor n 400000 = true ∧ quiet n 400000 ∧ idle
     (s.Grants w cfg → fits → (∀ i < 4, ¬ live (4 * g + i)) →
       ∃ t, exec (.snsCfgWrite w g v) s = .next t ∧ s.Answered t w 2 cfg .ok ∧ t.dev.rd F.snsCfg_ratio g = ratio ∧
         t.dev.rd F.snsCfg_irange g = irange) ∧
     (s.Grants w cfg → fits → live (4 * g.val) →
       Leads (exec (.snsCfgWrite w g v) s) s
         (s.dev.ev E.legWriteRefused (s.dev.rd F.legCfg_axis (4 * g.val) + 256 * w.port) cfg w.port) w 2 cfg .wrongState) ∧
     (s.Grants w cfg → ¬ fits → Leads (exec (.snsCfgWrite w g v) s) s s.dev w 2 cfg .range) ∧
     (5 ≤ s.seq.released → calibrates →
       exec (.offsetCalibration n m) s = .next (s.put
         ((((s.dev.wrI F.snsOfs_ofs (if h.ofsLoaded then rneDiv (o * 2 ^ k + (256 * code - o)) (2 ^ k) else 256 * code) n).clr
           F.snsSt_ofsstale n).modSns n fun h => { h with ofsLoaded := true, ofsAt := s.dev.now, ofsOld := o }).lehrCal n))) ∧
     (5 ≤ s.seq.released → ¬ calibrates → exec (.offsetCalibration n m) s = .next s) ∧
     (5 ≤ s.seq.released → live n → s.dev.rd F.snsSt_ofsstale n = 0 → h.ofsAt + 10 ^ 11 ≤ s.dev.now →
       exec (.snsOfsStale n) s = .next (s.put ((s.dev.set1 F.snsSt_ofsstale n).ev E.snsOfsStale n (s.dev.rd F.snsOfs_ofs n)))) ∧
     (5 ≤ s.seq.released → s.dev.now < h.ofsAt + 10 ^ 11 → exec (.snsOfsStale n) s = .next s) ∧
     (5 ≤ s.seq.released → injects → 256 * code ≠ o →
       let x := rneDivI (2048 * 256 * 2 ^ 30) (256 * code - o)
       let old : Int := s.dev.rd F.snsGinj_ginj c
       ∃ t, exec (.gainInjection n m) s = .next t ∧ (Tbl.get {} c t.dev.sns.grp).ginjLoaded = true ∧ t.dev.freeIdx = s.dev.freeIdx ∧
         t.dev.rd F.snsGinj_ginj c =
           satU 32 (if (Tbl.get {} c s.dev.sns.grp).ginjLoaded then rneDiv (old * 2 ^ k + (x - old)) (2 ^ k) else x)) ∧
     (5 ≤ s.seq.released → ¬ injects → exec (.gainInjection n m) s = .next s) ∧
     (7 ≤ s.seq.released → ¬ runs → exec (.delayLineCalibration u taps) s = .next s) ∧
     (7 ≤ s.seq.released → runs → ∃ t, exec (.delayLineCalibration u taps) s = .next t ∧
       (u.val < 24 → (t.dev.legh u).tapsNew = some taps ∧ (t.dev.legh u).taps = (s.dev.legh u).taps) ∧
       (24 ≤ u.val → Tbl.find (u.val - 24) t.dev.sns.tdc = some taps))) ∧
  (∀ (s : State) (c : Fin 2) (ch : Fin 38) (v : Int) (n : Fin 24) (q : Fin 4) (sin cos : Int),
     5 ≤ s.seq.released →
     let h := s.dev.aux c
     let open_ := fun (ch : Nat) => ch < 14 ∨ (s.dev.legh (ch - 14)).gl = true ∧ ∃ t ∈ (s.dev.legh (ch - 14)).glSince, t + 200000 ≤ s.dev.now
     let turn := if h.vbus then ch.val = 0 else (auxList c)[h.pos]? = some ch.val ∧ open_ ch
     let clip := fun (lo hi : Int) => max lo (min hi v)
     let conv := exec (.auxConversion c ch v) s
     (h.ends ≤ s.dev.now → turn →
       ∃ t, conv = .next t ∧ (t.dev.aux c).vbus = !h.vbus ∧ (t.dev.aux c).ends = max h.ends (s.dev.scEnd c) + 250000 ∧
         (t.dev.aux c).pos = (if h.vbus then h.pos else (h.pos + 1) % (auxList c).length) ∧
         (ch.val = 0 → t.dev.rdI F.snsVbus_v = clip 0 (1024 * 65536 / 10)) ∧
         (ch.val = 1 → t.dev.rdI F.snsVdrv_v = clip 0 (16 * 65536)) ∧
         (ch.val = 2 → t.dev.rdI F.snsVfield_v = clip 0 (40 * 65536)) ∧
         (3 ≤ ch.val → ch.val < 7 → t.dev.rdI F.snsAin_ain (ch.val - 3) = satS 32 v) ∧
         (7 ≤ ch.val → ch.val < 13 → t.dev.rdI F.snsTlg_t (ch.val - 7) = clip (-40 * 256) 32767) ∧
         (ch.val = 13 → t.dev.rdI F.snsTcore_t = clip (-40 * 256) 32767) ∧
         (ch.val = 14 + n → t.dev.rdI F.snsBst_v n = clip 0 (16 * 256) ∧ (t.dev.snsLeg n).bstAt = some s.dev.now ∧
           (s.dev.mgt.fwRun = true → s.dev.rd F.mgtState_core = 0 →
             t.dev.rd F.mgtBstmin_min n = min (s.dev.rd F.mgtBstmin_min n) (clip 0 (16 * 256)).toNat))) ∧
     ((s.dev.now < h.ends ∨ (h.vbus = true ∧ ch.val ≠ 0) ∨ (h.vbus = false ∧ ¬ ch.val ∈ 0 :: auxList c) ∨ ¬ open_ ch ∧ ch.val ≠ 0) → conv = .next s) ∧
     (s.dev.rd F.fqCtrl_mode q = 4 → s.dev.fqWorks q = true →
       ∃ t, exec (.scHold q sin cos) s = .next t ∧
         ∃ x, Tbl.find q.val t.dev.sns.sc = some x ∧ x.s = satS 16 sin ∧ x.c = satS 16 cos ∧ x.at_ = s.dev.now ∧ s.dev.now + 500000 ≤ x.ready) ∧
     ((s.dev.rd F.fqCtrl_mode q ≠ 4 ∨ s.dev.fqWorks q = false) → exec (.scHold q sin cos) s = .next s))

/-! ### Feedback and latching (08_feedback_and_latching.md) -/

/-- FA_FRAME_START, FA_WORD, FA_DELAY_MEASUREMENT and FA_DELAY_MEASURED (R220, R225 to R229).
FQ_EDGE, FQ_INDEX, SINCOS_SAMPLE, MAINRET and CLRFLT (R223, R231 to R242). -/
def Obligations.FeedbackChannels : Prop :=
  (∀ (s : State) (n : Fin 8) (clk dly bits t0 : Nat) (ts0 : Int) (l : List Nat),
     let h := s.dev.fa n
     let a := s.dev.rd F.faCtrl_axis n
     let now_ : Int := s.dev.tb16 (s.dev.rd F.axTick_tb a)
     let lead : Int := s.dev.faLeadPs n * 65536 / 1000
     let ts := s.dev.sampleAt a (s.dev.tickSampled a (s.dev.rd F.axTick_cdiv a * s.dev.rd F.axTick_vdiv a) ((now_ + lead) / 16384))
     let began := s.dev.now - ((now_ - (ts - lead)) * 1000 / 65536).toNat
     let ack := s.dev.rd F.faFrm_ackmax n
     let ofs := s.dev.rd F.faFld_posofs n
     let len := s.dev.rd F.faFld_poslen n
     6 ≤ s.seq.released →
     (s.dev.faServes n = true → h.frame = none → h.asked ≠ some ts → h.busyTill ≤ began → ts - lead ≤ now_ →
       exec (.faFrameStart n) s = .next (s.put (s.dev.modFa n fun h => { h with frame := some (ts, began), asked := some ts }))) ∧
     (s.dev.faServes n = false ∨ h.frame ≠ none → exec (.faFrameStart n) s = .next s) ∧
     (h.frame = none → exec (.faWord n clk dly bits) s = .next s) ∧
     (h.frame = some (ts0, t0) → s.dev.rd F.faCtrl_start n = 1 → (clk = 0 ∨ ack < clk) →
       ∃ t, exec (.faWord n clk dly bits) s = .next t ∧ (t.dev.fa n).frame = none ∧ t.dev.rd F.faSt_timeout n = 1 ∧ (t.dev.fa n).x = h.x ∧
         (t.dev.fa n).last = h.last ∧ t.dev.rd F.faSt_errs n = min (2 ^ F.faSt_errs.len - 1) (s.dev.rd F.faSt_errs n + 1)) ∧
     (h.frame = some (ts0, t0) → s.dev.rd F.faCtrl_start n = 0 → s.dev.rd F.faCrc_en n = 0 → s.dev.rd F.faFld_errmask n = 0 →
       s.dev.rd F.faCtrl_gray n = 0 → s.dev.rd F.faCtrl_lsbfirst n = 1 →
       let word := bitsOf bits ofs len
       ∃ t, exec (.faWord n clk dly bits) s = .next t ∧ (t.dev.fa n).frame = none ∧ (t.dev.fa n).last = some word ∧ (t.dev.fa n).tv = some ts0 ∧
         (t.dev.fa n).x = (match h.last with
           | none => if s.dev.rd F.faCtrl_signed n = 1 then sx len word else (word : Int)
           | some old => satS 64 (h.x + sx len (ux len ((word : Int) - old)))) ∧
         ∀ b < 8, s.dev.rd F.fbkSel_src b = n + 1 → ∀ k r, (s.dev.axis b).fb.hist = k :: r → k.t = ts0 → k.ext = true →
           ∃ k', (t.dev.axis b).fb.hist.head? = some k' ∧ k'.x = k.x ∧ k'.late = some (s.dev.fbX b ((t.dev.fa n).x * 65536))) ∧
     (s.dev.faWorks n = false → exec (.faDelayMeasurement n clk dly) s = .next s) ∧
     (s.dev.faWorks n = true → h.meas = some l → l.length < 16 → 1 ≤ clk → clk ≤ ack →
       exec (.faDelayMeasurement n clk dly) s = .next (s.put (s.dev.modFa n fun h => { h with meas := some (dly :: l) }))) ∧
     (h.meas = none → exec (.faDelayMeasurement n clk dly) s = .next s ∧ exec (.faDelayMeasured n) s = .next s) ∧
     (h.meas = some l → l.length = 16 →
       exec (.faDelayMeasured n) s = .next (s.put ((((s.dev.wr F.faLdly_ldly ((l.sum + 15) / 16) n).set1 F.faLdly_measured n).modFa n
         fun h => { h with meas := none }).ev E.faDelayMeasured n ((l.sum + 15) / 16))))) ∧
  (∀ (s : State) (w : Who) (q : Fin 4) (a b level : Bool) (na : Nat) (sv cv : Int) (k : ScHeld),
     let h := s.dev.fq q
     let mode := s.dev.rd F.fqCtrl_mode q
     let filt := s.dev.rd F.fqCtrl_filt q
     let works := s.dev.rd F.fqCtrl_en q = 1 ∧ s.dev.rd F.axCfg_kind (s.dev.rd F.fqCtrl_axis q) ≠ 0
     let plain := s.dev.rd F.fqCtrl_inva q = 0 ∧ s.dev.rd F.fqCtrl_invb q = 0 ∧ s.dev.rd F.fqCtrl_swap q = 0
     let turn := (quadPos a b + 4 - quadPos h.a h.b) % 4
     let stamp : Int := (s.dev.tb16 (s.dev.rd F.axTick_tb (s.dev.rd F.fqCtrl_axis q)) / (5 * 65536) - ((na - 1 : Nat) : Int)) * (5 * 65536)
     let step := exec (.fqEdge q ⟨a, cv, na⟩ ⟨b, sv, na⟩) s
     let hyst : Int := s.dev.rd F.fqSc_hyst q * 64
     let above := fun (old new : Bool) (v : Int) => (hyst < v → new = true) ∧ (v < -hyst → new = false) ∧ (-hyst ≤ v → v ≤ hyst → new = old)
     let z := (level = true ↔ s.dev.rd F.fqCtrl_invz q = 0)
     let index := exec (.fqIndex q level na) s
     let x := k.s - s.dev.rdI F.fqScofs_sofs q
     let y := k.c - s.dev.rdI F.fqScofs_cofs q
     let a2 := (4 * (x * x + y * y)).toNat
     let valid := s.dev.rd F.fqScamp_amin q ^ 2 ≤ a2 ∧ a2 ≤ s.dev.rd F.fqScamp_amax q ^ 2
     let cmd := F.fqCmd_mainret.addr q 0
     (6 ≤ s.seq.released →
       (works → mode = 1 → plain → filt < na →
         (turn = 1 → ∃ t, step = .next t ∧ (t.dev.fq q).count = h.count + 1 ∧ t.dev.rd F.fqSt_dir q = 0 ∧ (t.dev.fq q).a = a ∧
           (t.dev.fq q).b = b ∧ (t.dev.fq q).steps = { t := stamp, n := h.count + 1, neg := false } :: h.steps ∧
           (h.dir = some true → t.dev.rd F.fqSt_dirchg q = 1 ∧ (t.dev.fq q).idxOk = false)) ∧
         (turn = 3 → ∃ t, step = .next t ∧ (t.dev.fq q).count = h.count - 1 ∧ t.dev.rd F.fqSt_dir q = 1 ∧
           (t.dev.fq q).steps = { t := stamp, n := h.count - 1, neg := true } :: h.steps) ∧
         (turn = 2 → ∃ t, step = .next t ∧ (t.dev.fq q).count = h.count ∧ t.dev.rd F.fqSt_illegal q = 1 ∧
           t.dev.rd F.fqSt_qerr q = min (2 ^ F.fqSt_qerr.len - 1) (s.dev.rd F.fqSt_qerr q + 1)) ∧
         (turn = 0 → step = .next s)) ∧
       (works → mode = 2 → plain → filt < na → a = true → h.a = false → b = h.b →
         ∃ t, step = .next t ∧ (t.dev.fq q).count = h.count + (if h.b then -1 else 1)) ∧
       (mode ≠ 4 → na ≤ filt → step = .next s) ∧
       (s.dev.rd F.fqCtrl_en q = 0 → mode ≠ 4 → ∃ t, step = .next t ∧ (t.dev.fq q).count = h.count ∧ t.dev.regs = s.dev.regs) ∧
       (mode = 4 → ∃ t, step = .next t ∧
         above h.ca (t.dev.fq q).ca (cv - s.dev.rdI F.fqScofs_cofs q) ∧ above h.cb (t.dev.fq q).cb (sv - s.dev.rdI F.fqScofs_sofs q)) ∧
       (mode = 4 → na ≤ filt → ∃ t, step = .next t ∧ (t.dev.fq q).count = h.count ∧ t.dev.regs = s.dev.regs) ∧
       ((na ≤ filt ∨ (z ↔ h.z = true)) → index = .next s) ∧
       (¬ z → h.z = true → filt < na → ∃ t, index = .next t ∧ (t.dev.fq q).z = false ∧ (t.dev.fq q).idx = h.idx ∧ t.dev.regs = s.dev.regs) ∧
       (z → h.z = false → filt < na → works → mode = 1 → s.dev.rd F.fqIdx_lines q = 0 →
         ∃ t, index = .next t ∧ (t.dev.fq q).z = true ∧ (t.dev.fq q).idx = h.count ∧ (t.dev.fq q).idxOk = true ∧ t.dev.regs = s.dev.regs) ∧
       (z → h.z = false → filt < na → works → mode = 1 → s.dev.rd F.fqIdx_lines q ≠ 0 → h.idxOk = true →
         (s.dev.rd F.fqIdx_tol q : Int) < |(|h.count - h.idx| : Int) - 4 * s.dev.rd F.fqIdx_lines q| →
         ∃ t, index = .next t ∧ t.dev.rd F.fqSt_indexErr q = 1 ∧ (s.dev.rd F.fqCtrl_idxchk q = 1 → t.dev.rd F.fqSt_fault q = 1)) ∧
       (Tbl.find q.val s.dev.sns.sc = some k → mode = 4 → works → k.ready ≤ s.dev.now → h.xt ≠ some k.ts → valid →
         ∃ t, exec (.sincosSample q) s = .next t ∧ t.dev.rd F.fqScmeas_a q = min 65535 (sqrtRne a2) ∧
           t.dev.rd F.fqScmeas_phi q = angle16 y x % 65536 ∧ t.dev.rd F.fqSt_ready q = 1 ∧ (t.dev.fq q).xt = some k.ts ∧
           (t.dev.fq q).amplBad = false) ∧
       (Tbl.find q.val s.dev.sns.sc = some k → s.dev.now < k.ready → exec (.sincosSample q) s = .next s) ∧
       (mode ≠ 4 → exec (.sincosSample q) s = .next s)) ∧
     (s.GrantsPart w cmd → (∀ n < 8, s.dev.rd F.fbkSel_src n = 9 + q → s.dev.axState n ≤ 1) → mode = 4 →
       Leads (exec (.mainret w q) s) s
         (((s.dev.modFq q fun h => { h with count := 4 * h.x / (2 ^ s.dev.rd F.fqSc_ibits q * 65536), bad := [], steps := [] }).clr
           F.fqSt_fallback q).ev E.fqMainRestored q 0 w.port) w 3 cmd .ok) ∧
     (∀ n < 8, s.GrantsPart w cmd → s.dev.rd F.fbkSel_src n = 9 + q → 2 ≤ s.dev.axState n →
       Leads (exec (.mainret w q) s) s s.dev w 3 cmd .wrongState) ∧
     (s.GrantsPart w cmd → s.dev.chanFree (9 + q) = true → Leads (exec (.clrflt w q) s) s (s.dev.clr F.fqSt_fault q) w 3 cmd .ok) ∧
     (s.GrantsPart w cmd → s.dev.chanFree (9 + q) = false → Leads (exec (.clrflt w q) s) s s.dev w 3 cmd .wrongState))

/-- TDC_EDGE, LATCH_EVENT, QINFO_READ, LT_CFG_WRITE and FBK_CFG_WRITE (R217, R243 to R247). -/
def Obligations.LatchUnits : Prop :=
  ∀ (s : State) (w : Who) (k : Fin 8) (level : Bool) (age n_ : Nat) (te : Int) (rest : List Int) (a b : VTick) (l : List VTick) (v : BitVec 32)
      (n : Fin 8) (r : FbkReg),
    let h := s.dev.lt k
    let stamp := s.dev.now / 40 - age
    let edge := s.dev.rd F.ltCfg_edge k
    let pol := s.dev.rd F.gthTrig_edge
    let ax := s.dev.rd F.ltCfg_axis k
    let stands := if k.val < 4 then s.dev.rd F.fioVf_state < 2 ∧ s.dev.rd F.fiCfg_filt k ≤ n_ else s.dev.rd F.ltCfg_filt k < n_
    let info := R.ltQinfo.base + 0x40 * k.val
    let dly := F.ltDly_dly.addr k 0
    let cfg := F.ltCfg_en.addr k 0
    let tim := (FbkReg.fa n 4).addr
    (6 ≤ s.seq.released →
      (stands → (∀ e ∈ h.edge, e + 250 ≤ stamp) →
        ∃ t, exec (.tdcEdge k level age n_) s = .next t ∧ (t.dev.lt k).edge = some stamp ∧ (t.dev.lt k).level = level ∧
          (t.dev.lt k).wait = h.wait ++
            (if s.dev.rd F.ltCfg_en k = 1 ∧ (edge = 2 ∨ (edge = 0 ∧ level = true) ∨ (edge = 1 ∧ level = false)) then
              [s.dev.tbAgo (s.dev.rd F.axTick_tb ax) (40 * age) - s.dev.rdI F.ltDly_dly k * 65536] else []) ∧
          (k.val < 7 → t.dev.gth.edges = s.dev.gth.edges ++
            (if bitOf (s.dev.rd F.gthTrig_emask) k = true ∧ (pol = 2 ∨ (pol = 0 ∧ level = true) ∨ (pol = 1 ∧ level = false)) then
              [(k.val, s.dev.tbAgo s.dev.gthTb (40 * age) - 65536 * s.dev.rdI F.ltDly_dly k)] else []))) ∧
      (∀ e ∈ h.edge, stands → stamp < e + 250 → exec (.tdcEdge k level age n_) s = .next (s.put (s.dev.bump F.ltSt_lost k))) ∧
      (¬ stands → exec (.tdcEdge k level age n_) s = .next s) ∧
      (h.wait = te :: rest → s.dev.fbSrc ax ≠ 0 → (s.dev.axis ax).fb.hist = b :: a :: l → a.t ≤ te → te < b.t →
        s.dev.rd F.ltCfg_winen k = 0 → h.q.length < 4 →
        exec (.latchEvent k) s = .next (s.put (s.dev.modLt k fun h =>
          { h with
            wait := rest
            q := h.q ++ [{ x := satS 64 (latchPos a b te (s.dev.flag F.ltCfg_mode k)), te := te, extrap := a.guessed || b.guessed, old := false }] }))) ∧
      (h.wait = te :: rest → s.dev.fbSrc ax = 0 → h.q.length < 4 →
        ∃ t, exec (.latchEvent k) s = .next t ∧ (t.dev.lt k).wait = rest ∧ ∃ e, (t.dev.lt k).q = h.q ++ [e] ∧ e.te = te ∧ e.old = true) ∧
      (h.wait = te :: rest → s.dev.fbSrc ax ≠ 0 → (s.dev.axis ax).fb.hist = b :: l → b.t ≤ te →
        exec (.latchEvent k) s = .next s) ∧
      (h.wait = [] → exec (.latchEvent k) s = .next s)) ∧
    (s.GrantsRead w info →
      ∃ t, exec (.qinfoRead w k) s = .next t ∧ (t.dev.lt k) = { h with q := h.q.drop 1 } ∧
        t.dev.net = (s.dev.respond { port := w.port, code := .ok, tag := w.tag, op := 1, addr := info,
                                     data := [s.dev.regWord R.ltQinfo k 0] }).net) ∧
    (s.Grants w dly → s.dev.rd F.ltCfg_en k = 0 → Leads (exec (.ltCfgWrite w k 1 v) s) s (s.dev.wr F.ltDly_dly v.toNat k) w 2 dly .ok) ∧
    (s.Grants w dly → s.dev.rd F.ltCfg_en k = 1 → Leads (exec (.ltCfgWrite w k 1 v) s) s s.dev w 2 dly .wrongState) ∧
    (s.Grants w cfg → s.dev.rd F.ltCfg_en k = 1 → bitOf v.toNat 0 = false → bitsOf v.toNat 1 2 ≤ 2 →
      ∃ t, exec (.ltCfgWrite w k 0 v) s = .next t ∧ s.Answered t w 2 cfg .ok ∧ t.dev.rd F.ltCfg_en k = 0 ∧
        t.dev.rd F.ltCfg_edge k = bitsOf v.toNat 1 2 ∧ (t.dev.lt k) = { h with q := [], wait := [] }) ∧
    (s.Grants w tim → s.dev.chanFree (n + 1) = true → s.dev.rd F.faCtrl_en n = 0 →
      ∃ t, exec (.fbkCfgWrite w (.fa n 4) v) s = .next t ∧ s.Answered t w 2 tim .ok ∧ t.dev.rd F.faTim_tmono n = v.toNat % 2 ^ 16 ∧
        t.dev.rd F.faTim_tsens n = v.toNat / 2 ^ 16) ∧
    (s.Grants w r.addr → (match r with | .fa n _ => s.dev.chanFree (n + 1) | .fq q _ => s.dev.chanFree (q + 9)) = false →
      Leads (exec (.fbkCfgWrite w r v) s) s s.dev w 2 r.addr .range ∨ Leads (exec (.fbkCfgWrite w r v) s) s s.dev w 2 r.addr .wrongState)

/-! ### Gather (10_gather.md) -/

/-- GTH_ARM, GTH_STOP, FORCE, STREAM, ROW_COMMIT, CLASS_E_TRIGGER, HOLD_OFF_END and STREAM_END (R276, R277, R279 to R283, R286). The trigger
row is told by the newest row numbered at or below it, its places by the rows committed (model's choice, log entry 119). -/
def Obligations.GatherUnit : Prop :=
  ∀ (s : State) (w : Who) (newest te : Int) (tk p word : Int) (src b c : Nat) (rest : List (Nat × Int)) (last : Bool) (body : List Nat)
      (frames : List (Bool × List Nat)),
    let d := s.dev
    let g := d.gth
    let st := d.rd F.gthStat_state
    let cmd := F.gthCmd_arm.addr 0 0
    let pre := d.rd F.gthPre_pre
    let post := d.rd F.gthPost_post
    let filled : Nat := if pre = 0 then 2 else 1
    let row := d.rowOf te
    let fresh := ({ d with gth := { g with next := none } } : Dev).nextRow
    let starts := fun (t : State) => t.dev.rd F.gthStat_state = filled ∧ t.dev.gth.newest = none ∧ t.dev.gth.edges = [] ∧ t.dev.gth.wait = none ∧
      t.dev.gth.rows = [] ∧ t.dev.gth.count = 0 ∧ t.dev.gth.cap = g.cap
    let k := d.nextRow
    let due := d.commitDue
    let holdoff := st = 4 ∧ d.rd F.gthCtrl_auto = 1
    let forced : Trig := { kind := 2, te := d.rowTime k, row := some k }
    let edge : Trig := { kind := 1, src := src, te := te }
    let waits := fun (x : Trig) => some (match g.wait with | some y => if y.te ≤ x.te then y else x | none => x)
    let words := (d.rowWords (d.rowTime (k - 1)) (d.rowTime k)).2
    let L := d.rdI F.gthTlevel_l
    -- row `row` lies `b` committed rows behind the newest one
    let behind := g.newest = some (newest, tk) ∧ row ≤ newest ∧ g.rows.findIdx? (fun r => decide (r.1 ≤ row)) = some b
    (s.GrantsPart w cmd →
      (d.armRange = false → d.gthRuns = false → ∃ t, exec (.gthArm w) s = .next t ∧ s.Answered t w 3 cmd .ok ∧ starts t) ∧
      (d.armRange = true → d.gthRuns = true → Leads (exec (.gthArm w) s) s d w 3 cmd .range) ∧
      (d.armRange = true → d.gthRuns = false → ∃ t, exec (.gthArm w) s = .next t ∧ s.Answered t w 3 cmd .range ∧ t.dev.rd F.gthStat_state = st) ∧
      (d.armRange = false → d.gthRuns = true → Leads (exec (.gthArm w) s) s d w 3 cmd .wrongState) ∧
      ((st = 1 ∨ st = 2) → ∃ t, exec (.gthStop w) s = .next t ∧ s.Answered t w 3 cmd .ok ∧ t.dev.rd F.gthStat_state = 0 ∧ t.dev.gth = g) ∧
      (st = 3 → ∃ t, exec (.gthStop w) s = .next t ∧ s.Answered t w 3 cmd .ok ∧ t.dev.rd F.gthStat_state = 4 ∧ t.dev.rd F.gthStat_trunc = 1 ∧
        t.dev.rd F.gthStat_hascap = 1 ∧ t.dev.rd F.gthStat_capseq = (d.rd F.gthStat_capseq + 1) % 2 ^ 16) ∧
      ((st = 0 ∨ 4 ≤ st) → Leads (exec (.gthStop w) s) s d w 3 cmd .ok) ∧
      (st = 1 → Leads (exec (.force w) s) s (d.bump F.gthCnt_early) w 3 cmd .ok) ∧
      (st = 2 → (g.newest = some (newest, tk) ∧ newest < k ∨ g.newest = none ∧ g.row0 ≤ k) →
        Leads (exec (.force w) s) s { d with gth := { g with wait := waits forced } } w 3 cmd .ok) ∧
      ((st = 3 ∨ holdoff) → ∃ t, exec (.force w) s = .next t ∧ s.Answered t w 3 cmd .ok ∧ t.dev.rd F.gthStat_state = st ∧ t.dev.gth.held = g.held + 1 ∧
        t.dev.rd F.gthCnt_extra = min (2 ^ F.gthCnt_extra.len - 1) (d.rd F.gthCnt_extra + 1)) ∧
      ((st = 0 ∨ st = 4 ∧ d.rd F.gthCtrl_auto = 0) → Leads (exec (.force w) s) s d w 3 cmd .ok) ∧
      (st ≠ 4 → Leads (exec (.stream w) s) s d w 3 cmd .wrongState) ∧
      (st = 4 →
        let bytes := (d.set1 F.gthStat_streaming).streamBytes
        ∃ t, exec (.stream w) s = .next t ∧ s.Answered t w 3 cmd .ok ∧ t.dev.rd F.gthStat_streaming = 1 ∧
          (bytes.length ≤ 1440 → g.q30.length < 16 → t.dev.gth.rest = [] ∧
            t.dev.gth.q30 = g.q30 ++ [(true, bytesOf 4 (2 + 65536 * d.rd F.gthStat_capseq) ++ bytesOf 4 0 ++ bytes)]))) ∧
    (8 ≤ s.seq.released →
      ((d.gthRuns = false ∧ ¬ holdoff ∨ due = false) → exec .rowCommit s = .next s) ∧
      (d.gthRuns = true → due = true → ∃ t, exec .rowCommit s = .next t ∧ t.dev.gth.newest = some (k, d.rowTime k) ∧ t.dev.gth.next = some (k + 1) ∧
        t.dev.gth.count = g.count + 1 ∧ t.dev.gth.rows = ((k, d.rowTime k, words.map fun x => ux 32 x.2) :: g.rows).take d.gthDepth) ∧
      (holdoff → due = true → ∃ t, exec .rowCommit s = .next t ∧ t.dev.gth.next = some (k + 1) ∧ t.dev.gth.rows = g.rows ∧
        t.dev.gth.cap = g.cap ∧ t.dev.rd F.gthStat_state = 4) ∧
      (st = 1 → due = true → d.rd F.gthTrig_sen = 0 → g.wait = none → ∃ t, exec .rowCommit s = .next t ∧
        t.dev.rd F.gthStat_state = (if pre ≤ g.count + 1 then 2 else 1)) ∧
      (st = 3 → due = true → d.rd F.gthTrig_sen = 0 → g.wait = none → ∃ t, exec .rowCommit s = .next t ∧
        t.dev.rd F.gthStat_state = (if g.trigSeq + post ≤ g.count + 1 then 4 else 3)) ∧
      (st = 2 → due = true → d.rd F.gthTrig_sen = 1 → d.rd F.gthTrig_cond = 0 → g.wait = none →
        words.find? (fun x => x.1 == d.rd F.gthTrig_sch) = some (c, word) → g.prevW = some p → g.low = true → p < L → L ≤ word →
        pre ≤ g.count → pre ≤ d.gthDepth → 1 ≤ d.gthDepth →
        ∃ t, exec .rowCommit s = .next t ∧ t.dev.gth.trigRow = k ∧ t.dev.gth.trigSeq = g.count ∧ t.dev.rd F.gthTinfo_kind = 0 ∧
          t.dev.rd F.gthStat_state = (if post ≤ 1 then 4 else 3)) ∧
      (g.edges = [] → exec .classETrigger s = .next s) ∧
      (g.edges = (src, te) :: rest → st = 1 →
        exec .classETrigger s = .next (s.put ({ d with gth := { g with edges := rest } } |>.bump F.gthCnt_early))) ∧
      (g.edges = (src, te) :: rest → st = 2 → (g.newest = some (newest, tk) ∧ newest < row ∨ g.newest = none ∧ g.row0 ≤ row) →
        exec .classETrigger s = .next (s.put { d with gth := { g with edges := rest, wait := waits edge } })) ∧
      (g.edges = (src, te) :: rest → st = 2 → behind → g.count < pre + 1 + b →
        exec .classETrigger s = .next (s.put ({ d with gth := { g with edges := rest } } |>.bump F.gthCnt_early))) ∧
      (g.edges = (src, te) :: rest → st = 2 → behind → pre + 1 + b ≤ g.count → d.gthDepth < pre + b →
        ∃ t, exec .classETrigger s = .next t ∧ t.dev.gth = { g with edges := rest } ∧ t.dev.rd F.gthStat_state = 2 ∧
          t.dev.rd F.gthCnt_tooold = min (2 ^ F.gthCnt_tooold.len - 1) (d.rd F.gthCnt_tooold + 1)) ∧
      (g.edges = (src, te) :: rest → st = 2 → behind → pre + 1 + b ≤ g.count → pre + b ≤ d.gthDepth →
        ∃ t, exec .classETrigger s = .next t ∧ t.dev.rd F.gthStat_state = (if post ≤ b + 1 then 4 else 3) ∧
          t.dev.gth.trigRow = row ∧ t.dev.gth.trigSeq + b + 1 = g.count ∧ t.dev.gth.edges = rest ∧ t.dev.rd F.gthTinfo_kind = 1 ∧ t.dev.rd F.gthTinfo_src = src % 8 ∧
          t.dev.rd F.gthTsec_sec = secOf te.toNat ∧ t.dev.rd F.gthTns_ns = nsOf te.toNat ∧ t.dev.rd F.gthTfr_frac = fracOf te.toNat) ∧
      (st = 4 → d.rd F.gthCtrl_auto = 1 → d.rd F.gthStat_streaming = 0 → d.holdOver = true →
        ∃ t, exec .holdOffEnd s = .next t ∧ starts t ∧ t.dev.gth.row0 = fresh ∧ t.dev.gth.next = some fresh) ∧
      ((st ≠ 4 ∨ d.rd F.gthCtrl_auto = 0 ∨ d.rd F.gthStat_streaming = 1 ∨ d.holdOver = false) → exec .holdOffEnd s = .next s) ∧
      (d.rd F.gthFrame_sport < 2 → d.rd F.gthStat_streaming = 1 → g.rest = [] → g.q30 = [] →
        exec .streamEnd s = .next (s.put (d.clr F.gthStat_streaming))) ∧
      (d.rd F.gthFrame_sport < 2 → (d.rd F.gthStat_streaming = 0 ∨ g.rest ≠ [] ∨ g.q30 ≠ []) → exec .streamEnd s = .next s) ∧
      (2 ≤ d.rd F.gthFrame_sport → g.q30 = (last, body) :: frames → g.rest = [] →
        ∃ t, exec .streamEnd s = .next t ∧ t.dev.gth.q30 = frames ∧
          (frames = [] → t.dev.rd F.gthStat_streaming = 0) ∧ (frames ≠ [] → t.dev.rd F.gthStat_streaming = d.rd F.gthStat_streaming)))

/-! ### Network ports (11_network_ports.md) -/

/-- LINK_UP, LINK_DOWN, AN_RESTART, RX_CLOCK_CHANGEOVER, MDIO_OP, MDIO_DONE, NET_STATUS_GATED and STCFG_EN_WRITE (R43, R289, R290, R306, R385): a
link that goes down loses what waits for its port, and its tags are free; a frame being forwarded from it is cut off where it stands, counted
at 8 ns a byte (model's choice, log entry 120). -/
def Obligations.LinksAndControl : Prop :=
  ∀ (s : State) (w : Who) (p : Fin 2) (why : DownBy) (v : BitVec 32) (data : BitVec 16) (f : Frame) (t0 ms : Nat),
    let d := s.dev
    let up := d.rd F.netPLink_up p
    let ctrl := F.netPCtrl_restart.addr p 0
    let mdio := F.netPMdio_op.addr p 0
    let op := bitsOf v.toNat 26 2
    let cfg := F.netStcfg_en.addr 0 0
    let per := d.rd F.netStper_period
    let nl := d.rd F.netStcfg_nlist
    let slots := per % d.rd F.netCycle_cycle = 0 ∧ 250000 ≤ per ∧ d.rd F.netStofs_offset < per ∧ nl ≤ 48 ∧
      ∀ k < nl, ∃ q, placeOf (d.rd F.netStlist_addr k) = some q
    let gate := fun (x : Nat) => s.put ((d.wr F.netStat_stgated x).ev E.netStatusGated (p + 1) x)
    (11 ≤ s.seq.released →
      (up = 0 → d.rd F.netPCtrl_updly p ≤ ms → ∃ t, exec (.linkUp p ms) s = .next t ∧ t.dev.rd F.netPLink_up p = 1 ∧ t.dev.rd F.netPLink_sync p = 1 ∧
        t.dev.rd F.netPLink_rfault p = 0 ∧ t.dev.rd F.netPLink_andone p = d.rd F.netPCtrl_anen p ∧ t.dev.net = d.net) ∧
      ((up = 1 ∨ ms < d.rd F.netPCtrl_updly p) → exec (.linkUp p ms) s = .next s) ∧
      (up = 0 → exec (.linkDown p why) s = .next s) ∧
      (up = 1 → ∃ t, exec (.linkDown p why) s = .next t ∧ t.dev.rd F.netPLink_up p = 0 ∧
        t.dev.rd F.netPLink_downs p = min (2 ^ F.netPLink_downs.len - 1) (d.rd F.netPLink_downs p + 1) ∧
        (why = .sync → t.dev.rd F.netPLink_sync p = 0) ∧ (why = .remote → t.dev.rd F.netPLink_rfault p = 1) ∧
        Tbl.get [] p t.dev.net.cmdq = [] ∧ (∀ q, q ≠ p.val → Tbl.get [] q t.dev.net.cmdq = Tbl.get [] q d.net.cmdq) ∧
        (d.net.rspWait = [] → t.dev.net.q21 = (d.net.q21.filter fun r => r.port != p.val) ∧
          t.dev.net.inflight = d.net.inflight.filter fun x => x.2 != p.val) ∧ t.dev.waitingAt p = [] ∧
        (Tbl.find (1 - p.val) d.net.sending = some (p.val, t0) → Tbl.get false (1 - p.val) d.net.busy = true →
          Tbl.find (1 - p.val) d.net.wire = some f →
          Tbl.find (1 - p.val) t.dev.net.wire = some { f with body := f.body.take ((d.now - t0) / 8000 - 22), fcs := false }) ∧
        t.dev.net.q22 = (if d.rd F.netEvcfg_dest = p then [] else d.net.q22) ∧
        (∀ x ∈ t.dev.net.inflight, x.2 ≠ p) ∧ ∀ e ∈ t.dev.can.q20, e.by_.port ≠ p) ∧
      (d.rd F.netPMdio_busy p = 1 → ∃ t, exec (.mdioDone p data) s = .next t ∧ t.dev.rd F.netPMdio_busy p = 0 ∧
        t.dev.rd F.netPMdio_data p = if d.rd F.netPMdio_op p = 2 then data.toNat else d.rd F.netPMdio_data p) ∧
      (d.rd F.netPMdio_busy p = 0 → exec (.mdioDone p data) s = .next s) ∧
      (d.tbGood (d.portTb p) = true → d.rd F.netStat_stgated = 1 → exec (.netStatusGated p) s = .next (gate 0)) ∧
      (d.tbGood (d.portTb p) = false → d.rd F.netStat_stgated = 0 → exec (.netStatusGated p) s = .next (gate 1)) ∧
      (d.tbGood (d.portTb p) = true → d.rd F.netStat_stgated = 0 → exec (.netStatusGated p) s = .next s)) ∧
    (12 + p.val ≤ s.seq.released → ∀ b, ∃ t, exec (.rxClockChangeover p b) s = .next t ∧
      Tbl.find p.val t.dev.net.recovered = (if b then some 1 else none) ∧ t = s.put { d with net := { d.net with recovered := t.dev.net.recovered } }) ∧
    (s.GrantsPart w ctrl → 1 ≤ d.rd F.netPCtrl_updly p → Leads (exec (.anRestart w p) s) s (d.clr F.netPLink_andone p) w 3 ctrl .ok) ∧
    (s.Grants w mdio →
      (d.rd F.netPMdio_busy p = 0 → ∃ t, exec (.mdioOp w p v) s = .next t ∧ s.Answered t w 2 mdio .ok ∧ t.dev.rd F.netPMdio_op p = op ∧
        t.dev.rd F.netPMdio_data p = bitsOf v.toNat 0 16 ∧ t.dev.rd F.netPMdio_regad p = bitsOf v.toNat 16 5 ∧
        t.dev.rd F.netPMdio_phyad p = bitsOf v.toNat 21 5 ∧ t.dev.rd F.netPMdio_busy p = if op = 1 ∨ op = 2 then 1 else 0) ∧
      (d.rd F.netPMdio_busy p = 1 → Leads (exec (.mdioOp w p v) s) s d w 2 mdio .wrongState)) ∧
    (s.GrantsPart w cfg →
      (slots → Leads (exec (.stcfgEnWrite w true) s) s (d.wr F.netStcfg_en 1) w 3 cfg .ok) ∧
      (d.rd F.netStcfg_en = 0 → ¬ slots → Leads (exec (.stcfgEnWrite w true) s) s d w 3 cfg .range) ∧
      Leads (exec (.stcfgEnWrite w false) s) s (d.wr F.netStcfg_en 0) w 3 cfg .ok)

/-- FRAME_FORWARD, EVX_FRAME_TAKEN, GAFFER_FRAME, SAFE_FRAME_RX, TRIG_FRAME, TRIG_FRAME_TRIGGER and BULK_FRAME (R285, R292 to R294, R297, R299,
R308 to R310): what is forwarded, taken or dropped, and where a taken frame goes. -/
def Obligations.ReceivedFrames : Prop :=
  ∀ (s : State) (p : Fin 2) (f0 : Frame) (good : Bool) (x : RxFrame) (d1 : Dev) (n : Fin 8) (l1 l2 : List RxFrame) (q : TrigIn)
      (l : List TrigIn) (e : DupSrc),
    let d := s.dev
    let f : Frame := { f0 with fcs := good }
    let o := 1 - p.val
    let own := f.dst = d.mac ∧ d.net.preconfig = false ∧ f.etype ≠ 0x8100
    let evx := f.etype = d.rd F.netCtrl_etype
    let other := f.dst ≠ macPdelay ∧ f.dst ≠ macPause ∧ f.dst ≠ d.mac ∧ f.dst ≠ d.mcast ∧ ¬ evx ∧ f.etype ≠ etPtp ∧ f.octets ≤ 1522
    let net := fun (h : NetH) => s.put { d with net := h }
    let whole := f.octets ≤ 1522
    let once := d.switchMode ≠ 1 ∨ ¬ evx
    let free := Tbl.get false o d.net.busy = false ∧ d.waitingAt o = []
    let b := x.frame.payload
    let mapped := fun (m : Nat) => d.rd F.netGmap_en m = 1 ∧ d.rd F.netGmap_master m = at8 b 0 ∧ bitOf (d.rd F.netGmap_ports m) x.port = true
    let taken := fun (ty : Nat) => d.takeType ty = some (x, d1)
    let put := fun (h : NetH) => s.put { d1 with net := h }
    let chunk := at8 b 0 = 1 ∧ at8 b 1 = 0 ∧ 12 ≤ b.length ∧ b.length ≤ 1448 ∧ b.length % 4 = 0
    (12 + p.val ≤ s.seq.released →
      (own → evx → d.switchMode ≠ 1 → whole → good = true → exec (.frameForward p f0 good) s = .next (net { d.net with rxq := d.net.rxq ++ [{ port := p, frame := f }] })) ∧
      (own → once → whole → good = false → exec (.frameForward p f0 good) s = .next (s.put (d.bump F.netPCnt_fcs p))) ∧
      (own → ¬ evx → whole → good = true → exec (.frameForward p f0 good) s = .next s) ∧
      (own → once → ¬ whole → ∃ t, exec (.frameForward p f0 good) s = .next t ∧ t.dev.net.rxq = d.net.rxq ∧
        t.dev.rd F.netPCnt_drop p = min (2 ^ F.netPCnt_drop.len - 1) (d.rd F.netPCnt_drop p + 1) ∧
        t.dev.rd F.netPCnt_fcs p = min (2 ^ F.netPCnt_fcs.len - 1) (d.rd F.netPCnt_fcs p + 1)) ∧
      (other → d.switchMode ≠ 2 → d.rd F.netPLink_up o = 1 → free →
        exec (.frameForward p f0 good) s = .next (net { d.net with
          wire := Tbl.put o (padFrame f) d.net.wire, busy := Tbl.put o true d.net.busy, sending := Tbl.put o (p.val, d.now) d.net.sending })) ∧
      (other → d.switchMode ≠ 2 → d.rd F.netPLink_up o = 1 → ¬ free → d.held o + f.octets ≤ 4096 →
        ∃ t, exec (.frameForward p f0 good) s = .next t ∧
          t.dev.waitingAt o = d.waitingAt o ++ [{ cls := 4, frame := f, at_ := d.now, from_ := p }] ∧ t.dev.net.rxq = d.net.rxq) ∧
      (other → d.switchMode ≠ 2 → d.rd F.netPLink_up o = 1 → ¬ free → 4096 < d.held o + f.octets →
        ∃ t, exec (.frameForward p f0 good) s = .next t ∧ t.dev.waitingAt o = d.waitingAt o ∧
          t.dev.rd F.netPCnt_drop p = min (2 ^ F.netPCnt_drop.len - 1) (d.rd F.netPCnt_drop p + 1)) ∧
      (other → (d.switchMode = 2 ∨ d.rd F.netPLink_up o = 0) → exec (.frameForward p f0 good) s = .next s) ∧
      (evx → whole → d.switchMode = 1 → f.type ≠ 6 → d.net.dup.find? (·.mac == f.src) = some e → e.has f.seq = true →
        ∃ t, exec (.frameForward p f0 good) s = .next t ∧ t.dev.net.wire = d.net.wire ∧ t.dev.net.egress = d.net.egress ∧
          t.dev.net.rxq = d.net.rxq ∧ t.dev.rd F.netPCnt_dup p = min (2 ^ F.netPCnt_dup.len - 1) (d.rd F.netPCnt_dup p + 1))) ∧
    (11 ≤ s.seq.released →
      (d.net.rxq = l1 ++ x :: l2 → (∀ y ∈ l1, y.checked = true) → x.checked = false →
        (d.evxBad x.frame = false →
          exec .evxFrameTaken s = .next (net { d.net with rxq := l1 ++ { x with checked := true } :: l2 })) ∧
        (d.evxBad x.frame = true → ∃ t, exec .evxFrameTaken s = .next t ∧ t.dev.net.rxq = l1 ++ l2 ∧
          t.dev.rd F.netPCnt_malformed x.port = min (2 ^ F.netPCnt_malformed.len - 1) (d.rd F.netPCnt_malformed x.port + 1))) ∧
      ((∀ y ∈ d.net.rxq, y.checked = true) → exec .evxFrameTaken s = .next s) ∧
      (taken 1 → d.right x.port 12 = 0 → b.length = 52 → (∀ m < 8, mapped m ↔ m = n) →
        exec .gafferFrame s = .next (s.put (d1.segPush n (wordsOf (b.drop 4) 12)).2)) ∧
      (taken 1 → d.right x.port 12 = 0 → b.length = 52 → (∀ m < 8, ¬ mapped m) → exec .gafferFrame s = .next (s.put d1)) ∧
      (taken 1 → d.right x.port 12 ≠ 0 → exec .gafferFrame s = .next (s.put (d1.violation x.port 0xC0000))) ∧
      (taken 6 → d.net.q24.length < 4 →
        exec .safeFrameRx s = .next (put { d1.net with q24 := d.net.q24 ++ [{ port := x.port, body := b }] })) ∧
      (taken 6 → 4 ≤ d.net.q24.length → exec .safeFrameRx s = .next (s.put d1)) ∧
      (taken 7 → d.net.q25.length < 8 → ∃ q, exec .trigFrame s = .next (put { d1.net with q25 := d.net.q25 ++ [q] }) ∧ q.group = at8 b 0 ∧
        q.sec = ofBytes ((b.drop 4).take 4)) ∧
      (taken 7 → 8 ≤ d.net.q25.length → exec .trigFrame s = .next (s.put (d1.bump F.gthCnt_frdrop))) ∧
      (d.net.q25 = q :: l → d.rd F.gthFrame_rxen = 1 → q.group = d.rd F.gthFrame_group →
        exec .trigFrameTrigger s = .next (s.put (({ d with net := { d.net with q25 := l } } : Dev).gthJudge
          { kind := 3, te := d.gthNow + smod (q.sec * sec16 + q.ns * 65536 + q.frac : Nat) d.gthNow span16 }))) ∧
      (d.net.q25 = q :: l → (d.rd F.gthFrame_rxen = 0 ∨ q.group ≠ d.rd F.gthFrame_group) →
        exec .trigFrameTrigger s = .next (net { d.net with q25 := l })) ∧
      (d.net.q25 = [] → exec .trigFrameTrigger s = .next s) ∧
      (taken 8 → chunk → d.right x.port 3 = 0 → d.mgt.q31.length < 8 → d.rd F.mgtState_core ≠ 1 →
        exec .bulkFrame s = .next (s.put { d1 with mgt := { d1.mgt with q31 := d.mgt.q31 ++
          [{ by_ := none, stream := ofBytes ((b.drop 2).take 2), offset := ofBytes ((b.drop 4).take 4), data := b.drop 8 }] } })) ∧
      (taken 8 → chunk → d.right x.port 3 ≠ 0 → exec .bulkFrame s = .next (s.put (d1.violation x.port 0x30000))) ∧
      (taken 8 → chunk → d.right x.port 3 = 0 → (8 ≤ d.mgt.q31.length ∨ d.rd F.mgtState_core = 1) → ∃ t, exec .bulkFrame s = .next t ∧
        t.dev.mgt.q31 = d.mgt.q31 ∧ t.dev.rd F.netPCnt_drop x.port = min (2 ^ F.netPCnt_drop.len - 1) (d.rd F.netPCnt_drop x.port + 1)) ∧
      (taken 8 → ¬ chunk → ∃ t, exec .bulkFrame s = .next t ∧ t.dev.mgt.q31 = d.mgt.q31 ∧
        t.dev.rd F.netPCnt_malformed x.port = min (2 ^ F.netPCnt_malformed.len - 1) (d.rd F.netPCnt_malformed x.port + 1)))

/-- EGRESS_IDLE, RSP_FRAME, EVENT_FRAME, STATUS_SLOT, HOST_MESSAGE and SERVICE_MESSAGE (R295, R303, R305 to R307, R311 to R313): the frames that
leave and the messages of the serial ports. -/
def Obligations.SentFramesAndMessages : Prop :=
  ∀ (s : State) (p : Fin 2) (wt : Waiting) (a b : List Waiting) (r : Rsp) (l : List Rsp) (raw : List (BitVec 8)) (w0 addr : BitVec 32) (len cut : Nat),
    let d := s.dev
    let single := d.rd F.netCtrl_mode ≠ 1
    let idle := { d.net with busy := Tbl.put p false d.net.busy }
    let leaves := fun (t : State) (cls : Nat) (f : Frame → Prop) => ∃ w, t.dev.waitingAt p = d.waitingAt p ++ [w] ∧ w.cls = cls ∧ f w.frame
    let tag := w0.toNat / 2 ^ 8 % 2 ^ 7
    let count := w0.toNat / 2 ^ 16
    let reads := w0.toNat % 256 = 1 ∧ bitOf w0.toNat 15 = false ∧ 1 ≤ count ∧ count ≤ 64 ∧ (∀ e ∈ d.net.inflight, e.1 ≠ tag)
    let room := fun (q : Nat) => (d.net.inflight.filter fun e => e.2 == q).length < d.quota q
    let queued := fun (t : State) (q : Nat) => t.dev.net.inflight = d.net.inflight ++ [(tag, q)] ∧ Tbl.get [] q t.dev.net.cmdq =
      Tbl.get [] q d.net.cmdq ++ [{ op := 1, tag := tag, count := count, addr := addr.toNat, data := [] }]
    let bytes := slipBytes (raw.map BitVec.toNat)
    let n := bytes.length - 4
    let good := 8 ≤ bytes.length ∧ crc32.over_ (bytes.take n) = ofBytes (bytes.drop n)
    let serial := fun (t : State) (q : Nat) (m : List Nat) => Tbl.find q t.dev.net.serial = some m
    let service := fun (t : State) (kind : Nat) (m : List Nat) =>
      let b := (serialMsg kind m).flatMap (bytesOf 4)
      serial t 3 (slipFrame (b ++ bytesOf 4 (crc32.over_ b)))
    let good_ := d.tbGood (d.portTb p) = true
    let st := d.slotNow 0
    let due := 0 ≤ st ∧ ((d.tb (d.portTb 0)).val : Int) - 4 * (2 ^ 40 + d.rdI F.tbRate_rate (d.portTb 0)) < st * 2 ^ 40
    let status := [d.regWord R.glbStatus 0 0, d.net.inflight.length + 65536 * d.rd F.netStat_stsent, d.rd F.evrNewest_seq, b2n d.net.prevLate]
    (11 ≤ s.seq.released →
      (d.rd F.netPLink_up p = 0 → exec (.egressIdle p) s = .next (s.put { d with net := idle })) ∧
      (d.rd F.netPLink_up p = 1 → d.waitingAt p = [] → d.gth.q30 = [] → exec (.egressIdle p) s = .next (s.put { d with net := idle })) ∧
      (d.rd F.netPLink_up p = 1 → ¬ good_ → (∀ y ∈ d.waitingAt p, y.cls = 3) → d.gth.q30 = [] →
        exec (.egressIdle p) s = .next (s.put { d with net := idle })) ∧
      (d.rd F.netPLink_up p = 1 → good_ → d.waitingAt p = a ++ wt :: b → (∀ y ∈ a, wt.cls < y.cls) → (∀ y ∈ b, wt.cls ≤ y.cls) →
        ∃ t, exec (.egressIdle p) s = .next t ∧ t.dev.waitingAt p = a ++ b ∧ Tbl.get false p.val t.dev.net.busy = true ∧
          (wt.fill = .none → Tbl.find p.val t.dev.net.wire = some (padFrame wt.frame)) ∧
          Tbl.find p.val t.dev.net.sending = some (wt.from_, d.now) ∧
          (wt.cls = 3 → t.dev.rd F.netStat_stsent = (d.rd F.netStat_stsent + 1) % 2 ^ F.netStat_stsent.len)) ∧
      (d.net.q21 = r :: l → r.port = p → (∀ y ∈ l, y.port ≠ p) → d.net.rspWait = [] → 8 + 4 * r.data.length ≤ 1484 → single →
        ∃ t, exec (.rspFrame (p.castLE (by decide))) s = .next t ∧ t.dev.net.q21 = l ∧
          leaves t 6 fun f => f.dst = r.mac ∧ f.src = d.mac ∧ f.body.drop 16 = r.words.flatMap (bytesOf 4)) ∧
      ((∀ y ∈ d.net.q21, y.port ≠ p.val) → exec (.rspFrame (p.castLE (by decide))) s = .next s) ∧
      (d.rd F.netStcfg_en = 1 → d.rd F.netCtrl_mode = 0 → p = 0 → good_ → due →
        Tbl.find 0 d.net.snap = none → Tbl.find 0 d.net.slot ≠ some st.toNat → d.rd F.netStcfg_ports = 1 → d.rd F.netStcfg_nlist = 0 →
        ∃ t, exec (.statusSlot p) s = .next t ∧ Tbl.find 0 t.dev.net.slot = some st.toNat ∧
          ∃ w, t.dev.waitingAt 0 = ((d.waitingAt 0).filter fun w => w.cls != 3) ++ [w] ∧ w.cls = 3 ∧ w.slot = st.toNat ∧
            w.frame.body.drop 16 = status.flatMap (bytesOf 4)) ∧
      (d.rd F.netCtrl_mode ≠ 2 → ¬ due → exec (.statusSlot p) s = .next s) ∧
      (d.rd F.netStcfg_en = 0 → exec (.statusSlot p) s = .next s)) ∧
    (2 ≤ s.seq.released →
      (d.net.q21 = r :: l → r.port = 3 → (∀ y ∈ l, y.port ≠ 3) → d.net.rspWait = [] → 8 + 4 * r.data.length ≤ 1484 →
        ∃ t, exec (.rspFrame 3) s = .next t ∧ t.dev.net.q21 = l ∧ service t 2 r.words) ∧
      (d.net.q22 ≠ [] → d.rd F.netEvcfg_en = 1 → d.rd F.netEvcfg_dest = 3 →
        ∃ t, exec .eventFrame s = .next t ∧ t.dev.net.q22 = d.net.q22.drop 40 ∧ service t 3 ((d.net.q22.take 40).flatMap Rec.words)) ∧
      (d.net.q22 ≠ [] → d.rd F.netEvcfg_en = 1 → d.rd F.netEvcfg_dest = p → single →
        ∃ t, exec .eventFrame s = .next t ∧ t.dev.net.q22 = d.net.q22.drop 40 ∧
          leaves t 7 fun f => f.dst = d.dst p ∧ f.body.drop 16 = (d.net.q22.take 40).flatMap fun e => e.words.flatMap (bytesOf 4)) ∧
      ((d.net.q22 = [] ∨ d.rd F.netEvcfg_en = 0 ∨ d.rd F.netEvcfg_dest = 2) → exec .eventFrame s = .next s) ∧
      (reads → room 2 → ∃ t, exec (.hostMessage (.commands [w0, addr] false)) s = .next t ∧ queued t 2 ∧ serial t 2 [0, 0, 0]) ∧
      exec (.hostMessage (.commands [w0, addr] true)) s = .next (s.put ((d.serialPut 2 [0, 0, 0]).bump F.netHost_aborts)) ∧
      (d.net.q21 = r :: l → r.port = 2 → (∀ y ∈ l, y.port ≠ 2) → d.net.rspWait = [] → 8 + 4 * r.data.length ≤ len → len < 65536 → len % 4 = 0 →
        ∃ t, exec (.hostMessage (.responses len len)) s = .next t ∧ t.dev.net.q21 = l ∧
          serial t 2 (serialMsg 2 (r.words ++ List.replicate (len / 4 - (2 + r.data.length)) 0))) ∧
      (d.net.q21 = r :: l → r.port = 2 → d.net.rspWait = [] → cut < 8 + 4 * r.data.length →
        ∃ t, exec (.hostMessage (.responses len cut)) s = .next t ∧ t.dev.net.q21 = d.net.q21) ∧
      (cut < 32 → ∃ t, exec (.hostMessage (.events len cut)) s = .next t ∧ t.dev.net.q22 = d.net.q22) ∧
      (d.rd F.netEvcfg_dest = 2 → len = 32 * d.net.q22.length → len < 65536 →
        ∃ t, exec (.hostMessage (.events len len)) s = .next t ∧ t.dev.net.q22 = [] ∧ serial t 2 (serialMsg 3 (d.net.q22.flatMap Rec.words))) ∧
      (¬ good → exec (.serviceMessage raw) s = .next (s.put (d.bump F.netSvc_badcrc))) ∧
      (good → at8 bytes 0 ≠ 1 → exec (.serviceMessage raw) s = .next s) ∧
      (good → at8 bytes 0 = 1 → bytes.take 4 = [1, 0, 8, 0] → n = 12 → wordsOf (bytes.drop 4) 2 = [w0.toNat, addr.toNat] → reads → room 3 →
        ∃ t, exec (.serviceMessage raw) s = .next t ∧ queued t 3))

/-! ### CAN FD port (12_can_port.md) -/

/-- CAN_ENABLE, TXREQ, TXABORT, CAN_Q20_ENTRY, ARBITRATION_START and CAN_TX_DONE (R316, R317, R322 to R325, R328): what becomes pending, which
object is sent first, and what a finished transmission leaves. -/
def Obligations.CanTransmission : Prop :=
  ∀ (s : State) (w : Who) (mask : BitVec 16) (e : QEnt) (l : List QEnt) (o : Fin 16) (tx : CanTx),
    let d := s.dev
    let ctrl := F.canCtrl_en.addr 0 0
    let req := F.canTxreq_req.addr 0 0
    let abt := F.canTxabort_abort.addr 0 0
    let on := d.rd F.canCtrl_en = 1
    let fields := d.rd F.canCtrl_mode ≤ 2 ∧ 1 ≤ d.rd F.canCtrl_wfilt ∧ 129 ≤ d.rd F.canCtrl_elim
    let pend := d.rd F.canTxpend_pend
    let m := mask.toNat
    let tec := d.rd F.canErr_tec
    let word := fun (k : Nat) => e.words.getD k 0
    let obj := word 0 % 16
    let live := on ∧ d.can.ready = true ∧ tec ≤ 255
    let suspended := d.rd F.canErr_estate = 1 ∧ (d.can.own = true ∨ d.now < d.can.till)
    let ns := (rneShr (d.tb (d.rd F.canCtrl_tb)).val 40).toNat
    let stamp := (ns / 10 ^ 9 % 2 ^ 32, ns % 10 ^ 9)
    let start := fun (own : Bool) (tx sent : Option CanTx) =>
      s.put { d with can := { d.can with sof := some stamp, idle := false, own := own, tx := tx, sent := sent } }
    (s.GrantsPart w ctrl → fields →
      (¬ on → d.canTimingBad = false → ∃ t, exec (.canEnable w true) s = .next t ∧ s.Answered t w 3 ctrl .ok ∧ t.dev.rd F.canCtrl_en = 1 ∧
        t.dev.rd F.canErr_tec = 0 ∧ t.dev.rd F.canErr_rec = 0 ∧ t.dev.rd F.canErr_estate = 0 ∧ t.dev.can.ready = false ∧
        t.dev.can.mode = d.rd F.canCtrl_mode) ∧
      (d.canTimingBad = true → Leads (exec (.canEnable w true) s) s d w 3 ctrl .range) ∧
      (on → pend = 0 → d.can.q20 = [] → ∃ t, exec (.canEnable w false) s = .next t ∧ s.Answered t w 3 ctrl .ok ∧ t.dev.rd F.canCtrl_en = 0 ∧
        t.dev.can.ready = false ∧ t.dev.can.tx = none) ∧
      ((pend ≠ 0 ∨ d.can.q20 ≠ []) → Leads (exec (.canEnable w false) s) s d w 3 ctrl .wrongState)) ∧
    (s.Grants w req →
      let bad := ∃ k < 16, bitOf m k = true ∧ canCtlBad (d.cellWord R.txoCtl k) = true
      (¬ bad → on → tec ≤ 255 → Leads (exec (.txreq w mask) s) s (d.wr F.canTxpend_pend (pend ||| m)) w 2 req .ok) ∧
      (bad → Leads (exec (.txreq w mask) s) s d w 2 req .range) ∧
      (¬ bad → (¬ on ∨ 255 < tec) → Leads (exec (.txreq w mask) s) s d w 2 req .wrongState)) ∧
    (s.Grants w abt →
      (d.can.tx = none → Leads (exec (.txabort w mask) s) s (d.wr F.canTxpend_pend (pend - (pend &&& m))) w 2 abt .ok) ∧
      (d.can.tx = some tx → tx.obj = o → bitOf m o = true → ∃ t, exec (.txabort w mask) s = .next t ∧ s.Answered t w 2 abt .ok ∧
        t.dev.can = { d.can with abort := true } ∧
        ∀ k < 16, bitOf (t.dev.rd F.canTxpend_pend) k = (bitOf pend k && (!bitOf m k || k == o.val)))) ∧
    (10 ≤ s.seq.released →
      (d.can.q20 = e :: l → bitOf pend obj = false → ∃ t, exec .canQ20Entry s = .next t ∧ t.dev.can.q20 = l ∧
        t.dev.net = (d.answer e.by_ .ok).net ∧ t.dev.rd F.canTxpend_pend = pend ||| 2 ^ obj ∧ t.dev.rd F.txoId_id obj = word 1 % 2 ^ 29 ∧
        t.dev.rd F.txoId_ide obj = bitsOf (word 1) 29 1 ∧ t.dev.rd F.txoCtl_dlc obj = word 2 % 16 ∧
        ∀ i < 16, t.dev.rd F.txoData_data obj i = word (3 + i) % 2 ^ 32) ∧
      (d.can.q20 = e :: l → bitOf pend obj = true → exec .canQ20Entry s = .next s) ∧
      (d.can.q20 = [] → exec .canQ20Entry s = .next s) ∧
      (live → d.can.tx = none → d.can.mode = 2 → ¬ suspended → bitOf pend o = true →
        (∀ k < 16, bitOf pend k = true → k ≠ o → d.canKey o < d.canKey k) →
        ∃ x, exec .arbitrationStart s = .next (start true (some x) (some x)) ∧ x.obj = o ∧ (x.sec, x.ns) = stamp ∧ x.f.dlc = d.rd F.txoCtl_dlc o ∧
          x.f.id = if d.rd F.txoId_ide o = 1 then d.rd F.txoId_id o else d.rd F.txoId_id o % 2 ^ 11) ∧
      (live → d.can.tx = none → (pend = 0 ∨ d.can.mode ≠ 2 ∨ suspended) → exec .arbitrationStart s = .next (start false none d.can.sent)) ∧
      ((¬ live ∨ d.can.tx ≠ none) → exec .arbitrationStart s = .next s) ∧
      (d.can.tx = some tx → tx.obj = o → ∃ t, exec .canTxDone s = .next t ∧ t.dev.can = { d.can with tx := none, abort := false, sof := none } ∧
        t.dev.rd F.canErr_tec = tec - 1 ∧ t.dev.rd F.txoTsec_tsec o = tx.sec % 2 ^ 32 ∧ t.dev.rd F.canTxdone_done = d.rd F.canTxdone_done ||| 2 ^ o.val ∧
        ∀ k < 16, bitOf (t.dev.rd F.canTxpend_pend) k = (bitOf pend k && k != o.val)) ∧
      (d.can.tx = none → exec .canTxDone s = .next s))

/-- CAN_FRAME_RX, RXO_LOCK_READ, RXO_RELEASE_READ, RXO_LOCK_TIMEOUT, CAN_MODE, CAN_WAKE, CAN_ESTATE, CAN_RECOVERED, CAN_BUS_ERROR and CAN_BUS_IDLE
(R318 to R320, R326 to R330). -/
def Obligations.CanReceptionAndStates : Prop :=
  ∀ (s : State) (w : Who) (f0 : CanFrame) (esi : Bool) (so : Nat × Nat) (k : Fin 64) (r : CanRx) (x : CanTx) (m : Fin 4)
      (len t0 j : Nat) (tec : Bool) (recBy : Fin 3) (failed : Bool),
    let d := s.dev
    let f : CanFrame := { f0 with esi := esi }
    let on := d.rd F.canCtrl_en = 1
    let TEC := d.rd F.canErr_tec
    let REC := d.rd F.canErr_rec
    let live := on ∧ d.can.ready = true ∧ TEC ≤ 255
    let hits := fun (k : Nat) => d.rd F.rxoId_en k = 1 ∧ d.rd F.rxoId_id k = f.id ∧ (d.rd F.rxoId_ide k = 1 ↔ f.ide = true)
    let free := d.rd F.rxoCtl_locked k = 0
    let holds := fun (t : State) (g : CanFrame) => t.dev.rd F.rxoCtl_new k = 1 ∧ t.dev.rd F.rxoCtl_dlc k = g.dlc % 16 ∧
      ∀ i < 16, t.dev.rd F.rxoData_data k i = (canWords g).getD i 0 % 2 ^ 32
    let word0 := 0x71000 + 0x80 * k.val
    let last := word0 + 4 * d.rxoLast k
    let read := fun (t : State) (a : Nat) => ∃ v, t.dev.net =
      (d.respond { port := w.port, code := .ok, tag := w.tag, op := 1, addr := a, data := [v] }).net
    let released := fun (t : State) => t.dev.rd F.rxoCtl_locked k = 0 ∧ Tbl.find k.val t.dev.can.lockAt = none ∧ Tbl.find k.val t.dev.can.shadow = none
    let ctrl := F.canCtrl_mode.addr 0 0
    let legal := 1 ≤ d.rd F.canCtrl_wfilt ∧ 129 ≤ d.rd F.canCtrl_elim ∧ (on → d.canTimingBad = false) ∧
      (¬ on → d.rd F.canTxpend_pend = 0 ∧ d.can.q20 = [])
    let tec' := min 511 (TEC + if tec then 8 else 0)
    let pend := d.rd F.canTxpend_pend
    let clock := d.now / 12500
    let active := d.rd F.canErr_estate = 0
    let bits := 8 * 12500 * (d.rd F.canNbt_brp * (1 + d.rd F.canNbt_tseg1 + d.rd F.canNbt_tseg2))
    let lowest := fun (m : Nat) => ∀ e ∈ d.can.asked, e.1 = clock → m ≤ e.2
    (10 ≤ s.seq.released →
      (live → d.can.mode ≠ 1 → d.can.tx = none → d.can.sof = some so →
        (hits k → (∀ j < k.val, ¬ hits j) → free → ∃ t, exec (.canFrameRx f0 esi) s = .next t ∧ holds t f ∧ t.dev.can.idle = false ∧ t.dev.can.sof = none ∧
          t.dev.rd F.rxoTsec_tsec k = so.1 % 2 ^ 32 ∧ t.dev.rd F.rxoTns_tns k = so.2 % 2 ^ 30 ∧
          (d.rd F.rxoCtl_new k = 1 → t.dev.rd F.rxoCtl_lost k = 1)) ∧
        (hits k → (∀ j < k.val, ¬ hits j) → ¬ free → ∃ t, exec (.canFrameRx f0 esi) s = .next t ∧
          (∀ i < 16, t.dev.rd F.rxoData_data k i = d.rd F.rxoData_data k i) ∧ ∃ x, Tbl.find k.val t.dev.can.shadow = some x ∧ x.f = f ∧ (x.sec, x.ns) = so ∧
            x.lost = (Tbl.find k.val d.can.shadow).isSome) ∧
        ((∀ j < 64, ¬ hits j) → ∃ t, exec (.canFrameRx f0 esi) s = .next t ∧
          t.dev.rd F.canCnt_nomatch = min (2 ^ F.canCnt_nomatch.len - 1) (d.rd F.canCnt_nomatch + 1)) ∧
        (d.can.mode = 2 → REC ≤ 127 → ∃ t, exec (.canFrameRx f0 esi) s = .next t ∧ t.dev.rd F.canErr_rec = REC - 1)) ∧
      ((¬ on ∨ d.can.mode = 1 ∨ d.can.sof = none) → exec (.canFrameRx f0 esi) s = .next s) ∧
      (Tbl.find k.val d.can.lockAt = some t0 → t0 + 10 ^ 9 ≤ d.now → Tbl.find k.val d.can.shadow = none →
        ∃ t, exec (.rxoLockTimeout k) s = .next t ∧ released t ∧ t.dev.rd F.rxoCtl_new k = 0 ∧ t.dev.rd F.rxoCtl_lost k = 0) ∧
      (Tbl.find k.val d.can.lockAt = some t0 → d.now < t0 + 10 ^ 9 → exec (.rxoLockTimeout k) s = .next s) ∧
      (Tbl.find k.val d.can.lockAt = none → exec (.rxoLockTimeout k) s = .next s) ∧
      (on → d.can.mode = 1 → d.rd F.canCtrl_wake = 0 → d.rd F.canCtrl_wfilt ≤ len → lowest 2 →
        ∃ t, exec (.canWake (.level len)) s = .next t ∧ t.dev.rd F.canCtrl_mode = 2 ∧
          t.dev.can = { d.can with mode := 2, ready := false, idle := false, asked := some (clock, 2) }) ∧
      (on → d.can.mode = 1 → d.can.asked = some (clock, j) → j < 2 →
        ∃ t, exec (.canWake (.level len)) s = .next t ∧ t.dev.can.mode = 1 ∧ t.dev.rd F.canCtrl_mode = d.rd F.canCtrl_mode) ∧
      (d.rd F.canCtrl_wake = 0 → len < d.rd F.canCtrl_wfilt → exec (.canWake (.level len)) s = .next s) ∧
      (on → d.can.mode = 1 → d.can.ready = true → d.can.sof = some so → lowest 2 → d.rd F.canCtrl_wake = 1 → f.ide = d.flag F.canWakeid_ide →
        (f.id ^^^ d.rd F.canWakeid_id) &&& d.rd F.canWakemask_mask = 0 →
        ∃ t, exec (.canWake (.frame f)) s = .next t ∧ t.dev.rd F.canCtrl_mode = 2 ∧ t.dev.can.mode = 2) ∧
      ((¬ on ∨ d.can.mode ≠ 1) → exec (.canWake (.level len)) s = .next s ∧ exec (.canWake (.frame f)) s = .next s) ∧
      (255 < TEC → d.rd F.canErr_estate ≠ 2 → ∃ t, exec .canEstate s = .next t ∧ t.dev.rd F.canErr_estate = 2 ∧ t.dev.rd F.canTxpend_pend = 0 ∧
        t.dev.can.q20 = [] ∧ t.dev.can.tx = none ∧ t.dev.rd F.canTxdisc_disc = d.rd F.canTxdisc_disc ||| d.rd F.canTxpend_pend ∧
        t.dev.net = (d.can.q20.foldl (fun d e => d.answer e.by_ .discarded) d).net) ∧
      (TEC ≤ 255 → (127 < TEC ∨ 127 < REC) → ∃ t, exec .canEstate s = .next t ∧ t.dev.rd F.canErr_estate = 1 ∧ t.dev.can = d.can) ∧
      (TEC ≤ 127 → REC ≤ 127 → ∃ t, exec .canEstate s = .next t ∧ t.dev.rd F.canErr_estate = 0 ∧ t.dev.can = d.can) ∧
      (on → 255 < TEC → d.rd F.canCnt_recov = 127 → ∃ t, exec .canRecovered s = .next t ∧ t.dev.rd F.canErr_tec = 0 ∧ t.dev.rd F.canErr_rec = 0 ∧
        t.dev.rd F.canErr_estate = 0 ∧ t.dev.can = { d.can with idle := true, ready := true }) ∧
      ((¬ on ∨ TEC ≤ 255 ∨ d.rd F.canCnt_recov ≠ 127) → exec .canRecovered s = .next s) ∧
      (live → d.can.mode = 2 → (failed = false ∨ d.can.tx = none) →
        ∃ t, exec (.canBusError tec recBy failed) s = .next t ∧
          t.dev.can = { d.can with idle := false, errFlag := some (decide active) } ∧ t.dev.rd F.canErr_tec = tec' ∧
          t.dev.rd F.canErr_rec = min 255 (REC + if recBy = 2 then 8 else recBy.val) ∧ t.dev.rd F.canTxpend_pend = d.rd F.canTxpend_pend) ∧
      (live → d.can.mode = 2 → d.can.tx = some x → d.can.abort = false → x.obj < 16 → bitOf pend x.obj = true →
        ((∀ j < 16, bitOf pend j = true → j ≠ x.obj → d.canKey x.obj < d.canKey j) →
          ∃ t, exec (.canBusError tec recBy true) s = .next t ∧ t.dev.can.tx = none ∧
            t.dev.rd F.canTxpend_pend = if d.rd F.canCtrl_elim ≤ tec' ∧ tec' ≤ 255 then 0 else pend) ∧
        (j < 16 → bitOf pend j = true → d.canKey j < d.canKey x.obj →
          ∃ t, exec (.canBusError tec recBy true) s = .next t ∧ t.dev.can.tx = none ∧ t.dev.rd F.canTxpend_pend = pend)) ∧
      ((¬ live ∨ d.can.mode ≠ 2) → exec (.canBusError tec recBy failed) s = .next s) ∧
      (¬ on → exec .canBusIdle s = .next s) ∧
      (on → 255 < TEC → exec .canBusIdle s = .next (s.put (d.wr F.canCnt_recov (min 127 (d.rd F.canCnt_recov + 1))))) ∧
      (on → TEC ≤ 255 → d.can.tx = none →
        ∃ t, exec .canBusIdle s = .next t ∧ t.dev.can =
          { d.can with
            idle := true, ready := true, mode := d.rd F.canCtrl_mode, own := false, sof := none
            till := if d.can.own then d.now + bits else d.can.till })) ∧
    (s.GrantsRead w word0 → free → ∃ t, exec (.rxoLockRead w k) s = .next t ∧ read t word0 ∧ t.dev.rd F.rxoCtl_locked k = 1 ∧
      Tbl.find k.val t.dev.can.lockAt = some d.now) ∧
    (s.GrantsRead w word0 → ¬ free → ∃ t, exec (.rxoLockRead w k) s = .next t ∧ read t word0 ∧ t.dev.can = d.can) ∧
    (s.GrantsRead w last → ¬ free → Tbl.find k.val d.can.shadow = none →
      ∃ t, exec (.rxoReleaseRead w k) s = .next t ∧ read t last ∧ released t ∧ t.dev.rd F.rxoCtl_new k = 0 ∧ t.dev.rd F.rxoCtl_lost k = 0) ∧
    (s.GrantsRead w last → ¬ free → Tbl.find k.val d.can.shadow = some r →
      ∃ t, exec (.rxoReleaseRead w k) s = .next t ∧ read t last ∧ released t ∧ holds t r.f ∧ t.dev.rd F.rxoCtl_lost k = b2n r.lost) ∧
    (s.GrantsPart w ctrl → legal →
      (m.val ≤ 2 → (¬ on ∨ TEC ≤ 255) → lowest m → ∃ t, exec (.canMode w m) s = .next t ∧ s.Answered t w 3 ctrl .ok ∧ t.dev.rd F.canCtrl_mode = m ∧
        ((d.can.idle = true ∨ ¬ on ∨ d.can.mode = 2 ∧ d.can.ready = false ∧ d.can.asked = some (clock, 2)) → t.dev.can.mode = m) ∧
        (d.can.idle = false → on → d.can.ready = true → t.dev.can.mode = d.can.mode)) ∧
      (m = 3 → Leads (exec (.canMode w m) s) s d w 3 ctrl .range) ∧
      (on → 255 < TEC → m.val ≤ 2 → Leads (exec (.canMode w m) s) s d w 3 ctrl .wrongState))

/-! ### Field inputs and outputs (13_field_io.md) -/

/-- FIO_OUT, FIO_OUTSET, FIO_OUTCLR, FIO_CFG_WRITE, FIELD_OUTPUT_REQUEST, FO_PULSE_END, FO_OVERLOAD, FO_OVERTEMP, FO_COOLED, FO_OPEN_WIRE,
FO_SHORT_TO_VF and FO_DIAG_CLEAR (R338 to R346); FI_LEVEL_CHANGE, FI_WIRE_BREAK, FI_WIRE_BREAK_CLEARED, FIO_WD_EXPIRED, KICK, RESUME and
FIO_VF_STATE (R345, R347 to R350). -/
def Obligations.FieldIo : Prop :=
  (∀ (s : State) (w : Who) (v : BitVec 8) (x : BitVec 32) (k : Fin 8) (short : Bool) (t0 us ms : Nat),
     let d := s.dev
     let cmd := d.rd F.fioOut_cmd
     -- the requests of this REF clock so far (R335)
     let offs := if d.fio.reqs.1 = d.now / 40000 then d.fio.reqs.2.1 else 0
     let ons := if d.fio.reqs.1 = d.now / 40000 then d.fio.reqs.2.2 else 0
     let lead := fun (k : Nat) => d.foLeader k = k
     let becomes := fun (t : State) (f : Nat → Bool) => ∀ k < 8, bitOf (t.dev.rd F.fioOut_cmd) k = (f k && decide (lead k))
     let writes := fun (fld : Fld) (o : Host.Outcome State Fault Refusal) (f : Nat → Bool) =>
       s.Grants w (fld.addr 0 0) →
         (d.rd F.fioWd_wdtrip = 0 → ∃ t, o = .next t ∧ s.Answered t w 2 (fld.addr 0 0) .ok ∧ becomes t f ∧
           ∀ j < 8, f j = true → lead j → bitOf cmd j = false → t.dev.rd F.foSt_overload j = 0) ∧
         (d.rd F.fioWd_wdtrip = 1 → Leads o s d w 2 (fld.addr 0 0) .wrongState)
     let mine := fun (k : Nat) => d.fio.asks.filter fun a => a.1 == k
     let l := d.foLeader k
     let latched := fun (o : Host.Outcome State Fault Refusal) (f : Fld) (i b : Nat) =>
       ∃ t, o = .next t ∧ t.dev.rd f i = 1 ∧ bitOf (t.dev.rd F.foSt_sticky i) b = true ∧ t.dev.rd F.fioOut_cmd = cmd
     let cfg := F.fioCfg_parlo.addr 0 0
     let lo := bitsOf x.toNat 0 2
     let hi := bitsOf x.toNat 2 2
     let owt := d.rd F.fioDiagt_owt
     let wired := bitOf (d.rd F.fioCfg_owen) l = true ∧ d.foJudged l ms = true
     writes F.fioOut_cmd (exec (.fioOut w v) s) (fun k => bitOf v.toNat k && !bitOf offs k) ∧
     writes F.fioOutset_set (exec (.fioOutset w v) s) (fun k => (bitOf cmd k || bitOf v.toNat k) && !bitOf offs k) ∧
     writes F.fioOutclr_clr (exec (.fioOutclr w v) s) (fun k => bitOf cmd k && !bitOf v.toNat k && !bitOf offs k) ∧
     (s.Grants w cfg →
       (lo ≤ 2 → hi ≤ 2 → cmd = 0 → ∃ t, exec (.fioCfgWrite w x) s = .next t ∧ s.Answered t w 2 cfg .ok ∧ t.dev.rd F.fioCfg_parlo = lo ∧
         t.dev.rd F.fioCfg_parhi = hi ∧ t.dev.rd F.fioCfg_owen = bitsOf x.toNat 8 8) ∧
       ((lo = 3 ∨ hi = 3) → Leads (exec (.fioCfgWrite w x) s) s d w 2 cfg .range) ∧
       (d.rd F.fioCfg_parlo = 0 → 1 ≤ lo → lo ≤ 2 → hi ≤ 2 → k.val < 4 → bitOf cmd k = true →
         Leads (exec (.fioCfgWrite w x) s) s d w 2 cfg .wrongState)) ∧
     (1 ≤ s.seq.released →
       (d.rd F.fioWd_wdtrip = 0 → ∃ t, exec .fieldOutputRequest s = .next t ∧ t.dev.fio.asks = [] ∧ ∀ k < 8, lead k →
         bitOf (t.dev.rd F.fioOut_cmd) k = ((decide (mine k ≠ []) || bitOf cmd k) && !(mine k).contains (k, .off) && !bitOf offs k)) ∧
       (d.rd F.fioWd_wdtrip = 1 → exec .fieldOutputRequest s = .next (s.put { d with fio := { d.fio with asks := [] } })) ∧
       (Tbl.find k.val d.fio.pulse = some t0 → t0 ≤ d.now → mine k = [] → bitOf ons k = false →
         ∃ t, exec (.foPulseEnd k) s = .next t ∧ becomes t (fun j => bitOf cmd j && j != k.val) ∧ Tbl.find k.val t.dev.fio.pulse = none) ∧
       (Tbl.find k.val d.fio.pulse = some t0 → t0 ≤ d.now → (bitOf ons k = true ∨ ∃ a ∈ mine k, a.2 ≠ .off) →
         exec (.foPulseEnd k) s = .next (s.put { d with fio := { d.fio with pulse := Tbl.erase k.val d.fio.pulse } })) ∧
       (Tbl.find k.val d.fio.pulse = some t0 → d.now < t0 → exec (.foPulseEnd k) s = .next s) ∧
       (Tbl.find k.val d.fio.pulse = none → exec (.foPulseEnd k) s = .next s) ∧
       (d.foDrive k = true → d.rd F.fioDiagt_olt ≤ us →
         latched (exec (.foOverload k us) s) F.foSt_overload k 0 ∧ ∃ t, exec (.foOverload k us) s = .next t ∧ t.dev.foDrive k = false) ∧
       ((d.foDrive k = false ∨ us < d.rd F.fioDiagt_olt) → exec (.foOverload k us) s = .next s) ∧
       (d.rd F.foSt_overtemp k = 0 → latched (exec (.foOvertemp k) s) F.foSt_overtemp k 2 ∧ ∃ t, exec (.foOvertemp k) s = .next t ∧ t.dev.foDrive k = false) ∧
       (∃ t, exec (.foCooled k) s = .next t ∧ t.dev.rd F.foSt_overtemp k = 0 ∧ t.dev.rd F.foSt_sticky k = d.rd F.foSt_sticky k) ∧
       (d.foJudged l ms = true ↔ d.rd F.fioVf_state = 0 ∧ owt ≤ ms ∧ d.fio.normalAt + owt * 1000000000 ≤ d.now ∧
         ∀ x ∈ Tbl.find l d.fio.switched, x + (d.rd F.fioDiagt_diagblk + owt) * 1000000000 ≤ d.now) ∧
       (wired → d.rd F.foSt_openWire l = 0 → latched (exec (.foOpenWire k ms) s) F.foSt_openWire l 1) ∧
       (¬ wired → exec (.foOpenWire k ms) s = .next s) ∧
       (d.foCmd l = false → d.foJudged l ms = true → d.rd F.foSt_shortToVf l = 0 → latched (exec (.foShortToVf k ms) s) F.foSt_shortToVf l 3) ∧
       ((d.foCmd l = true ∨ d.foJudged l ms = false) → exec (.foShortToVf k ms) s = .next s) ∧
       (d.foJudged l ms = true → ∃ t, exec (.foDiagClear k short ms) s = .next t ∧
         t.dev.rd (if short then F.foSt_shortToVf else F.foSt_openWire) l = 0 ∧ t.dev.rd F.foSt_sticky l = d.rd F.foSt_sticky l) ∧
       (d.foJudged l ms = false → exec (.foDiagClear k short ms) s = .next s))) ∧
  (∀ (s : State) (w : Who) (n : Fin 16) (t0 mv samples ms us : Nat),
     let d := s.dev
     let st := d.rd F.fioVf_state
     let levels := d.rd F.fioIn_level
     let broken := bitOf (d.rd F.fioInst_wireBreak) n
     let judged := d.rd F.fiCfg_wben n = 1 ∧ st = 0 ∧ d.rd F.fiCfg_wbt n ≤ ms ∧ d.fio.normalAt + d.rd F.fiCfg_wbt n * 1000000000 ≤ d.now
     let up := if d.rd F.fiCfg_type n = 0 then 12000 else 9500
     let down := if d.rd F.fiCfg_type n = 0 then 9000 else 7000
     let raw := if up ≤ mv then true else if mv ≤ down then false else bitOf d.fio.raw n
     let level := raw != (d.rd F.fiCfg_inv n == 1)
     let wd := F.fioWd_kick.addr 0 0
     let tmo := d.rd F.fioWdTimeout_timeout
     let runs := s.GrantsPart w wd ∧ d.rd F.fioWd_src ≤ 3
     let st' := if mv < 12000 ∨ (st = 3 ∧ mv < 12500) then 3
       else if mv < 16000 ∨ (2 ≤ st ∧ mv < 16400) then 2
       else if mv < 19200 ∨ (1 ≤ st ∧ mv < 19600) then 1 else 0
     (1 ≤ s.seq.released →
       (∃ t, exec (.fiLevelChange n mv samples) s = .next t ∧ bitOf t.dev.fio.raw n = raw ∧
         ∀ k < 16, bitOf (t.dev.rd F.fioIn_level) k =
           if k = n.val ∧ st < 2 ∧ d.rd F.fiCfg_filt n ≤ samples then level else bitOf levels k) ∧
       (judged → broken = false → ∃ t, exec (.fiWireBreak n ms) s = .next t ∧ bitOf (t.dev.rd F.fioInst_wireBreak) n = true ∧
         bitOf (t.dev.rd F.fioInst_sticky) n = true) ∧
       (judged → broken = true → exec (.fiWireBreak n ms) s = .next s ∧ ∃ t, exec (.fiWireBreakCleared n ms) s = .next t ∧
         bitOf (t.dev.rd F.fioInst_wireBreak) n = false ∧ t.dev.rd F.fioInst_sticky = d.rd F.fioInst_sticky) ∧
       (¬ judged → exec (.fiWireBreak n ms) s = .next s ∧ exec (.fiWireBreakCleared n ms) s = .next s) ∧
       (d.fio.wdAt = some t0 → (t0 / 40000 + 1) * 40000 ≤ d.now → d.rd F.fioWd_wdtrip = 0 → ∃ t, exec .fioWdExpired s = .next t ∧ t.dev.rd F.fioWd_wdtrip = 1 ∧
         t.dev.fio.pulse = [] ∧ t.dev.fio.wdAt = none ∧
         ∀ k < 8, bitOf (t.dev.rd F.fioOut_cmd) k = (bitOf (d.rd F.fioSafe_pattern) k && d.foLeader k == k)) ∧
       (d.fio.wdAt = some t0 → d.now < (t0 / 40000 + 1) * 40000 → exec .fioWdExpired s = .next s) ∧
       (st' ≠ st → 10 ≤ us → ∃ t, exec (.fioVfState mv us) s = .next t ∧ t.dev.rd F.fioVf_state = st' ∧ (st' = 3 → t.dev.rd F.fioOut_cmd = 0) ∧
         (st' = 0 → t.dev.fio.normalAt = d.now)) ∧
       ((st' = st ∨ us < 10) → exec (.fioVfState mv us) s = .next s)) ∧
     (runs → w.port = d.rd F.fioWd_src → tmo ≠ 0 → d.rd F.fioWd_wdtrip = 0 →
       Leads (exec (.kick w) s) s { d with fio := { d.fio with wdAt := some (d.now + tmo * 10 ^ 6) } } w 3 wd .ok) ∧
     (runs → (w.port ≠ d.rd F.fioWd_src ∨ tmo = 0 ∨ d.rd F.fioWd_wdtrip = 1) → Leads (exec (.kick w) s) s d w 3 wd .ok) ∧
     (runs → ∃ t, exec (.resume w) s = .next t ∧ s.Answered t w 3 wd .ok ∧ t.dev.rd F.fioWd_wdtrip = 0 ∧
       t.dev.fio = { d.fio with wdAt := if tmo = 0 then none else some (d.now + tmo * 10 ^ 6) }))

/-! ### Safe stop (14_safe_stop.md) -/

/-- SAF_STO, SS1_ENTRY, SS1T_EXPIRY, SAFETY_RUN, STO_N_LOW, TEST_PULSE, STO_N_RELEASE, TPMISS, SAFETY_RESET, SEAL_SCAN, GEN_READBACK_FAIL,
GEN_RUNTIME_TEST and SAF_TEST_OVERDUE (R354 to R358, R360, R363, R364, R367): the states, the demands and the failures that latch.
SAFE_COPY_CHECK, SAFE_WINDOW_EXPIRY and SAFE_PAIR_TIMEOUT (R359 to R362): two equal copies from different ports within the window are a
pair, which gives the demands and is answered; every other outcome is a failure with its cause. -/
def Obligations.SafeStop : Prop :=
  (∀ (s : State) (clocks t0 us : Nat) (g : Fin 6) (r1 r2 r3 : BitVec 8) (v : Nat),
     let d := s.dev
     let h := d.saf
     let st := d.rd F.safStat_state
     let dm := d.rd F.safStat_demand
     let lt := d.rd F.safStat_latch
     let gen := d.rd F.safStat_gen
     let frame := bitOf lt 1 = true
     let stop := bitOf dm 0 = true ∨ bitOf dm 1 = true ∨ 4 ≤ lt ∨ (frame ∧ d.rd F.safCfg_react = 0)
     let ss1 := bitOf dm 2 = true ∨ (frame ∧ d.rd F.safCfg_react = 1)
     let tpw := d.rd F.safTp_tpw
     let low := if tpw = 0 then 500 ≤ 40 * clocks else 1000 * tpw < 40 * clocks
     let pulse := 500 ≤ 40 * clocks ∧ 40 * clocks ≤ 1000 * tpw
     -- the failures of this REF clock so far (R360)
     let causes := if h.fails.1 = d.now / 40000 then h.fails.2 else []
     let fails := fun (o : Host.Outcome State Fault Refusal) (cause bit : Nat) => ∃ t, o = .next t ∧
       t.dev.rd F.safFail_cause = causes.foldl min cause ∧ t.dev.saf.fails = (d.now / 40000, cause :: causes) ∧
       bitOf (t.dev.rd F.safStat_latch) bit = true ∧ (∀ b < 6, b ≠ bit → bitOf (t.dev.rd F.safStat_latch) b = bitOf lt b) ∧
       t.dev.rd F.safFail_fails = min (2 ^ F.safFail_fails.len - 1) (d.rd F.safFail_fails + 1)
     let demands := fun (t : State) (b : Nat) (on : Bool) => ∀ k < 3, bitOf (t.dev.rd F.safStat_demand) k = if k = b then on else bitOf dm k
     let heard := ∃ p ∈ h.pairAt, d.now ≤ p + d.rd F.safTo_to * 10 ^ 9
     let press := 1250000 ≤ clocks ∧ clocks ≤ 50000000
     let passes := dm = 0 ∧ d.rd F.safTest_startok = 1 ∧ (d.rd F.safCfg_fen = 0 ∨ heard) ∧ causes = []
     let inTime := (d.rd F.safCfg_fen = 0 ∨ ∀ p ∈ h.lastPair, d.now < p + d.rd F.safTo_to * 10 ^ 9) ∧
       ∀ f ∈ h.first, d.now ≤ f.at_ + d.rd F.safWin_win * 10 ^ 6
     let scan := exec (.sealScan r1 r2 r3) s
     let read := sealOf r1.toNat r2.toNat r3.toNat
     let addr := d.rd F.safSeal_addr
     let due := d.rd F.safTest_maxage * hourPs ≤ d.now - Tbl.get 0 g.val h.passAt
     1 ≤ s.seq.released →
     (2 ≤ st → stop → ∃ t, exec .safSto s = .next t ∧ t.dev.rd F.safStat_state = 1 ∧ t.dev.rd F.safStat_gen = 0 ∧ t.dev.tripOn 12 = true ∧
       t.dev.saf.ss1At = none ∧ ∀ n b, t.dev.gateOut n b = false) ∧
     ((st < 2 ∨ ¬ stop) → exec .safSto s = .next s) ∧
     (st = 3 → ¬ stop → ss1 → ∃ t, exec .ss1Entry s = .next t ∧ t.dev.rd F.safStat_state = 2 ∧ t.dev.rd F.safStat_gen = 63 ∧
       t.dev.saf.ss1At = some (d.now + d.rd F.safSs1_ss1t * 10 ^ 9)) ∧
     ((st ≠ 3 ∨ stop ∨ ¬ ss1) → exec .ss1Entry s = .next s) ∧
     (h.ss1At = some t0 → t0 ≤ d.now → st = 2 → ∃ t, exec .ss1tExpiry s = .next t ∧ t.dev.rd F.safStat_state = 1 ∧ t.dev.rd F.safStat_gen = 0) ∧
     (h.ss1At = some t0 → (d.now < t0 ∨ st ≠ 2) → exec .ss1tExpiry s = .next s) ∧
     (st = 0 → dm = 0 → lt = 0 → d.rd F.safTest_startok = 1 → h.section_ = true → (d.rd F.safCfg_fen = 0 ∨ h.paired = true) →
       ∃ t, exec .safetyRun s = .next t ∧ t.dev.rd F.safStat_state = 3 ∧ t.dev.rd F.safStat_gen = 63 ∧ t.dev.saf.pulseAt = d.now) ∧
     (st = 1 → dm = 0 → lt = 0 → ∃ t, exec .safetyRun s = .next t ∧ t.dev.rd F.safStat_state = 3 ∧ t.dev.rd F.safStat_gen = 63) ∧
     ((2 ≤ st ∨ dm ≠ 0 ∨ lt ≠ 0) → exec .safetyRun s = .next s) ∧
     (low → ∃ t, exec (.stoNLow clocks) s = .next t ∧ demands t 0 true ∧ t.dev.saf = h) ∧
     (¬ low → exec (.stoNLow clocks) s = .next s) ∧
     (pulse → exec (.testPulse clocks) s = .next (s.put { d.bump F.safCnt_tpulses with saf := { h with pulseAt := d.now } })) ∧
     (¬ pulse → exec (.testPulse clocks) s = .next s) ∧
     (bitOf dm 0 = true → 2500 ≤ clocks → ∃ t, exec (.stoNRelease clocks) s = .next t ∧ demands t 0 false ∧
       ∀ b < 6, bitOf (t.dev.rd F.safStat_latch) b = (bitOf lt b || (b == 0 && d.rd F.safCfg_autorel == 0))) ∧
     ((bitOf dm 0 = false ∨ clocks < 2500) → exec (.stoNRelease clocks) s = .next s) ∧
     (d.rd F.safCfg_tpexp = 1 → st ≠ 0 → bitOf lt 5 = false → h.pulseAt + d.rd F.safTp_tpper * 10 ^ 9 ≤ d.now → fails (exec .tpmiss s) 14 5) ∧
     ((d.rd F.safCfg_tpexp = 0 ∨ st = 0 ∨ d.now < h.pulseAt + d.rd F.safTp_tpper * 10 ^ 9) → exec .tpmiss s = .next s) ∧
     (press → passes → inTime → ∃ t, exec (.safetyReset clocks) s = .next t ∧ t.dev.rd F.safStat_latch = 0 ∧ t.dev.rd F.safStat_state = st ∧
       t.dev.saf = { h with fresh := true, lastPair := none } ∧
       t.dev.rd F.safCnt_resets = min (2 ^ F.safCnt_resets.len - 1) (d.rd F.safCnt_resets + 1)) ∧
     (press → ¬ passes → inTime → ∃ t, exec (.safetyReset clocks) s = .next t ∧ t.dev.rd F.safStat_latch = lt ∧ t.dev.saf = h) ∧
     (press → ¬ inTime → ∃ t, exec (.safetyReset clocks) s = .next t ∧ bitOf (t.dev.rd F.safStat_latch) 1 = true ∧
       t.dev.rd F.safCnt_resets = d.rd F.safCnt_resets) ∧
     (¬ press → exec (.safetyReset clocks) s = .next s) ∧
     (d.rd F.safSeal_valid = 0 → read = some v → h.lastSeal = some v → v ≠ 0 →
       ∃ t, scan = .next t ∧ t.dev.rd F.safSeal_addr = v ∧ t.dev.rd F.safSeal_valid = 1 ∧ t.dev.saf = { h with incons := 0, diff := 0 }) ∧
     (d.rd F.safSeal_valid = 0 → read = some v → h.lastSeal ≠ some v →
       scan = .next (s.put { d with saf := { h with lastSeal := some v, incons := 0, diff := 0 } })) ∧
     (d.rd F.safSeal_valid = 1 → read = some addr → scan = .next (s.put { d with saf := { h with lastSeal := some addr, incons := 0, diff := 0 } })) ∧
     (d.rd F.safSeal_valid = 1 → read = none → h.incons = 1 → fails scan 11 2) ∧
     (d.rd F.safSeal_valid = 1 → read = some v → v ≠ addr → h.lastSeal = some v → h.diff = 1 → fails scan 10 2) ∧
     (st = 1 → 10 ≤ us → fails (exec (.genReadbackFail g us) s) 13 4 ∧
       ∃ t, exec (.genReadbackFail g us) s = .next t ∧ t.dev.rd F.safStat_gen = gen ||| 2 ^ g.val) ∧
     ((st ≠ 1 ∨ us < 10) → exec (.genReadbackFail g us) s = .next s) ∧
     (2 ≤ st → d.groupIdle g = true → 20 ≤ us → fails (exec (.genRuntimeTest g us false) s) 12 3) ∧
     (2 ≤ st → d.groupIdle g = true → 20 ≤ us → ∃ t, exec (.genRuntimeTest g us true) s = .next t ∧ t.dev.rd F.safTest_passed = d.rd F.safTest_passed ||| 2 ^ g.val ∧
       Tbl.get 0 g.val t.dev.saf.passAt = d.now ∧ g.val ∉ t.dev.saf.overdue) ∧
     ((st < 2 ∨ d.groupIdle g = false ∨ us < 20) → ∀ b, exec (.genRuntimeTest g us b) s = .next s) ∧
     (g.val ∉ h.overdue → due → ∃ t, exec (.safTestOverdue g) s = .next t ∧ t.dev.saf = { h with overdue := g.val :: h.overdue }) ∧
     ((g.val ∈ h.overdue ∨ ¬ due) → exec (.safTestOverdue g) s = .next s)) ∧
  (∀ (s : State) (x : SafeIn) (l : List SafeIn) (f : SafeFirst) (t0 : Nat),
     let d := s.dev
     let h := d.saf
     let q := fun (h : SafH) => s.put { d with saf := h, net := { d.net with q24 := l } }
     let take := exec .safeCopyCheck s
     let live := f.at_ + d.rd F.safWin_win * 10 ^ 6
     let alive := at8 x.body 2 + 256 * at8 x.body 3
     let jump := (alive + 65536 - d.rd F.safAlive_rxalive) % 65536
     let causes := if h.fails.1 = d.now / 40000 then h.fails.2 else []
     let fails := fun (o : Host.Outcome State Fault Refusal) (cause : Nat) => ∃ t, o = .next t ∧ t.dev.rd F.safFail_cause = causes.foldl min cause ∧
       bitOf (t.dev.rd F.safStat_latch) 1 = true ∧ t.dev.rd F.safStat_demand = d.rd F.safStat_demand ∧ t.dev.saf.first = none ∧
       t.dev.saf.fresh = h.fresh ∧ t.dev.rd F.safFail_fails = min (2 ^ F.safFail_fails.len - 1) (d.rd F.safFail_fails + 1)
     let valid := d.rd F.safCfg_fen = 1 ∧ d.safCheck x.port x.body = 0
     let inTime := d.rd F.safCfg_fen = 0 ∨ ∀ p ∈ h.lastPair, d.now < p + d.rd F.safTo_to * 10 ^ 9
     let second := valid ∧ h.first = some f ∧ d.now ≤ live ∧ inTime
     1 ≤ s.seq.released →
     (d.net.q24 = x :: l →
       (d.rd F.safCfg_fen = 0 → take = .next (s.put ({ d with net := { d.net with q24 := l } } |>.bump F.safCnt_ignored))) ∧
       (valid → h.first = none → inTime → take = .next (q { h with first := some { port := x.port, body := x.body, at_ := d.now } })) ∧
       (valid → h.first = none → ¬ inTime → ∃ t, take = .next t ∧ bitOf (t.dev.rd F.safStat_latch) 1 = true ∧ t.dev.saf.lastPair = none ∧
         t.dev.saf.first = some { port := x.port, body := x.body, at_ := d.now }) ∧
       (d.rd F.safCfg_fen = 1 → h.first = none → inTime → ∀ c, d.safCheck x.port x.body = c → 1 ≤ c → c ≤ 9 → fails take c) ∧
       (second → f.port = x.port → fails take 6) ∧
       (second → f.port ≠ x.port → f.body ≠ x.body → fails take 4) ∧
       (second → f.port ≠ x.port → f.body = x.body → h.fresh = false → jump = 0 → fails take 6) ∧
       (second → f.port ≠ x.port → f.body = x.body → h.fresh = false → jump ≠ 0 → d.rd F.safWin_maxjump < jump → fails take 7) ∧
       (second → f.port ≠ x.port → f.body = x.body → (h.fresh = true ∨ (jump ≠ 0 ∧ jump ≤ d.rd F.safWin_maxjump)) →
         ∃ t, take = .next t ∧ t.dev.saf = { h with first := none, paired := true, fresh := false, lastPair := some d.now, pairAt := some d.now } ∧
           t.dev.rd F.safAlive_rxalive = alive % 65536 ∧ bitOf (t.dev.rd F.safStat_demand) 1 = bitOf (at8 x.body 12) 0 ∧
           bitOf (t.dev.rd F.safStat_demand) 2 = bitOf (at8 x.body 12) 1 ∧
           bitOf (t.dev.rd F.safStat_demand) 0 = bitOf (d.rd F.safStat_demand) 0 ∧ t.dev.rd F.safStat_latch = d.rd F.safStat_latch ∧
           t.dev.rd F.safAlive_txalive = (d.rd F.safAlive_txalive + 1) % 65536 ∧
           ∀ p < 2, ∃ w, t.dev.waitingAt p = d.waitingAt p ++ [w] ∧ w.cls = 2 ∧ w.frame.body.length = 64)) ∧
     (d.net.q24 = [] → take = .next s) ∧
     (h.first = some f → live < d.now → fails (exec .safeWindowExpiry s) 5) ∧
     (h.first = some f → d.now ≤ live → exec .safeWindowExpiry s = .next s) ∧
     (h.first = none → exec .safeWindowExpiry s = .next s) ∧
     (h.lastPair = some t0 → d.rd F.safCfg_fen = 1 → t0 + d.rd F.safTo_to * 10 ^ 9 ≤ d.now → h.first = none →
       fails (exec .safePairTimeout s) 8 ∧ ∃ t, exec .safePairTimeout s = .next t ∧ t.dev.saf.lastPair = none) ∧
     (h.lastPair = some t0 → (d.rd F.safCfg_fen = 0 ∨ d.now < t0 + d.rd F.safTo_to * 10 ^ 9) → exec .safePairTimeout s = .next s) ∧
     (h.lastPair = none → exec .safePairTimeout s = .next s))

/-! ### Check units (15_check_units.md) -/

/-- CHK_DATA_WRITE, CHK_FEED_DONE, PRESET, CHK_START, CHK_VAL_WRITE, CHK_PARAM_WRITE, ALVIN and ALV_ARM (R370 to R375). -/
def Obligations.CheckUnits : Prop :=
  ∀ (s : State) (w : Who) (k : Fin 4) (off : Fin 4) (width : Fin 5) (v : BitVec 32) (p : Fin 16) (c : BitVec 16) (aw : Fin 32) (arm : Bool)
      (x : Cmdr × ChkWrite) (l : List (Cmdr × ChkWrite)),
    let d := s.dev
    let u := d.chkh k
    let W := d.rd F.chkCfg_width k
    let data := F.chkData_data.addr k 0
    let cfg := F.chkCfg_preset.addr k 0
    let fits := width = 1 ∨ (width = 2 ∧ off.val % 2 = 0) ∨ (width = 4 ∧ off = 0)
    let bytes := (List.range width.val).map fun i => v.toNat / 256 ^ i % 256
    let write := exec (.chkDataWrite w k off width v) s
    let by_ : Cmdr := { port := w.port, tag := w.tag, addr := data }
    let sets := fun (f : Fld) (o : Host.Outcome State Fault Refusal) (d' : Dev) (code : Code) =>
      s.Grants w (f.addr k 0) → w.port ≠ 4 → u.feed = [] → Leads o s d' w 2 (f.addr k 0) code
    let later := fun (f : Fld) (o : Host.Outcome State Fault Refusal) (x : ChkWrite) => s.Grants w (f.addr k 0) → w.port = 4 →
      o = .next (s.put (d.modChk k fun h => { h with mgt := h.mgt ++ [({ port := 4, tag := w.tag, addr := f.addr k 0 }, x)] }))
    let preset := fun (W poly init refl xorout : Nat) => ∃ t, exec (.preset w k p) s = .next t ∧ s.Answered t w 2 cfg .ok ∧
      t.dev.rd F.chkCfg_width k = W ∧ t.dev.rd F.chkPoly_poly k = poly ∧ t.dev.rd F.chkInit_init k = init ∧ t.dev.rd F.chkCfg_refin k = refl ∧
      t.dev.rd F.chkCfg_refout k = refl ∧ t.dev.rd F.chkXor_xorout k = xorout ∧ t.dev.rd F.chkVal_v k = init % 2 ^ W
    let last := d.rd F.chkAlvst_last k
    let m := 2 ^ d.rd F.chkAlvcfg_width k
    let n := c.toNat
    let judged := d.wr F.chkAlvst_last n k
    let alvin := exec (.alvin w k c) s
    let fed := d.wr F.chkVal_v (u.feed.foldl (d.chkP k).byte (d.rd F.chkVal_v k)) k
    (s.Grants w data → fits → w.port ≠ 4 → u.feed = [] →
      Leads write s (d.modChk k fun h => { h with feed := bytes, fedAt := d.now + 4000 * (bytes.length + 1) }) w 2 data .ok) ∧
    (s.Grants w data → fits → w.port ≠ 4 → u.feed ≠ [] →
      write = .next (s.put (d.modChk k fun h => { h with wait := h.wait ++ [(by_, .data bytes)] }))) ∧
    (s.Grants w data → ¬ fits → Leads write s d w 2 data .range) ∧
    (fits → later F.chkData_data write (.data bytes)) ∧
    later F.chkCfg_preset (exec (.preset w k p) s) (.preset p) ∧
    later F.chkCmd_start (exec (.chkStart w k) s) .start ∧
    later F.chkVal_v (exec (.chkValWrite w k v) s) (.val v.toNat) ∧
    (∀ r : Fin 4, later (chkParamFld r) (exec (.chkParamWrite w k r v) s) (.param r v.toNat)) ∧
    later F.chkAlvin_c alvin (.alvin n) ∧
    later F.chkAlvcfg_width (exec (.alvArm w k aw arm) s) (.alvcfg aw arm) ∧
    (u.feed = [] → u.wait = [] → u.mgt = [x] → x.2 = .start → x.1.port = 4 → (d.chkClock k Dev.stored).rd F.chkVal_v k = d.rd F.chkInit_init k % 2 ^ W ∧
      ((d.chkClock k Dev.stored).chkh k).mgt = []) ∧
    (u.feed ≠ [] → (d.chkClock k Dev.stored).chkh k = { u with wait := u.wait ++ u.mgt, mgt := [] }) ∧
    (2 ≤ s.seq.released → u.feed ≠ [] → d.now < u.fedAt → exec (.chkFeedDone k) s = .next s) ∧
    (2 ≤ s.seq.released → u.feed ≠ [] → u.fedAt ≤ d.now → u.wait = [] →
      exec (.chkFeedDone k) s = .next (s.put ((fed.modChk k fun h => { h with feed := [] }).modChk k fun h => { h with wait := [] }))) ∧
    (2 ≤ s.seq.released → u.feed ≠ [] → u.fedAt ≤ d.now → u.wait = x :: l → (∃ b, b ≠ [] ∧ x.2 = .data b) →
      ∃ t, exec (.chkFeedDone k) s = .next t ∧ t.dev.rd F.chkVal_v k = fed.rd F.chkVal_v k ∧ (t.dev.chkh k).wait = l ∧
        t.dev.net = (d.answer x.1 .ok).net ∧ ∀ b, x.2 = .data b → (t.dev.chkh k).feed = b) ∧
    (2 ≤ s.seq.released → u.feed = [] → exec (.chkFeedDone k) s = .next s) ∧
    (s.Grants w cfg → w.port ≠ 4 → u.feed = [] → p = 1 → preset 32 0x04C11DB7 0xFFFFFFFF 1 0xFFFFFFFF) ∧
    (s.Grants w cfg → w.port ≠ 4 → u.feed = [] → p = 2 → preset 16 0x1021 0xFFFF 0 0) ∧
    (s.Grants w cfg → w.port ≠ 4 → u.feed = [] → p = 3 → preset 8 0x07 0 0 0) ∧
    (4 ≤ p.val → sets F.chkCfg_preset (exec (.preset w k p) s) d .range) ∧
    sets F.chkCmd_start (exec (.chkStart w k) s) (d.wr F.chkVal_v (d.rd F.chkInit_init k % 2 ^ W) k) .ok ∧
    sets F.chkVal_v (exec (.chkValWrite w k v) s) (d.wr F.chkVal_v (v.toNat % 2 ^ W) k) .ok ∧
    sets F.chkPoly_poly (exec (.chkParamWrite w k 1 v) s) (d.wr F.chkPoly_poly (v.toNat % 2 ^ W) k) .ok ∧
    sets F.chkInit_init (exec (.chkParamWrite w k 2 v) s) (d.wr F.chkInit_init (v.toNat % 2 ^ W) k) .ok ∧
    sets F.chkXor_xorout (exec (.chkParamWrite w k 3 v) s) (d.wr F.chkXor_xorout (v.toNat % 2 ^ W) k) .ok ∧
    ((v.toNat % 64 = 0 ∨ 32 < v.toNat % 64) → sets F.chkCfg_width (exec (.chkParamWrite w k 0 v) s) d .range) ∧
    (1 ≤ v.toNat % 64 → v.toNat % 64 ≤ 32 → s.Grants w cfg → w.port ≠ 4 → u.feed = [] →
      ∃ t, exec (.chkParamWrite w k 0 v) s = .next t ∧ s.Answered t w 2 cfg .ok ∧ t.dev.rd F.chkCfg_width k = v.toNat % 64 ∧
        t.dev.rd F.chkCfg_refin k = v.toNat / 64 % 2 ∧ t.dev.rd F.chkCfg_refout k = v.toNat / 128 % 2 ∧
        t.dev.rd F.chkVal_v k = d.rd F.chkVal_v k % 2 ^ (v.toNat % 64)) ∧
    (m ≤ n → sets F.chkAlvin_c alvin d .range) ∧
    (n < m → d.rd F.chkAlvst_first k = 1 → sets F.chkAlvin_c alvin (judged.clr F.chkAlvst_first k) .ok) ∧
    (n < m → d.rd F.chkAlvst_first k = 0 → n = (last + 1) % m → 2 ≤ m → last < m → sets F.chkAlvin_c alvin judged .ok) ∧
    (n < m → d.rd F.chkAlvst_first k = 0 → n = last → 2 ≤ m → s.Grants w (F.chkAlvin_c.addr k 0) → w.port ≠ 4 → u.feed = [] →
      ∃ t, alvin = .next t ∧ t.dev.rd F.chkAlvst_repeat k = 1 ∧ t.dev.rd F.chkAlvst_last k = n ∧
        t.dev.rd F.chkAlvst_repeats k = min (2 ^ F.chkAlvst_repeats.len - 1) (d.rd F.chkAlvst_repeats k + 1)) ∧
    (n < m → d.rd F.chkAlvst_first k = 0 → n ≠ last → n ≠ (last + 1) % m → last < m → s.Grants w (F.chkAlvin_c.addr k 0) → w.port ≠ 4 → u.feed = [] →
      ∃ t, alvin = .next t ∧ t.dev.rd F.chkAlvst_jump k = 1 ∧ t.dev.rd F.chkAlvst_last k = n ∧
        t.dev.rd F.chkAlvst_jumps k = min (2 ^ F.chkAlvst_jumps.len - 1) (d.rd F.chkAlvst_jumps k + 1)) ∧
    ((aw = 0 ∨ 16 < aw.val) → sets F.chkAlvcfg_width (exec (.alvArm w k aw arm) s) d .range) ∧
    (1 ≤ aw.val → aw.val ≤ 16 → s.Grants w (F.chkAlvcfg_width.addr k 0) → w.port ≠ 4 → u.feed = [] →
      ∃ t, exec (.alvArm w k aw arm) s = .next t ∧ t.dev.rd F.chkAlvcfg_width k = aw ∧
        (arm = true → t.dev.rd F.chkAlvst_first k = 1) ∧ (aw.val ≠ d.rd F.chkAlvcfg_width k → t.dev.rd F.chkAlvst_first k = 1))

/-! ### Event recorder (17_management_and_log.md) -/

/-- RECORD_PUSH, RECORD_ADMISSION, TOKEN_REFILL, FLASH_RING_WRITE, EVR_WIN_READ, EVR_FETCH, EVR_CLEAR and RING_ERASE_DONE (R416 to R423). A
bucket gains one token in each interval of IVL ms; that the intervals count from root time 0 is the model's choice (log entry 153). -/
def Obligations.EventRecorder : Prop :=
  ∀ (s : State) (w : Who) (code : BitVec 16) (sev : Fin 5) (src : Fin 8) (d0 d1 : BitVec 32) (r r2 : Rec) (l : List Rec) (k : Fin 8) (key : BitVec 8)
      (n : Nat),
    let d := s.dev
    let h := d.evr
    let o : Occ := { code := code.toNat, sev := sev, src := src, d0 := d0.toNat, d1 := d1.toNat }
    let push := exec (.recordPush code sev src d0 d1) s
    let mine := h.waiting.filter fun x => x.code / 256 == code.toNat / 256
    let span := d.now / (d.rd F.evrRl_ivl * 1000000000)
    let evr := fun (h : EvrH) => s.put { d with evr := h }
    let admitted := fun (t : State) => t.dev.evr.q28 = l ∧ t.dev.evr.nextSeq = seqAfter h.nextSeq ∧ t.dev.rd F.evrNewest_seq = h.nextSeq % 2 ^ 32 ∧
      t.dev.evr.chip = h.chip ++ [{ r := { r with seq := h.nextSeq, suppr := Tbl.get 0 r.code h.suppr } }]
    let takes := h.cleared = none ∧ h.tookAt ≠ some (d.now / 4000) ∧ h.waiting = []
    let other := r.code ≠ E.netFrameDrop.code
    let exempt := bitOf (d.rd F.evrRl_exempt) r.sev = true
    let runs := d.mgt.fwRun = true ∧ d.rd F.mgtState_core = 0
    let above := (d.flash.ring.map (·.2)).filter fun y => decide (n ≤ y.seq)
    let win := F.evrWin_word.addr k 0
    let answers := fun (t : State) (v : Nat) =>
      t.dev.net = (d.respond { port := w.port, code := .ok, tag := w.tag, op := 1, addr := win, data := [v] }).net
    let cmd := F.evrCmd_clear.addr 0 0
    (2 ≤ s.seq.released →
      (h.q28.length < 64 → mine = [] → push = .next (evr { h with q28 := h.q28 ++ [d.stamp o] })) ∧
      ((64 ≤ h.q28.length ∨ mine ≠ []) → mine.length < 4 → push = .next (evr { h with waiting := h.waiting ++ [o] })) ∧
      (4 ≤ mine.length → ∃ t, push = .next t ∧ t.dev.evr.q28 = h.q28 ∧ t.dev.evr.waiting = h.waiting ∧
        t.dev.rd F.evrLost_lostq = min (2 ^ F.evrLost_lostq.len - 1) (d.rd F.evrLost_lostq + 1)) ∧
      (takes → other → 0 < h.settled → h.q28 = r :: l → h.chip.length < 4096 → exempt →
        ∃ t, exec .recordAdmission s = .next t ∧ admitted t ∧ t.dev.evr.tokens = h.tokens) ∧
      (takes → other → 0 < h.settled → h.q28 = r :: l → h.chip.length < 4096 → ¬ exempt → 0 < d.tokens r.code →
        ∃ t, exec .recordAdmission s = .next t ∧ admitted t ∧ t.dev.tokens r.code = d.tokens r.code - 1) ∧
      (takes → 0 < h.settled → h.q28 = r :: l → ¬ exempt → d.tokens r.code = 0 →
        ∃ t, exec .recordAdmission s = .next t ∧ t.dev.evr.q28 = l ∧ t.dev.evr.chip = h.chip ∧
          Tbl.get 0 r.code t.dev.evr.suppr = min (2 ^ 16 - 1) (Tbl.get 0 r.code h.suppr + 1)) ∧
      (h.cleared = some (src.val, n) → h.chip = [] → bitOf (d.rd F.evrRl_exempt) E.evrCleared.sev = true →
        ∃ t c, exec .recordAdmission s = .next t ∧ t.dev.evr.chip = [c] ∧ c.r.code = E.evrCleared.code ∧ c.r.d0 = src ∧ c.r.d1 = n % 2 ^ 32 ∧
          t.dev.evr.q28 = h.q28) ∧
      (takes → ¬ other → 0 < h.settled → h.q28 = r :: l → h.chip.length < 4096 → exempt → ∃ t, exec .recordAdmission s = .next t ∧
        t.dev.evr.nextSeq = seqAfter h.nextSeq ∧ t.dev.evr.q28.length = l.length ∧
        Tbl.get 0 (r.d0 % 256) t.dev.net.drops = Tbl.get 0 (r.d0 % 256) d.net.drops - r.d1) ∧
      -- all places in use: the oldest record of the lowest severity goes, unless every record is more severe
      (takes → 0 < h.settled → h.q28 = r :: l → 4096 ≤ h.chip.length → exempt → (∀ c ∈ h.chip, r.sev < c.r.sev) → r.sev < 5 →
        ∃ t, exec .recordAdmission s = .next t ∧ t.dev.evr.chip = h.chip ∧ t.dev.evr.nextSeq = h.nextSeq ∧
          t.dev.rd F.evrDrop_drop r.sev = min (2 ^ F.evrDrop_drop.len - 1) (d.rd F.evrDrop_drop r.sev + 1)) ∧
      (∀ l1 l2 c, takes → 0 < h.settled → h.q28 = r :: l → 4096 ≤ h.chip.length → exempt → h.chip = l1 ++ c :: l2 → c.written = true →
        c.r.sev ≤ r.sev → (∀ x ∈ l1, c.r.sev < x.r.sev) → (∀ x ∈ l2, c.r.sev ≤ x.r.sev) →
        ∃ t, exec .recordAdmission s = .next t ∧ t.dev.evr.nextSeq = seqAfter h.nextSeq ∧
          t.dev.evr.chip = l1 ++ l2 ++ [{ r := { r with seq := h.nextSeq, suppr := Tbl.get 0 r.code h.suppr } }]) ∧
      -- of two records of the present clock the one of the lower block goes first
      (takes → h.settled = 0 → h.q28 = [r, r2] → r2.code / 256 < r.code / 256 → h.chip.length < 4096 → bitOf (d.rd F.evrRl_exempt) r2.sev = true →
        r2.code ≠ E.netFrameDrop.code →
        ∃ t, exec .recordAdmission s = .next t ∧ t.dev.evr.q28 = [r] ∧
          t.dev.evr.chip = h.chip ++ [{ r := { r2 with seq := h.nextSeq, suppr := Tbl.get 0 r2.code h.suppr } }]) ∧
      (h.cleared = none → (h.q28 = [] ∨ h.tookAt = some (d.now / 4000)) → exec .recordAdmission s = .next s) ∧
      (Tbl.find code.toNat h.refilled ≠ some span → ∃ t, exec (.tokenRefill code) s = .next t ∧ t = evr t.dev.evr ∧
        t.dev.tokens code.toNat = min (d.rd F.evrRl_burst) (d.tokens code.toNat + 1) ∧ Tbl.find code.toNat t.dev.evr.refilled = some span) ∧
      (Tbl.find code.toNat h.refilled = some span → exec (.tokenRefill code) s = .next s)) ∧
    (3 ≤ s.seq.released →
      (runs → d.rd F.evrStat_erasing = 0 → firstUnwritten h.chip = some r →
        ∃ t, exec .flashRingWrite s = .next t ∧ Tbl.find (r.seq % 32768) t.dev.flash.ring = some r ∧
          t.dev.evr.chip = (h.chip.map fun c => if c.r.seq = r.seq then { c with written := true } else c) ∧ t.dev.evr.q28 = h.q28) ∧
      ((¬ runs ∨ d.rd F.evrStat_erasing = 1 ∨ firstUnwritten h.chip = none) → exec .flashRingWrite s = .next s) ∧
      (runs → h.fetchReq = some n → ∃ t, exec .evrFetch s = .next t ∧ t.dev.evr.fetchReq = none ∧ t.dev.rd F.evrStat_pend = 0 ∧
        ∀ x, x ∈ t.dev.evr.fetchBuf ↔ x ∈ above ∧ (above.filter fun y => decide (y.seq < x.seq)).length < 64) ∧
      ((¬ runs ∨ h.fetchReq = none) → exec .evrFetch s = .next s) ∧
      exec .ringEraseDone s = .next (s.put (d.clr F.evrStat_erasing))) ∧
    (s.GrantsRead w win →
      (k = 0 → lowestAt (Tbl.get 0 w.port.val h.cursor) (h.chip.map (·.r) ++ d.flash.ring.map (·.2)) = some r →
        (∃ c ∈ h.chip, c.r.seq = r.seq) → ∃ t, exec (.evrWinRead w k) s = .next t ∧ answers t (r.words.getD 0 0) ∧
          Tbl.find w.port.val t.dev.evr.win = some r) ∧
      (k = 0 → lowestAt (Tbl.get 0 w.port.val h.cursor) (h.chip.map (·.r) ++ d.flash.ring.map (·.2)) = some r →
        (∀ c ∈ h.chip, c.r.seq ≠ r.seq) → (∀ x ∈ h.fetchBuf, x.seq ≠ r.seq) → ∃ t, exec (.evrWinRead w k) s = .next t ∧ answers t 0 ∧
          t.dev.rd F.evrStat_pend = 1 ∧ t.dev.evr.fetchReq = some r.seq ∧ Tbl.find w.port.val t.dev.evr.win = none) ∧
      (k = 0 → lowestAt (Tbl.get 0 w.port.val h.cursor) (h.chip.map (·.r) ++ d.flash.ring.map (·.2)) = none →
        ∃ t, exec (.evrWinRead w k) s = .next t ∧ answers t 0 ∧ t.dev.rd F.evrStat_pend = 0 ∧ Tbl.find w.port.val t.dev.evr.win = none) ∧
      (k ≠ 0 → Tbl.find w.port.val h.win = some r → ∃ t, exec (.evrWinRead w k) s = .next t ∧ answers t (r.words.getD k 0) ∧
        (k = 7 → Tbl.get 0 w.port.val t.dev.evr.cursor = (r.seq + 1) % 2 ^ 32))) ∧
    (s.Grants w cmd →
      (key = 0xC1 → ∃ t, exec (.evrClear w key) s = .next t ∧ s.Answered t w 2 cmd .ok ∧ t.dev.evr.chip = [] ∧ t.dev.flash.ring = [] ∧
        t.dev.rd F.evrStat_erasing = 1 ∧ t.dev.rd F.evrLost_lostq = 0 ∧ t.dev.evr.cleared = some (w.port.val, h.chip.length) ∧
        t.dev.evr.nextSeq = h.nextSeq) ∧
      (key ≠ 0xC1 → Leads (exec (.evrClear w key) s) s d w 2 cmd .range))

/-! ### Supplies, reset and the release sequence (16_power_reset_boot.md) -/

/-- RESET_N, MAIN_POWER_ON_RESET, BACKUP_POWER_ON_RESET, BACKUP_RESET_RELEASE, BUCK_START, BUCK_STOP, SEQUENCE_START, SOURCE_GOOD,
DOMAIN_RELEASE, RST_GAP_EXPIRY and SEQUENCE_STOP (R377, R378, R380 to R387). -/
def Obligations.ResetSequence : Prop :=
  ∀ (s : State) (clocks mV high edges : Nat) (rails : Rails) (sel : Fin 4) (sync : Bool) (i : Nat),
    let d := s.dev
    let q := s.seq
    let asserted := fun (o : Host.Outcome State Fault Refusal) (by_ : List MainSrc) => ∃ t, o = .next t ∧ t.seq.released = 0 ∧
      t.seq.phase = .held ∧ (∀ m, m ∈ t.seq.since ↔ m ∈ q.since ∨ m ∈ by_) ∧ t.pending = s.pending ∧
      (∀ f ∈ backupFlds, t.dev.rd f = d.rd f) ∧ t.dev.flash = { d.flash with journal := [] } ∧ t.dev.ax = [] ∧ t.dev.leg = [] ∧ t.dev.net = {} ∧
      (∀ n < 8, t.dev.axState n = 0) ∧ t.dev.now = d.now
    let at_ := fun (p : SeqPhase) (rel : Nat) (d : Dev) => ({ s with seq := { q with phase := p, released := rel, at_ := s.dev.now }, dev := d } : State)
    let good := fun (d : Dev) (i : Nat) => d.wr F.clkGood_clkgood (putBits (d.rd F.clkGood_clkgood) (i - 1) 1 1)
    let back := 7416 < 10 * rails.core ∧ 29870 < 10 * rails.io ∧ 16686 < 10 * rails.a ∧ 46350 < 10 * rails.drv
    let freed := q.buck = true ∧ q.railsAt ≤ d.now ∧ (.resetN ∈ q.since → 250 ≤ high) ∧ ((∃ m ∈ q.since, m ≠ .resetN) → back ∧ 50 ≤ clocks)
    -- the REF clock of the timeout is over
    let late := fun (ps : Nat) => q.at_ + ps + 40000 ≤ d.now
    let ms20 := 20 * 10 ^ 9
    let us100 := 10 ^ 8
    let stops := fun (o : Host.Outcome State Fault Refusal) (n : Nat) => ∃ t, o = .next t ∧ t.seq = { q with phase := .stopped } ∧ t.dev.pwr.stopNote = some n ∧
      (q.backup = false → t.dev.rd F.rstEvidence_stopped = 1 ∧ t.dev.rd F.rstEvidence_stopstep = n % 16)
    (250 ≤ clocks → asserted (exec (.resetN clocks) s) [.resetN]) ∧
    (clocks < 250 → exec (.resetN clocks) s = .next s) ∧
    (50 ≤ clocks → (rails.core < 720 ∨ rails.io < 2900 ∨ rails.a < 1620 ∨ rails.drv < 4500) →
      asserted (exec (.mainPowerOnReset rails clocks) s) (railsLow rails)) ∧
    (∀ m, m ∈ railsLow rails ↔ m = .core ∧ rails.core < 720 ∨ m = .io ∧ rails.io < 2900 ∨ m = .a ∧ rails.a < 1620 ∨ m = .drv ∧ rails.drv < 4500) ∧
    ((clocks < 50 ∨ railsLow rails = []) → exec (.mainPowerOnReset rails clocks) s = .next s) ∧
    (mV < 1600 → 50 ≤ clocks → ∃ t, exec (.backupPowerOnReset mV clocks) s = .next t ∧ t.seq = { q with backup := true } ∧ ∀ f ∈ backupFlds, t.dev.rd f = f.reset % 2 ^ f.len) ∧
    ((1600 ≤ mV ∨ clocks < 50) → exec (.backupPowerOnReset mV clocks) s = .next s) ∧
    (1700 < mV → 50 ≤ clocks → exec (.backupResetRelease mV clocks) s = .next { s with seq := { q with backup := false } }) ∧
    ((mV ≤ 1700 ∨ clocks < 50) → exec (.backupResetRelease mV clocks) s = .next s) ∧
    (q.buck = false → 26000 < mV → exec (.buckStart sel mV) s =
      .next { s with seq := { q with buck := true, railsAt := d.now + 1500000000 }, dev := { d with pwr := { d.pwr with sel := sel, vdrv := strapLevel sel, ramp := none } } }) ∧
    ((q.buck = true ∨ mV ≤ 26000) → exec (.buckStart sel mV) s = .next s) ∧
    (q.buck = true → mV < 24000 → asserted (exec (.buckStop mV) s) [.core, .io, .a, .drv] ∧ ∃ t, exec (.buckStop mV) s = .next t ∧ t.seq.buck = false) ∧
    ((q.buck = false ∨ 24000 ≤ mV) → exec (.buckStop mV) s = .next s) ∧
    (q.phase = .held → freed → ∃ t, exec (.sequenceStart sync high rails clocks) s = .next t ∧
      t.seq = { q with phase := .source, since := [], cut := false, clksrc := sync, at_ := d.now } ∧ t.dev.rd F.timRoot_src = b2n sync ∧
      t.dev.rd F.clkStat_oscgood = 1 ∧
      (q.backup = false → t.dev.rd F.rstEvidence_resetn = b2n (q.since.contains .resetN) ∧ t.dev.rd F.rstEvidence_porcore = b2n (q.since.contains .core) ∧
        t.dev.rd F.rstEvidence_restart = b2n q.cut ∧ t.dev.rd F.rstCount_count = min (2 ^ F.rstCount_count.len - 1) (d.rd F.rstCount_count + 1) ∧
        t.dev.rd F.rstPwrcyc_pwrcyc = min (2 ^ F.rstPwrcyc_pwrcyc.len - 1) (d.rd F.rstPwrcyc_pwrcyc + b2n (q.since.any (· != .resetN)))) ∧
      (q.backup = true → ∀ f ∈ backupFlds, t.dev.rd f = d.rd f)) ∧
    ((q.phase ≠ .held ∨ ¬ freed) → exec (.sequenceStart sync high rails clocks) s = .next s) ∧
    (q.phase = .source → ¬ late ms20 → 1024 ≤ edges → ∃ t, exec (.sourceGood edges) s = .next t ∧ t.seq = { q with phase := .pll } ∧ t.dev.rd F.clkStat_srcgood = 1 ∧
      t.dev.rd F.clkStat_refonsrc = 1 ∧ (q.clksrc = true → t.dev.rd F.timRoot_syncok = 1)) ∧
    ((q.phase ≠ .source ∨ ¬ late ms20 ∧ edges < 1024) → exec (.sourceGood edges) s = .next s) ∧
    (q.phase = .pll → ¬ late ms20 → 64 ≤ clocks → exec (.domainRelease clocks) s = .next (at_ (.gap 1) 1 (good (d.set1 F.clkStat_plllock) 1))) ∧
    (q.phase = .step i → i ≠ 13 → ¬ late us100 → 64 ≤ clocks → exec (.domainRelease clocks) s = .next (at_ (.gap i) i (good d i))) ∧
    (q.phase = .step 13 → ¬ late us100 → 64 ≤ clocks → exec (.domainRelease clocks) s = .next (at_ .done 13 (good d 13))) ∧
    ((q.phase = .step i ∧ ¬ late us100 ∨ q.phase = .pll ∧ ¬ late ms20) → (clocks < 64 → exec (.domainRelease clocks) s = .next s) ∧
      exec .sequenceStop s = .next s) ∧
    ((∀ i, q.phase ≠ .step i) → q.phase ≠ .pll → exec (.domainRelease clocks) s = .next s ∧
      (q.phase ≠ .source → exec .sequenceStop s = .next s)) ∧
    (q.phase = .gap i → q.at_ + d.rd F.rstGap_gap * 40000 ≤ d.now → exec .rstGapExpiry s = .next (at_ (.step (i + 1)) q.released d)) ∧
    (((∀ i, q.phase ≠ .gap i) ∨ d.now < q.at_ + d.rd F.rstGap_gap * 40000) → exec .rstGapExpiry s = .next s) ∧
    (q.phase = .source → ¬ late ms20 → exec .sequenceStop s = .next s) ∧
    (q.phase = .step i → late us100 → stops (exec .sequenceStop s) i ∧ stops (exec (.domainRelease clocks) s) i) ∧
    ((q.phase = .source ∨ q.phase = .pll) → late ms20 → stops (exec .sequenceStop s) 15) ∧
    (q.phase = .source → late ms20 → stops (exec (.sourceGood edges) s) 15) ∧
    (q.phase = .pll → late ms20 → stops (exec (.domainRelease clocks) s) 15)

/-! ### Start-up and fuses (16_power_reset_boot.md) -/

/-- ROM_BOOT, IMAGE_SELECT, CONFIGURATION, DEVICE_READY, PWR_VDRV_WRITE, VDRV_RAMP_END, GO and FUSE_PROGRAMMED (R365, R366, R378, R388, R389, R397 to
R403): the newest candidate that passes its checks is used, one that fails is marked bad. -/
def Obligations.StartUp : Prop :=
  ∀ (s : State) (w : Who) (i : Fin 2) (l : List Nat) (r : Nat) (fail : Option (Nat × Nat)) (k a word bits t0 : Nat) (e : Dev) (v : Fin 128) (x : Nat × Nat),
    let d := s.dev
    let core := d.rd F.mgtState_core
    let bad := fun (t : State) (kind : Nat) => bitOf (t.dev.rd F.rstBoot_bad) (2 * kind + i) = true
    let fw := slotBase 0 i
    let img := slotBase 1 i
    let runs := d.mgt.fwRun = true ∧ core = 0
    let ready := runs ∧ d.devstate = 0 ∧ d.mgt.noImage = false
    let p := ((d.ev E.rstStart (d.cellWord R.rstEvidence) (d.rd F.rstCount_count)).ev E.bootSlot (2 * d.rd F.rstBoot_fwslot)
      (d.rd F.mgtFwgen_gen)).countersRestore.recordsRestore d
    let pass := d.writePass (slotBase 1 (d.rd F.rstBoot_imgslot)) fail (d.passOrder (slotBase 1 (d.rd F.rstBoot_imgslot)))
    let configures := runs ∧ d.devstate = 1 ∧ d.mgt.cfgFail = false
    let locked := ∀ n < 4, d.rd F.tbCtrl_src n = 0 ∨ d.rd F.tbState_state n = 3 ∨ (n = 0 ∧ d.rd F.tbCtrl_gm 0 = 1)
    let vdrv := F.pwrVdrv_set.addr 0 0
    let fits := 50 ≤ v.val ∧ v.val ≤ strapLevel d.pwr.sel
    let still := ∀ n < 8, d.axState n = 0
    let go := F.fusePcmd_go.addr 0 0
    let may := (word < 4 ∨ (12 ≤ word ∧ word ≤ 28)) ∧ d.rd F.fusePaddr_word = word ∧ d.rd F.fusePdata_bits = bits
    let armed := still ∧ d.rd F.fusePstat_busy = 0 ∧ d.rd F.fuseKey_key = 0xA5C3
    let open_ := bitOf (Tbl.get 0 28 d.pwr.fuses) 14 = false
    (3 ≤ s.seq.released →
      (d.mgt.fwRun = false → core = 0 → d.candidates 0 = i.val :: l → d.laterCheck 0 fw = 0 → ∃ t, exec .romBoot s = .next t ∧
        t.dev.rd F.rstBoot_fwslot = i ∧ t.dev.rd F.mgtFwgen_gen = d.imgGen fw ∧ t.dev.rd F.mgtState_core = 0 ∧ t.dev.mgt.fwRun = true) ∧
      (d.mgt.fwRun = false → core = 0 → d.candidates 0 = [i.val] → d.laterCheck 0 fw = r → r ≠ 0 → ∃ t, exec .romBoot s = .next t ∧ bad t 0 ∧
        t.dev.rd F.rstBoot_fwreason = r % 2 ^ 8 ∧ t.dev.rd F.mgtState_core = 2 ∧ t.dev.mgt.fwRun = false) ∧
      (d.mgt.fwRun = false → core = 0 → d.candidates 0 = [] → exec .romBoot s = .next (s.put (d.wr F.mgtState_core 2))) ∧
      ((d.mgt.fwRun = true ∨ core ≠ 0) → exec .romBoot s = .next s) ∧
      (ready → d.pwr.stopNote = none → p.candidates 1 = i.val :: l → p.laterCheck 1 img = 0 → ∃ t, exec .imageSelect s = .next t ∧
        t.dev.rd F.rstBoot_imgslot = i ∧ t.dev.rd F.mgtAximg_slot = 255 * i.val ∧ t.dev.devstate = 1) ∧
      (ready → d.pwr.stopNote = none → p.candidates 1 = [] → ∃ t, exec .imageSelect s = .next t ∧ t.dev.mgt.noImage = true ∧ t.dev.devstate = 0 ∧
        t.dev.rd F.rstEvidence_bpor = 0 ∧ (d.rd F.rstEvidence_bpor = 1 →
          t.dev.rd F.rstCount_count = min (2 ^ F.rstCount_count.len - 1) (d.rd F.rstCount_count + d.flash.mirrorOf 0))) ∧
      (¬ ready → exec .imageSelect s = .next s) ∧
      (configures → pass = (none, e) → ∃ t, exec (.configuration true fail) s = .next t ∧ t.dev.rd F.safTest_startok = 1 ∧
        t.dev.net.preconfig = false ∧ t.dev.devstate = if (List.range 4).all (fun n => t.dev.rd F.tbCtrl_src n == 0) then 3 else 2) ∧
      (configures → pass = (none, e) → ∃ t, exec (.configuration false fail) s = .next t ∧ t.dev.rd F.safFail_cause = 12 ∧
        bitOf (t.dev.rd F.safStat_latch) 3 = true ∧ t.dev.net.preconfig = false) ∧
      (configures → pass = (some (k, a), e) → ∀ b, ∃ t, exec (.configuration b fail) s = .next t ∧ t.dev.mgt.cfgFail = true ∧
        t.dev.devstate = e.devstate ∧ t.dev.rd F.rstBoot_imgreason = 10 ∧
        bitOf (t.dev.rd F.rstBoot_bad) (2 + d.rd F.rstBoot_imgslot) = true) ∧
      (¬ configures → ∀ b, exec (.configuration b fail) s = .next s)) ∧
    (2 ≤ s.seq.released →
      (d.devstate = 2 → locked → ∃ t, exec .deviceReady s = .next t ∧ t.dev.devstate = 3) ∧
      ((d.devstate ≠ 2 ∨ ¬ locked) → exec .deviceReady s = .next s)) ∧
    let level := d.pwr.vdrv * 10 ^ 8 - (t0 - d.now)
    (s.GrantsPart w vdrv →
      (fits → still → v.val ≠ d.pwr.vdrv → d.pwr.ramp = none → Leads (exec (.pwrVdrvWrite w v) s) s
        { d with pwr := { d.pwr with vdrv := v, ramp := some (min d.pwr.vdrv v,
          d.now + (max (d.pwr.vdrv * 10 ^ 8) (v.val * 10 ^ 8) - min (d.pwr.vdrv * 10 ^ 8) (v.val * 10 ^ 8))), rampFrom := d.pwr.vdrv * 10 ^ 8 } } w 3 vdrv .ok) ∧
      -- a ramp upwards is under way: the level reached so far ramps to the new one
      (fits → still → v.val ≠ d.pwr.vdrv → d.pwr.ramp = some (k, t0) → d.pwr.rampFrom + (t0 - d.now) ≤ d.pwr.vdrv * 10 ^ 8 → d.now ≤ t0 →
        Leads (exec (.pwrVdrvWrite w v) s) s
          { d with pwr := { d.pwr with vdrv := v, ramp := some (min k (min d.pwr.vdrv v),
            d.now + (max level (v.val * 10 ^ 8) - min level (v.val * 10 ^ 8))), rampFrom := level } } w 3 vdrv .ok) ∧
      (fits → still → v.val = d.pwr.vdrv → Leads (exec (.pwrVdrvWrite w v) s) s d w 3 vdrv .ok) ∧
      (fits → ¬ still → Leads (exec (.pwrVdrvWrite w v) s) s d w 3 vdrv .wrongState) ∧
      (¬ fits → Leads (exec (.pwrVdrvWrite w v) s) s d w 3 vdrv .range)) ∧
    (1 ≤ s.seq.released →
      (d.pwr.ramp = some (k, t0) → t0 ≤ d.now → exec .vdrvRampEnd s = .next (s.put { d with pwr := { d.pwr with ramp := none } })) ∧
      ((d.pwr.ramp = none ∨ (d.pwr.ramp = some (k, t0) ∧ d.now < t0)) → exec .vdrvRampEnd s = .next s) ∧
      (d.pwr.prog = some x → ∃ t, exec .fuseProgrammed s = .next t ∧ t.dev.pwr.prog = none ∧ t.dev.rd F.fusePstat_busy = 0 ∧
        t.dev.rd F.fusePstat_ok = 1 ∧ Tbl.get 0 x.1 t.dev.pwr.fuses = Tbl.get 0 x.1 d.pwr.fuses ||| x.2) ∧
      (d.pwr.prog = none → exec .fuseProgrammed s = .next s)) ∧
    (s.GrantsPart w go →
      (may → armed → open_ → Leads (exec (.go w) s) s
        (((({ d with pwr := { d.pwr with prog := some (word, bits) } } : Dev).clr F.fuseKey_key).set1 F.fusePstat_busy).clr F.fusePstat_ok)
          w 3 go .ok) ∧
      (may → ¬ armed → Leads (exec (.go w) s) s d w 3 go .wrongState) ∧
      (may → ¬ open_ → word ≠ 28 → Leads (exec (.go w) s) s d w 3 go .wrongState) ∧
      (¬ (word < 4 ∨ (12 ≤ word ∧ word ≤ 28)) → d.rd F.fusePaddr_word = word → Leads (exec (.go w) s) s d w 3 go .range))

/-! ### Management (17_management_and_log.md) -/

/-- UPD_OPEN, UPDATE_CHUNK, UPD_CLOSE, ACT_FW, ACT_AXES, RECYCLE, MGMT_WATCHDOG_EXPIRY, MGT_RECYCLE and MBOUT_READ (R405 to R413): an operation at
the head of the mailbox completes and its push is answered; a stream programs the inactive slot. -/
def Obligations.ManagementUpdates : Prop :=
  ∀ (s : State) (w : Who) (e : QEnt) (c : Chunk) (l : List Chunk) (by_ : Cmdr) (i : Fin 2) (li : List Nat) (t0 : Nat) (fail : Option (Nat × Nat))
      (k : Fin 8) (n : Fin 8),
    let d := s.dev
    let word := fun (k : Nat) => e.words.getD k 0
    let kind := word 1 % 2
    let slot := 1 - d.rd (if kind = 0 then F.rstBoot_fwslot else F.rstBoot_imgslot)
    let base := slotBase kind slot
    let len := word 2
    let runs := d.mgt.fwRun = true ∧ d.rd F.mgtState_core = 0
    let done := fun (o : Host.Outcome State Fault Refusal) (code : Code) (f : State → Prop) =>
      ∃ t, o = .next t ∧ t.dev.mgt.q26 = d.mgt.q26.drop 1 ∧ t.dev.net = (d.answer e.by_ code).net ∧ f t
    let free := (d.devstate ≠ 0 ∨ d.mgt.noImage = true) ∧ (kind = 1 → ∀ a < 8, bitsOf (d.rd F.mgtAximg_slot) a 1 ≠ slot)
    let fits := c.offset % 4 = 0 ∧ c.offset + c.data.length ≤ d.mgt.updLen
    let streams := d.rd F.mgtUpd_open = 1 ∧ d.rd F.mgtUpd_stream = c.stream
    let sbase := slotBase (d.rd F.mgtUpd_kind) (d.rd F.mgtUpd_slot)
    let ours := d.rd F.mgtUpd_open = 1 ∧ d.rd F.mgtUpd_stream = word 1 / 65536
    let ukind := d.rd F.mgtUpd_kind
    let uslot := d.rd F.mgtUpd_slot
    let whole := d.mgt.updLen ≤ d.mgt.updBytes.length ∧ d.rd F.mgtUpd_broken = 0
    let fwSlot := 1 - d.rd F.rstBoot_fwslot
    let fwGen := d.imgGen (slotBase 0 fwSlot)
    let imSlot := 1 - d.rd F.rstBoot_imgslot
    let im := slotBase 1 imSlot
    let imGen := d.imgGen im
    let axes := (List.range 8).filter (bitOf (word 1))
    let sects := axes.flatMap (d.axisSects im)
    let reached := axes ++ sects.flatMap (d.legOwners im) ++ sects.flatMap d.boundNow
    let allowed := (2 + imSlot) ∈ d.mgt.verified ∧ genNewer imGen (d.imgGen (slotBase 1 (d.rd F.rstBoot_imgslot))) = true ∧ ∀ a ∈ reached, d.axState a = 0
    let y := d.actWrite im imSlot fail axes
    let begun := fun (t : State) (cause : Nat) => t.dev.rd F.mgtState_core = 1 ∧ t.dev.mgt.q26 = [] ∧ t.dev.mgt.q31 = [] ∧ t.dev.mgt.q29 = [] ∧
      t.dev.mgt.recycle = some (d.now + 10 ^ 9, cause) ∧ (d.rd F.mgtUpd_open = 1 → t.dev.rd F.mgtUpd_open = 0 ∧ t.dev.rd F.mgtUpd_ver = 2)
    let win := F.mgtMbout_word.addr k 0
    let got := (if k = 0 then d.mgt.q27.headD [] else Tbl.get [] w.port.val d.mgt.mbWin).getD k 0
    (3 ≤ s.seq.released →
      (d.mbHead 1 = some e →
        (len % 4 = 0 → len ≤ slotSize kind → d.rd F.mgtUpd_open = 0 → free → done (exec .updOpen s) .ok fun t => t.dev.rd F.mgtUpd_open = 1 ∧
          t.dev.rd F.mgtUpd_kind = kind ∧ t.dev.rd F.mgtUpd_slot = slot ∧ t.dev.rd F.mgtUpd_stream = word 1 / 65536 % 65536 ∧
          t.dev.rd F.mgtUpdbytes_bytes = 0 ∧ t.dev.mgt.updLen = len ∧ t.dev.mgt.updBytes = [] ∧ (2 * kind + slot) ∉ t.dev.mgt.verified ∧
          ∀ a, Tbl.get 0xFF a t.dev.flash.bytes =
            if base ≤ a ∧ a < base + (len + 65535) / 65536 * 65536 then 0xFF else Tbl.get 0xFF a d.flash.bytes) ∧
        (len % 4 = 0 → len ≤ slotSize kind → (d.rd F.mgtUpd_open = 1 ∨ ¬ free) → done (exec .updOpen s) .wrongState fun t => t.dev.flash = d.flash) ∧
        ((len % 4 ≠ 0 ∨ slotSize kind < len) → done (exec .updOpen s) .range fun t => t.dev.flash = d.flash)) ∧
      (d.mbHead 1 = none → exec .updOpen s = .next s) ∧
      (d.mgt.q31 = c :: l → d.rd F.mgtState_core ≠ 1 →
        (fits → streams → (∀ j < c.data.length, Tbl.find (c.offset + j) d.mgt.updBytes = none) → ∃ t, exec .updateChunk s = .next t ∧
          t.dev.mgt.q31 = l ∧ (∀ j < c.data.length, Tbl.get 0xFF (sbase + (c.offset + j)) t.dev.flash.bytes = c.data.getD j 0) ∧
          t.dev.rd F.mgtUpdbytes_bytes = min (2 ^ 32 - 1) (d.rd F.mgtUpdbytes_bytes + c.data.length) ∧
          (∀ b ∈ c.by_, t.dev.net = (d.answer b .ok).net)) ∧
        (c.offset % 4 = 0 → (d.rd F.mgtUpd_open = 0 ∨ (fits ∧ ¬ streams)) → c.by_ = none → exec .updateChunk s =
          .next (s.put (({ d with mgt := { d.mgt with q31 := l } } : Dev).bump F.mgtUpdref_refused))) ∧
        (c.offset % 4 = 0 → (d.rd F.mgtUpd_open = 0 ∨ (fits ∧ ¬ streams)) → c.by_ = some by_ → exec .updateChunk s =
          .next (s.put (({ d with mgt := { d.mgt with q31 := l } } : Dev).answer by_ .wrongState)))) ∧
      ((d.mgt.q31 = [] ∨ d.rd F.mgtState_core = 1) → exec .updateChunk s = .next s) ∧
      (d.mbHead 2 = some e →
        (ours → whole → d.headerCheck ukind sbase = 0 → d.laterCheck ukind sbase = 0 → done (exec .updClose s) .ok fun t =>
          t.dev.rd F.mgtUpd_open = 0 ∧ t.dev.rd F.mgtUpd_ver = 1 ∧ (2 * ukind + uslot) ∈ t.dev.mgt.verified) ∧
        (ours → ¬ whole → done (exec .updClose s) .notVerified fun t => t.dev.rd F.mgtUpd_open = 0 ∧ t.dev.rd F.mgtUpd_ver = 2 ∧
          bitOf (t.dev.rd F.rstBoot_bad) (2 * ukind + uslot) = true) ∧
        (¬ ours → done (exec .updClose s) .wrongState fun t => t.dev.rd F.mgtUpd_open = d.rd F.mgtUpd_open)) ∧
      (d.mbHead 3 = some e →
        (fwSlot ∈ d.mgt.verified → genNewer fwGen (d.rd F.mgtFwgen_gen) = true → done (exec .actFw s) .ok fun t =>
          t.dev.mgt.recycle = some (d.now + 10 ^ 9, 1)) ∧
        ((fwSlot ∉ d.mgt.verified ∨ genNewer fwGen (d.rd F.mgtFwgen_gen) = false) → done (exec .actFw s) .wrongState fun t =>
          t.dev.mgt.recycle = d.mgt.recycle)) ∧
      (d.mbHead 4 = some e →
        (allowed → d.valid d im sects = true →
          exec (.actAxes fail) s = .next (s.put ((y.2.mbDone e .ok [y.1]).ev E.mgtActAxes y.1 imGen e.by_.port))) ∧
        (allowed → d.valid d im sects = true → word 1 = 2 ^ n.val → d.axisSects im n = [] → done (exec (.actAxes fail) s) .ok fun t =>
          bitsOf (t.dev.rd F.mgtAximg_slot) n 1 = imSlot ∧ bitOf (t.dev.rd F.mgtAximg_noact) n = false) ∧
        (allowed → d.valid d im sects = false → done (exec (.actAxes fail) s) .notVerified fun t =>
          t.dev.rd F.mgtAximg_slot = d.rd F.mgtAximg_slot) ∧
        (¬ allowed → done (exec (.actAxes fail) s) .wrongState fun t => t.dev.rd F.mgtAximg_slot = d.rd F.mgtAximg_slot)) ∧
      (d.mbHead 5 = some e → ∃ t, exec .recycle s = .next t ∧ begun t 2) ∧
      (d.mbHead 5 = none → exec .recycle s = .next s) ∧
      (runs → ∃ t, exec .mgmtWatchdogExpiry s = .next t ∧ begun t 3 ∧ t.dev.mgt.wdTimes = (d.now :: d.mgt.wdTimes).take 3) ∧
      (¬ runs → exec .mgmtWatchdogExpiry s = .next s) ∧
      (∀ cause, d.mgt.recycle = some (t0, cause) → t0 ≤ d.now → d.mgt.fwRun = true → d.rd F.mgtState_core = 1 →
        (d.candidates 0 = i.val :: li → d.laterCheck 0 (slotBase 0 i) = 0 → ∃ t, exec .mgtRecycle s = .next t ∧ t.dev.rd F.mgtState_core = 0 ∧
          t.dev.rd F.rstBoot_fwslot = i ∧ t.dev.rd F.mgtFwgen_gen = d.imgGen (slotBase 0 i) ∧ t.dev.mgt.recycle = none ∧
          t.dev.rd F.mgtState_recycles = min (2 ^ F.mgtState_recycles.len - 1) (d.rd F.mgtState_recycles + 1)) ∧
        (d.candidates 0 = [] → ∃ t, exec .mgtRecycle s = .next t ∧ t.dev.rd F.mgtState_core = 2)) ∧
      (∀ cause, d.mgt.recycle = some (t0, cause) → t0 ≤ d.now → d.mgt.fwRun = true → d.rd F.mgtState_core = 0 →
        ∃ t, exec .mgtRecycle s = .next t ∧ begun t cause) ∧
      (d.mgt.recycle = none → exec .mgtRecycle s = .next s) ∧
      (∀ cause, d.mgt.recycle = some (t0, cause) → d.now < t0 → exec .mgtRecycle s = .next s)) ∧
    (s.GrantsRead w win →
      ∃ t, exec (.mboutRead w k) s = .next t ∧
        t.dev.net = (d.respond { port := w.port, code := .ok, tag := w.tag, op := 1, addr := win, data := [got] }).net ∧
        t.dev.mgt.q27 = (if k = 7 then d.mgt.q27.drop 1 else d.mgt.q27) ∧ (k = 0 → Tbl.get [] w.port.val t.dev.mgt.mbWin = d.mgt.q27.headD []))

/-- Writes to the wear-managed area of the flash go through Q_29, one entry in each TIME clock with nothing waiting (R39, R391; the pace is the
model's choice, log entry 152). LEHR_STARVED judges the shares of R424 over windows that begin at its rows (model's choice, log entry 158).
SENSOR_SAMPLE, SENSCTL_CLR, CRYSTAL_CHECK, SCRUB_PASS, JOURNAL_FLUSH, LEHR_STARVED, HEALTH, OPSEC_MIRROR and BATCH_SOURCE_RELOAD (R166, R270, R414,
R415, R422, R425 to R428). -/
def Obligations.BackgroundWork : Prop :=
  ∀ (s : State) (w : Who) (vio vcore va vbat addr : BitVec 32) (count ms a v t0 : Nat) (i : Fin 6) (q : List FlashWr),
    let d := s.dev
    let runs := d.mgt.fwRun = true ∧ d.rd F.mgtState_core = 0
    let clr := F.mgtSensctl_clr.addr 0 0
    let sees := fun (t : State) (k : Nat) (v : BitVec 32) => t.dev.rd F.mgtSensNow_value k = v.toNat ∧
      t.dev.rdI F.mgtSensMin_value k = min (d.rdI F.mgtSensMin_value k) v.toInt ∧ t.dev.rdI F.mgtSensMax_value k = max (d.rdI F.mgtSensMax_value k) v.toInt
    let off := count < 23750000 ∨ 26250000 < count
    let hold := d.rd F.timRoot_holdover
    let errs := fun (t : State) (n : Nat) => t.dev.rd F.lehrScrub_passms = min 65535 ms ∧
      t.dev.rd F.lehrScrub_errs = min (2 ^ F.lehrScrub_errs.len - 1) (d.rd F.lehrScrub_errs + n)
    let good := fun (t : State) (a : Nat) => t.dev.bad = d.bad.filter (· != a)
    let x := addr.toNat
    let room := min d.mgt.stage.length (32 - d.mgt.q29.length)
    let since := fun (key total : Nat) => (Tbl.find key d.mgt.lehrBase).map fun b => total - b
    let did := fun (k : Nat) => Tbl.get 0 k d.mgt.did
    let cal := fun (k : Nat) => Tbl.get 0 k d.sns.cals
    let live := fun (n : Nat) => d.rd F.legCfg_use n = 1 ∧ d.rd F.snsCal_ofsen (n / 4) = 1 ∧ d.axState (d.rd F.legCfg_axis n) ≠ 0
    let flashShort :=
      (d.mgt.q31 ≠ [] ∧ ∃ k ∈ since 400 (did 1), k < 10) ∨
      ((d.mgt.stage ≠ [] ∨ ∃ x ∈ d.mgt.q29, x.addr? ≠ none) ∧ ∃ k ∈ since 401 (did 2), k < 10) ∨
      ((∃ c ∈ d.evr.chip, c.written = false) ∧ ∃ k ∈ since 402 d.evr.writes, k < 10) ∨
      ((d.mgt.mirrorWait ≠ none ∨ ∃ x ∈ d.mgt.q29, x.addr? = none) ∧ ∃ k ∈ since 403 (did 3), k < 10)
    let short :=
      (i = 0 ∧ since 0 (did 0) = some 0) ∨
      (i = 1 ∧ ∃ n < 24, live n ∧ ∃ k ∈ since (100 + n) (cal n), k < 100) ∨
      (i = 2 ∧ ∃ g < 6, d.rd F.snsCal_injen g = 1 ∧ ∃ k ∈ since (200 + g) (cal (100 + g)), k < 100) ∨
      (i = 3 ∧ ∃ u < 32, since (300 + u) (cal (200 + u)) = some 0) ∨ (i = 4 ∧ flashShort) ∨
      (i = 5 ∧ d.rd F.mgtTele_en = 1 ∧ d.rd F.netEvcfg_en = 1 ∧ since 500 (did 4) = some 0)
    3 ≤ s.seq.released →
    (runs →
      (∃ t, exec (.sensorSample vio vcore va vbat) s = .next t ∧ sees t 3 vio ∧ sees t 4 vcore ∧ sees t 5 va ∧ sees t 6 vbat ∧
        t.dev.rd F.mgtSensNow_value 0 = d.rd F.snsVbus_v ∧ ∀ n < 24, t.dev.rd F.mgtBstmin_min n =
          if (d.snsLeg n).bstAt.isSome then min (d.rd F.mgtBstmin_min n) (d.rd F.snsBst_v n) else d.rd F.mgtBstmin_min n) ∧
      (∃ t, exec (.crystalCheck count) s = .next t ∧ t.dev.rd F.mgtXtal_fail = (if off then 1 else 0) ∧
        (off → t.dev.rd F.timRoot_holdover = 1) ∧ (off → hold = 0 → t.dev.tim.holdSince = some d.now) ∧
        (¬ off → d.rd F.timRoot_src = 0 → t.dev.rd F.timRoot_holdover = 0) ∧ (¬ off → d.rd F.timRoot_src = 1 → t.dev.rd F.timRoot_holdover = hold)) ∧
      (∃ t, exec (.scrubPass ms []) s = .next t ∧ errs t 0 ∧ t.dev.bad = d.bad) ∧
      (d.hasSource a = true → ∃ t, exec (.scrubPass ms [.config a]) s = .next t ∧ errs t 1 ∧ good t a) ∧
      (d.hasSource a = false → ∃ t, exec (.scrubPass ms [.config a]) s = .next t ∧ errs t 1 ∧ a ∈ t.dev.bad) ∧
      (0x300000 ≤ a → a < 0x380000 → ∃ t, exec (.scrubPass ms [.gather a]) s = .next t ∧ errs t 1 ∧ a ∈ t.dev.bad ∧ t.dev.rd F.gthStat_perr = 1) ∧
      (d.mgt.mirrorWait = none → ∃ t, exec .journalFlush s = .next t ∧ t.dev.flash = d.flash ∧ t.dev.mgt.stage = d.mgt.stage.drop room ∧
        t.dev.mgt.q29 = d.mgt.q29 ++ (d.mgt.stage.take room).map fun x => FlashWr.journal x.1 x.2) ∧
      (d.mgt.q29 = .journal a v :: q → d.flash.journal.length < 131071 → d.mgt.mirrorWait = none → d.mgt.flush = 0 → d.flashDrain =
        let d1 := { d with mgt := { d.mgt with q29 := q }, flash := { d.flash with journal := Tbl.put a v d.flash.journal } }
        (d1.wr F.lehrJrn_fill d1.flash.journal.length).lehrDid 2) ∧
      (d.mgt.q29 = .mirror a v :: q → d.mgt.mirrorWait = none → d.mgt.flush = 0 → d.flashDrain =
        Dev.lehrDid { d with mgt := { d.mgt with q29 := q }, flash := { d.flash with mirror := Tbl.put a (v, crcOfWord v) d.flash.mirror } } 3) ∧
      (d.mgt.q29 = .mirror a v :: q → s.pending = [] → ∃ t, step s = .next t ∧ Tbl.find a t.dev.flash.mirror = some (v, crcOfWord v) ∧
        (v < 2 ^ 32 - 1 → t.dev.flash.mirrorOf a = v)) ∧
      (d.mgt.q29 = .journal a v :: q → d.flash.journal.length < 131071 → s.pending = [] →
        ∃ t, step s = .next t ∧ Tbl.find a t.dev.flash.journal = some v) ∧
      (Tbl.find i d.mgt.lehrAt = none → exec (.lehrStarved i) s = .next (s.put (d.lehrWindow i))) ∧
      (Tbl.find i d.mgt.lehrAt = some t0 → d.now < t0 + 10 ^ 12 → exec (.lehrStarved i) s = .next s) ∧
      (Tbl.find i d.mgt.lehrAt = some t0 → t0 + 10 ^ 12 ≤ d.now → ∃ t, exec (.lehrStarved i) s = .next t ∧
        Tbl.find i t.dev.mgt.lehrAt = some d.now ∧ (bitOf (t.dev.rd F.lehrStarve_mask) i = true ↔ short) ∧
        ∀ j < 6, j ≠ i.val → bitOf (t.dev.rd F.lehrStarve_mask) j = bitOf (d.rd F.lehrStarve_mask) j) ∧
      (d.mgt.flush = 0 → d.mgt.q29.length < 32 → exec .opsecMirror s = .next (s.put { d with mgt := { d.mgt with
        q29 := d.mgt.q29 ++ [.mirror 2 (d.rd F.mgtOpsec_opsec)], mirrorWait := none } })) ∧
      (d.mgt.flush = 0 → 32 ≤ d.mgt.q29.length → exec .opsecMirror s = .next (s.put { d with mgt := { d.mgt with
        mirrorWait := some (d.rd F.mgtOpsec_opsec) } })) ∧
      (x ∈ d.reloads → laneDataAt x = false → d.hasSource x = true →
        ∃ t, exec (.batchSourceReload addr) s = .next t ∧ good t x ∧ t.dev.reloads = d.reloads.filter (· != x) ∧ t.dev.tables = d.tables) ∧
      (x ∈ d.reloads → laneDataAt x = true → ∃ t, exec (.batchSourceReload addr) s = .next t ∧ good t x ∧
        (t.dev.pl ((x - 0x100000) / 0x10000)).dmem = Tbl.set 0 ((x % 0x10000 - 0x8000) / 4)
          (d.laneInitial ((x - 0x100000) / 0x10000) ((x % 0x10000 - 0x8000) / 4)) (d.pl ((x - 0x100000) / 0x10000)).dmem) ∧
      (x ∉ d.reloads → exec (.batchSourceReload addr) s = .next s) ∧
      (d.rd F.mgtTele_en = 1 → d.rd F.netEvcfg_en = 1 → d.net.q22.length < 32 → ∃ t r, exec .health s = .next t ∧ t.dev.net.q22 = d.net.q22 ++ [r] ∧
        r.code = 0x1201 ∧ r.src = 7 ∧ r.suppr = 0 ∧ r.seq = d.rd F.evrNewest_seq)) ∧
    (¬ runs → exec (.sensorSample vio vcore va vbat) s = .next s ∧ exec (.crystalCheck count) s = .next s ∧ exec (.scrubPass ms []) s = .next s ∧
      exec .journalFlush s = .next s ∧ exec (.lehrStarved i) s = .next s ∧ exec .opsecMirror s = .next s ∧
      exec (.batchSourceReload addr) s = .next s) ∧
    (∃ t, exec .health s = .next t ∧ t.dev.mgt.stages = 0 ∧ t.dev.evr.admitted = 0 ∧
      (d.rd F.mgtTele_en = 0 → t.dev.net.q22 = d.net.q22)) ∧
    (s.GrantsPart w clr → ∃ t, exec (.sensctlClr w) s = .next t ∧ s.Answered t w 3 clr .ok ∧
      (∀ k < 14, t.dev.rd F.mgtSensMin_value k = d.rd F.mgtSensNow_value k ∧ t.dev.rd F.mgtSensMax_value k = d.rd F.mgtSensNow_value k) ∧
      ∀ n < 24, t.dev.rd F.mgtBstmin_min n = d.rd F.snsBst_v n)

/-! ### The machine as a whole -/

/-- A step carries out the command at the front of the queue on the state with the rest of the queue; with nothing waiting root time advances
by one TIME clock of 4 ns and the queue and the sequencer stay (that the block idles so is the model's choice, log entry 5). -/
def Obligations.StepTakesFront : Prop :=
  ∀ s : State,
    (∀ c l, s.pending = c :: l → step s = exec c { s with pending := l }) ∧
    (s.pending = [] → step s = .next s.idle ∧ s.idle.dev.now = s.dev.now + 4000 ∧ s.idle.seq = s.seq ∧ s.idle.pending = [] ∧
      (4 ≤ s.seq.released → s.seq.released < 11 → (∀ k < 4, (s.dev.chkh k).mgt = []) → s.idle.dev.tim = s.dev.clockEnd.timeClock.tim))

/-- Every command answers a next state: no ordinary data and no state ends a run. No command touches the queue, none but the rows of the reset
sequencer touches the sequencer, and while every domain is in reset none but these changes anything (R381 to R384). -/
def Obligations.EveryCommandAnswers : Prop :=
  ∀ (c : Instr) (s : State),
    let sequencer := (∃ k, c = .resetN k) ∨ (∃ r k, c = .mainPowerOnReset r k) ∨ (∃ v k, c = .backupPowerOnReset v k) ∨ (∃ v k, c = .backupResetRelease v k) ∨
      (∃ k v, c = .buckStart k v) ∨ (∃ v, c = .buckStop v) ∨ (∃ k h r m, c = .sequenceStart k h r m) ∨ (∃ n, c = .sourceGood n) ∨
      (∃ k, c = .domainRelease k) ∨ c = .rstGapExpiry ∨
      c = .sequenceStop
    ∃ t, exec c s = .next t ∧ t.pending = s.pending ∧ (sequencer ∨ t.seq = s.seq ∧ (s.seq.released = 0 → t = s))

/-- Every step keeps the reset sequencer consistent (R382 to R386): what is released is what its phase says. -/
def Obligations.SequenceStaysConsistent : Prop :=
  ∀ s t : State, Seq.ok s.seq → step s = .next t → Seq.ok t.seq

/-- After reset the sequencer is consistent with every domain in reset, nothing waits, the memories are canonical and every register field
holds the reset value of its register map (R12, R380). -/
def Obligations.ResetState : Prop :=
  Seq.ok State.reset.seq ∧ State.reset.seq.released = 0 ∧ State.reset.pending = [] ∧ State.reset.dev.memWf = true ∧
    ∀ (f : Fld) (i j : Nat), State.reset.dev.rd f i j = f.reset % 2 ^ f.len

/-- Decoding and encoding of lane instructions agree at every operand (R258): no bit of a word is dropped, none that must be 0 is let pass. -/
def Obligations.LaneWordsDecode : Prop :=
  (∀ o : LOp, o.encode < 2 ^ 32 ∧ LOp.decode o.encode = some o) ∧ ∀ (w : Nat) (o : LOp), w < 2 ^ 32 → LOp.decode w = some o → o.encode = w

/-- The rounding and the saturation that the meanings use (R4): the quotient is a nearest integer, at a tie the even one; a value outside the
signed range becomes the nearest limit, a value inside stays. -/
def Obligations.RoundingIsToNearestEven : Prop :=
  (∀ (x : Int) (k : Nat), 0 < k →
    let q := rneDiv x k
    (∀ y : Int, (q * k - x).natAbs ≤ (y * k - x).natAbs) ∧ ∀ y : Int, y ≠ q → (q * k - x).natAbs = (y * k - x).natAbs → q % 2 = 0) ∧
  ∀ (x : Int) (n : Nat), 0 < n →
    let lo : Int := -(2 ^ (n - 1))
    let hi : Int := 2 ^ (n - 1) - 1
    (x < lo → satS n x = lo) ∧ (hi < x → satS n x = hi) ∧ (lo ≤ x → x ≤ hi → satS n x = x)

/-! ### Frames -/

/-- Frame of the commands of the CAN port, field I/O, the safe stop, the network ports, the event recorder, the management program and the check
units (R5, R13, R316 to R350, R354 to R375, R401 to R423): each changes its own block and its registers, the event recorder, and where named the
frames that wait; every other register, memory and queue is as it was. -/
def Obligations.PlatformFrames : Prop :=
  ∀ s : State,
    let d := s.dev
    let only := fun (c : Instr) (k : Dev → Dev) => ∀ t, exec c s = .next t → t = s.put (k t.dev)
    let can := fun (e : Dev) => { d with
        freeIdx := e.freeIdx, evr := e.evr, net := e.net, can := e.can
        regs := { d.regs with can := e.regs.can, evr := e.regs.evr } }
    let fio := fun (e : Dev) => { d with
        evr := e.evr, gth := e.gth, fio := e.fio
        regs := { d.regs with evr := e.regs.evr, fio := e.regs.fio, gth := e.regs.gth } }
    let saf := fun (e : Dev) => { d with
        evr := e.evr, net := e.net, saf := e.saf
        regs := { d.regs with evr := e.regs.evr, saf := e.regs.saf } }
    let net := fun (e : Dev) => { d with
        freeIdx := e.freeIdx, evr := e.evr, net := e.net, mgt := e.mgt, gth := e.gth
        regs := { d.regs with evr := e.regs.evr, glb := e.regs.glb, net := e.regs.net } }
    let egress := fun (e : Dev) => { d with
        freeIdx := e.freeIdx, evr := e.evr, net := e.net, mgt := e.mgt, gth := e.gth, tim := e.tim
        regs := { d.regs with evr := e.regs.evr, glb := e.regs.glb, net := e.regs.net } }
    let link := fun (e : Dev) => { d with
        freeIdx := e.freeIdx, evr := e.evr, net := e.net, tim := e.tim, ax := e.ax, mgt := e.mgt, gth := e.gth, can := e.can, chk := e.chk
        regs := { d.regs with evr := e.regs.evr, glb := e.regs.glb, net := e.regs.net } }
    let evr := fun (e : Dev) => { d with
        evr := e.evr, net := e.net, flash := e.flash
        regs := { d.regs with evr := e.regs.evr } }
    let mgt := fun (e : Dev) => { d with
        freeIdx := e.freeIdx, evr := e.evr, net := e.net, flash := e.flash, mgt := e.mgt
        regs := { d.regs with evr := e.regs.evr, mgt := e.regs.mgt, rst := e.regs.rst } }
    let chk := fun (e : Dev) => { d with
        evr := e.evr, net := e.net, mgt := e.mgt, chk := e.chk, bad := e.bad, reloads := e.reloads
        regs := { d.regs with chk := e.regs.chk, evr := e.regs.evr, mgt := e.regs.mgt } }
    (∀ f esi, only (.canFrameRx f esi) can) ∧ (∀ k, only (.rxoLockTimeout k) can) ∧ only (.canQ20Entry) can ∧ only (.arbitrationStart) can ∧
    only (.canTxDone) can ∧ (∀ by_, only (.canWake by_) can) ∧ only (.canEstate) can ∧ only (.canRecovered) can ∧
    (∀ tec rec failed, only (.canBusError tec rec failed) can) ∧ only (.canBusIdle) can ∧ (∀ n mv k, only (.fiLevelChange n mv k) fio) ∧
    (∀ n ms, only (.fiWireBreak n ms) fio) ∧ (∀ n ms, only (.fiWireBreakCleared n ms) fio) ∧ only (.fieldOutputRequest) fio ∧ (∀ k, only (.foPulseEnd k) fio) ∧
    (∀ k us, only (.foOverload k us) fio) ∧ (∀ k, only (.foOvertemp k) fio) ∧ (∀ k, only (.foCooled k) fio) ∧ (∀ k ms, only (.foOpenWire k ms) fio) ∧
    (∀ k ms, only (.foShortToVf k ms) fio) ∧ (∀ k short ms, only (.foDiagClear k short ms) fio) ∧ only (.fioWdExpired) fio ∧
    (∀ mv us, only (.fioVfState mv us) fio) ∧ (∀ clocks, only (.stoNLow clocks) saf) ∧ (∀ clocks, only (.stoNRelease clocks) saf) ∧
    (∀ clocks, only (.testPulse clocks) saf) ∧ only (.tpmiss) saf ∧ only (.safeCopyCheck) saf ∧ only (.safeWindowExpiry) saf ∧
    only (.safePairTimeout) saf ∧ (∀ clocks, only (.safetyReset clocks) saf) ∧ (∀ first second third, only (.sealScan first second third) saf) ∧
    (∀ g us, only (.genReadbackFail g us) saf) ∧ (∀ g us pass, only (.genRuntimeTest g us pass) saf) ∧ (∀ g, only (.safTestOverdue g) saf) ∧
    only (.cmdFrame) net ∧ (∀ p ms, only (.linkUp p ms) net) ∧ (∀ p why, only (.linkDown p why) link) ∧ (∀ p f good, only (.frameForward p f good) egress) ∧
    only (.evxFrameTaken) net ∧ (∀ p, only (.egressIdle p) egress) ∧ only (.safeFrameRx) net ∧ (∀ port, only (.rspFrame port) net) ∧
    (∀ p, only (.netStatusGated p) net) ∧ only (.eventFrame) net ∧ (∀ m, only (.hostMessage m) net) ∧ (∀ bytes, only (.serviceMessage bytes) net) ∧
    (∀ p data, only (.mdioDone p data) net) ∧ (∀ p recovered, only (.rxClockChangeover p recovered) net) ∧ only (.bulkFrame) net ∧
    (∀ p r, only (.pdelayResponse p r) net) ∧ only (.gmSyncSend) net ∧ only (.gmAnnounceSend) net ∧
    (∀ code sev src data0 data1, only (.recordPush code sev src data0 data1) evr) ∧ only (.recordAdmission) evr ∧
    (∀ code, only (.tokenRefill code) evr) ∧ only (.evrFetch) evr ∧ only (.ringEraseDone) evr ∧ only (.flashRingWrite) evr ∧ only (.updOpen) mgt ∧
    only (.actFw) mgt ∧ only (.recycle) mgt ∧ only (.updateChunk) mgt ∧ only (.mgmtWatchdogExpiry) mgt ∧ only (.journalFlush) mgt ∧
    (∀ i, only (.lehrStarved i) mgt) ∧ only (.health) mgt ∧ only (.opsecMirror) mgt ∧ (∀ k, only (.chkFeedDone k) chk)

/-- Frame of the commands and events of axes and legs, master channels, current sensing, feedback, lanes, gather and time (R13, R76 to R190,
R245 to R285): each changes its own blocks, and where named the blocks it acts on; tables, flash, fuses and every other block are as they were. -/
def Obligations.MotionFrames : Prop :=
  ∀ s : State,
    let d := s.dev
    let only := fun (c : Instr) (k : Dev → Dev) => ∀ t, exec c s = .next t → t = s.put (k t.dev)
    let axis := fun (e : Dev) => { d with
        evr := e.evr, net := e.net, ax := e.ax, leg := e.leg, trip := e.trip, sns := e.sns, fbk := e.fbk
        regs := { d.regs with axs := e.regs.axs, evr := e.regs.evr, fbk := e.regs.fbk, leg := e.regs.leg } }
    let command := fun (e : Dev) => { d with
        evr := e.evr, net := e.net, tim := e.tim, ax := e.ax, leg := e.leg, trip := e.trip, sns := e.sns, mgt := e.mgt, bad := e.bad
        reloads := e.reloads
        regs := { d.regs with axs := e.regs.axs, evr := e.regs.evr, fbk := e.regs.fbk, gaf := e.regs.gaf, leg := e.regs.leg, mgt := e.regs.mgt, net := e.regs.net } }
    let gaffer := fun (e : Dev) => { d with
        evr := e.evr, net := e.net, gm := e.gm, ax := e.ax
        regs := { d.regs with evr := e.regs.evr, gaf := e.regs.gaf, net := e.regs.net } }
    let sense := fun (e : Dev) => { d with
        freeIdx := e.freeIdx, evr := e.evr, sns := e.sns, gth := e.gth
        regs := { d.regs with evr := e.regs.evr, gth := e.regs.gth, sns := e.regs.sns } }
    let aux := fun (e : Dev) => { d with
        evr := e.evr, sns := e.sns, gth := e.gth
        regs := { d.regs with evr := e.regs.evr, gth := e.regs.gth, mgt := e.regs.mgt, sns := e.regs.sns } }
    let feedback := fun (e : Dev) => { d with
        freeIdx := e.freeIdx, evr := e.evr, fbk := e.fbk, gth := e.gth
        regs := { d.regs with evr := e.regs.evr, fbk := e.regs.fbk } }
    let word := fun (e : Dev) => { d with
        freeIdx := e.freeIdx, evr := e.evr, ax := e.ax, fbk := e.fbk, gth := e.gth
        regs := { d.regs with evr := e.regs.evr, fbk := e.regs.fbk } }
    let lane := fun (e : Dev) => { d with
        evr := e.evr, lane := e.lane, gth := e.gth, bad := e.bad, reloads := e.reloads
        regs := { d.regs with evr := e.regs.evr, gth := e.regs.gth, pnt := e.regs.pnt } }
    let gather := fun (e : Dev) => { d with
        freeIdx := e.freeIdx, evr := e.evr, net := e.net, tim := e.tim, gth := e.gth, bad := e.bad
        regs := { d.regs with evr := e.regs.evr, gth := e.regs.gth } }
    let time := fun (e : Dev) => { d with
        freeIdx := e.freeIdx, evr := e.evr, tim := e.tim, ax := e.ax, gth := e.gth, fio := e.fio
        regs := { d.regs with axs := e.regs.axs, can := e.regs.can, evr := e.regs.evr, gth := e.regs.gth, tim := e.regs.tim } }
    (∀ n by_, only (.axisFaultEntry n by_) axis) ∧ (∀ n by_, only (.controlledStopCause n by_) axis) ∧ (∀ n, only (.loopHoldExpired n) axis) ∧
    (∀ n, only (.axStopTimeout n) axis) ∧ (∀ n, only (.autostill n) axis) ∧ (∀ legs, only (.handshakeTimeout legs) axis) ∧
    (∀ n, only (.stepTimerExpiry n) axis) ∧ (∀ l, only (.bstUv l) axis) ∧ (∀ g celsius, only (.otMeasurement g celsius) axis) ∧
    (∀ src mv k, only (.supplyTripChange src mv k) axis) ∧ (∀ k level n, only (.tripInputChange k level n) axis) ∧
    (∀ n high x more, only (.scReport n high x more) axis) ∧ (∀ n low, only (.edgeDue n low) axis) ∧
    (∀ n, only (.brakeState n) axis) ∧ (∀ n, only (.brakePullEnd n) axis) ∧ (∀ n, only (.gateSensedLow n) axis) ∧
    (∀ u taps, only (.delayLineCalibration u taps) axis) ∧ (∀ n mv, only (.bstLockoutRelease n mv) axis) ∧ (∀ n, only (.carrierUpdate n) axis) ∧
    (∀ q a b, only (.fqEdge q a b) axis) ∧ (∀ q level k, only (.fqIndex q level k) axis) ∧ (∀ q, only (.sincosSample q) axis) ∧ (∀ w n, only (.run w n) command) ∧
    (∀ w n, only (.still w n) command) ∧ (∀ w n, only (.enable w n) command) ∧ (∀ w n, only (.disable w n) command) ∧
    (∀ w n, only (.stop w n) command) ∧ (∀ w n, only (.abort w n) command) ∧ (∀ w n, only (.flush w n) command) ∧
    (∀ w n, only (.closeCur w n) command) ∧ (∀ w n, only (.closeVel w n) command) ∧ (∀ w n, only (.closePos w n) command) ∧
    (∀ w n, only (.openCur w n) command) ∧ (∀ w n, only (.openVel w n) command) ∧ (∀ w n, only (.openPos w n) command) ∧
    (∀ w n phase, only (.engage w n phase) command) ∧ (∀ w n phase, only (.disengage w n phase) command) ∧
    (∀ w n cur next nxv, only (.camselArm w n cur next nxv) command) ∧ (∀ w src v, only (.lmshiftWrite w src v) command) ∧
    (∀ m words, only (.gafferSegment m words) gaffer) ∧ only (.gafferFrame) gaffer ∧ (∀ m, only (.segmentLive m) gaffer) ∧
    (∀ m, only (.gmStale m) gaffer) ∧ (∀ m, only (.gmGraceExpired m) gaffer) ∧ (∀ c ch v, only (.auxConversion c ch v) aux) ∧
    (∀ n code, only (.gainInjection n code) sense) ∧ (∀ n, only (.holdSet n) sense) ∧ (∀ g codes, only (.holdSetConverted g codes) sense) ∧
    (∀ n code, only (.offsetCalibration n code) sense) ∧ (∀ q sin cos, only (.scHold q sin cos) sense) ∧ (∀ n, only (.snsOfsStale n) sense) ∧
    (∀ n, only (.faFrameStart n) feedback) ∧ (∀ n clk dly bits, only (.faWord n clk dly bits) word) ∧
    (∀ n clk dly, only (.faDelayMeasurement n clk dly) feedback) ∧ (∀ n, only (.faDelayMeasured n) feedback) ∧ (∀ t, only (.latchEvent t) feedback) ∧
    (∀ t level age k, only (.tdcEdge t level age k) feedback) ∧ (∀ n k, only (.hookDue n k) lane) ∧ (∀ n, only (.laneRunStart n) lane) ∧
    (∀ n, only (.laneBudgetExpiry n) lane) ∧ (∀ n, only (.pntFault n) lane) ∧ (∀ n offset, only (.pntParity n offset) lane) ∧
    (∀ n, only (.fin n) lane) ∧ only (.classETrigger) gather ∧ only (.holdOffEnd) gather ∧ only (.trigFrame) gather ∧
    only (.trigFrameTrigger) gather ∧ only (.rowCommit) gather ∧ only (.streamEnd) gather ∧ (∀ p answer, only (.pdelayExchange p answer) time) ∧
    only (.syncclkStop) time ∧ only (.syncclkReturn) time ∧ (∀ tb, only (.tbRateAtLimit tb) time) ∧ (∀ n, only (.launchFire n) time) ∧
    (∀ n c, only (.cmpFired n c) time)
end

