-- ==== Sys2Proof/Laws/State.lean ====
section
/-!
SUPPORT. What an update leaves alone: one lemma for each field of the state and each named update, so that no proof unfolds a record
update.
-/

namespace Sys2Proof.Machine

@[simp] theorem State.reset_pending : State.reset.pending = [] := rfl
@[simp] theorem State.reset_seq : State.reset.seq = {} := rfl
@[simp] theorem State.reset_dev : State.reset.dev = {} := rfl

/-! ### Dev.wr -/

@[simp] theorem Dev.wr_now (d : Dev) (f : Fld) (v i j : Nat) : (d.wr f v i j).now = d.now := rfl
@[simp] theorem Dev.wr_freeIdx (d : Dev) (f : Fld) (v i j : Nat) : (d.wr f v i j).freeIdx = d.freeIdx := rfl
@[simp] theorem Dev.wr_evr (d : Dev) (f : Fld) (v i j : Nat) : (d.wr f v i j).evr = d.evr := rfl
@[simp] theorem Dev.wr_net (d : Dev) (f : Fld) (v i j : Nat) : (d.wr f v i j).net = d.net := rfl
@[simp] theorem Dev.wr_tim (d : Dev) (f : Fld) (v i j : Nat) : (d.wr f v i j).tim = d.tim := rfl
@[simp] theorem Dev.wr_gm (d : Dev) (f : Fld) (v i j : Nat) : (d.wr f v i j).gm = d.gm := rfl
@[simp] theorem Dev.wr_ax (d : Dev) (f : Fld) (v i j : Nat) : (d.wr f v i j).ax = d.ax := rfl
@[simp] theorem Dev.wr_leg (d : Dev) (f : Fld) (v i j : Nat) : (d.wr f v i j).leg = d.leg := rfl
@[simp] theorem Dev.wr_trip (d : Dev) (f : Fld) (v i j : Nat) : (d.wr f v i j).trip = d.trip := rfl
@[simp] theorem Dev.wr_sns (d : Dev) (f : Fld) (v i j : Nat) : (d.wr f v i j).sns = d.sns := rfl
@[simp] theorem Dev.wr_pwr (d : Dev) (f : Fld) (v i j : Nat) : (d.wr f v i j).pwr = d.pwr := rfl
@[simp] theorem Dev.wr_flash (d : Dev) (f : Fld) (v i j : Nat) : (d.wr f v i j).flash = d.flash := rfl
@[simp] theorem Dev.wr_mgt (d : Dev) (f : Fld) (v i j : Nat) : (d.wr f v i j).mgt = d.mgt := rfl
@[simp] theorem Dev.wr_fbk (d : Dev) (f : Fld) (v i j : Nat) : (d.wr f v i j).fbk = d.fbk := rfl
@[simp] theorem Dev.wr_lane (d : Dev) (f : Fld) (v i j : Nat) : (d.wr f v i j).lane = d.lane := rfl
@[simp] theorem Dev.wr_gth (d : Dev) (f : Fld) (v i j : Nat) : (d.wr f v i j).gth = d.gth := rfl
@[simp] theorem Dev.wr_busyFrom (d : Dev) (f : Fld) (v i j : Nat) : (d.wr f v i j).busyFrom = d.busyFrom := rfl
@[simp] theorem Dev.wr_busyTo (d : Dev) (f : Fld) (v i j : Nat) : (d.wr f v i j).busyTo = d.busyTo := rfl
@[simp] theorem Dev.wr_can (d : Dev) (f : Fld) (v i j : Nat) : (d.wr f v i j).can = d.can := rfl
@[simp] theorem Dev.wr_fio (d : Dev) (f : Fld) (v i j : Nat) : (d.wr f v i j).fio = d.fio := rfl
@[simp] theorem Dev.wr_chk (d : Dev) (f : Fld) (v i j : Nat) : (d.wr f v i j).chk = d.chk := rfl
@[simp] theorem Dev.wr_saf (d : Dev) (f : Fld) (v i j : Nat) : (d.wr f v i j).saf = d.saf := rfl
@[simp] theorem Dev.wr_devstate (d : Dev) (f : Fld) (v i j : Nat) : (d.wr f v i j).devstate = d.devstate := rfl
@[simp] theorem Dev.wr_cLo (d : Dev) (f : Fld) (v i j : Nat) : (d.wr f v i j).cLo = d.cLo := rfl
@[simp] theorem Dev.wr_tables (d : Dev) (f : Fld) (v i j : Nat) : (d.wr f v i j).tables = d.tables := rfl
@[simp] theorem Dev.wr_mstep (d : Dev) (f : Fld) (v i j : Nat) : (d.wr f v i j).mstep = d.mstep := rfl
@[simp] theorem Dev.wr_bad (d : Dev) (f : Fld) (v i j : Nat) : (d.wr f v i j).bad = d.bad := rfl
@[simp] theorem Dev.wr_reloads (d : Dev) (f : Fld) (v i j : Nat) : (d.wr f v i j).reloads = d.reloads := rfl

/-! ### Dev.set1 -/

@[simp] theorem Dev.set1_now (d : Dev) (f : Fld) (i j : Nat) : (d.set1 f i j).now = d.now := rfl
@[simp] theorem Dev.set1_freeIdx (d : Dev) (f : Fld) (i j : Nat) : (d.set1 f i j).freeIdx = d.freeIdx := rfl
@[simp] theorem Dev.set1_evr (d : Dev) (f : Fld) (i j : Nat) : (d.set1 f i j).evr = d.evr := rfl
@[simp] theorem Dev.set1_net (d : Dev) (f : Fld) (i j : Nat) : (d.set1 f i j).net = d.net := rfl
@[simp] theorem Dev.set1_tim (d : Dev) (f : Fld) (i j : Nat) : (d.set1 f i j).tim = d.tim := rfl
@[simp] theorem Dev.set1_gm (d : Dev) (f : Fld) (i j : Nat) : (d.set1 f i j).gm = d.gm := rfl
@[simp] theorem Dev.set1_ax (d : Dev) (f : Fld) (i j : Nat) : (d.set1 f i j).ax = d.ax := rfl
@[simp] theorem Dev.set1_leg (d : Dev) (f : Fld) (i j : Nat) : (d.set1 f i j).leg = d.leg := rfl
@[simp] theorem Dev.set1_trip (d : Dev) (f : Fld) (i j : Nat) : (d.set1 f i j).trip = d.trip := rfl
@[simp] theorem Dev.set1_sns (d : Dev) (f : Fld) (i j : Nat) : (d.set1 f i j).sns = d.sns := rfl
@[simp] theorem Dev.set1_pwr (d : Dev) (f : Fld) (i j : Nat) : (d.set1 f i j).pwr = d.pwr := rfl
@[simp] theorem Dev.set1_flash (d : Dev) (f : Fld) (i j : Nat) : (d.set1 f i j).flash = d.flash := rfl
@[simp] theorem Dev.set1_mgt (d : Dev) (f : Fld) (i j : Nat) : (d.set1 f i j).mgt = d.mgt := rfl
@[simp] theorem Dev.set1_fbk (d : Dev) (f : Fld) (i j : Nat) : (d.set1 f i j).fbk = d.fbk := rfl
@[simp] theorem Dev.set1_lane (d : Dev) (f : Fld) (i j : Nat) : (d.set1 f i j).lane = d.lane := rfl
@[simp] theorem Dev.set1_gth (d : Dev) (f : Fld) (i j : Nat) : (d.set1 f i j).gth = d.gth := rfl
@[simp] theorem Dev.set1_busyFrom (d : Dev) (f : Fld) (i j : Nat) : (d.set1 f i j).busyFrom = d.busyFrom := rfl
@[simp] theorem Dev.set1_busyTo (d : Dev) (f : Fld) (i j : Nat) : (d.set1 f i j).busyTo = d.busyTo := rfl
@[simp] theorem Dev.set1_can (d : Dev) (f : Fld) (i j : Nat) : (d.set1 f i j).can = d.can := rfl
@[simp] theorem Dev.set1_fio (d : Dev) (f : Fld) (i j : Nat) : (d.set1 f i j).fio = d.fio := rfl
@[simp] theorem Dev.set1_chk (d : Dev) (f : Fld) (i j : Nat) : (d.set1 f i j).chk = d.chk := rfl
@[simp] theorem Dev.set1_saf (d : Dev) (f : Fld) (i j : Nat) : (d.set1 f i j).saf = d.saf := rfl
@[simp] theorem Dev.set1_devstate (d : Dev) (f : Fld) (i j : Nat) : (d.set1 f i j).devstate = d.devstate := rfl
@[simp] theorem Dev.set1_cLo (d : Dev) (f : Fld) (i j : Nat) : (d.set1 f i j).cLo = d.cLo := rfl
@[simp] theorem Dev.set1_tables (d : Dev) (f : Fld) (i j : Nat) : (d.set1 f i j).tables = d.tables := rfl
@[simp] theorem Dev.set1_mstep (d : Dev) (f : Fld) (i j : Nat) : (d.set1 f i j).mstep = d.mstep := rfl
@[simp] theorem Dev.set1_bad (d : Dev) (f : Fld) (i j : Nat) : (d.set1 f i j).bad = d.bad := rfl
@[simp] theorem Dev.set1_reloads (d : Dev) (f : Fld) (i j : Nat) : (d.set1 f i j).reloads = d.reloads := rfl

/-! ### Dev.clr -/

@[simp] theorem Dev.clr_now (d : Dev) (f : Fld) (i j : Nat) : (d.clr f i j).now = d.now := rfl
@[simp] theorem Dev.clr_freeIdx (d : Dev) (f : Fld) (i j : Nat) : (d.clr f i j).freeIdx = d.freeIdx := rfl
@[simp] theorem Dev.clr_evr (d : Dev) (f : Fld) (i j : Nat) : (d.clr f i j).evr = d.evr := rfl
@[simp] theorem Dev.clr_net (d : Dev) (f : Fld) (i j : Nat) : (d.clr f i j).net = d.net := rfl
@[simp] theorem Dev.clr_tim (d : Dev) (f : Fld) (i j : Nat) : (d.clr f i j).tim = d.tim := rfl
@[simp] theorem Dev.clr_gm (d : Dev) (f : Fld) (i j : Nat) : (d.clr f i j).gm = d.gm := rfl
@[simp] theorem Dev.clr_ax (d : Dev) (f : Fld) (i j : Nat) : (d.clr f i j).ax = d.ax := rfl
@[simp] theorem Dev.clr_leg (d : Dev) (f : Fld) (i j : Nat) : (d.clr f i j).leg = d.leg := rfl
@[simp] theorem Dev.clr_trip (d : Dev) (f : Fld) (i j : Nat) : (d.clr f i j).trip = d.trip := rfl
@[simp] theorem Dev.clr_sns (d : Dev) (f : Fld) (i j : Nat) : (d.clr f i j).sns = d.sns := rfl
@[simp] theorem Dev.clr_pwr (d : Dev) (f : Fld) (i j : Nat) : (d.clr f i j).pwr = d.pwr := rfl
@[simp] theorem Dev.clr_flash (d : Dev) (f : Fld) (i j : Nat) : (d.clr f i j).flash = d.flash := rfl
@[simp] theorem Dev.clr_mgt (d : Dev) (f : Fld) (i j : Nat) : (d.clr f i j).mgt = d.mgt := rfl
@[simp] theorem Dev.clr_fbk (d : Dev) (f : Fld) (i j : Nat) : (d.clr f i j).fbk = d.fbk := rfl
@[simp] theorem Dev.clr_lane (d : Dev) (f : Fld) (i j : Nat) : (d.clr f i j).lane = d.lane := rfl
@[simp] theorem Dev.clr_gth (d : Dev) (f : Fld) (i j : Nat) : (d.clr f i j).gth = d.gth := rfl
@[simp] theorem Dev.clr_busyFrom (d : Dev) (f : Fld) (i j : Nat) : (d.clr f i j).busyFrom = d.busyFrom := rfl
@[simp] theorem Dev.clr_busyTo (d : Dev) (f : Fld) (i j : Nat) : (d.clr f i j).busyTo = d.busyTo := rfl
@[simp] theorem Dev.clr_can (d : Dev) (f : Fld) (i j : Nat) : (d.clr f i j).can = d.can := rfl
@[simp] theorem Dev.clr_fio (d : Dev) (f : Fld) (i j : Nat) : (d.clr f i j).fio = d.fio := rfl
@[simp] theorem Dev.clr_chk (d : Dev) (f : Fld) (i j : Nat) : (d.clr f i j).chk = d.chk := rfl
@[simp] theorem Dev.clr_saf (d : Dev) (f : Fld) (i j : Nat) : (d.clr f i j).saf = d.saf := rfl
@[simp] theorem Dev.clr_devstate (d : Dev) (f : Fld) (i j : Nat) : (d.clr f i j).devstate = d.devstate := rfl
@[simp] theorem Dev.clr_cLo (d : Dev) (f : Fld) (i j : Nat) : (d.clr f i j).cLo = d.cLo := rfl
@[simp] theorem Dev.clr_tables (d : Dev) (f : Fld) (i j : Nat) : (d.clr f i j).tables = d.tables := rfl
@[simp] theorem Dev.clr_mstep (d : Dev) (f : Fld) (i j : Nat) : (d.clr f i j).mstep = d.mstep := rfl
@[simp] theorem Dev.clr_bad (d : Dev) (f : Fld) (i j : Nat) : (d.clr f i j).bad = d.bad := rfl
@[simp] theorem Dev.clr_reloads (d : Dev) (f : Fld) (i j : Nat) : (d.clr f i j).reloads = d.reloads := rfl

/-! ### Dev.wrI -/

@[simp] theorem Dev.wrI_now (d : Dev) (f : Fld) (v : Int) (i j : Nat) : (d.wrI f v i j).now = d.now := rfl
@[simp] theorem Dev.wrI_freeIdx (d : Dev) (f : Fld) (v : Int) (i j : Nat) : (d.wrI f v i j).freeIdx = d.freeIdx := rfl
@[simp] theorem Dev.wrI_evr (d : Dev) (f : Fld) (v : Int) (i j : Nat) : (d.wrI f v i j).evr = d.evr := rfl
@[simp] theorem Dev.wrI_net (d : Dev) (f : Fld) (v : Int) (i j : Nat) : (d.wrI f v i j).net = d.net := rfl
@[simp] theorem Dev.wrI_tim (d : Dev) (f : Fld) (v : Int) (i j : Nat) : (d.wrI f v i j).tim = d.tim := rfl
@[simp] theorem Dev.wrI_gm (d : Dev) (f : Fld) (v : Int) (i j : Nat) : (d.wrI f v i j).gm = d.gm := rfl
@[simp] theorem Dev.wrI_ax (d : Dev) (f : Fld) (v : Int) (i j : Nat) : (d.wrI f v i j).ax = d.ax := rfl
@[simp] theorem Dev.wrI_leg (d : Dev) (f : Fld) (v : Int) (i j : Nat) : (d.wrI f v i j).leg = d.leg := rfl
@[simp] theorem Dev.wrI_trip (d : Dev) (f : Fld) (v : Int) (i j : Nat) : (d.wrI f v i j).trip = d.trip := rfl
@[simp] theorem Dev.wrI_sns (d : Dev) (f : Fld) (v : Int) (i j : Nat) : (d.wrI f v i j).sns = d.sns := rfl
@[simp] theorem Dev.wrI_pwr (d : Dev) (f : Fld) (v : Int) (i j : Nat) : (d.wrI f v i j).pwr = d.pwr := rfl
@[simp] theorem Dev.wrI_flash (d : Dev) (f : Fld) (v : Int) (i j : Nat) : (d.wrI f v i j).flash = d.flash := rfl
@[simp] theorem Dev.wrI_mgt (d : Dev) (f : Fld) (v : Int) (i j : Nat) : (d.wrI f v i j).mgt = d.mgt := rfl
@[simp] theorem Dev.wrI_fbk (d : Dev) (f : Fld) (v : Int) (i j : Nat) : (d.wrI f v i j).fbk = d.fbk := rfl
@[simp] theorem Dev.wrI_lane (d : Dev) (f : Fld) (v : Int) (i j : Nat) : (d.wrI f v i j).lane = d.lane := rfl
@[simp] theorem Dev.wrI_gth (d : Dev) (f : Fld) (v : Int) (i j : Nat) : (d.wrI f v i j).gth = d.gth := rfl
@[simp] theorem Dev.wrI_busyFrom (d : Dev) (f : Fld) (v : Int) (i j : Nat) : (d.wrI f v i j).busyFrom = d.busyFrom := rfl
@[simp] theorem Dev.wrI_busyTo (d : Dev) (f : Fld) (v : Int) (i j : Nat) : (d.wrI f v i j).busyTo = d.busyTo := rfl
@[simp] theorem Dev.wrI_can (d : Dev) (f : Fld) (v : Int) (i j : Nat) : (d.wrI f v i j).can = d.can := rfl
@[simp] theorem Dev.wrI_fio (d : Dev) (f : Fld) (v : Int) (i j : Nat) : (d.wrI f v i j).fio = d.fio := rfl
@[simp] theorem Dev.wrI_chk (d : Dev) (f : Fld) (v : Int) (i j : Nat) : (d.wrI f v i j).chk = d.chk := rfl
@[simp] theorem Dev.wrI_saf (d : Dev) (f : Fld) (v : Int) (i j : Nat) : (d.wrI f v i j).saf = d.saf := rfl
@[simp] theorem Dev.wrI_devstate (d : Dev) (f : Fld) (v : Int) (i j : Nat) : (d.wrI f v i j).devstate = d.devstate := rfl
@[simp] theorem Dev.wrI_cLo (d : Dev) (f : Fld) (v : Int) (i j : Nat) : (d.wrI f v i j).cLo = d.cLo := rfl
@[simp] theorem Dev.wrI_tables (d : Dev) (f : Fld) (v : Int) (i j : Nat) : (d.wrI f v i j).tables = d.tables := rfl
@[simp] theorem Dev.wrI_mstep (d : Dev) (f : Fld) (v : Int) (i j : Nat) : (d.wrI f v i j).mstep = d.mstep := rfl
@[simp] theorem Dev.wrI_bad (d : Dev) (f : Fld) (v : Int) (i j : Nat) : (d.wrI f v i j).bad = d.bad := rfl
@[simp] theorem Dev.wrI_reloads (d : Dev) (f : Fld) (v : Int) (i j : Nat) : (d.wrI f v i j).reloads = d.reloads := rfl

/-! ### Dev.bump -/

@[simp] theorem Dev.bump_now (d : Dev) (f : Fld) (i j by_ : Nat) : (d.bump f i j by_).now = d.now := rfl
@[simp] theorem Dev.bump_freeIdx (d : Dev) (f : Fld) (i j by_ : Nat) : (d.bump f i j by_).freeIdx = d.freeIdx := rfl
@[simp] theorem Dev.bump_evr (d : Dev) (f : Fld) (i j by_ : Nat) : (d.bump f i j by_).evr = d.evr := rfl
@[simp] theorem Dev.bump_net (d : Dev) (f : Fld) (i j by_ : Nat) : (d.bump f i j by_).net = d.net := rfl
@[simp] theorem Dev.bump_tim (d : Dev) (f : Fld) (i j by_ : Nat) : (d.bump f i j by_).tim = d.tim := rfl
@[simp] theorem Dev.bump_gm (d : Dev) (f : Fld) (i j by_ : Nat) : (d.bump f i j by_).gm = d.gm := rfl
@[simp] theorem Dev.bump_ax (d : Dev) (f : Fld) (i j by_ : Nat) : (d.bump f i j by_).ax = d.ax := rfl
@[simp] theorem Dev.bump_leg (d : Dev) (f : Fld) (i j by_ : Nat) : (d.bump f i j by_).leg = d.leg := rfl
@[simp] theorem Dev.bump_trip (d : Dev) (f : Fld) (i j by_ : Nat) : (d.bump f i j by_).trip = d.trip := rfl
@[simp] theorem Dev.bump_sns (d : Dev) (f : Fld) (i j by_ : Nat) : (d.bump f i j by_).sns = d.sns := rfl
@[simp] theorem Dev.bump_pwr (d : Dev) (f : Fld) (i j by_ : Nat) : (d.bump f i j by_).pwr = d.pwr := rfl
@[simp] theorem Dev.bump_flash (d : Dev) (f : Fld) (i j by_ : Nat) : (d.bump f i j by_).flash = d.flash := rfl
@[simp] theorem Dev.bump_mgt (d : Dev) (f : Fld) (i j by_ : Nat) : (d.bump f i j by_).mgt = d.mgt := rfl
@[simp] theorem Dev.bump_fbk (d : Dev) (f : Fld) (i j by_ : Nat) : (d.bump f i j by_).fbk = d.fbk := rfl
@[simp] theorem Dev.bump_lane (d : Dev) (f : Fld) (i j by_ : Nat) : (d.bump f i j by_).lane = d.lane := rfl
@[simp] theorem Dev.bump_gth (d : Dev) (f : Fld) (i j by_ : Nat) : (d.bump f i j by_).gth = d.gth := rfl
@[simp] theorem Dev.bump_busyFrom (d : Dev) (f : Fld) (i j by_ : Nat) : (d.bump f i j by_).busyFrom = d.busyFrom := rfl
@[simp] theorem Dev.bump_busyTo (d : Dev) (f : Fld) (i j by_ : Nat) : (d.bump f i j by_).busyTo = d.busyTo := rfl
@[simp] theorem Dev.bump_can (d : Dev) (f : Fld) (i j by_ : Nat) : (d.bump f i j by_).can = d.can := rfl
@[simp] theorem Dev.bump_fio (d : Dev) (f : Fld) (i j by_ : Nat) : (d.bump f i j by_).fio = d.fio := rfl
@[simp] theorem Dev.bump_chk (d : Dev) (f : Fld) (i j by_ : Nat) : (d.bump f i j by_).chk = d.chk := rfl
@[simp] theorem Dev.bump_saf (d : Dev) (f : Fld) (i j by_ : Nat) : (d.bump f i j by_).saf = d.saf := rfl
@[simp] theorem Dev.bump_devstate (d : Dev) (f : Fld) (i j by_ : Nat) : (d.bump f i j by_).devstate = d.devstate := rfl
@[simp] theorem Dev.bump_cLo (d : Dev) (f : Fld) (i j by_ : Nat) : (d.bump f i j by_).cLo = d.cLo := rfl
@[simp] theorem Dev.bump_tables (d : Dev) (f : Fld) (i j by_ : Nat) : (d.bump f i j by_).tables = d.tables := rfl
@[simp] theorem Dev.bump_mstep (d : Dev) (f : Fld) (i j by_ : Nat) : (d.bump f i j by_).mstep = d.mstep := rfl
@[simp] theorem Dev.bump_bad (d : Dev) (f : Fld) (i j by_ : Nat) : (d.bump f i j by_).bad = d.bad := rfl
@[simp] theorem Dev.bump_reloads (d : Dev) (f : Fld) (i j by_ : Nat) : (d.bump f i j by_).reloads = d.reloads := rfl

/-! ### Dev.bumpMod -/

@[simp] theorem Dev.bumpMod_now (d : Dev) (f : Fld) (i j : Nat) : (d.bumpMod f i j).now = d.now := rfl
@[simp] theorem Dev.bumpMod_freeIdx (d : Dev) (f : Fld) (i j : Nat) : (d.bumpMod f i j).freeIdx = d.freeIdx := rfl
@[simp] theorem Dev.bumpMod_evr (d : Dev) (f : Fld) (i j : Nat) : (d.bumpMod f i j).evr = d.evr := rfl
@[simp] theorem Dev.bumpMod_net (d : Dev) (f : Fld) (i j : Nat) : (d.bumpMod f i j).net = d.net := rfl
@[simp] theorem Dev.bumpMod_tim (d : Dev) (f : Fld) (i j : Nat) : (d.bumpMod f i j).tim = d.tim := rfl
@[simp] theorem Dev.bumpMod_gm (d : Dev) (f : Fld) (i j : Nat) : (d.bumpMod f i j).gm = d.gm := rfl
@[simp] theorem Dev.bumpMod_ax (d : Dev) (f : Fld) (i j : Nat) : (d.bumpMod f i j).ax = d.ax := rfl
@[simp] theorem Dev.bumpMod_leg (d : Dev) (f : Fld) (i j : Nat) : (d.bumpMod f i j).leg = d.leg := rfl
@[simp] theorem Dev.bumpMod_trip (d : Dev) (f : Fld) (i j : Nat) : (d.bumpMod f i j).trip = d.trip := rfl
@[simp] theorem Dev.bumpMod_sns (d : Dev) (f : Fld) (i j : Nat) : (d.bumpMod f i j).sns = d.sns := rfl
@[simp] theorem Dev.bumpMod_pwr (d : Dev) (f : Fld) (i j : Nat) : (d.bumpMod f i j).pwr = d.pwr := rfl
@[simp] theorem Dev.bumpMod_flash (d : Dev) (f : Fld) (i j : Nat) : (d.bumpMod f i j).flash = d.flash := rfl
@[simp] theorem Dev.bumpMod_mgt (d : Dev) (f : Fld) (i j : Nat) : (d.bumpMod f i j).mgt = d.mgt := rfl
@[simp] theorem Dev.bumpMod_fbk (d : Dev) (f : Fld) (i j : Nat) : (d.bumpMod f i j).fbk = d.fbk := rfl
@[simp] theorem Dev.bumpMod_lane (d : Dev) (f : Fld) (i j : Nat) : (d.bumpMod f i j).lane = d.lane := rfl
@[simp] theorem Dev.bumpMod_gth (d : Dev) (f : Fld) (i j : Nat) : (d.bumpMod f i j).gth = d.gth := rfl
@[simp] theorem Dev.bumpMod_busyFrom (d : Dev) (f : Fld) (i j : Nat) : (d.bumpMod f i j).busyFrom = d.busyFrom := rfl
@[simp] theorem Dev.bumpMod_busyTo (d : Dev) (f : Fld) (i j : Nat) : (d.bumpMod f i j).busyTo = d.busyTo := rfl
@[simp] theorem Dev.bumpMod_can (d : Dev) (f : Fld) (i j : Nat) : (d.bumpMod f i j).can = d.can := rfl
@[simp] theorem Dev.bumpMod_fio (d : Dev) (f : Fld) (i j : Nat) : (d.bumpMod f i j).fio = d.fio := rfl
@[simp] theorem Dev.bumpMod_chk (d : Dev) (f : Fld) (i j : Nat) : (d.bumpMod f i j).chk = d.chk := rfl
@[simp] theorem Dev.bumpMod_saf (d : Dev) (f : Fld) (i j : Nat) : (d.bumpMod f i j).saf = d.saf := rfl
@[simp] theorem Dev.bumpMod_devstate (d : Dev) (f : Fld) (i j : Nat) : (d.bumpMod f i j).devstate = d.devstate := rfl
@[simp] theorem Dev.bumpMod_cLo (d : Dev) (f : Fld) (i j : Nat) : (d.bumpMod f i j).cLo = d.cLo := rfl
@[simp] theorem Dev.bumpMod_tables (d : Dev) (f : Fld) (i j : Nat) : (d.bumpMod f i j).tables = d.tables := rfl
@[simp] theorem Dev.bumpMod_mstep (d : Dev) (f : Fld) (i j : Nat) : (d.bumpMod f i j).mstep = d.mstep := rfl
@[simp] theorem Dev.bumpMod_bad (d : Dev) (f : Fld) (i j : Nat) : (d.bumpMod f i j).bad = d.bad := rfl
@[simp] theorem Dev.bumpMod_reloads (d : Dev) (f : Fld) (i j : Nat) : (d.bumpMod f i j).reloads = d.reloads := rfl

/-! ### Dev.freed -/

@[simp] theorem Dev.freed_regs (d : Dev) : (d.freed).regs = d.regs := rfl
@[simp] theorem Dev.freed_now (d : Dev) : (d.freed).now = d.now := rfl
@[simp] theorem Dev.freed_evr (d : Dev) : (d.freed).evr = d.evr := rfl
@[simp] theorem Dev.freed_net (d : Dev) : (d.freed).net = d.net := rfl
@[simp] theorem Dev.freed_tim (d : Dev) : (d.freed).tim = d.tim := rfl
@[simp] theorem Dev.freed_gm (d : Dev) : (d.freed).gm = d.gm := rfl
@[simp] theorem Dev.freed_ax (d : Dev) : (d.freed).ax = d.ax := rfl
@[simp] theorem Dev.freed_leg (d : Dev) : (d.freed).leg = d.leg := rfl
@[simp] theorem Dev.freed_trip (d : Dev) : (d.freed).trip = d.trip := rfl
@[simp] theorem Dev.freed_sns (d : Dev) : (d.freed).sns = d.sns := rfl
@[simp] theorem Dev.freed_pwr (d : Dev) : (d.freed).pwr = d.pwr := rfl
@[simp] theorem Dev.freed_flash (d : Dev) : (d.freed).flash = d.flash := rfl
@[simp] theorem Dev.freed_mgt (d : Dev) : (d.freed).mgt = d.mgt := rfl
@[simp] theorem Dev.freed_fbk (d : Dev) : (d.freed).fbk = d.fbk := rfl
@[simp] theorem Dev.freed_lane (d : Dev) : (d.freed).lane = d.lane := rfl
@[simp] theorem Dev.freed_gth (d : Dev) : (d.freed).gth = d.gth := rfl
@[simp] theorem Dev.freed_busyFrom (d : Dev) : (d.freed).busyFrom = d.busyFrom := rfl
@[simp] theorem Dev.freed_busyTo (d : Dev) : (d.freed).busyTo = d.busyTo := rfl
@[simp] theorem Dev.freed_can (d : Dev) : (d.freed).can = d.can := rfl
@[simp] theorem Dev.freed_fio (d : Dev) : (d.freed).fio = d.fio := rfl
@[simp] theorem Dev.freed_chk (d : Dev) : (d.freed).chk = d.chk := rfl
@[simp] theorem Dev.freed_saf (d : Dev) : (d.freed).saf = d.saf := rfl
@[simp] theorem Dev.freed_devstate (d : Dev) : (d.freed).devstate = d.devstate := rfl
@[simp] theorem Dev.freed_cLo (d : Dev) : (d.freed).cLo = d.cLo := rfl
@[simp] theorem Dev.freed_tables (d : Dev) : (d.freed).tables = d.tables := rfl
@[simp] theorem Dev.freed_mstep (d : Dev) : (d.freed).mstep = d.mstep := rfl
@[simp] theorem Dev.freed_bad (d : Dev) : (d.freed).bad = d.bad := rfl
@[simp] theorem Dev.freed_reloads (d : Dev) : (d.freed).reloads = d.reloads := rfl

/-! ### Dev.modAxis -/

@[simp] theorem Dev.modAxis_regs (d : Dev) (n : Nat) (g : AxH → AxH) : (d.modAxis n g).regs = d.regs := rfl
@[simp] theorem Dev.modAxis_now (d : Dev) (n : Nat) (g : AxH → AxH) : (d.modAxis n g).now = d.now := rfl
@[simp] theorem Dev.modAxis_freeIdx (d : Dev) (n : Nat) (g : AxH → AxH) : (d.modAxis n g).freeIdx = d.freeIdx := rfl
@[simp] theorem Dev.modAxis_evr (d : Dev) (n : Nat) (g : AxH → AxH) : (d.modAxis n g).evr = d.evr := rfl
@[simp] theorem Dev.modAxis_net (d : Dev) (n : Nat) (g : AxH → AxH) : (d.modAxis n g).net = d.net := rfl
@[simp] theorem Dev.modAxis_tim (d : Dev) (n : Nat) (g : AxH → AxH) : (d.modAxis n g).tim = d.tim := rfl
@[simp] theorem Dev.modAxis_gm (d : Dev) (n : Nat) (g : AxH → AxH) : (d.modAxis n g).gm = d.gm := rfl
@[simp] theorem Dev.modAxis_leg (d : Dev) (n : Nat) (g : AxH → AxH) : (d.modAxis n g).leg = d.leg := rfl
@[simp] theorem Dev.modAxis_trip (d : Dev) (n : Nat) (g : AxH → AxH) : (d.modAxis n g).trip = d.trip := rfl
@[simp] theorem Dev.modAxis_sns (d : Dev) (n : Nat) (g : AxH → AxH) : (d.modAxis n g).sns = d.sns := rfl
@[simp] theorem Dev.modAxis_pwr (d : Dev) (n : Nat) (g : AxH → AxH) : (d.modAxis n g).pwr = d.pwr := rfl
@[simp] theorem Dev.modAxis_flash (d : Dev) (n : Nat) (g : AxH → AxH) : (d.modAxis n g).flash = d.flash := rfl
@[simp] theorem Dev.modAxis_mgt (d : Dev) (n : Nat) (g : AxH → AxH) : (d.modAxis n g).mgt = d.mgt := rfl
@[simp] theorem Dev.modAxis_fbk (d : Dev) (n : Nat) (g : AxH → AxH) : (d.modAxis n g).fbk = d.fbk := rfl
@[simp] theorem Dev.modAxis_lane (d : Dev) (n : Nat) (g : AxH → AxH) : (d.modAxis n g).lane = d.lane := rfl
@[simp] theorem Dev.modAxis_gth (d : Dev) (n : Nat) (g : AxH → AxH) : (d.modAxis n g).gth = d.gth := rfl
@[simp] theorem Dev.modAxis_busyFrom (d : Dev) (n : Nat) (g : AxH → AxH) : (d.modAxis n g).busyFrom = d.busyFrom := rfl
@[simp] theorem Dev.modAxis_busyTo (d : Dev) (n : Nat) (g : AxH → AxH) : (d.modAxis n g).busyTo = d.busyTo := rfl
@[simp] theorem Dev.modAxis_can (d : Dev) (n : Nat) (g : AxH → AxH) : (d.modAxis n g).can = d.can := rfl
@[simp] theorem Dev.modAxis_fio (d : Dev) (n : Nat) (g : AxH → AxH) : (d.modAxis n g).fio = d.fio := rfl
@[simp] theorem Dev.modAxis_chk (d : Dev) (n : Nat) (g : AxH → AxH) : (d.modAxis n g).chk = d.chk := rfl
@[simp] theorem Dev.modAxis_saf (d : Dev) (n : Nat) (g : AxH → AxH) : (d.modAxis n g).saf = d.saf := rfl
@[simp] theorem Dev.modAxis_devstate (d : Dev) (n : Nat) (g : AxH → AxH) : (d.modAxis n g).devstate = d.devstate := rfl
@[simp] theorem Dev.modAxis_cLo (d : Dev) (n : Nat) (g : AxH → AxH) : (d.modAxis n g).cLo = d.cLo := rfl
@[simp] theorem Dev.modAxis_tables (d : Dev) (n : Nat) (g : AxH → AxH) : (d.modAxis n g).tables = d.tables := rfl
@[simp] theorem Dev.modAxis_mstep (d : Dev) (n : Nat) (g : AxH → AxH) : (d.modAxis n g).mstep = d.mstep := rfl
@[simp] theorem Dev.modAxis_bad (d : Dev) (n : Nat) (g : AxH → AxH) : (d.modAxis n g).bad = d.bad := rfl
@[simp] theorem Dev.modAxis_reloads (d : Dev) (n : Nat) (g : AxH → AxH) : (d.modAxis n g).reloads = d.reloads := rfl

/-! ### Dev.modLoop -/

@[simp] theorem Dev.modLoop_regs (d : Dev) (n l : Nat) (g : LpH → LpH) : (d.modLoop n l g).regs = d.regs := rfl
@[simp] theorem Dev.modLoop_now (d : Dev) (n l : Nat) (g : LpH → LpH) : (d.modLoop n l g).now = d.now := rfl
@[simp] theorem Dev.modLoop_freeIdx (d : Dev) (n l : Nat) (g : LpH → LpH) : (d.modLoop n l g).freeIdx = d.freeIdx := rfl
@[simp] theorem Dev.modLoop_evr (d : Dev) (n l : Nat) (g : LpH → LpH) : (d.modLoop n l g).evr = d.evr := rfl
@[simp] theorem Dev.modLoop_net (d : Dev) (n l : Nat) (g : LpH → LpH) : (d.modLoop n l g).net = d.net := rfl
@[simp] theorem Dev.modLoop_tim (d : Dev) (n l : Nat) (g : LpH → LpH) : (d.modLoop n l g).tim = d.tim := rfl
@[simp] theorem Dev.modLoop_gm (d : Dev) (n l : Nat) (g : LpH → LpH) : (d.modLoop n l g).gm = d.gm := rfl
@[simp] theorem Dev.modLoop_leg (d : Dev) (n l : Nat) (g : LpH → LpH) : (d.modLoop n l g).leg = d.leg := rfl
@[simp] theorem Dev.modLoop_trip (d : Dev) (n l : Nat) (g : LpH → LpH) : (d.modLoop n l g).trip = d.trip := rfl
@[simp] theorem Dev.modLoop_sns (d : Dev) (n l : Nat) (g : LpH → LpH) : (d.modLoop n l g).sns = d.sns := rfl
@[simp] theorem Dev.modLoop_pwr (d : Dev) (n l : Nat) (g : LpH → LpH) : (d.modLoop n l g).pwr = d.pwr := rfl
@[simp] theorem Dev.modLoop_flash (d : Dev) (n l : Nat) (g : LpH → LpH) : (d.modLoop n l g).flash = d.flash := rfl
@[simp] theorem Dev.modLoop_mgt (d : Dev) (n l : Nat) (g : LpH → LpH) : (d.modLoop n l g).mgt = d.mgt := rfl
@[simp] theorem Dev.modLoop_fbk (d : Dev) (n l : Nat) (g : LpH → LpH) : (d.modLoop n l g).fbk = d.fbk := rfl
@[simp] theorem Dev.modLoop_lane (d : Dev) (n l : Nat) (g : LpH → LpH) : (d.modLoop n l g).lane = d.lane := rfl
@[simp] theorem Dev.modLoop_gth (d : Dev) (n l : Nat) (g : LpH → LpH) : (d.modLoop n l g).gth = d.gth := rfl
@[simp] theorem Dev.modLoop_busyFrom (d : Dev) (n l : Nat) (g : LpH → LpH) : (d.modLoop n l g).busyFrom = d.busyFrom := rfl
@[simp] theorem Dev.modLoop_busyTo (d : Dev) (n l : Nat) (g : LpH → LpH) : (d.modLoop n l g).busyTo = d.busyTo := rfl
@[simp] theorem Dev.modLoop_can (d : Dev) (n l : Nat) (g : LpH → LpH) : (d.modLoop n l g).can = d.can := rfl
@[simp] theorem Dev.modLoop_fio (d : Dev) (n l : Nat) (g : LpH → LpH) : (d.modLoop n l g).fio = d.fio := rfl
@[simp] theorem Dev.modLoop_chk (d : Dev) (n l : Nat) (g : LpH → LpH) : (d.modLoop n l g).chk = d.chk := rfl
@[simp] theorem Dev.modLoop_saf (d : Dev) (n l : Nat) (g : LpH → LpH) : (d.modLoop n l g).saf = d.saf := rfl
@[simp] theorem Dev.modLoop_devstate (d : Dev) (n l : Nat) (g : LpH → LpH) : (d.modLoop n l g).devstate = d.devstate := rfl
@[simp] theorem Dev.modLoop_cLo (d : Dev) (n l : Nat) (g : LpH → LpH) : (d.modLoop n l g).cLo = d.cLo := rfl
@[simp] theorem Dev.modLoop_tables (d : Dev) (n l : Nat) (g : LpH → LpH) : (d.modLoop n l g).tables = d.tables := rfl
@[simp] theorem Dev.modLoop_mstep (d : Dev) (n l : Nat) (g : LpH → LpH) : (d.modLoop n l g).mstep = d.mstep := rfl
@[simp] theorem Dev.modLoop_bad (d : Dev) (n l : Nat) (g : LpH → LpH) : (d.modLoop n l g).bad = d.bad := rfl
@[simp] theorem Dev.modLoop_reloads (d : Dev) (n l : Nat) (g : LpH → LpH) : (d.modLoop n l g).reloads = d.reloads := rfl

/-! ### Dev.modCmp -/

@[simp] theorem Dev.modCmp_regs (d : Dev) (n c : Nat) (g : CmpH → CmpH) : (d.modCmp n c g).regs = d.regs := rfl
@[simp] theorem Dev.modCmp_now (d : Dev) (n c : Nat) (g : CmpH → CmpH) : (d.modCmp n c g).now = d.now := rfl
@[simp] theorem Dev.modCmp_freeIdx (d : Dev) (n c : Nat) (g : CmpH → CmpH) : (d.modCmp n c g).freeIdx = d.freeIdx := rfl
@[simp] theorem Dev.modCmp_evr (d : Dev) (n c : Nat) (g : CmpH → CmpH) : (d.modCmp n c g).evr = d.evr := rfl
@[simp] theorem Dev.modCmp_net (d : Dev) (n c : Nat) (g : CmpH → CmpH) : (d.modCmp n c g).net = d.net := rfl
@[simp] theorem Dev.modCmp_tim (d : Dev) (n c : Nat) (g : CmpH → CmpH) : (d.modCmp n c g).tim = d.tim := rfl
@[simp] theorem Dev.modCmp_gm (d : Dev) (n c : Nat) (g : CmpH → CmpH) : (d.modCmp n c g).gm = d.gm := rfl
@[simp] theorem Dev.modCmp_leg (d : Dev) (n c : Nat) (g : CmpH → CmpH) : (d.modCmp n c g).leg = d.leg := rfl
@[simp] theorem Dev.modCmp_trip (d : Dev) (n c : Nat) (g : CmpH → CmpH) : (d.modCmp n c g).trip = d.trip := rfl
@[simp] theorem Dev.modCmp_sns (d : Dev) (n c : Nat) (g : CmpH → CmpH) : (d.modCmp n c g).sns = d.sns := rfl
@[simp] theorem Dev.modCmp_pwr (d : Dev) (n c : Nat) (g : CmpH → CmpH) : (d.modCmp n c g).pwr = d.pwr := rfl
@[simp] theorem Dev.modCmp_flash (d : Dev) (n c : Nat) (g : CmpH → CmpH) : (d.modCmp n c g).flash = d.flash := rfl
@[simp] theorem Dev.modCmp_mgt (d : Dev) (n c : Nat) (g : CmpH → CmpH) : (d.modCmp n c g).mgt = d.mgt := rfl
@[simp] theorem Dev.modCmp_fbk (d : Dev) (n c : Nat) (g : CmpH → CmpH) : (d.modCmp n c g).fbk = d.fbk := rfl
@[simp] theorem Dev.modCmp_lane (d : Dev) (n c : Nat) (g : CmpH → CmpH) : (d.modCmp n c g).lane = d.lane := rfl
@[simp] theorem Dev.modCmp_gth (d : Dev) (n c : Nat) (g : CmpH → CmpH) : (d.modCmp n c g).gth = d.gth := rfl
@[simp] theorem Dev.modCmp_busyFrom (d : Dev) (n c : Nat) (g : CmpH → CmpH) : (d.modCmp n c g).busyFrom = d.busyFrom := rfl
@[simp] theorem Dev.modCmp_busyTo (d : Dev) (n c : Nat) (g : CmpH → CmpH) : (d.modCmp n c g).busyTo = d.busyTo := rfl
@[simp] theorem Dev.modCmp_can (d : Dev) (n c : Nat) (g : CmpH → CmpH) : (d.modCmp n c g).can = d.can := rfl
@[simp] theorem Dev.modCmp_fio (d : Dev) (n c : Nat) (g : CmpH → CmpH) : (d.modCmp n c g).fio = d.fio := rfl
@[simp] theorem Dev.modCmp_chk (d : Dev) (n c : Nat) (g : CmpH → CmpH) : (d.modCmp n c g).chk = d.chk := rfl
@[simp] theorem Dev.modCmp_saf (d : Dev) (n c : Nat) (g : CmpH → CmpH) : (d.modCmp n c g).saf = d.saf := rfl
@[simp] theorem Dev.modCmp_devstate (d : Dev) (n c : Nat) (g : CmpH → CmpH) : (d.modCmp n c g).devstate = d.devstate := rfl
@[simp] theorem Dev.modCmp_cLo (d : Dev) (n c : Nat) (g : CmpH → CmpH) : (d.modCmp n c g).cLo = d.cLo := rfl
@[simp] theorem Dev.modCmp_tables (d : Dev) (n c : Nat) (g : CmpH → CmpH) : (d.modCmp n c g).tables = d.tables := rfl
@[simp] theorem Dev.modCmp_mstep (d : Dev) (n c : Nat) (g : CmpH → CmpH) : (d.modCmp n c g).mstep = d.mstep := rfl
@[simp] theorem Dev.modCmp_bad (d : Dev) (n c : Nat) (g : CmpH → CmpH) : (d.modCmp n c g).bad = d.bad := rfl
@[simp] theorem Dev.modCmp_reloads (d : Dev) (n c : Nat) (g : CmpH → CmpH) : (d.modCmp n c g).reloads = d.reloads := rfl

/-! ### Dev.modGm -/

@[simp] theorem Dev.modGm_regs (d : Dev) (n : Nat) (g : GmH → GmH) : (d.modGm n g).regs = d.regs := rfl
@[simp] theorem Dev.modGm_now (d : Dev) (n : Nat) (g : GmH → GmH) : (d.modGm n g).now = d.now := rfl
@[simp] theorem Dev.modGm_freeIdx (d : Dev) (n : Nat) (g : GmH → GmH) : (d.modGm n g).freeIdx = d.freeIdx := rfl
@[simp] theorem Dev.modGm_evr (d : Dev) (n : Nat) (g : GmH → GmH) : (d.modGm n g).evr = d.evr := rfl
@[simp] theorem Dev.modGm_net (d : Dev) (n : Nat) (g : GmH → GmH) : (d.modGm n g).net = d.net := rfl
@[simp] theorem Dev.modGm_tim (d : Dev) (n : Nat) (g : GmH → GmH) : (d.modGm n g).tim = d.tim := rfl
@[simp] theorem Dev.modGm_ax (d : Dev) (n : Nat) (g : GmH → GmH) : (d.modGm n g).ax = d.ax := rfl
@[simp] theorem Dev.modGm_leg (d : Dev) (n : Nat) (g : GmH → GmH) : (d.modGm n g).leg = d.leg := rfl
@[simp] theorem Dev.modGm_trip (d : Dev) (n : Nat) (g : GmH → GmH) : (d.modGm n g).trip = d.trip := rfl
@[simp] theorem Dev.modGm_sns (d : Dev) (n : Nat) (g : GmH → GmH) : (d.modGm n g).sns = d.sns := rfl
@[simp] theorem Dev.modGm_pwr (d : Dev) (n : Nat) (g : GmH → GmH) : (d.modGm n g).pwr = d.pwr := rfl
@[simp] theorem Dev.modGm_flash (d : Dev) (n : Nat) (g : GmH → GmH) : (d.modGm n g).flash = d.flash := rfl
@[simp] theorem Dev.modGm_mgt (d : Dev) (n : Nat) (g : GmH → GmH) : (d.modGm n g).mgt = d.mgt := rfl
@[simp] theorem Dev.modGm_fbk (d : Dev) (n : Nat) (g : GmH → GmH) : (d.modGm n g).fbk = d.fbk := rfl
@[simp] theorem Dev.modGm_lane (d : Dev) (n : Nat) (g : GmH → GmH) : (d.modGm n g).lane = d.lane := rfl
@[simp] theorem Dev.modGm_gth (d : Dev) (n : Nat) (g : GmH → GmH) : (d.modGm n g).gth = d.gth := rfl
@[simp] theorem Dev.modGm_busyFrom (d : Dev) (n : Nat) (g : GmH → GmH) : (d.modGm n g).busyFrom = d.busyFrom := rfl
@[simp] theorem Dev.modGm_busyTo (d : Dev) (n : Nat) (g : GmH → GmH) : (d.modGm n g).busyTo = d.busyTo := rfl
@[simp] theorem Dev.modGm_can (d : Dev) (n : Nat) (g : GmH → GmH) : (d.modGm n g).can = d.can := rfl
@[simp] theorem Dev.modGm_fio (d : Dev) (n : Nat) (g : GmH → GmH) : (d.modGm n g).fio = d.fio := rfl
@[simp] theorem Dev.modGm_chk (d : Dev) (n : Nat) (g : GmH → GmH) : (d.modGm n g).chk = d.chk := rfl
@[simp] theorem Dev.modGm_saf (d : Dev) (n : Nat) (g : GmH → GmH) : (d.modGm n g).saf = d.saf := rfl
@[simp] theorem Dev.modGm_devstate (d : Dev) (n : Nat) (g : GmH → GmH) : (d.modGm n g).devstate = d.devstate := rfl
@[simp] theorem Dev.modGm_cLo (d : Dev) (n : Nat) (g : GmH → GmH) : (d.modGm n g).cLo = d.cLo := rfl
@[simp] theorem Dev.modGm_tables (d : Dev) (n : Nat) (g : GmH → GmH) : (d.modGm n g).tables = d.tables := rfl
@[simp] theorem Dev.modGm_mstep (d : Dev) (n : Nat) (g : GmH → GmH) : (d.modGm n g).mstep = d.mstep := rfl
@[simp] theorem Dev.modGm_bad (d : Dev) (n : Nat) (g : GmH → GmH) : (d.modGm n g).bad = d.bad := rfl
@[simp] theorem Dev.modGm_reloads (d : Dev) (n : Nat) (g : GmH → GmH) : (d.modGm n g).reloads = d.reloads := rfl

/-! ### Dev.modTb -/

@[simp] theorem Dev.modTb_regs (d : Dev) (n : Nat) (g : TbH → TbH) : (d.modTb n g).regs = d.regs := rfl
@[simp] theorem Dev.modTb_now (d : Dev) (n : Nat) (g : TbH → TbH) : (d.modTb n g).now = d.now := rfl
@[simp] theorem Dev.modTb_freeIdx (d : Dev) (n : Nat) (g : TbH → TbH) : (d.modTb n g).freeIdx = d.freeIdx := rfl
@[simp] theorem Dev.modTb_evr (d : Dev) (n : Nat) (g : TbH → TbH) : (d.modTb n g).evr = d.evr := rfl
@[simp] theorem Dev.modTb_net (d : Dev) (n : Nat) (g : TbH → TbH) : (d.modTb n g).net = d.net := rfl
@[simp] theorem Dev.modTb_gm (d : Dev) (n : Nat) (g : TbH → TbH) : (d.modTb n g).gm = d.gm := rfl
@[simp] theorem Dev.modTb_ax (d : Dev) (n : Nat) (g : TbH → TbH) : (d.modTb n g).ax = d.ax := rfl
@[simp] theorem Dev.modTb_leg (d : Dev) (n : Nat) (g : TbH → TbH) : (d.modTb n g).leg = d.leg := rfl
@[simp] theorem Dev.modTb_trip (d : Dev) (n : Nat) (g : TbH → TbH) : (d.modTb n g).trip = d.trip := rfl
@[simp] theorem Dev.modTb_sns (d : Dev) (n : Nat) (g : TbH → TbH) : (d.modTb n g).sns = d.sns := rfl
@[simp] theorem Dev.modTb_pwr (d : Dev) (n : Nat) (g : TbH → TbH) : (d.modTb n g).pwr = d.pwr := rfl
@[simp] theorem Dev.modTb_flash (d : Dev) (n : Nat) (g : TbH → TbH) : (d.modTb n g).flash = d.flash := rfl
@[simp] theorem Dev.modTb_mgt (d : Dev) (n : Nat) (g : TbH → TbH) : (d.modTb n g).mgt = d.mgt := rfl
@[simp] theorem Dev.modTb_fbk (d : Dev) (n : Nat) (g : TbH → TbH) : (d.modTb n g).fbk = d.fbk := rfl
@[simp] theorem Dev.modTb_lane (d : Dev) (n : Nat) (g : TbH → TbH) : (d.modTb n g).lane = d.lane := rfl
@[simp] theorem Dev.modTb_gth (d : Dev) (n : Nat) (g : TbH → TbH) : (d.modTb n g).gth = d.gth := rfl
@[simp] theorem Dev.modTb_busyFrom (d : Dev) (n : Nat) (g : TbH → TbH) : (d.modTb n g).busyFrom = d.busyFrom := rfl
@[simp] theorem Dev.modTb_busyTo (d : Dev) (n : Nat) (g : TbH → TbH) : (d.modTb n g).busyTo = d.busyTo := rfl
@[simp] theorem Dev.modTb_can (d : Dev) (n : Nat) (g : TbH → TbH) : (d.modTb n g).can = d.can := rfl
@[simp] theorem Dev.modTb_fio (d : Dev) (n : Nat) (g : TbH → TbH) : (d.modTb n g).fio = d.fio := rfl
@[simp] theorem Dev.modTb_chk (d : Dev) (n : Nat) (g : TbH → TbH) : (d.modTb n g).chk = d.chk := rfl
@[simp] theorem Dev.modTb_saf (d : Dev) (n : Nat) (g : TbH → TbH) : (d.modTb n g).saf = d.saf := rfl
@[simp] theorem Dev.modTb_devstate (d : Dev) (n : Nat) (g : TbH → TbH) : (d.modTb n g).devstate = d.devstate := rfl
@[simp] theorem Dev.modTb_cLo (d : Dev) (n : Nat) (g : TbH → TbH) : (d.modTb n g).cLo = d.cLo := rfl
@[simp] theorem Dev.modTb_tables (d : Dev) (n : Nat) (g : TbH → TbH) : (d.modTb n g).tables = d.tables := rfl
@[simp] theorem Dev.modTb_mstep (d : Dev) (n : Nat) (g : TbH → TbH) : (d.modTb n g).mstep = d.mstep := rfl
@[simp] theorem Dev.modTb_bad (d : Dev) (n : Nat) (g : TbH → TbH) : (d.modTb n g).bad = d.bad := rfl
@[simp] theorem Dev.modTb_reloads (d : Dev) (n : Nat) (g : TbH → TbH) : (d.modTb n g).reloads = d.reloads := rfl

/-! ### Dev.modLch -/

@[simp] theorem Dev.modLch_regs (d : Dev) (n : Nat) (g : LchH → LchH) : (d.modLch n g).regs = d.regs := rfl
@[simp] theorem Dev.modLch_now (d : Dev) (n : Nat) (g : LchH → LchH) : (d.modLch n g).now = d.now := rfl
@[simp] theorem Dev.modLch_freeIdx (d : Dev) (n : Nat) (g : LchH → LchH) : (d.modLch n g).freeIdx = d.freeIdx := rfl
@[simp] theorem Dev.modLch_evr (d : Dev) (n : Nat) (g : LchH → LchH) : (d.modLch n g).evr = d.evr := rfl
@[simp] theorem Dev.modLch_net (d : Dev) (n : Nat) (g : LchH → LchH) : (d.modLch n g).net = d.net := rfl
@[simp] theorem Dev.modLch_gm (d : Dev) (n : Nat) (g : LchH → LchH) : (d.modLch n g).gm = d.gm := rfl
@[simp] theorem Dev.modLch_ax (d : Dev) (n : Nat) (g : LchH → LchH) : (d.modLch n g).ax = d.ax := rfl
@[simp] theorem Dev.modLch_leg (d : Dev) (n : Nat) (g : LchH → LchH) : (d.modLch n g).leg = d.leg := rfl
@[simp] theorem Dev.modLch_trip (d : Dev) (n : Nat) (g : LchH → LchH) : (d.modLch n g).trip = d.trip := rfl
@[simp] theorem Dev.modLch_sns (d : Dev) (n : Nat) (g : LchH → LchH) : (d.modLch n g).sns = d.sns := rfl
@[simp] theorem Dev.modLch_pwr (d : Dev) (n : Nat) (g : LchH → LchH) : (d.modLch n g).pwr = d.pwr := rfl
@[simp] theorem Dev.modLch_flash (d : Dev) (n : Nat) (g : LchH → LchH) : (d.modLch n g).flash = d.flash := rfl
@[simp] theorem Dev.modLch_mgt (d : Dev) (n : Nat) (g : LchH → LchH) : (d.modLch n g).mgt = d.mgt := rfl
@[simp] theorem Dev.modLch_fbk (d : Dev) (n : Nat) (g : LchH → LchH) : (d.modLch n g).fbk = d.fbk := rfl
@[simp] theorem Dev.modLch_lane (d : Dev) (n : Nat) (g : LchH → LchH) : (d.modLch n g).lane = d.lane := rfl
@[simp] theorem Dev.modLch_gth (d : Dev) (n : Nat) (g : LchH → LchH) : (d.modLch n g).gth = d.gth := rfl
@[simp] theorem Dev.modLch_busyFrom (d : Dev) (n : Nat) (g : LchH → LchH) : (d.modLch n g).busyFrom = d.busyFrom := rfl
@[simp] theorem Dev.modLch_busyTo (d : Dev) (n : Nat) (g : LchH → LchH) : (d.modLch n g).busyTo = d.busyTo := rfl
@[simp] theorem Dev.modLch_can (d : Dev) (n : Nat) (g : LchH → LchH) : (d.modLch n g).can = d.can := rfl
@[simp] theorem Dev.modLch_fio (d : Dev) (n : Nat) (g : LchH → LchH) : (d.modLch n g).fio = d.fio := rfl
@[simp] theorem Dev.modLch_chk (d : Dev) (n : Nat) (g : LchH → LchH) : (d.modLch n g).chk = d.chk := rfl
@[simp] theorem Dev.modLch_saf (d : Dev) (n : Nat) (g : LchH → LchH) : (d.modLch n g).saf = d.saf := rfl
@[simp] theorem Dev.modLch_devstate (d : Dev) (n : Nat) (g : LchH → LchH) : (d.modLch n g).devstate = d.devstate := rfl
@[simp] theorem Dev.modLch_cLo (d : Dev) (n : Nat) (g : LchH → LchH) : (d.modLch n g).cLo = d.cLo := rfl
@[simp] theorem Dev.modLch_tables (d : Dev) (n : Nat) (g : LchH → LchH) : (d.modLch n g).tables = d.tables := rfl
@[simp] theorem Dev.modLch_mstep (d : Dev) (n : Nat) (g : LchH → LchH) : (d.modLch n g).mstep = d.mstep := rfl
@[simp] theorem Dev.modLch_bad (d : Dev) (n : Nat) (g : LchH → LchH) : (d.modLch n g).bad = d.bad := rfl
@[simp] theorem Dev.modLch_reloads (d : Dev) (n : Nat) (g : LchH → LchH) : (d.modLch n g).reloads = d.reloads := rfl

/-! ### Dev.modLeg -/

@[simp] theorem Dev.modLeg_regs (d : Dev) (n : Nat) (g : LegH → LegH) : (d.modLeg n g).regs = d.regs := rfl
@[simp] theorem Dev.modLeg_now (d : Dev) (n : Nat) (g : LegH → LegH) : (d.modLeg n g).now = d.now := rfl
@[simp] theorem Dev.modLeg_freeIdx (d : Dev) (n : Nat) (g : LegH → LegH) : (d.modLeg n g).freeIdx = d.freeIdx := rfl
@[simp] theorem Dev.modLeg_evr (d : Dev) (n : Nat) (g : LegH → LegH) : (d.modLeg n g).evr = d.evr := rfl
@[simp] theorem Dev.modLeg_net (d : Dev) (n : Nat) (g : LegH → LegH) : (d.modLeg n g).net = d.net := rfl
@[simp] theorem Dev.modLeg_tim (d : Dev) (n : Nat) (g : LegH → LegH) : (d.modLeg n g).tim = d.tim := rfl
@[simp] theorem Dev.modLeg_gm (d : Dev) (n : Nat) (g : LegH → LegH) : (d.modLeg n g).gm = d.gm := rfl
@[simp] theorem Dev.modLeg_ax (d : Dev) (n : Nat) (g : LegH → LegH) : (d.modLeg n g).ax = d.ax := rfl
@[simp] theorem Dev.modLeg_trip (d : Dev) (n : Nat) (g : LegH → LegH) : (d.modLeg n g).trip = d.trip := rfl
@[simp] theorem Dev.modLeg_sns (d : Dev) (n : Nat) (g : LegH → LegH) : (d.modLeg n g).sns = d.sns := rfl
@[simp] theorem Dev.modLeg_pwr (d : Dev) (n : Nat) (g : LegH → LegH) : (d.modLeg n g).pwr = d.pwr := rfl
@[simp] theorem Dev.modLeg_flash (d : Dev) (n : Nat) (g : LegH → LegH) : (d.modLeg n g).flash = d.flash := rfl
@[simp] theorem Dev.modLeg_mgt (d : Dev) (n : Nat) (g : LegH → LegH) : (d.modLeg n g).mgt = d.mgt := rfl
@[simp] theorem Dev.modLeg_fbk (d : Dev) (n : Nat) (g : LegH → LegH) : (d.modLeg n g).fbk = d.fbk := rfl
@[simp] theorem Dev.modLeg_lane (d : Dev) (n : Nat) (g : LegH → LegH) : (d.modLeg n g).lane = d.lane := rfl
@[simp] theorem Dev.modLeg_gth (d : Dev) (n : Nat) (g : LegH → LegH) : (d.modLeg n g).gth = d.gth := rfl
@[simp] theorem Dev.modLeg_busyFrom (d : Dev) (n : Nat) (g : LegH → LegH) : (d.modLeg n g).busyFrom = d.busyFrom := rfl
@[simp] theorem Dev.modLeg_busyTo (d : Dev) (n : Nat) (g : LegH → LegH) : (d.modLeg n g).busyTo = d.busyTo := rfl
@[simp] theorem Dev.modLeg_can (d : Dev) (n : Nat) (g : LegH → LegH) : (d.modLeg n g).can = d.can := rfl
@[simp] theorem Dev.modLeg_fio (d : Dev) (n : Nat) (g : LegH → LegH) : (d.modLeg n g).fio = d.fio := rfl
@[simp] theorem Dev.modLeg_chk (d : Dev) (n : Nat) (g : LegH → LegH) : (d.modLeg n g).chk = d.chk := rfl
@[simp] theorem Dev.modLeg_saf (d : Dev) (n : Nat) (g : LegH → LegH) : (d.modLeg n g).saf = d.saf := rfl
@[simp] theorem Dev.modLeg_devstate (d : Dev) (n : Nat) (g : LegH → LegH) : (d.modLeg n g).devstate = d.devstate := rfl
@[simp] theorem Dev.modLeg_cLo (d : Dev) (n : Nat) (g : LegH → LegH) : (d.modLeg n g).cLo = d.cLo := rfl
@[simp] theorem Dev.modLeg_tables (d : Dev) (n : Nat) (g : LegH → LegH) : (d.modLeg n g).tables = d.tables := rfl
@[simp] theorem Dev.modLeg_mstep (d : Dev) (n : Nat) (g : LegH → LegH) : (d.modLeg n g).mstep = d.mstep := rfl
@[simp] theorem Dev.modLeg_bad (d : Dev) (n : Nat) (g : LegH → LegH) : (d.modLeg n g).bad = d.bad := rfl
@[simp] theorem Dev.modLeg_reloads (d : Dev) (n : Nat) (g : LegH → LegH) : (d.modLeg n g).reloads = d.reloads := rfl

/-! ### Dev.modSns -/

@[simp] theorem Dev.modSns_regs (d : Dev) (n : Nat) (g : SnsH → SnsH) : (d.modSns n g).regs = d.regs := rfl
@[simp] theorem Dev.modSns_now (d : Dev) (n : Nat) (g : SnsH → SnsH) : (d.modSns n g).now = d.now := rfl
@[simp] theorem Dev.modSns_freeIdx (d : Dev) (n : Nat) (g : SnsH → SnsH) : (d.modSns n g).freeIdx = d.freeIdx := rfl
@[simp] theorem Dev.modSns_evr (d : Dev) (n : Nat) (g : SnsH → SnsH) : (d.modSns n g).evr = d.evr := rfl
@[simp] theorem Dev.modSns_net (d : Dev) (n : Nat) (g : SnsH → SnsH) : (d.modSns n g).net = d.net := rfl
@[simp] theorem Dev.modSns_tim (d : Dev) (n : Nat) (g : SnsH → SnsH) : (d.modSns n g).tim = d.tim := rfl
@[simp] theorem Dev.modSns_gm (d : Dev) (n : Nat) (g : SnsH → SnsH) : (d.modSns n g).gm = d.gm := rfl
@[simp] theorem Dev.modSns_ax (d : Dev) (n : Nat) (g : SnsH → SnsH) : (d.modSns n g).ax = d.ax := rfl
@[simp] theorem Dev.modSns_leg (d : Dev) (n : Nat) (g : SnsH → SnsH) : (d.modSns n g).leg = d.leg := rfl
@[simp] theorem Dev.modSns_trip (d : Dev) (n : Nat) (g : SnsH → SnsH) : (d.modSns n g).trip = d.trip := rfl
@[simp] theorem Dev.modSns_pwr (d : Dev) (n : Nat) (g : SnsH → SnsH) : (d.modSns n g).pwr = d.pwr := rfl
@[simp] theorem Dev.modSns_flash (d : Dev) (n : Nat) (g : SnsH → SnsH) : (d.modSns n g).flash = d.flash := rfl
@[simp] theorem Dev.modSns_mgt (d : Dev) (n : Nat) (g : SnsH → SnsH) : (d.modSns n g).mgt = d.mgt := rfl
@[simp] theorem Dev.modSns_fbk (d : Dev) (n : Nat) (g : SnsH → SnsH) : (d.modSns n g).fbk = d.fbk := rfl
@[simp] theorem Dev.modSns_lane (d : Dev) (n : Nat) (g : SnsH → SnsH) : (d.modSns n g).lane = d.lane := rfl
@[simp] theorem Dev.modSns_gth (d : Dev) (n : Nat) (g : SnsH → SnsH) : (d.modSns n g).gth = d.gth := rfl
@[simp] theorem Dev.modSns_busyFrom (d : Dev) (n : Nat) (g : SnsH → SnsH) : (d.modSns n g).busyFrom = d.busyFrom := rfl
@[simp] theorem Dev.modSns_busyTo (d : Dev) (n : Nat) (g : SnsH → SnsH) : (d.modSns n g).busyTo = d.busyTo := rfl
@[simp] theorem Dev.modSns_can (d : Dev) (n : Nat) (g : SnsH → SnsH) : (d.modSns n g).can = d.can := rfl
@[simp] theorem Dev.modSns_fio (d : Dev) (n : Nat) (g : SnsH → SnsH) : (d.modSns n g).fio = d.fio := rfl
@[simp] theorem Dev.modSns_chk (d : Dev) (n : Nat) (g : SnsH → SnsH) : (d.modSns n g).chk = d.chk := rfl
@[simp] theorem Dev.modSns_saf (d : Dev) (n : Nat) (g : SnsH → SnsH) : (d.modSns n g).saf = d.saf := rfl
@[simp] theorem Dev.modSns_devstate (d : Dev) (n : Nat) (g : SnsH → SnsH) : (d.modSns n g).devstate = d.devstate := rfl
@[simp] theorem Dev.modSns_cLo (d : Dev) (n : Nat) (g : SnsH → SnsH) : (d.modSns n g).cLo = d.cLo := rfl
@[simp] theorem Dev.modSns_tables (d : Dev) (n : Nat) (g : SnsH → SnsH) : (d.modSns n g).tables = d.tables := rfl
@[simp] theorem Dev.modSns_mstep (d : Dev) (n : Nat) (g : SnsH → SnsH) : (d.modSns n g).mstep = d.mstep := rfl
@[simp] theorem Dev.modSns_bad (d : Dev) (n : Nat) (g : SnsH → SnsH) : (d.modSns n g).bad = d.bad := rfl
@[simp] theorem Dev.modSns_reloads (d : Dev) (n : Nat) (g : SnsH → SnsH) : (d.modSns n g).reloads = d.reloads := rfl

/-! ### Dev.modFa -/

@[simp] theorem Dev.modFa_regs (d : Dev) (n : Nat) (g : FaH → FaH) : (d.modFa n g).regs = d.regs := rfl
@[simp] theorem Dev.modFa_now (d : Dev) (n : Nat) (g : FaH → FaH) : (d.modFa n g).now = d.now := rfl
@[simp] theorem Dev.modFa_freeIdx (d : Dev) (n : Nat) (g : FaH → FaH) : (d.modFa n g).freeIdx = d.freeIdx := rfl
@[simp] theorem Dev.modFa_evr (d : Dev) (n : Nat) (g : FaH → FaH) : (d.modFa n g).evr = d.evr := rfl
@[simp] theorem Dev.modFa_net (d : Dev) (n : Nat) (g : FaH → FaH) : (d.modFa n g).net = d.net := rfl
@[simp] theorem Dev.modFa_tim (d : Dev) (n : Nat) (g : FaH → FaH) : (d.modFa n g).tim = d.tim := rfl
@[simp] theorem Dev.modFa_gm (d : Dev) (n : Nat) (g : FaH → FaH) : (d.modFa n g).gm = d.gm := rfl
@[simp] theorem Dev.modFa_ax (d : Dev) (n : Nat) (g : FaH → FaH) : (d.modFa n g).ax = d.ax := rfl
@[simp] theorem Dev.modFa_leg (d : Dev) (n : Nat) (g : FaH → FaH) : (d.modFa n g).leg = d.leg := rfl
@[simp] theorem Dev.modFa_trip (d : Dev) (n : Nat) (g : FaH → FaH) : (d.modFa n g).trip = d.trip := rfl
@[simp] theorem Dev.modFa_sns (d : Dev) (n : Nat) (g : FaH → FaH) : (d.modFa n g).sns = d.sns := rfl
@[simp] theorem Dev.modFa_pwr (d : Dev) (n : Nat) (g : FaH → FaH) : (d.modFa n g).pwr = d.pwr := rfl
@[simp] theorem Dev.modFa_flash (d : Dev) (n : Nat) (g : FaH → FaH) : (d.modFa n g).flash = d.flash := rfl
@[simp] theorem Dev.modFa_mgt (d : Dev) (n : Nat) (g : FaH → FaH) : (d.modFa n g).mgt = d.mgt := rfl
@[simp] theorem Dev.modFa_lane (d : Dev) (n : Nat) (g : FaH → FaH) : (d.modFa n g).lane = d.lane := rfl
@[simp] theorem Dev.modFa_gth (d : Dev) (n : Nat) (g : FaH → FaH) : (d.modFa n g).gth = d.gth := rfl
@[simp] theorem Dev.modFa_busyFrom (d : Dev) (n : Nat) (g : FaH → FaH) : (d.modFa n g).busyFrom = d.busyFrom := rfl
@[simp] theorem Dev.modFa_busyTo (d : Dev) (n : Nat) (g : FaH → FaH) : (d.modFa n g).busyTo = d.busyTo := rfl
@[simp] theorem Dev.modFa_can (d : Dev) (n : Nat) (g : FaH → FaH) : (d.modFa n g).can = d.can := rfl
@[simp] theorem Dev.modFa_fio (d : Dev) (n : Nat) (g : FaH → FaH) : (d.modFa n g).fio = d.fio := rfl
@[simp] theorem Dev.modFa_chk (d : Dev) (n : Nat) (g : FaH → FaH) : (d.modFa n g).chk = d.chk := rfl
@[simp] theorem Dev.modFa_saf (d : Dev) (n : Nat) (g : FaH → FaH) : (d.modFa n g).saf = d.saf := rfl
@[simp] theorem Dev.modFa_devstate (d : Dev) (n : Nat) (g : FaH → FaH) : (d.modFa n g).devstate = d.devstate := rfl
@[simp] theorem Dev.modFa_cLo (d : Dev) (n : Nat) (g : FaH → FaH) : (d.modFa n g).cLo = d.cLo := rfl
@[simp] theorem Dev.modFa_tables (d : Dev) (n : Nat) (g : FaH → FaH) : (d.modFa n g).tables = d.tables := rfl
@[simp] theorem Dev.modFa_mstep (d : Dev) (n : Nat) (g : FaH → FaH) : (d.modFa n g).mstep = d.mstep := rfl
@[simp] theorem Dev.modFa_bad (d : Dev) (n : Nat) (g : FaH → FaH) : (d.modFa n g).bad = d.bad := rfl
@[simp] theorem Dev.modFa_reloads (d : Dev) (n : Nat) (g : FaH → FaH) : (d.modFa n g).reloads = d.reloads := rfl

/-! ### Dev.modFq -/

@[simp] theorem Dev.modFq_regs (d : Dev) (n : Nat) (g : FqH → FqH) : (d.modFq n g).regs = d.regs := rfl
@[simp] theorem Dev.modFq_now (d : Dev) (n : Nat) (g : FqH → FqH) : (d.modFq n g).now = d.now := rfl
@[simp] theorem Dev.modFq_freeIdx (d : Dev) (n : Nat) (g : FqH → FqH) : (d.modFq n g).freeIdx = d.freeIdx := rfl
@[simp] theorem Dev.modFq_evr (d : Dev) (n : Nat) (g : FqH → FqH) : (d.modFq n g).evr = d.evr := rfl
@[simp] theorem Dev.modFq_net (d : Dev) (n : Nat) (g : FqH → FqH) : (d.modFq n g).net = d.net := rfl
@[simp] theorem Dev.modFq_tim (d : Dev) (n : Nat) (g : FqH → FqH) : (d.modFq n g).tim = d.tim := rfl
@[simp] theorem Dev.modFq_gm (d : Dev) (n : Nat) (g : FqH → FqH) : (d.modFq n g).gm = d.gm := rfl
@[simp] theorem Dev.modFq_ax (d : Dev) (n : Nat) (g : FqH → FqH) : (d.modFq n g).ax = d.ax := rfl
@[simp] theorem Dev.modFq_leg (d : Dev) (n : Nat) (g : FqH → FqH) : (d.modFq n g).leg = d.leg := rfl
@[simp] theorem Dev.modFq_trip (d : Dev) (n : Nat) (g : FqH → FqH) : (d.modFq n g).trip = d.trip := rfl
@[simp] theorem Dev.modFq_sns (d : Dev) (n : Nat) (g : FqH → FqH) : (d.modFq n g).sns = d.sns := rfl
@[simp] theorem Dev.modFq_pwr (d : Dev) (n : Nat) (g : FqH → FqH) : (d.modFq n g).pwr = d.pwr := rfl
@[simp] theorem Dev.modFq_flash (d : Dev) (n : Nat) (g : FqH → FqH) : (d.modFq n g).flash = d.flash := rfl
@[simp] theorem Dev.modFq_mgt (d : Dev) (n : Nat) (g : FqH → FqH) : (d.modFq n g).mgt = d.mgt := rfl
@[simp] theorem Dev.modFq_lane (d : Dev) (n : Nat) (g : FqH → FqH) : (d.modFq n g).lane = d.lane := rfl
@[simp] theorem Dev.modFq_gth (d : Dev) (n : Nat) (g : FqH → FqH) : (d.modFq n g).gth = d.gth := rfl
@[simp] theorem Dev.modFq_busyFrom (d : Dev) (n : Nat) (g : FqH → FqH) : (d.modFq n g).busyFrom = d.busyFrom := rfl
@[simp] theorem Dev.modFq_busyTo (d : Dev) (n : Nat) (g : FqH → FqH) : (d.modFq n g).busyTo = d.busyTo := rfl
@[simp] theorem Dev.modFq_can (d : Dev) (n : Nat) (g : FqH → FqH) : (d.modFq n g).can = d.can := rfl
@[simp] theorem Dev.modFq_fio (d : Dev) (n : Nat) (g : FqH → FqH) : (d.modFq n g).fio = d.fio := rfl
@[simp] theorem Dev.modFq_chk (d : Dev) (n : Nat) (g : FqH → FqH) : (d.modFq n g).chk = d.chk := rfl
@[simp] theorem Dev.modFq_saf (d : Dev) (n : Nat) (g : FqH → FqH) : (d.modFq n g).saf = d.saf := rfl
@[simp] theorem Dev.modFq_devstate (d : Dev) (n : Nat) (g : FqH → FqH) : (d.modFq n g).devstate = d.devstate := rfl
@[simp] theorem Dev.modFq_cLo (d : Dev) (n : Nat) (g : FqH → FqH) : (d.modFq n g).cLo = d.cLo := rfl
@[simp] theorem Dev.modFq_tables (d : Dev) (n : Nat) (g : FqH → FqH) : (d.modFq n g).tables = d.tables := rfl
@[simp] theorem Dev.modFq_mstep (d : Dev) (n : Nat) (g : FqH → FqH) : (d.modFq n g).mstep = d.mstep := rfl
@[simp] theorem Dev.modFq_bad (d : Dev) (n : Nat) (g : FqH → FqH) : (d.modFq n g).bad = d.bad := rfl
@[simp] theorem Dev.modFq_reloads (d : Dev) (n : Nat) (g : FqH → FqH) : (d.modFq n g).reloads = d.reloads := rfl

/-! ### Dev.modLt -/

@[simp] theorem Dev.modLt_regs (d : Dev) (n : Nat) (g : LtH → LtH) : (d.modLt n g).regs = d.regs := rfl
@[simp] theorem Dev.modLt_now (d : Dev) (n : Nat) (g : LtH → LtH) : (d.modLt n g).now = d.now := rfl
@[simp] theorem Dev.modLt_freeIdx (d : Dev) (n : Nat) (g : LtH → LtH) : (d.modLt n g).freeIdx = d.freeIdx := rfl
@[simp] theorem Dev.modLt_evr (d : Dev) (n : Nat) (g : LtH → LtH) : (d.modLt n g).evr = d.evr := rfl
@[simp] theorem Dev.modLt_net (d : Dev) (n : Nat) (g : LtH → LtH) : (d.modLt n g).net = d.net := rfl
@[simp] theorem Dev.modLt_tim (d : Dev) (n : Nat) (g : LtH → LtH) : (d.modLt n g).tim = d.tim := rfl
@[simp] theorem Dev.modLt_gm (d : Dev) (n : Nat) (g : LtH → LtH) : (d.modLt n g).gm = d.gm := rfl
@[simp] theorem Dev.modLt_ax (d : Dev) (n : Nat) (g : LtH → LtH) : (d.modLt n g).ax = d.ax := rfl
@[simp] theorem Dev.modLt_leg (d : Dev) (n : Nat) (g : LtH → LtH) : (d.modLt n g).leg = d.leg := rfl
@[simp] theorem Dev.modLt_trip (d : Dev) (n : Nat) (g : LtH → LtH) : (d.modLt n g).trip = d.trip := rfl
@[simp] theorem Dev.modLt_sns (d : Dev) (n : Nat) (g : LtH → LtH) : (d.modLt n g).sns = d.sns := rfl
@[simp] theorem Dev.modLt_pwr (d : Dev) (n : Nat) (g : LtH → LtH) : (d.modLt n g).pwr = d.pwr := rfl
@[simp] theorem Dev.modLt_flash (d : Dev) (n : Nat) (g : LtH → LtH) : (d.modLt n g).flash = d.flash := rfl
@[simp] theorem Dev.modLt_mgt (d : Dev) (n : Nat) (g : LtH → LtH) : (d.modLt n g).mgt = d.mgt := rfl
@[simp] theorem Dev.modLt_lane (d : Dev) (n : Nat) (g : LtH → LtH) : (d.modLt n g).lane = d.lane := rfl
@[simp] theorem Dev.modLt_gth (d : Dev) (n : Nat) (g : LtH → LtH) : (d.modLt n g).gth = d.gth := rfl
@[simp] theorem Dev.modLt_busyFrom (d : Dev) (n : Nat) (g : LtH → LtH) : (d.modLt n g).busyFrom = d.busyFrom := rfl
@[simp] theorem Dev.modLt_busyTo (d : Dev) (n : Nat) (g : LtH → LtH) : (d.modLt n g).busyTo = d.busyTo := rfl
@[simp] theorem Dev.modLt_can (d : Dev) (n : Nat) (g : LtH → LtH) : (d.modLt n g).can = d.can := rfl
@[simp] theorem Dev.modLt_fio (d : Dev) (n : Nat) (g : LtH → LtH) : (d.modLt n g).fio = d.fio := rfl
@[simp] theorem Dev.modLt_chk (d : Dev) (n : Nat) (g : LtH → LtH) : (d.modLt n g).chk = d.chk := rfl
@[simp] theorem Dev.modLt_saf (d : Dev) (n : Nat) (g : LtH → LtH) : (d.modLt n g).saf = d.saf := rfl
@[simp] theorem Dev.modLt_devstate (d : Dev) (n : Nat) (g : LtH → LtH) : (d.modLt n g).devstate = d.devstate := rfl
@[simp] theorem Dev.modLt_cLo (d : Dev) (n : Nat) (g : LtH → LtH) : (d.modLt n g).cLo = d.cLo := rfl
@[simp] theorem Dev.modLt_tables (d : Dev) (n : Nat) (g : LtH → LtH) : (d.modLt n g).tables = d.tables := rfl
@[simp] theorem Dev.modLt_mstep (d : Dev) (n : Nat) (g : LtH → LtH) : (d.modLt n g).mstep = d.mstep := rfl
@[simp] theorem Dev.modLt_bad (d : Dev) (n : Nat) (g : LtH → LtH) : (d.modLt n g).bad = d.bad := rfl
@[simp] theorem Dev.modLt_reloads (d : Dev) (n : Nat) (g : LtH → LtH) : (d.modLt n g).reloads = d.reloads := rfl

/-! ### Dev.modPl -/

@[simp] theorem Dev.modPl_regs (d : Dev) (n : Nat) (g : Lane → Lane) : (d.modPl n g).regs = d.regs := rfl
@[simp] theorem Dev.modPl_now (d : Dev) (n : Nat) (g : Lane → Lane) : (d.modPl n g).now = d.now := rfl
@[simp] theorem Dev.modPl_freeIdx (d : Dev) (n : Nat) (g : Lane → Lane) : (d.modPl n g).freeIdx = d.freeIdx := rfl
@[simp] theorem Dev.modPl_evr (d : Dev) (n : Nat) (g : Lane → Lane) : (d.modPl n g).evr = d.evr := rfl
@[simp] theorem Dev.modPl_net (d : Dev) (n : Nat) (g : Lane → Lane) : (d.modPl n g).net = d.net := rfl
@[simp] theorem Dev.modPl_tim (d : Dev) (n : Nat) (g : Lane → Lane) : (d.modPl n g).tim = d.tim := rfl
@[simp] theorem Dev.modPl_gm (d : Dev) (n : Nat) (g : Lane → Lane) : (d.modPl n g).gm = d.gm := rfl
@[simp] theorem Dev.modPl_ax (d : Dev) (n : Nat) (g : Lane → Lane) : (d.modPl n g).ax = d.ax := rfl
@[simp] theorem Dev.modPl_leg (d : Dev) (n : Nat) (g : Lane → Lane) : (d.modPl n g).leg = d.leg := rfl
@[simp] theorem Dev.modPl_trip (d : Dev) (n : Nat) (g : Lane → Lane) : (d.modPl n g).trip = d.trip := rfl
@[simp] theorem Dev.modPl_sns (d : Dev) (n : Nat) (g : Lane → Lane) : (d.modPl n g).sns = d.sns := rfl
@[simp] theorem Dev.modPl_pwr (d : Dev) (n : Nat) (g : Lane → Lane) : (d.modPl n g).pwr = d.pwr := rfl
@[simp] theorem Dev.modPl_flash (d : Dev) (n : Nat) (g : Lane → Lane) : (d.modPl n g).flash = d.flash := rfl
@[simp] theorem Dev.modPl_mgt (d : Dev) (n : Nat) (g : Lane → Lane) : (d.modPl n g).mgt = d.mgt := rfl
@[simp] theorem Dev.modPl_fbk (d : Dev) (n : Nat) (g : Lane → Lane) : (d.modPl n g).fbk = d.fbk := rfl
@[simp] theorem Dev.modPl_gth (d : Dev) (n : Nat) (g : Lane → Lane) : (d.modPl n g).gth = d.gth := rfl
@[simp] theorem Dev.modPl_busyFrom (d : Dev) (n : Nat) (g : Lane → Lane) : (d.modPl n g).busyFrom = d.busyFrom := rfl
@[simp] theorem Dev.modPl_busyTo (d : Dev) (n : Nat) (g : Lane → Lane) : (d.modPl n g).busyTo = d.busyTo := rfl
@[simp] theorem Dev.modPl_can (d : Dev) (n : Nat) (g : Lane → Lane) : (d.modPl n g).can = d.can := rfl
@[simp] theorem Dev.modPl_fio (d : Dev) (n : Nat) (g : Lane → Lane) : (d.modPl n g).fio = d.fio := rfl
@[simp] theorem Dev.modPl_chk (d : Dev) (n : Nat) (g : Lane → Lane) : (d.modPl n g).chk = d.chk := rfl
@[simp] theorem Dev.modPl_saf (d : Dev) (n : Nat) (g : Lane → Lane) : (d.modPl n g).saf = d.saf := rfl
@[simp] theorem Dev.modPl_devstate (d : Dev) (n : Nat) (g : Lane → Lane) : (d.modPl n g).devstate = d.devstate := rfl
@[simp] theorem Dev.modPl_cLo (d : Dev) (n : Nat) (g : Lane → Lane) : (d.modPl n g).cLo = d.cLo := rfl
@[simp] theorem Dev.modPl_tables (d : Dev) (n : Nat) (g : Lane → Lane) : (d.modPl n g).tables = d.tables := rfl
@[simp] theorem Dev.modPl_mstep (d : Dev) (n : Nat) (g : Lane → Lane) : (d.modPl n g).mstep = d.mstep := rfl
@[simp] theorem Dev.modPl_bad (d : Dev) (n : Nat) (g : Lane → Lane) : (d.modPl n g).bad = d.bad := rfl
@[simp] theorem Dev.modPl_reloads (d : Dev) (n : Nat) (g : Lane → Lane) : (d.modPl n g).reloads = d.reloads := rfl

/-! ### Dev.modChk -/

@[simp] theorem Dev.modChk_regs (d : Dev) (n : Nat) (g : ChkH → ChkH) : (d.modChk n g).regs = d.regs := rfl
@[simp] theorem Dev.modChk_now (d : Dev) (n : Nat) (g : ChkH → ChkH) : (d.modChk n g).now = d.now := rfl
@[simp] theorem Dev.modChk_freeIdx (d : Dev) (n : Nat) (g : ChkH → ChkH) : (d.modChk n g).freeIdx = d.freeIdx := rfl
@[simp] theorem Dev.modChk_evr (d : Dev) (n : Nat) (g : ChkH → ChkH) : (d.modChk n g).evr = d.evr := rfl
@[simp] theorem Dev.modChk_net (d : Dev) (n : Nat) (g : ChkH → ChkH) : (d.modChk n g).net = d.net := rfl
@[simp] theorem Dev.modChk_tim (d : Dev) (n : Nat) (g : ChkH → ChkH) : (d.modChk n g).tim = d.tim := rfl
@[simp] theorem Dev.modChk_gm (d : Dev) (n : Nat) (g : ChkH → ChkH) : (d.modChk n g).gm = d.gm := rfl
@[simp] theorem Dev.modChk_ax (d : Dev) (n : Nat) (g : ChkH → ChkH) : (d.modChk n g).ax = d.ax := rfl
@[simp] theorem Dev.modChk_leg (d : Dev) (n : Nat) (g : ChkH → ChkH) : (d.modChk n g).leg = d.leg := rfl
@[simp] theorem Dev.modChk_trip (d : Dev) (n : Nat) (g : ChkH → ChkH) : (d.modChk n g).trip = d.trip := rfl
@[simp] theorem Dev.modChk_sns (d : Dev) (n : Nat) (g : ChkH → ChkH) : (d.modChk n g).sns = d.sns := rfl
@[simp] theorem Dev.modChk_pwr (d : Dev) (n : Nat) (g : ChkH → ChkH) : (d.modChk n g).pwr = d.pwr := rfl
@[simp] theorem Dev.modChk_flash (d : Dev) (n : Nat) (g : ChkH → ChkH) : (d.modChk n g).flash = d.flash := rfl
@[simp] theorem Dev.modChk_mgt (d : Dev) (n : Nat) (g : ChkH → ChkH) : (d.modChk n g).mgt = d.mgt := rfl
@[simp] theorem Dev.modChk_fbk (d : Dev) (n : Nat) (g : ChkH → ChkH) : (d.modChk n g).fbk = d.fbk := rfl
@[simp] theorem Dev.modChk_lane (d : Dev) (n : Nat) (g : ChkH → ChkH) : (d.modChk n g).lane = d.lane := rfl
@[simp] theorem Dev.modChk_gth (d : Dev) (n : Nat) (g : ChkH → ChkH) : (d.modChk n g).gth = d.gth := rfl
@[simp] theorem Dev.modChk_busyFrom (d : Dev) (n : Nat) (g : ChkH → ChkH) : (d.modChk n g).busyFrom = d.busyFrom := rfl
@[simp] theorem Dev.modChk_busyTo (d : Dev) (n : Nat) (g : ChkH → ChkH) : (d.modChk n g).busyTo = d.busyTo := rfl
@[simp] theorem Dev.modChk_can (d : Dev) (n : Nat) (g : ChkH → ChkH) : (d.modChk n g).can = d.can := rfl
@[simp] theorem Dev.modChk_fio (d : Dev) (n : Nat) (g : ChkH → ChkH) : (d.modChk n g).fio = d.fio := rfl
@[simp] theorem Dev.modChk_saf (d : Dev) (n : Nat) (g : ChkH → ChkH) : (d.modChk n g).saf = d.saf := rfl
@[simp] theorem Dev.modChk_devstate (d : Dev) (n : Nat) (g : ChkH → ChkH) : (d.modChk n g).devstate = d.devstate := rfl
@[simp] theorem Dev.modChk_cLo (d : Dev) (n : Nat) (g : ChkH → ChkH) : (d.modChk n g).cLo = d.cLo := rfl
@[simp] theorem Dev.modChk_tables (d : Dev) (n : Nat) (g : ChkH → ChkH) : (d.modChk n g).tables = d.tables := rfl
@[simp] theorem Dev.modChk_mstep (d : Dev) (n : Nat) (g : ChkH → ChkH) : (d.modChk n g).mstep = d.mstep := rfl
@[simp] theorem Dev.modChk_bad (d : Dev) (n : Nat) (g : ChkH → ChkH) : (d.modChk n g).bad = d.bad := rfl
@[simp] theorem Dev.modChk_reloads (d : Dev) (n : Nat) (g : ChkH → ChkH) : (d.modChk n g).reloads = d.reloads := rfl

/-! ### Dev.modEvr -/

@[simp] theorem Dev.modEvr_regs (d : Dev) (g : EvrH → EvrH) : (d.modEvr g).regs = d.regs := rfl
@[simp] theorem Dev.modEvr_now (d : Dev) (g : EvrH → EvrH) : (d.modEvr g).now = d.now := rfl
@[simp] theorem Dev.modEvr_freeIdx (d : Dev) (g : EvrH → EvrH) : (d.modEvr g).freeIdx = d.freeIdx := rfl
@[simp] theorem Dev.modEvr_net (d : Dev) (g : EvrH → EvrH) : (d.modEvr g).net = d.net := rfl
@[simp] theorem Dev.modEvr_tim (d : Dev) (g : EvrH → EvrH) : (d.modEvr g).tim = d.tim := rfl
@[simp] theorem Dev.modEvr_gm (d : Dev) (g : EvrH → EvrH) : (d.modEvr g).gm = d.gm := rfl
@[simp] theorem Dev.modEvr_ax (d : Dev) (g : EvrH → EvrH) : (d.modEvr g).ax = d.ax := rfl
@[simp] theorem Dev.modEvr_leg (d : Dev) (g : EvrH → EvrH) : (d.modEvr g).leg = d.leg := rfl
@[simp] theorem Dev.modEvr_trip (d : Dev) (g : EvrH → EvrH) : (d.modEvr g).trip = d.trip := rfl
@[simp] theorem Dev.modEvr_sns (d : Dev) (g : EvrH → EvrH) : (d.modEvr g).sns = d.sns := rfl
@[simp] theorem Dev.modEvr_pwr (d : Dev) (g : EvrH → EvrH) : (d.modEvr g).pwr = d.pwr := rfl
@[simp] theorem Dev.modEvr_flash (d : Dev) (g : EvrH → EvrH) : (d.modEvr g).flash = d.flash := rfl
@[simp] theorem Dev.modEvr_mgt (d : Dev) (g : EvrH → EvrH) : (d.modEvr g).mgt = d.mgt := rfl
@[simp] theorem Dev.modEvr_fbk (d : Dev) (g : EvrH → EvrH) : (d.modEvr g).fbk = d.fbk := rfl
@[simp] theorem Dev.modEvr_lane (d : Dev) (g : EvrH → EvrH) : (d.modEvr g).lane = d.lane := rfl
@[simp] theorem Dev.modEvr_gth (d : Dev) (g : EvrH → EvrH) : (d.modEvr g).gth = d.gth := rfl
@[simp] theorem Dev.modEvr_busyFrom (d : Dev) (g : EvrH → EvrH) : (d.modEvr g).busyFrom = d.busyFrom := rfl
@[simp] theorem Dev.modEvr_busyTo (d : Dev) (g : EvrH → EvrH) : (d.modEvr g).busyTo = d.busyTo := rfl
@[simp] theorem Dev.modEvr_can (d : Dev) (g : EvrH → EvrH) : (d.modEvr g).can = d.can := rfl
@[simp] theorem Dev.modEvr_fio (d : Dev) (g : EvrH → EvrH) : (d.modEvr g).fio = d.fio := rfl
@[simp] theorem Dev.modEvr_chk (d : Dev) (g : EvrH → EvrH) : (d.modEvr g).chk = d.chk := rfl
@[simp] theorem Dev.modEvr_saf (d : Dev) (g : EvrH → EvrH) : (d.modEvr g).saf = d.saf := rfl
@[simp] theorem Dev.modEvr_devstate (d : Dev) (g : EvrH → EvrH) : (d.modEvr g).devstate = d.devstate := rfl
@[simp] theorem Dev.modEvr_cLo (d : Dev) (g : EvrH → EvrH) : (d.modEvr g).cLo = d.cLo := rfl
@[simp] theorem Dev.modEvr_tables (d : Dev) (g : EvrH → EvrH) : (d.modEvr g).tables = d.tables := rfl
@[simp] theorem Dev.modEvr_mstep (d : Dev) (g : EvrH → EvrH) : (d.modEvr g).mstep = d.mstep := rfl
@[simp] theorem Dev.modEvr_bad (d : Dev) (g : EvrH → EvrH) : (d.modEvr g).bad = d.bad := rfl
@[simp] theorem Dev.modEvr_reloads (d : Dev) (g : EvrH → EvrH) : (d.modEvr g).reloads = d.reloads := rfl

/-! ### Dev.modNet -/

@[simp] theorem Dev.modNet_regs (d : Dev) (g : NetH → NetH) : (d.modNet g).regs = d.regs := rfl
@[simp] theorem Dev.modNet_now (d : Dev) (g : NetH → NetH) : (d.modNet g).now = d.now := rfl
@[simp] theorem Dev.modNet_freeIdx (d : Dev) (g : NetH → NetH) : (d.modNet g).freeIdx = d.freeIdx := rfl
@[simp] theorem Dev.modNet_evr (d : Dev) (g : NetH → NetH) : (d.modNet g).evr = d.evr := rfl
@[simp] theorem Dev.modNet_tim (d : Dev) (g : NetH → NetH) : (d.modNet g).tim = d.tim := rfl
@[simp] theorem Dev.modNet_gm (d : Dev) (g : NetH → NetH) : (d.modNet g).gm = d.gm := rfl
@[simp] theorem Dev.modNet_ax (d : Dev) (g : NetH → NetH) : (d.modNet g).ax = d.ax := rfl
@[simp] theorem Dev.modNet_leg (d : Dev) (g : NetH → NetH) : (d.modNet g).leg = d.leg := rfl
@[simp] theorem Dev.modNet_trip (d : Dev) (g : NetH → NetH) : (d.modNet g).trip = d.trip := rfl
@[simp] theorem Dev.modNet_sns (d : Dev) (g : NetH → NetH) : (d.modNet g).sns = d.sns := rfl
@[simp] theorem Dev.modNet_pwr (d : Dev) (g : NetH → NetH) : (d.modNet g).pwr = d.pwr := rfl
@[simp] theorem Dev.modNet_flash (d : Dev) (g : NetH → NetH) : (d.modNet g).flash = d.flash := rfl
@[simp] theorem Dev.modNet_mgt (d : Dev) (g : NetH → NetH) : (d.modNet g).mgt = d.mgt := rfl
@[simp] theorem Dev.modNet_fbk (d : Dev) (g : NetH → NetH) : (d.modNet g).fbk = d.fbk := rfl
@[simp] theorem Dev.modNet_lane (d : Dev) (g : NetH → NetH) : (d.modNet g).lane = d.lane := rfl
@[simp] theorem Dev.modNet_gth (d : Dev) (g : NetH → NetH) : (d.modNet g).gth = d.gth := rfl
@[simp] theorem Dev.modNet_busyFrom (d : Dev) (g : NetH → NetH) : (d.modNet g).busyFrom = d.busyFrom := rfl
@[simp] theorem Dev.modNet_busyTo (d : Dev) (g : NetH → NetH) : (d.modNet g).busyTo = d.busyTo := rfl
@[simp] theorem Dev.modNet_can (d : Dev) (g : NetH → NetH) : (d.modNet g).can = d.can := rfl
@[simp] theorem Dev.modNet_fio (d : Dev) (g : NetH → NetH) : (d.modNet g).fio = d.fio := rfl
@[simp] theorem Dev.modNet_chk (d : Dev) (g : NetH → NetH) : (d.modNet g).chk = d.chk := rfl
@[simp] theorem Dev.modNet_saf (d : Dev) (g : NetH → NetH) : (d.modNet g).saf = d.saf := rfl
@[simp] theorem Dev.modNet_devstate (d : Dev) (g : NetH → NetH) : (d.modNet g).devstate = d.devstate := rfl
@[simp] theorem Dev.modNet_cLo (d : Dev) (g : NetH → NetH) : (d.modNet g).cLo = d.cLo := rfl
@[simp] theorem Dev.modNet_tables (d : Dev) (g : NetH → NetH) : (d.modNet g).tables = d.tables := rfl
@[simp] theorem Dev.modNet_mstep (d : Dev) (g : NetH → NetH) : (d.modNet g).mstep = d.mstep := rfl
@[simp] theorem Dev.modNet_bad (d : Dev) (g : NetH → NetH) : (d.modNet g).bad = d.bad := rfl
@[simp] theorem Dev.modNet_reloads (d : Dev) (g : NetH → NetH) : (d.modNet g).reloads = d.reloads := rfl

/-! ### Dev.modCan -/

@[simp] theorem Dev.modCan_regs (d : Dev) (g : CanH → CanH) : (d.modCan g).regs = d.regs := rfl
@[simp] theorem Dev.modCan_now (d : Dev) (g : CanH → CanH) : (d.modCan g).now = d.now := rfl
@[simp] theorem Dev.modCan_freeIdx (d : Dev) (g : CanH → CanH) : (d.modCan g).freeIdx = d.freeIdx := rfl
@[simp] theorem Dev.modCan_evr (d : Dev) (g : CanH → CanH) : (d.modCan g).evr = d.evr := rfl
@[simp] theorem Dev.modCan_net (d : Dev) (g : CanH → CanH) : (d.modCan g).net = d.net := rfl
@[simp] theorem Dev.modCan_tim (d : Dev) (g : CanH → CanH) : (d.modCan g).tim = d.tim := rfl
@[simp] theorem Dev.modCan_gm (d : Dev) (g : CanH → CanH) : (d.modCan g).gm = d.gm := rfl
@[simp] theorem Dev.modCan_ax (d : Dev) (g : CanH → CanH) : (d.modCan g).ax = d.ax := rfl
@[simp] theorem Dev.modCan_leg (d : Dev) (g : CanH → CanH) : (d.modCan g).leg = d.leg := rfl
@[simp] theorem Dev.modCan_trip (d : Dev) (g : CanH → CanH) : (d.modCan g).trip = d.trip := rfl
@[simp] theorem Dev.modCan_sns (d : Dev) (g : CanH → CanH) : (d.modCan g).sns = d.sns := rfl
@[simp] theorem Dev.modCan_pwr (d : Dev) (g : CanH → CanH) : (d.modCan g).pwr = d.pwr := rfl
@[simp] theorem Dev.modCan_flash (d : Dev) (g : CanH → CanH) : (d.modCan g).flash = d.flash := rfl
@[simp] theorem Dev.modCan_mgt (d : Dev) (g : CanH → CanH) : (d.modCan g).mgt = d.mgt := rfl
@[simp] theorem Dev.modCan_fbk (d : Dev) (g : CanH → CanH) : (d.modCan g).fbk = d.fbk := rfl
@[simp] theorem Dev.modCan_lane (d : Dev) (g : CanH → CanH) : (d.modCan g).lane = d.lane := rfl
@[simp] theorem Dev.modCan_gth (d : Dev) (g : CanH → CanH) : (d.modCan g).gth = d.gth := rfl
@[simp] theorem Dev.modCan_busyFrom (d : Dev) (g : CanH → CanH) : (d.modCan g).busyFrom = d.busyFrom := rfl
@[simp] theorem Dev.modCan_busyTo (d : Dev) (g : CanH → CanH) : (d.modCan g).busyTo = d.busyTo := rfl
@[simp] theorem Dev.modCan_fio (d : Dev) (g : CanH → CanH) : (d.modCan g).fio = d.fio := rfl
@[simp] theorem Dev.modCan_chk (d : Dev) (g : CanH → CanH) : (d.modCan g).chk = d.chk := rfl
@[simp] theorem Dev.modCan_saf (d : Dev) (g : CanH → CanH) : (d.modCan g).saf = d.saf := rfl
@[simp] theorem Dev.modCan_devstate (d : Dev) (g : CanH → CanH) : (d.modCan g).devstate = d.devstate := rfl
@[simp] theorem Dev.modCan_cLo (d : Dev) (g : CanH → CanH) : (d.modCan g).cLo = d.cLo := rfl
@[simp] theorem Dev.modCan_tables (d : Dev) (g : CanH → CanH) : (d.modCan g).tables = d.tables := rfl
@[simp] theorem Dev.modCan_mstep (d : Dev) (g : CanH → CanH) : (d.modCan g).mstep = d.mstep := rfl
@[simp] theorem Dev.modCan_bad (d : Dev) (g : CanH → CanH) : (d.modCan g).bad = d.bad := rfl
@[simp] theorem Dev.modCan_reloads (d : Dev) (g : CanH → CanH) : (d.modCan g).reloads = d.reloads := rfl

/-! ### Dev.modFio -/

@[simp] theorem Dev.modFio_regs (d : Dev) (g : FioH → FioH) : (d.modFio g).regs = d.regs := rfl
@[simp] theorem Dev.modFio_now (d : Dev) (g : FioH → FioH) : (d.modFio g).now = d.now := rfl
@[simp] theorem Dev.modFio_freeIdx (d : Dev) (g : FioH → FioH) : (d.modFio g).freeIdx = d.freeIdx := rfl
@[simp] theorem Dev.modFio_evr (d : Dev) (g : FioH → FioH) : (d.modFio g).evr = d.evr := rfl
@[simp] theorem Dev.modFio_net (d : Dev) (g : FioH → FioH) : (d.modFio g).net = d.net := rfl
@[simp] theorem Dev.modFio_tim (d : Dev) (g : FioH → FioH) : (d.modFio g).tim = d.tim := rfl
@[simp] theorem Dev.modFio_gm (d : Dev) (g : FioH → FioH) : (d.modFio g).gm = d.gm := rfl
@[simp] theorem Dev.modFio_ax (d : Dev) (g : FioH → FioH) : (d.modFio g).ax = d.ax := rfl
@[simp] theorem Dev.modFio_leg (d : Dev) (g : FioH → FioH) : (d.modFio g).leg = d.leg := rfl
@[simp] theorem Dev.modFio_trip (d : Dev) (g : FioH → FioH) : (d.modFio g).trip = d.trip := rfl
@[simp] theorem Dev.modFio_sns (d : Dev) (g : FioH → FioH) : (d.modFio g).sns = d.sns := rfl
@[simp] theorem Dev.modFio_pwr (d : Dev) (g : FioH → FioH) : (d.modFio g).pwr = d.pwr := rfl
@[simp] theorem Dev.modFio_flash (d : Dev) (g : FioH → FioH) : (d.modFio g).flash = d.flash := rfl
@[simp] theorem Dev.modFio_mgt (d : Dev) (g : FioH → FioH) : (d.modFio g).mgt = d.mgt := rfl
@[simp] theorem Dev.modFio_fbk (d : Dev) (g : FioH → FioH) : (d.modFio g).fbk = d.fbk := rfl
@[simp] theorem Dev.modFio_lane (d : Dev) (g : FioH → FioH) : (d.modFio g).lane = d.lane := rfl
@[simp] theorem Dev.modFio_gth (d : Dev) (g : FioH → FioH) : (d.modFio g).gth = d.gth := rfl
@[simp] theorem Dev.modFio_busyFrom (d : Dev) (g : FioH → FioH) : (d.modFio g).busyFrom = d.busyFrom := rfl
@[simp] theorem Dev.modFio_busyTo (d : Dev) (g : FioH → FioH) : (d.modFio g).busyTo = d.busyTo := rfl
@[simp] theorem Dev.modFio_can (d : Dev) (g : FioH → FioH) : (d.modFio g).can = d.can := rfl
@[simp] theorem Dev.modFio_chk (d : Dev) (g : FioH → FioH) : (d.modFio g).chk = d.chk := rfl
@[simp] theorem Dev.modFio_saf (d : Dev) (g : FioH → FioH) : (d.modFio g).saf = d.saf := rfl
@[simp] theorem Dev.modFio_devstate (d : Dev) (g : FioH → FioH) : (d.modFio g).devstate = d.devstate := rfl
@[simp] theorem Dev.modFio_cLo (d : Dev) (g : FioH → FioH) : (d.modFio g).cLo = d.cLo := rfl
@[simp] theorem Dev.modFio_tables (d : Dev) (g : FioH → FioH) : (d.modFio g).tables = d.tables := rfl
@[simp] theorem Dev.modFio_mstep (d : Dev) (g : FioH → FioH) : (d.modFio g).mstep = d.mstep := rfl
@[simp] theorem Dev.modFio_bad (d : Dev) (g : FioH → FioH) : (d.modFio g).bad = d.bad := rfl
@[simp] theorem Dev.modFio_reloads (d : Dev) (g : FioH → FioH) : (d.modFio g).reloads = d.reloads := rfl

/-! ### Dev.modSaf -/

@[simp] theorem Dev.modSaf_regs (d : Dev) (g : SafH → SafH) : (d.modSaf g).regs = d.regs := rfl
@[simp] theorem Dev.modSaf_now (d : Dev) (g : SafH → SafH) : (d.modSaf g).now = d.now := rfl
@[simp] theorem Dev.modSaf_freeIdx (d : Dev) (g : SafH → SafH) : (d.modSaf g).freeIdx = d.freeIdx := rfl
@[simp] theorem Dev.modSaf_evr (d : Dev) (g : SafH → SafH) : (d.modSaf g).evr = d.evr := rfl
@[simp] theorem Dev.modSaf_net (d : Dev) (g : SafH → SafH) : (d.modSaf g).net = d.net := rfl
@[simp] theorem Dev.modSaf_tim (d : Dev) (g : SafH → SafH) : (d.modSaf g).tim = d.tim := rfl
@[simp] theorem Dev.modSaf_gm (d : Dev) (g : SafH → SafH) : (d.modSaf g).gm = d.gm := rfl
@[simp] theorem Dev.modSaf_ax (d : Dev) (g : SafH → SafH) : (d.modSaf g).ax = d.ax := rfl
@[simp] theorem Dev.modSaf_leg (d : Dev) (g : SafH → SafH) : (d.modSaf g).leg = d.leg := rfl
@[simp] theorem Dev.modSaf_trip (d : Dev) (g : SafH → SafH) : (d.modSaf g).trip = d.trip := rfl
@[simp] theorem Dev.modSaf_sns (d : Dev) (g : SafH → SafH) : (d.modSaf g).sns = d.sns := rfl
@[simp] theorem Dev.modSaf_pwr (d : Dev) (g : SafH → SafH) : (d.modSaf g).pwr = d.pwr := rfl
@[simp] theorem Dev.modSaf_flash (d : Dev) (g : SafH → SafH) : (d.modSaf g).flash = d.flash := rfl
@[simp] theorem Dev.modSaf_mgt (d : Dev) (g : SafH → SafH) : (d.modSaf g).mgt = d.mgt := rfl
@[simp] theorem Dev.modSaf_fbk (d : Dev) (g : SafH → SafH) : (d.modSaf g).fbk = d.fbk := rfl
@[simp] theorem Dev.modSaf_lane (d : Dev) (g : SafH → SafH) : (d.modSaf g).lane = d.lane := rfl
@[simp] theorem Dev.modSaf_gth (d : Dev) (g : SafH → SafH) : (d.modSaf g).gth = d.gth := rfl
@[simp] theorem Dev.modSaf_busyFrom (d : Dev) (g : SafH → SafH) : (d.modSaf g).busyFrom = d.busyFrom := rfl
@[simp] theorem Dev.modSaf_busyTo (d : Dev) (g : SafH → SafH) : (d.modSaf g).busyTo = d.busyTo := rfl
@[simp] theorem Dev.modSaf_can (d : Dev) (g : SafH → SafH) : (d.modSaf g).can = d.can := rfl
@[simp] theorem Dev.modSaf_fio (d : Dev) (g : SafH → SafH) : (d.modSaf g).fio = d.fio := rfl
@[simp] theorem Dev.modSaf_chk (d : Dev) (g : SafH → SafH) : (d.modSaf g).chk = d.chk := rfl
@[simp] theorem Dev.modSaf_devstate (d : Dev) (g : SafH → SafH) : (d.modSaf g).devstate = d.devstate := rfl
@[simp] theorem Dev.modSaf_cLo (d : Dev) (g : SafH → SafH) : (d.modSaf g).cLo = d.cLo := rfl
@[simp] theorem Dev.modSaf_tables (d : Dev) (g : SafH → SafH) : (d.modSaf g).tables = d.tables := rfl
@[simp] theorem Dev.modSaf_mstep (d : Dev) (g : SafH → SafH) : (d.modSaf g).mstep = d.mstep := rfl
@[simp] theorem Dev.modSaf_bad (d : Dev) (g : SafH → SafH) : (d.modSaf g).bad = d.bad := rfl
@[simp] theorem Dev.modSaf_reloads (d : Dev) (g : SafH → SafH) : (d.modSaf g).reloads = d.reloads := rfl

/-! ### Dev.modMgt -/

@[simp] theorem Dev.modMgt_regs (d : Dev) (g : MgtH → MgtH) : (d.modMgt g).regs = d.regs := rfl
@[simp] theorem Dev.modMgt_now (d : Dev) (g : MgtH → MgtH) : (d.modMgt g).now = d.now := rfl
@[simp] theorem Dev.modMgt_freeIdx (d : Dev) (g : MgtH → MgtH) : (d.modMgt g).freeIdx = d.freeIdx := rfl
@[simp] theorem Dev.modMgt_evr (d : Dev) (g : MgtH → MgtH) : (d.modMgt g).evr = d.evr := rfl
@[simp] theorem Dev.modMgt_net (d : Dev) (g : MgtH → MgtH) : (d.modMgt g).net = d.net := rfl
@[simp] theorem Dev.modMgt_tim (d : Dev) (g : MgtH → MgtH) : (d.modMgt g).tim = d.tim := rfl
@[simp] theorem Dev.modMgt_gm (d : Dev) (g : MgtH → MgtH) : (d.modMgt g).gm = d.gm := rfl
@[simp] theorem Dev.modMgt_ax (d : Dev) (g : MgtH → MgtH) : (d.modMgt g).ax = d.ax := rfl
@[simp] theorem Dev.modMgt_leg (d : Dev) (g : MgtH → MgtH) : (d.modMgt g).leg = d.leg := rfl
@[simp] theorem Dev.modMgt_trip (d : Dev) (g : MgtH → MgtH) : (d.modMgt g).trip = d.trip := rfl
@[simp] theorem Dev.modMgt_sns (d : Dev) (g : MgtH → MgtH) : (d.modMgt g).sns = d.sns := rfl
@[simp] theorem Dev.modMgt_pwr (d : Dev) (g : MgtH → MgtH) : (d.modMgt g).pwr = d.pwr := rfl
@[simp] theorem Dev.modMgt_flash (d : Dev) (g : MgtH → MgtH) : (d.modMgt g).flash = d.flash := rfl
@[simp] theorem Dev.modMgt_fbk (d : Dev) (g : MgtH → MgtH) : (d.modMgt g).fbk = d.fbk := rfl
@[simp] theorem Dev.modMgt_lane (d : Dev) (g : MgtH → MgtH) : (d.modMgt g).lane = d.lane := rfl
@[simp] theorem Dev.modMgt_gth (d : Dev) (g : MgtH → MgtH) : (d.modMgt g).gth = d.gth := rfl
@[simp] theorem Dev.modMgt_busyFrom (d : Dev) (g : MgtH → MgtH) : (d.modMgt g).busyFrom = d.busyFrom := rfl
@[simp] theorem Dev.modMgt_busyTo (d : Dev) (g : MgtH → MgtH) : (d.modMgt g).busyTo = d.busyTo := rfl
@[simp] theorem Dev.modMgt_can (d : Dev) (g : MgtH → MgtH) : (d.modMgt g).can = d.can := rfl
@[simp] theorem Dev.modMgt_fio (d : Dev) (g : MgtH → MgtH) : (d.modMgt g).fio = d.fio := rfl
@[simp] theorem Dev.modMgt_chk (d : Dev) (g : MgtH → MgtH) : (d.modMgt g).chk = d.chk := rfl
@[simp] theorem Dev.modMgt_saf (d : Dev) (g : MgtH → MgtH) : (d.modMgt g).saf = d.saf := rfl
@[simp] theorem Dev.modMgt_devstate (d : Dev) (g : MgtH → MgtH) : (d.modMgt g).devstate = d.devstate := rfl
@[simp] theorem Dev.modMgt_cLo (d : Dev) (g : MgtH → MgtH) : (d.modMgt g).cLo = d.cLo := rfl
@[simp] theorem Dev.modMgt_tables (d : Dev) (g : MgtH → MgtH) : (d.modMgt g).tables = d.tables := rfl
@[simp] theorem Dev.modMgt_mstep (d : Dev) (g : MgtH → MgtH) : (d.modMgt g).mstep = d.mstep := rfl
@[simp] theorem Dev.modMgt_bad (d : Dev) (g : MgtH → MgtH) : (d.modMgt g).bad = d.bad := rfl
@[simp] theorem Dev.modMgt_reloads (d : Dev) (g : MgtH → MgtH) : (d.modMgt g).reloads = d.reloads := rfl

/-! ### Dev.modGth -/

@[simp] theorem Dev.modGth_regs (d : Dev) (g : GthH → GthH) : (d.modGth g).regs = d.regs := rfl
@[simp] theorem Dev.modGth_now (d : Dev) (g : GthH → GthH) : (d.modGth g).now = d.now := rfl
@[simp] theorem Dev.modGth_freeIdx (d : Dev) (g : GthH → GthH) : (d.modGth g).freeIdx = d.freeIdx := rfl
@[simp] theorem Dev.modGth_evr (d : Dev) (g : GthH → GthH) : (d.modGth g).evr = d.evr := rfl
@[simp] theorem Dev.modGth_net (d : Dev) (g : GthH → GthH) : (d.modGth g).net = d.net := rfl
@[simp] theorem Dev.modGth_tim (d : Dev) (g : GthH → GthH) : (d.modGth g).tim = d.tim := rfl
@[simp] theorem Dev.modGth_gm (d : Dev) (g : GthH → GthH) : (d.modGth g).gm = d.gm := rfl
@[simp] theorem Dev.modGth_ax (d : Dev) (g : GthH → GthH) : (d.modGth g).ax = d.ax := rfl
@[simp] theorem Dev.modGth_leg (d : Dev) (g : GthH → GthH) : (d.modGth g).leg = d.leg := rfl
@[simp] theorem Dev.modGth_trip (d : Dev) (g : GthH → GthH) : (d.modGth g).trip = d.trip := rfl
@[simp] theorem Dev.modGth_sns (d : Dev) (g : GthH → GthH) : (d.modGth g).sns = d.sns := rfl
@[simp] theorem Dev.modGth_pwr (d : Dev) (g : GthH → GthH) : (d.modGth g).pwr = d.pwr := rfl
@[simp] theorem Dev.modGth_flash (d : Dev) (g : GthH → GthH) : (d.modGth g).flash = d.flash := rfl
@[simp] theorem Dev.modGth_mgt (d : Dev) (g : GthH → GthH) : (d.modGth g).mgt = d.mgt := rfl
@[simp] theorem Dev.modGth_fbk (d : Dev) (g : GthH → GthH) : (d.modGth g).fbk = d.fbk := rfl
@[simp] theorem Dev.modGth_lane (d : Dev) (g : GthH → GthH) : (d.modGth g).lane = d.lane := rfl
@[simp] theorem Dev.modGth_busyFrom (d : Dev) (g : GthH → GthH) : (d.modGth g).busyFrom = d.busyFrom := rfl
@[simp] theorem Dev.modGth_busyTo (d : Dev) (g : GthH → GthH) : (d.modGth g).busyTo = d.busyTo := rfl
@[simp] theorem Dev.modGth_can (d : Dev) (g : GthH → GthH) : (d.modGth g).can = d.can := rfl
@[simp] theorem Dev.modGth_fio (d : Dev) (g : GthH → GthH) : (d.modGth g).fio = d.fio := rfl
@[simp] theorem Dev.modGth_chk (d : Dev) (g : GthH → GthH) : (d.modGth g).chk = d.chk := rfl
@[simp] theorem Dev.modGth_saf (d : Dev) (g : GthH → GthH) : (d.modGth g).saf = d.saf := rfl
@[simp] theorem Dev.modGth_devstate (d : Dev) (g : GthH → GthH) : (d.modGth g).devstate = d.devstate := rfl
@[simp] theorem Dev.modGth_cLo (d : Dev) (g : GthH → GthH) : (d.modGth g).cLo = d.cLo := rfl
@[simp] theorem Dev.modGth_tables (d : Dev) (g : GthH → GthH) : (d.modGth g).tables = d.tables := rfl
@[simp] theorem Dev.modGth_mstep (d : Dev) (g : GthH → GthH) : (d.modGth g).mstep = d.mstep := rfl
@[simp] theorem Dev.modGth_bad (d : Dev) (g : GthH → GthH) : (d.modGth g).bad = d.bad := rfl
@[simp] theorem Dev.modGth_reloads (d : Dev) (g : GthH → GthH) : (d.modGth g).reloads = d.reloads := rfl

/-! ### Dev.judgeLater -/

@[simp] theorem Dev.judgeLater_regs (d : Dev) (j : Judge) : (d.judgeLater j).regs = d.regs := rfl
@[simp] theorem Dev.judgeLater_now (d : Dev) (j : Judge) : (d.judgeLater j).now = d.now := rfl
@[simp] theorem Dev.judgeLater_freeIdx (d : Dev) (j : Judge) : (d.judgeLater j).freeIdx = d.freeIdx := rfl
@[simp] theorem Dev.judgeLater_evr (d : Dev) (j : Judge) : (d.judgeLater j).evr = d.evr := rfl
@[simp] theorem Dev.judgeLater_net (d : Dev) (j : Judge) : (d.judgeLater j).net = d.net := rfl
@[simp] theorem Dev.judgeLater_gm (d : Dev) (j : Judge) : (d.judgeLater j).gm = d.gm := rfl
@[simp] theorem Dev.judgeLater_ax (d : Dev) (j : Judge) : (d.judgeLater j).ax = d.ax := rfl
@[simp] theorem Dev.judgeLater_leg (d : Dev) (j : Judge) : (d.judgeLater j).leg = d.leg := rfl
@[simp] theorem Dev.judgeLater_trip (d : Dev) (j : Judge) : (d.judgeLater j).trip = d.trip := rfl
@[simp] theorem Dev.judgeLater_sns (d : Dev) (j : Judge) : (d.judgeLater j).sns = d.sns := rfl
@[simp] theorem Dev.judgeLater_pwr (d : Dev) (j : Judge) : (d.judgeLater j).pwr = d.pwr := rfl
@[simp] theorem Dev.judgeLater_flash (d : Dev) (j : Judge) : (d.judgeLater j).flash = d.flash := rfl
@[simp] theorem Dev.judgeLater_mgt (d : Dev) (j : Judge) : (d.judgeLater j).mgt = d.mgt := rfl
@[simp] theorem Dev.judgeLater_fbk (d : Dev) (j : Judge) : (d.judgeLater j).fbk = d.fbk := rfl
@[simp] theorem Dev.judgeLater_lane (d : Dev) (j : Judge) : (d.judgeLater j).lane = d.lane := rfl
@[simp] theorem Dev.judgeLater_gth (d : Dev) (j : Judge) : (d.judgeLater j).gth = d.gth := rfl
@[simp] theorem Dev.judgeLater_busyFrom (d : Dev) (j : Judge) : (d.judgeLater j).busyFrom = d.busyFrom := rfl
@[simp] theorem Dev.judgeLater_busyTo (d : Dev) (j : Judge) : (d.judgeLater j).busyTo = d.busyTo := rfl
@[simp] theorem Dev.judgeLater_can (d : Dev) (j : Judge) : (d.judgeLater j).can = d.can := rfl
@[simp] theorem Dev.judgeLater_fio (d : Dev) (j : Judge) : (d.judgeLater j).fio = d.fio := rfl
@[simp] theorem Dev.judgeLater_chk (d : Dev) (j : Judge) : (d.judgeLater j).chk = d.chk := rfl
@[simp] theorem Dev.judgeLater_saf (d : Dev) (j : Judge) : (d.judgeLater j).saf = d.saf := rfl
@[simp] theorem Dev.judgeLater_devstate (d : Dev) (j : Judge) : (d.judgeLater j).devstate = d.devstate := rfl
@[simp] theorem Dev.judgeLater_cLo (d : Dev) (j : Judge) : (d.judgeLater j).cLo = d.cLo := rfl
@[simp] theorem Dev.judgeLater_tables (d : Dev) (j : Judge) : (d.judgeLater j).tables = d.tables := rfl
@[simp] theorem Dev.judgeLater_mstep (d : Dev) (j : Judge) : (d.judgeLater j).mstep = d.mstep := rfl
@[simp] theorem Dev.judgeLater_bad (d : Dev) (j : Judge) : (d.judgeLater j).bad = d.bad := rfl
@[simp] theorem Dev.judgeLater_reloads (d : Dev) (j : Judge) : (d.judgeLater j).reloads = d.reloads := rfl
@[simp] theorem Dev.judgeLater_judge (d : Dev) (j : Judge) : (d.judgeLater j).tim.judge = d.tim.judge ++ [j] := rfl

/-! ### Dev.lehrDid -/

@[simp] theorem Dev.lehrDid_regs (d : Dev) (k : Nat) : (d.lehrDid k).regs = d.regs := rfl
@[simp] theorem Dev.lehrDid_now (d : Dev) (k : Nat) : (d.lehrDid k).now = d.now := rfl
@[simp] theorem Dev.lehrDid_freeIdx (d : Dev) (k : Nat) : (d.lehrDid k).freeIdx = d.freeIdx := rfl
@[simp] theorem Dev.lehrDid_evr (d : Dev) (k : Nat) : (d.lehrDid k).evr = d.evr := rfl
@[simp] theorem Dev.lehrDid_net (d : Dev) (k : Nat) : (d.lehrDid k).net = d.net := rfl
@[simp] theorem Dev.lehrDid_tim (d : Dev) (k : Nat) : (d.lehrDid k).tim = d.tim := rfl
@[simp] theorem Dev.lehrDid_gm (d : Dev) (k : Nat) : (d.lehrDid k).gm = d.gm := rfl
@[simp] theorem Dev.lehrDid_ax (d : Dev) (k : Nat) : (d.lehrDid k).ax = d.ax := rfl
@[simp] theorem Dev.lehrDid_leg (d : Dev) (k : Nat) : (d.lehrDid k).leg = d.leg := rfl
@[simp] theorem Dev.lehrDid_trip (d : Dev) (k : Nat) : (d.lehrDid k).trip = d.trip := rfl
@[simp] theorem Dev.lehrDid_sns (d : Dev) (k : Nat) : (d.lehrDid k).sns = d.sns := rfl
@[simp] theorem Dev.lehrDid_pwr (d : Dev) (k : Nat) : (d.lehrDid k).pwr = d.pwr := rfl
@[simp] theorem Dev.lehrDid_flash (d : Dev) (k : Nat) : (d.lehrDid k).flash = d.flash := rfl
@[simp] theorem Dev.lehrDid_fbk (d : Dev) (k : Nat) : (d.lehrDid k).fbk = d.fbk := rfl
@[simp] theorem Dev.lehrDid_lane (d : Dev) (k : Nat) : (d.lehrDid k).lane = d.lane := rfl
@[simp] theorem Dev.lehrDid_gth (d : Dev) (k : Nat) : (d.lehrDid k).gth = d.gth := rfl
@[simp] theorem Dev.lehrDid_busyFrom (d : Dev) (k : Nat) : (d.lehrDid k).busyFrom = d.busyFrom := rfl
@[simp] theorem Dev.lehrDid_busyTo (d : Dev) (k : Nat) : (d.lehrDid k).busyTo = d.busyTo := rfl
@[simp] theorem Dev.lehrDid_can (d : Dev) (k : Nat) : (d.lehrDid k).can = d.can := rfl
@[simp] theorem Dev.lehrDid_fio (d : Dev) (k : Nat) : (d.lehrDid k).fio = d.fio := rfl
@[simp] theorem Dev.lehrDid_chk (d : Dev) (k : Nat) : (d.lehrDid k).chk = d.chk := rfl
@[simp] theorem Dev.lehrDid_saf (d : Dev) (k : Nat) : (d.lehrDid k).saf = d.saf := rfl
@[simp] theorem Dev.lehrDid_devstate (d : Dev) (k : Nat) : (d.lehrDid k).devstate = d.devstate := rfl
@[simp] theorem Dev.lehrDid_cLo (d : Dev) (k : Nat) : (d.lehrDid k).cLo = d.cLo := rfl
@[simp] theorem Dev.lehrDid_tables (d : Dev) (k : Nat) : (d.lehrDid k).tables = d.tables := rfl
@[simp] theorem Dev.lehrDid_mstep (d : Dev) (k : Nat) : (d.lehrDid k).mstep = d.mstep := rfl
@[simp] theorem Dev.lehrDid_bad (d : Dev) (k : Nat) : (d.lehrDid k).bad = d.bad := rfl
@[simp] theorem Dev.lehrDid_reloads (d : Dev) (k : Nat) : (d.lehrDid k).reloads = d.reloads := rfl

/-! ### Dev.lehrCal -/

@[simp] theorem Dev.lehrCal_regs (d : Dev) (k : Nat) : (d.lehrCal k).regs = d.regs := rfl
@[simp] theorem Dev.lehrCal_now (d : Dev) (k : Nat) : (d.lehrCal k).now = d.now := rfl
@[simp] theorem Dev.lehrCal_freeIdx (d : Dev) (k : Nat) : (d.lehrCal k).freeIdx = d.freeIdx := rfl
@[simp] theorem Dev.lehrCal_evr (d : Dev) (k : Nat) : (d.lehrCal k).evr = d.evr := rfl
@[simp] theorem Dev.lehrCal_net (d : Dev) (k : Nat) : (d.lehrCal k).net = d.net := rfl
@[simp] theorem Dev.lehrCal_tim (d : Dev) (k : Nat) : (d.lehrCal k).tim = d.tim := rfl
@[simp] theorem Dev.lehrCal_gm (d : Dev) (k : Nat) : (d.lehrCal k).gm = d.gm := rfl
@[simp] theorem Dev.lehrCal_ax (d : Dev) (k : Nat) : (d.lehrCal k).ax = d.ax := rfl
@[simp] theorem Dev.lehrCal_leg (d : Dev) (k : Nat) : (d.lehrCal k).leg = d.leg := rfl
@[simp] theorem Dev.lehrCal_trip (d : Dev) (k : Nat) : (d.lehrCal k).trip = d.trip := rfl
@[simp] theorem Dev.lehrCal_pwr (d : Dev) (k : Nat) : (d.lehrCal k).pwr = d.pwr := rfl
@[simp] theorem Dev.lehrCal_flash (d : Dev) (k : Nat) : (d.lehrCal k).flash = d.flash := rfl
@[simp] theorem Dev.lehrCal_mgt (d : Dev) (k : Nat) : (d.lehrCal k).mgt = d.mgt := rfl
@[simp] theorem Dev.lehrCal_fbk (d : Dev) (k : Nat) : (d.lehrCal k).fbk = d.fbk := rfl
@[simp] theorem Dev.lehrCal_lane (d : Dev) (k : Nat) : (d.lehrCal k).lane = d.lane := rfl
@[simp] theorem Dev.lehrCal_gth (d : Dev) (k : Nat) : (d.lehrCal k).gth = d.gth := rfl
@[simp] theorem Dev.lehrCal_busyFrom (d : Dev) (k : Nat) : (d.lehrCal k).busyFrom = d.busyFrom := rfl
@[simp] theorem Dev.lehrCal_busyTo (d : Dev) (k : Nat) : (d.lehrCal k).busyTo = d.busyTo := rfl
@[simp] theorem Dev.lehrCal_can (d : Dev) (k : Nat) : (d.lehrCal k).can = d.can := rfl
@[simp] theorem Dev.lehrCal_fio (d : Dev) (k : Nat) : (d.lehrCal k).fio = d.fio := rfl
@[simp] theorem Dev.lehrCal_chk (d : Dev) (k : Nat) : (d.lehrCal k).chk = d.chk := rfl
@[simp] theorem Dev.lehrCal_saf (d : Dev) (k : Nat) : (d.lehrCal k).saf = d.saf := rfl
@[simp] theorem Dev.lehrCal_devstate (d : Dev) (k : Nat) : (d.lehrCal k).devstate = d.devstate := rfl
@[simp] theorem Dev.lehrCal_cLo (d : Dev) (k : Nat) : (d.lehrCal k).cLo = d.cLo := rfl
@[simp] theorem Dev.lehrCal_tables (d : Dev) (k : Nat) : (d.lehrCal k).tables = d.tables := rfl
@[simp] theorem Dev.lehrCal_mstep (d : Dev) (k : Nat) : (d.lehrCal k).mstep = d.mstep := rfl
@[simp] theorem Dev.lehrCal_bad (d : Dev) (k : Nat) : (d.lehrCal k).bad = d.bad := rfl
@[simp] theorem Dev.lehrCal_reloads (d : Dev) (k : Nat) : (d.lehrCal k).reloads = d.reloads := rfl

/-! ### Dev.mended -/

@[simp] theorem Dev.mended_regs (d : Dev) (a : Nat) : (d.mended a).regs = d.regs := rfl
@[simp] theorem Dev.mended_now (d : Dev) (a : Nat) : (d.mended a).now = d.now := rfl
@[simp] theorem Dev.mended_freeIdx (d : Dev) (a : Nat) : (d.mended a).freeIdx = d.freeIdx := rfl
@[simp] theorem Dev.mended_evr (d : Dev) (a : Nat) : (d.mended a).evr = d.evr := rfl
@[simp] theorem Dev.mended_net (d : Dev) (a : Nat) : (d.mended a).net = d.net := rfl
@[simp] theorem Dev.mended_tim (d : Dev) (a : Nat) : (d.mended a).tim = d.tim := rfl
@[simp] theorem Dev.mended_gm (d : Dev) (a : Nat) : (d.mended a).gm = d.gm := rfl
@[simp] theorem Dev.mended_ax (d : Dev) (a : Nat) : (d.mended a).ax = d.ax := rfl
@[simp] theorem Dev.mended_leg (d : Dev) (a : Nat) : (d.mended a).leg = d.leg := rfl
@[simp] theorem Dev.mended_trip (d : Dev) (a : Nat) : (d.mended a).trip = d.trip := rfl
@[simp] theorem Dev.mended_sns (d : Dev) (a : Nat) : (d.mended a).sns = d.sns := rfl
@[simp] theorem Dev.mended_pwr (d : Dev) (a : Nat) : (d.mended a).pwr = d.pwr := rfl
@[simp] theorem Dev.mended_flash (d : Dev) (a : Nat) : (d.mended a).flash = d.flash := rfl
@[simp] theorem Dev.mended_mgt (d : Dev) (a : Nat) : (d.mended a).mgt = d.mgt := rfl
@[simp] theorem Dev.mended_fbk (d : Dev) (a : Nat) : (d.mended a).fbk = d.fbk := rfl
@[simp] theorem Dev.mended_lane (d : Dev) (a : Nat) : (d.mended a).lane = d.lane := rfl
@[simp] theorem Dev.mended_gth (d : Dev) (a : Nat) : (d.mended a).gth = d.gth := rfl
@[simp] theorem Dev.mended_busyFrom (d : Dev) (a : Nat) : (d.mended a).busyFrom = d.busyFrom := rfl
@[simp] theorem Dev.mended_busyTo (d : Dev) (a : Nat) : (d.mended a).busyTo = d.busyTo := rfl
@[simp] theorem Dev.mended_can (d : Dev) (a : Nat) : (d.mended a).can = d.can := rfl
@[simp] theorem Dev.mended_fio (d : Dev) (a : Nat) : (d.mended a).fio = d.fio := rfl
@[simp] theorem Dev.mended_chk (d : Dev) (a : Nat) : (d.mended a).chk = d.chk := rfl
@[simp] theorem Dev.mended_saf (d : Dev) (a : Nat) : (d.mended a).saf = d.saf := rfl
@[simp] theorem Dev.mended_devstate (d : Dev) (a : Nat) : (d.mended a).devstate = d.devstate := rfl
@[simp] theorem Dev.mended_cLo (d : Dev) (a : Nat) : (d.mended a).cLo = d.cLo := rfl
@[simp] theorem Dev.mended_tables (d : Dev) (a : Nat) : (d.mended a).tables = d.tables := rfl
@[simp] theorem Dev.mended_mstep (d : Dev) (a : Nat) : (d.mended a).mstep = d.mstep := rfl

/-! ### Dev.modTsu -/

@[simp] theorem Dev.modTsu_regs (d : Dev) (p : Nat) (g : TsuH → TsuH) : (d.modTsu p g).regs = d.regs := rfl
@[simp] theorem Dev.modTsu_now (d : Dev) (p : Nat) (g : TsuH → TsuH) : (d.modTsu p g).now = d.now := rfl
@[simp] theorem Dev.modTsu_freeIdx (d : Dev) (p : Nat) (g : TsuH → TsuH) : (d.modTsu p g).freeIdx = d.freeIdx := rfl
@[simp] theorem Dev.modTsu_evr (d : Dev) (p : Nat) (g : TsuH → TsuH) : (d.modTsu p g).evr = d.evr := rfl
@[simp] theorem Dev.modTsu_net (d : Dev) (p : Nat) (g : TsuH → TsuH) : (d.modTsu p g).net = d.net := rfl
@[simp] theorem Dev.modTsu_gm (d : Dev) (p : Nat) (g : TsuH → TsuH) : (d.modTsu p g).gm = d.gm := rfl
@[simp] theorem Dev.modTsu_ax (d : Dev) (p : Nat) (g : TsuH → TsuH) : (d.modTsu p g).ax = d.ax := rfl
@[simp] theorem Dev.modTsu_leg (d : Dev) (p : Nat) (g : TsuH → TsuH) : (d.modTsu p g).leg = d.leg := rfl
@[simp] theorem Dev.modTsu_trip (d : Dev) (p : Nat) (g : TsuH → TsuH) : (d.modTsu p g).trip = d.trip := rfl
@[simp] theorem Dev.modTsu_sns (d : Dev) (p : Nat) (g : TsuH → TsuH) : (d.modTsu p g).sns = d.sns := rfl
@[simp] theorem Dev.modTsu_pwr (d : Dev) (p : Nat) (g : TsuH → TsuH) : (d.modTsu p g).pwr = d.pwr := rfl
@[simp] theorem Dev.modTsu_flash (d : Dev) (p : Nat) (g : TsuH → TsuH) : (d.modTsu p g).flash = d.flash := rfl
@[simp] theorem Dev.modTsu_mgt (d : Dev) (p : Nat) (g : TsuH → TsuH) : (d.modTsu p g).mgt = d.mgt := rfl
@[simp] theorem Dev.modTsu_fbk (d : Dev) (p : Nat) (g : TsuH → TsuH) : (d.modTsu p g).fbk = d.fbk := rfl
@[simp] theorem Dev.modTsu_lane (d : Dev) (p : Nat) (g : TsuH → TsuH) : (d.modTsu p g).lane = d.lane := rfl
@[simp] theorem Dev.modTsu_gth (d : Dev) (p : Nat) (g : TsuH → TsuH) : (d.modTsu p g).gth = d.gth := rfl
@[simp] theorem Dev.modTsu_busyFrom (d : Dev) (p : Nat) (g : TsuH → TsuH) : (d.modTsu p g).busyFrom = d.busyFrom := rfl
@[simp] theorem Dev.modTsu_busyTo (d : Dev) (p : Nat) (g : TsuH → TsuH) : (d.modTsu p g).busyTo = d.busyTo := rfl
@[simp] theorem Dev.modTsu_can (d : Dev) (p : Nat) (g : TsuH → TsuH) : (d.modTsu p g).can = d.can := rfl
@[simp] theorem Dev.modTsu_fio (d : Dev) (p : Nat) (g : TsuH → TsuH) : (d.modTsu p g).fio = d.fio := rfl
@[simp] theorem Dev.modTsu_chk (d : Dev) (p : Nat) (g : TsuH → TsuH) : (d.modTsu p g).chk = d.chk := rfl
@[simp] theorem Dev.modTsu_saf (d : Dev) (p : Nat) (g : TsuH → TsuH) : (d.modTsu p g).saf = d.saf := rfl
@[simp] theorem Dev.modTsu_devstate (d : Dev) (p : Nat) (g : TsuH → TsuH) : (d.modTsu p g).devstate = d.devstate := rfl
@[simp] theorem Dev.modTsu_cLo (d : Dev) (p : Nat) (g : TsuH → TsuH) : (d.modTsu p g).cLo = d.cLo := rfl
@[simp] theorem Dev.modTsu_tables (d : Dev) (p : Nat) (g : TsuH → TsuH) : (d.modTsu p g).tables = d.tables := rfl
@[simp] theorem Dev.modTsu_mstep (d : Dev) (p : Nat) (g : TsuH → TsuH) : (d.modTsu p g).mstep = d.mstep := rfl
@[simp] theorem Dev.modTsu_bad (d : Dev) (p : Nat) (g : TsuH → TsuH) : (d.modTsu p g).bad = d.bad := rfl
@[simp] theorem Dev.modTsu_reloads (d : Dev) (p : Nat) (g : TsuH → TsuH) : (d.modTsu p g).reloads = d.reloads := rfl

/-! ### Dev.modCpl -/

@[simp] theorem Dev.modCpl_regs (d : Dev) (n : Nat) (g : CplH → CplH) : (d.modCpl n g).regs = d.regs := rfl
@[simp] theorem Dev.modCpl_now (d : Dev) (n : Nat) (g : CplH → CplH) : (d.modCpl n g).now = d.now := rfl
@[simp] theorem Dev.modCpl_freeIdx (d : Dev) (n : Nat) (g : CplH → CplH) : (d.modCpl n g).freeIdx = d.freeIdx := rfl
@[simp] theorem Dev.modCpl_evr (d : Dev) (n : Nat) (g : CplH → CplH) : (d.modCpl n g).evr = d.evr := rfl
@[simp] theorem Dev.modCpl_net (d : Dev) (n : Nat) (g : CplH → CplH) : (d.modCpl n g).net = d.net := rfl
@[simp] theorem Dev.modCpl_tim (d : Dev) (n : Nat) (g : CplH → CplH) : (d.modCpl n g).tim = d.tim := rfl
@[simp] theorem Dev.modCpl_gm (d : Dev) (n : Nat) (g : CplH → CplH) : (d.modCpl n g).gm = d.gm := rfl
@[simp] theorem Dev.modCpl_leg (d : Dev) (n : Nat) (g : CplH → CplH) : (d.modCpl n g).leg = d.leg := rfl
@[simp] theorem Dev.modCpl_trip (d : Dev) (n : Nat) (g : CplH → CplH) : (d.modCpl n g).trip = d.trip := rfl
@[simp] theorem Dev.modCpl_sns (d : Dev) (n : Nat) (g : CplH → CplH) : (d.modCpl n g).sns = d.sns := rfl
@[simp] theorem Dev.modCpl_pwr (d : Dev) (n : Nat) (g : CplH → CplH) : (d.modCpl n g).pwr = d.pwr := rfl
@[simp] theorem Dev.modCpl_flash (d : Dev) (n : Nat) (g : CplH → CplH) : (d.modCpl n g).flash = d.flash := rfl
@[simp] theorem Dev.modCpl_mgt (d : Dev) (n : Nat) (g : CplH → CplH) : (d.modCpl n g).mgt = d.mgt := rfl
@[simp] theorem Dev.modCpl_fbk (d : Dev) (n : Nat) (g : CplH → CplH) : (d.modCpl n g).fbk = d.fbk := rfl
@[simp] theorem Dev.modCpl_lane (d : Dev) (n : Nat) (g : CplH → CplH) : (d.modCpl n g).lane = d.lane := rfl
@[simp] theorem Dev.modCpl_gth (d : Dev) (n : Nat) (g : CplH → CplH) : (d.modCpl n g).gth = d.gth := rfl
@[simp] theorem Dev.modCpl_busyFrom (d : Dev) (n : Nat) (g : CplH → CplH) : (d.modCpl n g).busyFrom = d.busyFrom := rfl
@[simp] theorem Dev.modCpl_busyTo (d : Dev) (n : Nat) (g : CplH → CplH) : (d.modCpl n g).busyTo = d.busyTo := rfl
@[simp] theorem Dev.modCpl_can (d : Dev) (n : Nat) (g : CplH → CplH) : (d.modCpl n g).can = d.can := rfl
@[simp] theorem Dev.modCpl_fio (d : Dev) (n : Nat) (g : CplH → CplH) : (d.modCpl n g).fio = d.fio := rfl
@[simp] theorem Dev.modCpl_chk (d : Dev) (n : Nat) (g : CplH → CplH) : (d.modCpl n g).chk = d.chk := rfl
@[simp] theorem Dev.modCpl_saf (d : Dev) (n : Nat) (g : CplH → CplH) : (d.modCpl n g).saf = d.saf := rfl
@[simp] theorem Dev.modCpl_devstate (d : Dev) (n : Nat) (g : CplH → CplH) : (d.modCpl n g).devstate = d.devstate := rfl
@[simp] theorem Dev.modCpl_cLo (d : Dev) (n : Nat) (g : CplH → CplH) : (d.modCpl n g).cLo = d.cLo := rfl
@[simp] theorem Dev.modCpl_tables (d : Dev) (n : Nat) (g : CplH → CplH) : (d.modCpl n g).tables = d.tables := rfl
@[simp] theorem Dev.modCpl_mstep (d : Dev) (n : Nat) (g : CplH → CplH) : (d.modCpl n g).mstep = d.mstep := rfl
@[simp] theorem Dev.modCpl_bad (d : Dev) (n : Nat) (g : CplH → CplH) : (d.modCpl n g).bad = d.bad := rfl
@[simp] theorem Dev.modCpl_reloads (d : Dev) (n : Nat) (g : CplH → CplH) : (d.modCpl n g).reloads = d.reloads := rfl

/-! ### Dev.modPrf -/

@[simp] theorem Dev.modPrf_regs (d : Dev) (n : Nat) (g : PrfH → PrfH) : (d.modPrf n g).regs = d.regs := rfl
@[simp] theorem Dev.modPrf_now (d : Dev) (n : Nat) (g : PrfH → PrfH) : (d.modPrf n g).now = d.now := rfl
@[simp] theorem Dev.modPrf_freeIdx (d : Dev) (n : Nat) (g : PrfH → PrfH) : (d.modPrf n g).freeIdx = d.freeIdx := rfl
@[simp] theorem Dev.modPrf_evr (d : Dev) (n : Nat) (g : PrfH → PrfH) : (d.modPrf n g).evr = d.evr := rfl
@[simp] theorem Dev.modPrf_net (d : Dev) (n : Nat) (g : PrfH → PrfH) : (d.modPrf n g).net = d.net := rfl
@[simp] theorem Dev.modPrf_tim (d : Dev) (n : Nat) (g : PrfH → PrfH) : (d.modPrf n g).tim = d.tim := rfl
@[simp] theorem Dev.modPrf_gm (d : Dev) (n : Nat) (g : PrfH → PrfH) : (d.modPrf n g).gm = d.gm := rfl
@[simp] theorem Dev.modPrf_leg (d : Dev) (n : Nat) (g : PrfH → PrfH) : (d.modPrf n g).leg = d.leg := rfl
@[simp] theorem Dev.modPrf_trip (d : Dev) (n : Nat) (g : PrfH → PrfH) : (d.modPrf n g).trip = d.trip := rfl
@[simp] theorem Dev.modPrf_sns (d : Dev) (n : Nat) (g : PrfH → PrfH) : (d.modPrf n g).sns = d.sns := rfl
@[simp] theorem Dev.modPrf_pwr (d : Dev) (n : Nat) (g : PrfH → PrfH) : (d.modPrf n g).pwr = d.pwr := rfl
@[simp] theorem Dev.modPrf_flash (d : Dev) (n : Nat) (g : PrfH → PrfH) : (d.modPrf n g).flash = d.flash := rfl
@[simp] theorem Dev.modPrf_mgt (d : Dev) (n : Nat) (g : PrfH → PrfH) : (d.modPrf n g).mgt = d.mgt := rfl
@[simp] theorem Dev.modPrf_fbk (d : Dev) (n : Nat) (g : PrfH → PrfH) : (d.modPrf n g).fbk = d.fbk := rfl
@[simp] theorem Dev.modPrf_lane (d : Dev) (n : Nat) (g : PrfH → PrfH) : (d.modPrf n g).lane = d.lane := rfl
@[simp] theorem Dev.modPrf_gth (d : Dev) (n : Nat) (g : PrfH → PrfH) : (d.modPrf n g).gth = d.gth := rfl
@[simp] theorem Dev.modPrf_busyFrom (d : Dev) (n : Nat) (g : PrfH → PrfH) : (d.modPrf n g).busyFrom = d.busyFrom := rfl
@[simp] theorem Dev.modPrf_busyTo (d : Dev) (n : Nat) (g : PrfH → PrfH) : (d.modPrf n g).busyTo = d.busyTo := rfl
@[simp] theorem Dev.modPrf_can (d : Dev) (n : Nat) (g : PrfH → PrfH) : (d.modPrf n g).can = d.can := rfl
@[simp] theorem Dev.modPrf_fio (d : Dev) (n : Nat) (g : PrfH → PrfH) : (d.modPrf n g).fio = d.fio := rfl
@[simp] theorem Dev.modPrf_chk (d : Dev) (n : Nat) (g : PrfH → PrfH) : (d.modPrf n g).chk = d.chk := rfl
@[simp] theorem Dev.modPrf_saf (d : Dev) (n : Nat) (g : PrfH → PrfH) : (d.modPrf n g).saf = d.saf := rfl
@[simp] theorem Dev.modPrf_devstate (d : Dev) (n : Nat) (g : PrfH → PrfH) : (d.modPrf n g).devstate = d.devstate := rfl
@[simp] theorem Dev.modPrf_cLo (d : Dev) (n : Nat) (g : PrfH → PrfH) : (d.modPrf n g).cLo = d.cLo := rfl
@[simp] theorem Dev.modPrf_tables (d : Dev) (n : Nat) (g : PrfH → PrfH) : (d.modPrf n g).tables = d.tables := rfl
@[simp] theorem Dev.modPrf_mstep (d : Dev) (n : Nat) (g : PrfH → PrfH) : (d.modPrf n g).mstep = d.mstep := rfl
@[simp] theorem Dev.modPrf_bad (d : Dev) (n : Nat) (g : PrfH → PrfH) : (d.modPrf n g).bad = d.bad := rfl
@[simp] theorem Dev.modPrf_reloads (d : Dev) (n : Nat) (g : PrfH → PrfH) : (d.modPrf n g).reloads = d.reloads := rfl

end Sys2Proof.Machine
end

