-- ==== Sys2Proof/Laws/Tbl.lean ====
section
/-!
SUPPORT. Laws of sparse tables: what a table reads as after a change, and that every change keeps the canonical form.
-/

namespace Sys2Proof

variable {α : Type}

@[simp] theorem Tbl.get_nil (d : α) (k : Nat) : Tbl.get d k [] = d := rfl

@[simp] theorem Tbl.find_nil (k : Nat) : Tbl.find (α := α) k [] = none := rfl

theorem Tbl.get_erase_same (d : α) (k : Nat) (t : Tbl α) : Tbl.get d k (Tbl.erase k t) = d := by
  induction t with
  | nil => rfl
  | cons e t ih => obtain ⟨i, v⟩ := e; by_cases h : i = k <;> simp [Tbl.erase, Tbl.get, h, ih]

theorem Tbl.get_erase_other (d : α) {k j : Nat} (h : j ≠ k) (t : Tbl α) : Tbl.get d j (Tbl.erase k t) = Tbl.get d j t := by
  induction t with
  | nil => rfl
  | cons e t ih =>
    obtain ⟨i, v⟩ := e
    by_cases hi : i = k
    · subst hi; simp [Tbl.erase, Tbl.get, Ne.symm h, ih]
    · simp only [Tbl.erase, Tbl.get, hi, if_false, ih]

theorem Tbl.get_ins_other (d : α) {k j : Nat} (h : j ≠ k) (v : α) (t : Tbl α) : Tbl.get d j (Tbl.ins k v t) = Tbl.get d j t := by
  induction t with
  | nil => simp [Tbl.ins, Tbl.get, Ne.symm h]
  | cons e t ih =>
    obtain ⟨i, w⟩ := e
    by_cases hi : k < i
    · simp [Tbl.ins, Tbl.get, hi, Ne.symm h]
    · simp only [Tbl.ins, Tbl.get, hi, if_false, ih]

theorem Tbl.get_ins_erase (d : α) (k : Nat) (v : α) (t : Tbl α) : Tbl.get d k (Tbl.ins k v (Tbl.erase k t)) = v := by
  induction t with
  | nil => simp [Tbl.erase, Tbl.ins, Tbl.get]
  | cons e t ih =>
    obtain ⟨i, w⟩ := e
    by_cases hi : i = k
    · simpa [Tbl.erase, hi] using ih
    · by_cases hk : k < i <;> simp [Tbl.erase, Tbl.ins, Tbl.get, hi, hk, ih]

/-- A stored entry is read back. -/
@[simp] theorem Tbl.get_put_same (d : α) (k : Nat) (v : α) (t : Tbl α) : Tbl.get d k (Tbl.put k v t) = v :=
  Tbl.get_ins_erase d k v t

/-- Storing an entry leaves every other index alone. -/
theorem Tbl.get_put_other (d : α) {k j : Nat} (h : j ≠ k) (v : α) (t : Tbl α) : Tbl.get d j (Tbl.put k v t) = Tbl.get d j t := by
  simp [Tbl.put, Tbl.get_ins_other d h, Tbl.get_erase_other d h]

/-- A number set in a table with a default is read back. -/
@[simp] theorem Tbl.get_set_same (d k v : Nat) (t : Tbl Nat) : Tbl.get d k (Tbl.set d k v t) = v := by
  by_cases h : v = d
  · simp [Tbl.set, h, Tbl.get_erase_same]
  · simp [Tbl.set, h]

/-- Setting a number leaves every other index alone, whatever default it is read with. -/
theorem Tbl.get_set_other (d e : Nat) {k j : Nat} (h : j ≠ k) (v : Nat) (t : Tbl Nat) :
    Tbl.get e j (Tbl.set d k v t) = Tbl.get e j t := by
  by_cases hv : v = d
  · simp [Tbl.set, hv, Tbl.get_erase_other e h]
  · simp [Tbl.set, hv, Tbl.get_put_other e h]

/-! ### The canonical form -/

theorem Tbl.sorted_iff (t : Tbl α) : t.sorted = true ↔ t.Pairwise (fun x y => x.1 < y.1) := by
  induction t with
  | nil => simp [Tbl.sorted]
  | cons e t ih =>
    obtain ⟨i, v⟩ := e
    cases t with
    | nil => simp [Tbl.sorted]
    | cons e' t =>
      obtain ⟨j, w⟩ := e'
      simp only [Tbl.sorted, Bool.and_eq_true, decide_eq_true_eq, ih, List.pairwise_cons]
      constructor
      · rintro ⟨h, h1, h2⟩
        refine ⟨?_, h1, h2⟩
        rintro x (_ | ⟨_, hx⟩)
        · exact h
        · exact lt_trans h (h1 x hx)
      · rintro ⟨h, h1, h2⟩
        exact ⟨h (j, w) (by simp), h1, h2⟩

theorem Tbl.mem_erase {k : Nat} {t : Tbl α} {x : Nat × α} (h : x ∈ Tbl.erase k t) : x ∈ t ∧ x.1 ≠ k := by
  induction t with
  | nil => simp [Tbl.erase] at h
  | cons e t ih =>
    obtain ⟨i, v⟩ := e
    by_cases hi : i = k
    · simp only [Tbl.erase, hi, if_true] at h
      exact ⟨List.mem_cons_of_mem _ (ih h).1, (ih h).2⟩
    · simp only [Tbl.erase, hi, if_false, List.mem_cons] at h
      rcases h with rfl | h
      · exact ⟨by simp, hi⟩
      · exact ⟨List.mem_cons_of_mem _ (ih h).1, (ih h).2⟩

theorem Tbl.mem_ins {k : Nat} {v : α} {t : Tbl α} {x : Nat × α} (h : x ∈ Tbl.ins k v t) : x = (k, v) ∨ x ∈ t := by
  induction t with
  | nil => simp [Tbl.ins] at h; exact .inl h
  | cons e t ih =>
    obtain ⟨i, w⟩ := e
    by_cases hi : k < i
    · simp only [Tbl.ins, hi, if_true, List.mem_cons] at h; simpa using h
    · simp only [Tbl.ins, hi, if_false, List.mem_cons] at h
      rcases h with rfl | h
      · simp
      · rcases ih h with h | h <;> simp [h]

theorem Tbl.pairwise_erase (k : Nat) {t : Tbl α} (h : t.Pairwise (fun x y => x.1 < y.1)) :
    (Tbl.erase k t).Pairwise (fun x y => x.1 < y.1) := by
  induction t with
  | nil => exact h
  | cons e t ih =>
    obtain ⟨i, v⟩ := e
    rw [List.pairwise_cons] at h
    by_cases hi : i = k
    · simpa [Tbl.erase, hi] using ih h.2
    · simp only [Tbl.erase, hi, if_false, List.pairwise_cons]
      exact ⟨fun x hx => h.1 x (Tbl.mem_erase hx).1, ih h.2⟩

theorem Tbl.pairwise_ins (k : Nat) (v : α) {t : Tbl α} (h : t.Pairwise (fun x y => x.1 < y.1)) (hk : ∀ x ∈ t, x.1 ≠ k) :
    (Tbl.ins k v t).Pairwise (fun x y => x.1 < y.1) := by
  induction t with
  | nil => simp [Tbl.ins]
  | cons e t ih =>
    obtain ⟨i, w⟩ := e
    have h' := List.pairwise_cons.mp h
    by_cases hi : k < i
    · simp only [Tbl.ins, hi, if_true, List.pairwise_cons]
      refine ⟨?_, h'.1, h'.2⟩
      intro x hx
      rcases List.mem_cons.mp hx with rfl | hx
      · exact hi
      · exact lt_trans hi (h'.1 x hx)
    · simp only [Tbl.ins, hi, if_false, List.pairwise_cons]
      have hik : i < k := by have := hk (i, w) (by simp); simp at this; omega
      refine ⟨?_, ih h'.2 fun x hx => hk x (List.mem_cons_of_mem _ hx)⟩
      intro x hx
      rcases Tbl.mem_ins hx with rfl | hx
      · exact hik
      · exact h'.1 x hx

/-- Erasing keeps the indices rising. -/
theorem Tbl.sorted_erase (k : Nat) {t : Tbl α} (h : t.sorted = true) : (Tbl.erase k t).sorted = true :=
  (Tbl.sorted_iff _).mpr (Tbl.pairwise_erase k ((Tbl.sorted_iff t).mp h))

/-- Storing keeps the indices rising. -/
theorem Tbl.sorted_put (k : Nat) (v : α) {t : Tbl α} (h : t.sorted = true) : (Tbl.put k v t).sorted = true :=
  (Tbl.sorted_iff _).mpr
    (Tbl.pairwise_ins k v (Tbl.pairwise_erase k ((Tbl.sorted_iff t).mp h)) fun _ hx => (Tbl.mem_erase hx).2)

/-- Setting a number keeps the canonical form over one default. -/
theorem Tbl.wf_set (d k v : Nat) {t : Tbl Nat} (h : t.wf d = true) : (Tbl.set d k v t).wf d = true := by
  simp only [Tbl.wf, Bool.and_eq_true, List.all_eq_true, decide_eq_true_eq] at h ⊢
  by_cases hv : v = d
  · simp only [Tbl.set, hv, if_true]
    exact ⟨Tbl.sorted_erase k h.1, fun x hx => h.2 x (Tbl.mem_erase hx).1⟩
  · simp only [Tbl.set, hv, if_false]
    refine ⟨Tbl.sorted_put k v h.1, fun x hx => ?_⟩
    rcases Tbl.mem_ins hx with rfl | hx
    · exact hv
    · exact h.2 x (Tbl.mem_erase hx).1

/-- The empty table is canonical. -/
@[simp] theorem Tbl.wf_nil (d : Nat) : Tbl.wf d [] = true := rfl

end Sys2Proof
end

