-- ==== Sys2Proof/Laws/Cells.lean ====
section
/-!
SUPPORT. Laws of register cells: what a field reads as after a write of it and of another field, and that a write keeps the register file
canonical.
-/

namespace Sys2Proof.Machine

@[simp] theorem RegFile.cells_withCells_same (r : RegFile) (t : Tbl Nat) (b : Blk) : (r.withCells t b).cells b = t := by
  cases b <;> rfl

theorem RegFile.cells_withCells_other (r : RegFile) (t : Tbl Nat) {b c : Blk} (h : c ≠ b) :
    (r.withCells t b).cells c = r.cells c := by
  cases b <;> cases c <;> first | rfl | exact absurd rfl h

/-- A written field reads as what was written, cut to its width. -/
@[simp] theorem Dev.rd_wr_same (d : Dev) (f : Fld) (v i j : Nat) : (d.wr f v i j).rd f i j = v % 2 ^ f.len := by
  simp [Dev.rd, Dev.wr]

/-- A write leaves the fields of other blocks alone. -/
theorem Dev.rd_wr_blk (d : Dev) {f g : Fld} (h : g.blk ≠ f.blk) (v i j k l : Nat) : (d.wr f v i j).rd g k l = d.rd g k l := by
  simp [Dev.rd, Dev.wr, RegFile.cells_withCells_other _ _ h]

/-- A write leaves every other cell alone. -/
theorem Dev.rd_wr_other (d : Dev) {f g : Fld} {i j k l : Nat} (h : g.key k l ≠ f.key i j) (v : Nat) :
    (d.wr f v i j).rd g k l = d.rd g k l := by
  by_cases hb : g.blk = f.blk
  · simp [Dev.rd, Dev.wr, hb, Tbl.get_set_other _ _ h]
  · exact Dev.rd_wr_blk d hb v i j k l

/-- A set one-bit field reads 1. -/
theorem Dev.rd_set1_same (d : Dev) (f : Fld) (i j : Nat) (h : f.len = 1) : (d.set1 f i j).rd f i j = 1 := by
  simp [Dev.set1, h]

/-- A cleared field reads 0. -/
@[simp] theorem Dev.rd_clr_same (d : Dev) (f : Fld) (i j : Nat) : (d.clr f i j).rd f i j = 0 := by simp [Dev.clr]

theorem Dev.rd_set1_other (d : Dev) {f g : Fld} {i j k l : Nat} (h : g.key k l ≠ f.key i j) :
    (d.set1 f i j).rd g k l = d.rd g k l := Dev.rd_wr_other d h 1

theorem Dev.rd_clr_other (d : Dev) {f g : Fld} {i j k l : Nat} (h : g.key k l ≠ f.key i j) :
    (d.clr f i j).rd g k l = d.rd g k l := Dev.rd_wr_other d h 0

/-- At reset a field reads as its reset value. -/
theorem Dev.rd_reset (f : Fld) (i j : Nat) : Dev.rd {} f i j = f.reset % 2 ^ f.len := by
  unfold Dev.rd RegFile.cells; cases f.blk <;> rfl

/-- A field reads as a number of its width. -/
theorem Dev.rd_lt (d : Dev) (f : Fld) (i j : Nat) : d.rd f i j < 2 ^ f.len := Nat.mod_lt _ (Nat.two_pow_pos _)

/-- A field reads alike in two devices with the same register file. -/
theorem Dev.rd_congr {d e : Dev} (h : d.regs = e.regs) (f : Fld) (i j : Nat) : d.rd f i j = e.rd f i j := by
  simp [Dev.rd, h]

/-- Every block's cells have rising indices. -/
def RegFile.sorted (r : RegFile) : Prop := ∀ b, (r.cells b).sorted = true

/-- A write keeps the indices of every block's cells rising. -/
theorem Dev.wr_sorted (d : Dev) (f : Fld) (v i j : Nat) (h : d.regs.sorted) : (d.wr f v i j).regs.sorted := by
  intro b
  by_cases hb : b = f.blk
  · subst hb
    simp only [Dev.wr, RegFile.cells_withCells_same, Tbl.set]
    split
    · exact Tbl.sorted_erase _ (h _)
    · exact Tbl.sorted_put _ _ (h _)
  · simpa [Dev.wr, RegFile.cells_withCells_other _ _ hb] using h b

/-- The register file at reset is canonical: it lists nothing. -/
theorem RegFile.sorted_reset : RegFile.sorted {} := by intro b; cases b <;> rfl

end Sys2Proof.Machine
end

