-- ==== Sys2Proof/Laws/Ops.lean ====
section
/-!
SUPPORT. One law for each shared operation: everything it can do, so that a proof cites it and does not unfold it.
-/

namespace Sys2Proof.Machine

/-! ### Acting on the state -/

/-- An event in a domain that has been released acts on the device. -/
@[simp] theorem State.event_released {s : State} {k : Nat} (f : Dev → Dev) (h : k ≤ s.seq.released) :
    s.event k f = .next { s with dev := f s.dev } := by simp [State.event, h]

/-- An event in a domain still in reset changes nothing. -/
@[simp] theorem State.event_held {s : State} {k : Nat} (f : Dev → Dev) (h : s.seq.released < k) : s.event k f = .next s := by
  simp [State.event, Nat.not_le.mpr h]

/-- An access to a domain that has been released acts on the device. -/
@[simp] theorem State.reach_released {s : State} {k : Nat} (f held : Dev → Dev) (h : k ≤ s.seq.released) :
    s.reach k f held = .next { s with dev := f s.dev } := by simp [State.reach, h]

/-- An access to a domain still in reset is answered by `held` once FABRIC is released, and else lost. -/
theorem State.reach_held {s : State} {k : Nat} (f held : Dev → Dev) (h : s.seq.released < k) :
    s.reach k f held = s.event 2 held := by simp [State.reach, Nat.not_le.mpr h]

/-- Whatever an event does, the machine goes on, its queue and its reset sequencer as before. -/
theorem State.event_next (s : State) (k : Nat) (f : Dev → Dev) :
    ∃ d, s.event k f = .next { s with dev := d } ∧ (d = s.dev ∨ k ≤ s.seq.released ∧ d = f s.dev) := by
  by_cases h : k ≤ s.seq.released
  · exact ⟨f s.dev, State.event_released f h, .inr ⟨h, rfl⟩⟩
  · exact ⟨s.dev, by simp [State.event, h], .inl rfl⟩

/-- A step of the sequencer leaves the queue alone. -/
theorem State.sequence_next (s : State) (f : Seq → Dev → Seq × Dev) :
    s.sequence f = .next { s with seq := (f s.seq s.dev).1, dev := (f s.seq s.dev).2 } := rfl

/-- With a command waiting, a step carries it out. -/
theorem step_cons {s : State} {c : Instr} {l : List Instr} (h : s.pending = c :: l) : step s = exec c { s with pending := l } := by
  simp [step, h]

/-- With none waiting, a step is one tick of the TIME clock. -/
theorem step_nil {s : State} (h : s.pending = []) : step s = .next s.idle := by simp [step, h]

theorem State.idle_seq (s : State) : s.idle.seq = s.seq := rfl

theorem State.idle_pending (s : State) : s.idle.pending = s.pending := rfl

/-! ### Answers -/

/-- An answer goes to Q_21 while there is room; its tag is released at the end of the clock (R40). -/
theorem Dev.respond_room {d : Dev} {r : Rsp} (hp : r.port ≠ 4) (h : d.net.q21.length < 64) :
    d.respond r = { d with net := { d.net with q21 := d.net.q21 ++ [r], released := d.net.released ++ [r.tag] } } := by
  simp [Dev.respond, hp, h]

/-- With Q_21 full an answer waits, its tag in flight (R40). -/
theorem Dev.respond_full {d : Dev} {r : Rsp} {b : Bool} (hp : r.port ≠ 4) (h : 64 ≤ d.net.q21.length) :
    d.respond r b = { d with net := { d.net with rspWait := d.net.rspWait ++ [(r, b)] } } := by
  simp [Dev.respond, hp, Nat.not_lt.mpr h]

/-- The management core gets no answer record. -/
theorem Dev.respond_core {d : Dev} {r : Rsp} (hp : r.port = 4) : d.respond r = d := by simp [Dev.respond, hp]

/-- An answer changes the network block alone. -/
theorem Dev.respond_frame (d : Dev) (r : Rsp) (b : Bool) : ∃ n, d.respond r b = { d with net := n } := by
  unfold Dev.respond; split
  · exact ⟨d.net, rfl⟩
  · split <;> exact ⟨_, rfl⟩

/-- The tags released are in flight no more, and nothing else changes. -/
theorem Dev.tagsFree_inflight (d : Dev) :
    d.tagsFree.net.inflight = d.net.inflight.filter fun x => !d.net.released.contains x.1 := by
  unfold Dev.tagsFree; split <;> simp_all

@[simp] theorem Dev.tagsFree_released (d : Dev) : d.tagsFree.net.released = [] := by unfold Dev.tagsFree; split <;> simp_all

theorem Dev.tagsFree_frame (d : Dev) :
    d.tagsFree = { d with net := { d.net with released := [], inflight := d.tagsFree.net.inflight } } := by
  unfold Dev.tagsFree; split
  · rename_i h; rw [← h]
  · rfl

/-- With nothing left to judge the end of a clock frees the tags alone. -/
theorem Dev.clockEnd_quiet {d : Dev} (h : d.tim.judge = []) : d.clockEnd = d.tagsFree := by simp [Dev.clockEnd, h]

/-- A command that no word of its own is kept for is answered with its address. -/
theorem Dev.answer_plain (d : Dev) (c : Cmdr) (k : Code) (h : c.word = none) :
    d.answer c k = d.respond { port := c.port, code := k, tag := c.tag, op := c.op, addr := c.addr, mac := c.mac } := by
  simp [Dev.answer, h]

theorem Dev.answer_frame (d : Dev) (c : Cmdr) (k : Code) : ∃ n, d.answer c k = { d with net := n } := d.respond_frame _ _

@[simp] theorem Dev.answer_regs (d : Dev) (c : Cmdr) (k : Code) : (d.answer c k).regs = d.regs := by
  obtain ⟨n, h⟩ := d.answer_frame c k; rw [h]

@[simp] theorem Dev.answer_rd (d : Dev) (c : Cmdr) (k : Code) (f : Fld) (i j : Nat) : (d.answer c k).rd f i j = d.rd f i j :=
  Dev.rd_congr (d.answer_regs c k) f i j

/-! ### Event records -/

/-- A record is placed in Q_28 while Q_28 has room and no earlier record of its block waits. -/
theorem Dev.ev_room {d : Dev} {e : Evt} (a b src : Nat) (h : d.evr.q28.length < 64)
    (hw : d.evr.waiting.filter (fun w => w.code / 256 == e.code / 256) = []) :
    d.ev e a b src =
      { d with evr := { d.evr with q28 := d.evr.q28 ++ [d.stamp { code := e.code, sev := e.sev, src := src, d0 := a, d1 := b }] } } := by
  simp [Dev.ev, Dev.occur, h, hw]

/-- Raising an event changes the recorder alone, and of the registers EVR_LOST.LOSTQ alone. -/
theorem Dev.ev_frame (d : Dev) (e : Evt) (a b src : Nat) :
    ∃ x, d.ev e a b src = { d with evr := x } ∨ d.ev e a b src = ({ d with evr := x }).bump F.evrLost_lostq := by
  unfold Dev.ev Dev.occur; dsimp only; split
  · exact ⟨_, .inl rfl⟩
  · split
    · exact ⟨_, .inl rfl⟩
    · exact ⟨_, .inr rfl⟩

/-- Raising an event leaves every field but EVR_LOST.LOSTQ. -/
theorem Dev.ev_rd (d : Dev) (e : Evt) (a b src : Nat) {f : Fld} (i j : Nat) (h : f.key i j ≠ F.evrLost_lostq.key 0 0) :
    (d.ev e a b src).rd f i j = d.rd f i j := by
  obtain ⟨x, hx | hx⟩ := d.ev_frame e a b src <;> rw [hx]
  · exact Dev.rd_congr rfl f i j
  · rw [Dev.bump, Dev.rd_wr_other _ h]; exact Dev.rd_congr rfl f i j

/-! ### Instances -/

@[simp] theorem Dev.axis_modAxis_same (d : Dev) (n : Nat) (g : AxH → AxH) : (d.modAxis n g).axis n = g (d.axis n) := by
  simp [Dev.axis, Dev.modAxis, Dev.setAxis]

theorem Dev.axis_modAxis_other (d : Dev) {m n : Nat} (h : m ≠ n) (g : AxH → AxH) : (d.modAxis n g).axis m = d.axis m := by
  simp [Dev.axis, Dev.modAxis, Dev.setAxis, Tbl.get_put_other _ h]

@[simp] theorem Dev.gmc_modGm_same (d : Dev) (n : Nat) (g : GmH → GmH) : (d.modGm n g).gmc n = g (d.gmc n) := by
  simp [Dev.gmc, Dev.modGm]

theorem Dev.gmc_modGm_other (d : Dev) {m n : Nat} (h : m ≠ n) (g : GmH → GmH) : (d.modGm n g).gmc m = d.gmc m := by
  simp [Dev.gmc, Dev.modGm, Tbl.get_put_other _ h]

@[simp] theorem Dev.tb_modTb_same (d : Dev) (n : Nat) (g : TbH → TbH) : (d.modTb n g).tb n = g (d.tb n) := by
  simp [Dev.tb, Dev.modTb]

theorem Dev.tb_modTb_other (d : Dev) {m n : Nat} (h : m ≠ n) (g : TbH → TbH) : (d.modTb n g).tb m = d.tb m := by
  simp [Dev.tb, Dev.modTb, Tbl.get_put_other _ h]

@[simp] theorem Dev.legh_modLeg_same (d : Dev) (n : Nat) (g : LegH → LegH) : (d.modLeg n g).legh n = g (d.legh n) := by
  simp [Dev.legh, Dev.modLeg]

theorem Dev.legh_modLeg_other (d : Dev) {m n : Nat} (h : m ≠ n) (g : LegH → LegH) : (d.modLeg n g).legh m = d.legh m := by
  simp [Dev.legh, Dev.modLeg, Tbl.get_put_other _ h]

@[simp] theorem Dev.pl_modPl_same (d : Dev) (n : Nat) (g : Lane → Lane) : (d.modPl n g).pl n = g (d.pl n) := by
  simp [Dev.pl, Dev.modPl]

theorem Dev.pl_modPl_other (d : Dev) {m n : Nat} (h : m ≠ n) (g : Lane → Lane) : (d.modPl n g).pl m = d.pl m := by
  simp [Dev.pl, Dev.modPl, Tbl.get_put_other _ h]

@[simp] theorem Dev.rd_modAxis (d : Dev) (n : Nat) (g : AxH → AxH) (f : Fld) (i j : Nat) : (d.modAxis n g).rd f i j = d.rd f i j := rfl

@[simp] theorem Dev.rd_modLeg (d : Dev) (n : Nat) (g : LegH → LegH) (f : Fld) (i j : Nat) : (d.modLeg n g).rd f i j = d.rd f i j := rfl

@[simp] theorem Dev.rd_modPl (d : Dev) (n : Nat) (g : Lane → Lane) (f : Fld) (i j : Nat) : (d.modPl n g).rd f i j = d.rd f i j := rfl

@[simp] theorem Dev.rd_modTb (d : Dev) (n : Nat) (g : TbH → TbH) (f : Fld) (i j : Nat) : (d.modTb n g).rd f i j = d.rd f i j := rfl

@[simp] theorem Dev.rd_modGm (d : Dev) (n : Nat) (g : GmH → GmH) (f : Fld) (i j : Nat) : (d.modGm n g).rd f i j = d.rd f i j := rfl

@[simp] theorem Dev.on_true (d : Dev) (f : Dev → Dev) : d.on true f = f d := rfl

@[simp] theorem Dev.on_false (d : Dev) (f : Dev → Dev) : d.on false f = d := rfl

end Sys2Proof.Machine
end

