-- ==== Sys2Proof/Laws/Lane.lean ====
section
/-!
SUPPORT. Laws of the lanes: an instruction that the run has come to is carried out.
-/

namespace Sys2Proof.Machine

/-- A lane instruction at the program counter of a run within its budget takes effect (R252, R258). -/
theorem State.lane_at {s : State} {n : Nat} {o : LOp} {r : LaneRun} (h : s.LaneAt n o r) :
    s.lane n o = .next (s.put (s.dev.laneApply n r (s.dev.laneDo n r o))) := by
  obtain ⟨h1, h2, h3, h4, h5, h6⟩ := h
  have e : s.dev.laneRun? n = some r := by simp [Dev.laneRun?, h2, h3]
  have e2 : s.dev.laneNext n r = some o := by simp only [Dev.laneNext, h5, h6]; simp; omega
  simp [State.lane, h1, Dev.laneOp, e, e2, State.put]

@[simp] theorem State.put_dev (s : State) (d : Dev) : (s.put d).dev = d := rfl

@[simp] theorem State.put_seq (s : State) (d : Dev) : (s.put d).seq = s.seq := rfl

@[simp] theorem State.put_pending (s : State) (d : Dev) : (s.put d).pending = s.pending := rfl

@[simp] theorem State.put_put (s : State) (d e : Dev) : (s.put d).put e = s.put e := rfl

theorem satS_eq_max_min (n : Nat) (x : Int) : satS n x = max (-(2 ^ (n - 1))) (min (2 ^ (n - 1) - 1) x) := rfl

end Sys2Proof.Machine
end

