-- ==== Sys2Proof/Laws/Bus.lean ====
section
/-!
SUPPORT. Laws of accesses: a granted access is carried out and answered, with the bookkeeping of a write.
-/

namespace Sys2Proof.Machine

/-! ### The bookkeeping of a write -/

/-- A staged write changes the staging buffer and its count of lost sources alone (R427). -/
theorem Dev.jrnNote_frame (d : Dev) (a w : Nat) :
    (∃ st no, d.jrnNote a w = { d with mgt := { d.mgt with stage := st, noSrc := no } }) ∨
    ∃ no, d.jrnNote a w = { d.bump F.lehrJrn_nosrc with mgt := { d.mgt with noSrc := no } } := by
  unfold Dev.jrnNote
  split
  · exact .inl ⟨_, _, rfl⟩
  · split
    · exact .inr ⟨_, rfl⟩
    · exact .inl ⟨_, _, rfl⟩

/-- What storing a word does besides: the parity mark at its address, the staging buffer and its count. -/
theorem Dev.stored_frame (d : Dev) (a : Nat) :
    (∃ st no, d.stored a = { d.mended a with mgt := { d.mgt with stage := st, noSrc := no } }) ∨
    ∃ no, d.stored a = { (d.bump F.lehrJrn_nosrc).mended a with mgt := { d.mgt with noSrc := no } } := by
  unfold Dev.stored
  split
  · rename_i p _
    by_cases h : configWord a p = true
    · simp only [h, Dev.on, if_true]
      rcases Dev.jrnNote_frame (d.mended a) a ((d.mended a).placeWord p) with ⟨st, no, h⟩ | ⟨no, h⟩
      · exact .inl ⟨st, no, h⟩
      · exact .inr ⟨no, h⟩
    · simp only [h, Dev.on]; exact .inl ⟨d.mgt.stage, d.mgt.noSrc, rfl⟩
  · exact .inl ⟨d.mgt.stage, d.mgt.noSrc, rfl⟩

/-- Records raised behind a port carry its code; the rest of the device stays. -/
theorem Dev.sourced_frame (d old : Dev) (p : Nat) : ∃ e, d.sourced old p = { d with evr := e } := ⟨_, rfl⟩

/-- With no record raised since, there is none to mark. -/
theorem Dev.sourced_same (d old : Dev) (p : Nat) (h : d.evr = old.evr) : d.sourced old p = d := by
  obtain ⟨regs, now, fi, evr, _⟩ := d
  simp only at h; subst h
  simp [Dev.sourced, Dev.modEvr, List.take_of_length_le, List.drop_of_length_le]

theorem Dev.placeWord_evr (d : Dev) (e : EvrH) (p : Place) : ({ d with evr := e } : Dev).placeWord p = d.placeWord p := by
  cases p <;> rfl

/-- The bookkeeping of a write does not meet the event records. -/
theorem Dev.stored_evr (d : Dev) (e : EvrH) (a : Nat) : ({ d with evr := e } : Dev).stored a = { d.stored a with evr := e } := by
  unfold Dev.stored
  split
  · rename_i p _
    have hw : (Dev.mended { d with evr := e } a).placeWord p = (d.mended a).placeWord p := Dev.placeWord_evr (d.mended a) e p
    by_cases h : configWord a p = true
    · simp only [h, Dev.on, if_true, hw]
      generalize (d.mended a).placeWord p = w
      unfold Dev.jrnNote
      by_cases h1 : d.devstate < 2
      · simp [Dev.mended, h1]
      · by_cases h2 : 1024 ≤ d.mgt.stage.length <;> simp [Dev.mended, h1, h2, Dev.modMgt, Dev.bump, Dev.wr, Dev.rd]
    · simp [h, Dev.on, Dev.mended]
  · rfl

theorem Dev.stored_sourced (d old : Dev) (a p : Nat) : (d.stored a).sourced old p = (d.sourced old p).stored a := by
  have he : (d.stored a).evr = d.evr := by
    rcases d.stored_frame a with ⟨st, no, h⟩ | ⟨no, h⟩ <;> rw [h] <;> rfl
  unfold Dev.sourced Dev.modEvr
  simp only [he]
  exact (Dev.stored_evr d _ a).symm

/-! ### Done -/

/-- An answered and stored word is a finished write. -/
theorem State.done_intro (s : State) (d d' : Dev) (w : Who) (op a : Nat) (c : Code)
    (h : d' = d ∨ d' = d.stored a) :
    (s.put d).Done (s.put (d'.respond { port := w.port, code := c, tag := w.tag, op := op, addr := a })) w op a c := by
  obtain ⟨n, hn⟩ := d'.respond_frame { port := w.port, code := c, tag := w.tag, op := op, addr := a } true
  have hnet : (d'.respond { port := w.port, code := c, tag := w.tag, op := op, addr := a }).net =
      (d.respond { port := w.port, code := c, tag := w.tag, op := op, addr := a }).net := by
    have he : d'.net = d.net := by
      rcases h with rfl | rfl
      · rfl
      · rcases d.stored_frame a with ⟨st, no, h⟩ | ⟨no, h⟩ <;> rw [h] <;> rfl
    simp only [Dev.respond, he]
    split
    · exact he
    · split <;> rfl
  have hreg : (d'.respond { port := w.port, code := c, tag := w.tag, op := op, addr := a }).regs = d'.regs := by rw [hn]
  refine ⟨?_, hnet, ?_, ?_⟩
  · rcases h with rfl | rfl
    · simp only [State.put_dev, State.put_put]; rw [hn]
    · simp only [State.put_dev, State.put_put]; rw [hn]
      rcases d.stored_frame a with ⟨st, no, h⟩ | ⟨no, h⟩ <;> rw [h] <;> rfl
  · intro x hx
    simp only [State.put_dev]; rw [hn]
    rcases h with rfl | rfl
    · rfl
    · rcases d.stored_frame a with ⟨st, no, h⟩ | ⟨no, h⟩ <;> rw [h] <;> simp [Dev.mended, hx]
  · intro f i j hf
    simp only [State.put_dev]
    rw [Dev.rd_congr hreg]
    rcases h with rfl | rfl
    · rfl
    · rcases d.stored_frame a with ⟨st, no, h⟩ | ⟨no, h⟩ <;> rw [h]
      · rfl
      · have e : (d.bump F.lehrJrn_nosrc).rd f i j = d.rd f i j := Dev.rd_wr_other _ hf _
        exact e

/-- A command row that its meaning accepts or refuses, with rights: `f` is the meaning. -/
theorem State.command_done {s : State} {w : Who} {a : Nat} {f : Dev → Code × Dev} (h : s.Grants w a) (d : Dev)
    (hd : (f s.dev).2.sourced s.dev w.port = d) : Leads (s.command w a f) s d w 2 a (f s.dev).1 := by
  obtain ⟨h1, h2⟩ := h
  unfold Leads State.command State.later Dev.access
  simp only [State.reach_released _ _ h1, h2, Option.some.injEq, Bool.not_true, Bool.false_eq_true, if_false]
  refine ⟨_, rfl, ?_⟩
  subst hd
  by_cases hc : (f s.dev).1 = .ok
  · simp only [hc, if_true]
    refine State.done_intro s _ (((f s.dev).2.stored a).sourced s.dev w.port) w 2 a .ok (.inr ?_)
    exact Dev.stored_sourced _ _ a _
  · simp only [hc, if_false, Dev.answer_plain]
    exact State.done_intro s _ _ w 2 a _ (.inl rfl)

/-- A write of the bits `m` of a register word that the register accepts: `d1` is the device after it. -/
theorem Dev.rowWrite_reg {s : State} {w : Who} {a v m i j : Nat} {r : RegDef} {d1 : Dev} {held : Dev → Dev} (h : s.Grants w a)
    (hp : placeOf a = some (.reg r i j)) (ha : a % 4 = 0) (hb : m = 2 ^ 32 - 1 ∨ s.dev.bad.contains a = false)
    (hr : s.dev.regWrite r i j a v m
        { port := w.port, masked := m != 2 ^ 32 - 1,
          by_ := { port := w.port, tag := w.tag, op := if m = 2 ^ 32 - 1 then 2 else 3, addr := a } } = (some .ok, d1))
    (d : Dev) (hd : d1.sourced s.dev w.port = d) :
    Leads (s.reach (addrDom a) (·.rowWrite w.port w.tag a v m) held) s d w (if m = 2 ^ 32 - 1 then 2 else 3) a .ok := by
  obtain ⟨h1, h2⟩ := h
  subst hd
  refine ⟨_, State.reach_released _ _ h1, ?_⟩
  have hm : ¬ ((m != 2 ^ 32 - 1) = true ∧ s.dev.bad.contains a = true) := by
    rcases hb with rfl | hb
    · simp
    · rintro ⟨-, h⟩; rw [hb] at h; cases h
  have e : s.dev.rowWrite w.port w.tag a v m =
      ((d1.stored a).sourced s.dev w.port).answer
        { port := w.port, tag := w.tag, op := if m = 2 ^ 32 - 1 then 2 else 3, addr := a } .ok := by
    unfold Dev.rowWrite Dev.access
    simp only [h2, Bool.not_true, Bool.false_eq_true, if_false]
    unfold Dev.busWrite
    simp only [hp, ha, hr]
    rw [if_neg (by simp), if_neg hm]
    rfl
  show (s.put _).Done (s.put _) _ _ _ _
  rw [e]
  exact State.done_intro s _ _ w _ a .ok (.inr (Dev.stored_sourced _ _ a _))

end Sys2Proof.Machine
end

