-- ==== Sys2Proof/Tests/Slice0.lean ====
section
/-!
SUPPORT. The author's own tests: ill-formed commands are refused, lane words read as 09_punty_lanes.md encodes them, and for every
statement with hypotheses a state and operands that meet them.
-/

set_option maxRecDepth 20000
set_option linter.unusedVariables false
namespace Sys2Proof.Tests
open Sys2Proof.Machine

/-! ### Small states -/

def sys (d : Dev) : State := { seq := { released := 13, phase := .done }, dev := d }
def set (l : List (Fld × Nat × Nat)) (d : Dev := {}) : State := sys (l.foldl (fun d x => d.wr x.1 x.2.1 x.2.2) d)
def firing0 : Firing := { hook := 0, taps := [], params := [] }
def run0 : LaneRun := { f := firing0, pc := 0 }
def onLane (o : LOp) (l : Lane := {}) (r : LaneRun := run0) : State :=
  sys ((({} : Dev).wr F.plHook_budget 65535).wr F.plCtrl_run 1 |>.modPl 0 fun _ => { l with imem := Tbl.set 0 r.pc o.encode l.imem, run := some r })
def w3 : Who := { port := 3, tag := 5 }
def w0 : Who := { port := 0, tag := 5 }
def w1 : Who := { port := 1, tag := 6 }
def noRight : Dev := { pwr := { inUse := [(0, 4294967295)] } }
def entry0 : List (BitVec 32) := [1, 0, 0, 0, 0, 0, 0, 0]
def axisIn (n k : Nat) (l : List (Fld × Nat × Nat) := []) : State := set ((F.axState_state, k, n) :: l)
def rec0 : CmdRec := { op := 2, tag := 3, count := 1, addr := 0xC0800, data := [5] }
def frm0 : RxFrame := { port := 0, checked := true, frame := { dst := 1, src := 2, etype := 0x88B5, body := [2, 0, 0, 0, 0, 0, 8, 0, 0, 0, 0, 0, 0, 0, 0, 0, 1, 7, 64, 0, 0, 0, 1, 0] } }
def seg0 : Seg := { t0 := 0, seq := 1, replace := false, p := 0, v := 0, a := 0, j := 0, h := 1000 }
def tick5 (n : Nat) : List (Fld × Nat × Nat) := [(F.axCfg_kind,5,n),(F.axTick_vdiv,15,n),(F.axTick_pdiv,2,n),(F.axTick_cdiv,4,n),(F.axCper_per,60000,n),(F.safStat_state,3,0)]
def by0 : Cmdr := { port := 0, tag := 3, op := 4, addr := 7 }
def ent (op a : Nat) (when_ : Nat := 0) (b : Nat := 0) : QEnt := { by_ := by0, words := [op + 16 * when_ + 65536 * 513, a % 2 ^ 32, a / 2 ^ 32, b % 2 ^ 32, b / 2 ^ 32, 0, 0, 0] }
def axis7 (h : AxH) (l : List (Fld × Nat × Nat)) : State := set l { ax := [(7, h)] }
def running (k : Nat) : State := set [(F.axState_state,k,7),(F.axCfg_kind,1,7),(F.legCfg_use,1,23),(F.legCfg_axis,7,23),(F.legCfg_use,1,0),(F.legCfg_axis,7,0),(F.legCfg_slot,1,0)] { leg := [(23, { gh := true })], ax := [(7, { queue := [ent 7 0], prf := { v := 5 } })] }
def cmp7 (u : CmpH) (l : List (Fld × Nat)) (d : Dev := {}) : State := sys (l.foldl (fun d x => d.wr x.1 x.2 7 3) { d with ax := [(7, { cmp := [(3, u)] })] })
def stageAt : State := let s := axis7 { tick := { j := some (-9), cur := true } } (tick5 7 ++ [(F.axState_state,2,7),(F.axCfg_kind,4,7),(F.legCfg_use,1,20),(F.legCfg_axis,7,20)]); s.put { s.dev with now := 10 ^ 10 }
def loops (l : Tbl LpH) (k : Nat := 2) (x : List (Fld × Nat × Nat) := []) (vm : Int := 0) : State := axis7 { lp := l, fb := { vm := vm } } ([(F.axState_state,k,7),(F.axCfg_kind,1,7)] ++ x)
def leg23 (h : LegH) (l : List (Fld × Nat × Nat) := []) (d : Dev := {}) : State := set ([(F.legCfg_use,1,23),(F.legCfg_axis,7,23)] ++ l) { d with leg := [(23, h)] }
def fq3 (h : FqH) (l : List (Fld × Nat) := []) : State := set ([(F.fqCtrl_en,1,3),(F.fqCtrl_mode,1,3),(F.fqCtrl_axis,7,3),(F.axCfg_kind,1,7)] ++ l.map fun x => (x.1,x.2,3)) { fbk := { fq := [(3, h)] } }
def a1 : VTick := {t:=0,x:=5,v:=1}
def b1 : VTick := {t:=10,x:=25,v:=1}
def gth (st : Nat) (h : GthH := {}) (l : List (Fld × Nat × Nat) := []) (d : Dev := {}) : State := set ([(F.gthStat_state,st,0),(F.gthCtrl_chen,1,0),(F.gthPost_post,5,0),(F.gthPre_pre,2,0)] ++ l) { d with gth := h }
def later : TimH := { tb := [(0, { val := 10 ^ 6 * 2 ^ 40 })] }
def evx (ty : Nat) (p : List Nat) (port : Nat := 0) : RxFrame := { port := port, checked := true, frame := { dst := 1, src := 2, etype := 0x88B5, body := [16 + ty, 0, 0, 0, 9, 0, p.length % 256, p.length / 256, 0, 0, 0, 0, 0, 0, 0, 0] ++ p } }
def rx (x : RxFrame) (h : NetH := {}) (l : List (Fld × Nat × Nat) := []) (d : Dev := {}) : State := set l { d with net := { h with rxq := [x] } }
def rsp (port : Nat) : Rsp := { port := port, code := .ok, tag := 5, op := 1, addr := 0xC0800, data := [7], mac := 9 }
def wt4 (c : Nat) : Waiting := { cls := c, frame := (evx 1 []).frame }
def evrec : Rec := { code := 1, sev := 2, tbv := false, src := 7, opsec := 0, pwrcyc := 0, tsec := 0, tns := 0, d0 := 1, d1 := 2 }
def canOn (c : CanH := {}) (l : List (Fld × Nat × Nat) := []) : State := set ([(F.canCtrl_en,1,0),(F.canCtrl_mode,2,0)] ++ l) { can := { c with ready := true, mode := 2 } }
def qent (o : Nat) : QEnt := { by_ := { port := 3, tag := 9 }, words := [o] }
def tx3 : CanTx := { obj := 3, sec := 1, ns := 2, f := { id := 5, dlc := 1, data := [7] } }
def fr5 : CanFrame := { id := 5, dlc := 2, data := [1, 2] }
def rx5 (l : List (Fld × Nat × Nat) := []) (c : CanH := {}) : State := canOn c ([(F.rxoId_en,1,63),(F.rxoId_id,5,63)] ++ l)
def saf (h : SafH) (l : List (Fld × Nat × Nat) := []) (now : Nat := 0) : State := set l { saf := h, now := now }
def safBody (alive : Nat) : List Nat := let b := [0x15, 32] ++ bytesOf 2 alive ++ List.replicate 40 0; b ++ bytesOf 4 ((safCrc 0x15).over_ b)
def safRx (port : Nat) (b : List Nat) (h : SafH) (l : List (Fld × Nat × Nat) := []) (now : Nat := 0) : State := set ([(F.safCfg_fen,1,0),(F.safCfg_ageen,0,0),(F.safSeal_addr,0x15,0)] ++ l) { saf := h, now := now, net := { q24 := [{ port := port, body := b }, { port := 0, body := [] }] } }
def chk1 (h : ChkH := {}) (l : List (Fld × Nat) := []) : State := let s := set (l.map fun x => (x.1, x.2, 3)); s.put (s.dev.modChk 3 fun _ => h)
def chkDw : Cmdr × ChkWrite := ({ port := 3, tag := 1 }, .data [1])
def rcS (n sv : Nat) : Rec := { code := 0x0203, sev := sv, tbv := false, src := 0, seq := n, opsec := 0, pwrcyc := 0, tsec := 0, tns := 0, d0 := 1, d1 := 2 }
def evr (h : EvrH) (l : List (Fld × Nat × Nat) := []) : State := set l { evr := h }
def rc (n : Nat) : Rec := { code := 0x0203, sev := 1, tbv := false, src := 0, seq := n, opsec := 0, pwrcyc := 0, tsec := 0, tns := 0, d0 := 1, d1 := 2 }
def oc : Occ := { code := 0x0203, sev := 1, src := 0, d0 := 1, d1 := 2 }
def evrRun (h : EvrH) (l : List (Fld × Nat × Nat) := []) : State := set ([(F.mgtState_core,0,0)] ++ l) { evr := h, mgt := { fwRun := true } }
def seqAt (q : Seq) (l : List (Fld × Nat × Nat) := []) (d : Dev := {}) : State := { (set l d) with seq := q }
def flashOf (b n w : Nat) : Tbl Nat := (List.range n).map fun k => (b + k, w / 256 ^ k % 256)
def fwBytes : Nat := 0x2e5fdea3c60560ba51ff7460148851ec0a482e68db84f5146c666fba594524ce2e5fdea3c60560ba51ff7460148851ec0a482e68db84f5146c666fba594524ce9ab1b6317153ee49865f27afa8fc81990fbcc23a25884bcb470d06f71c7d48bf368ad781db20bb0eca56c9eede78df33dedd3ff06175a4f9f7306c75aec609100000000047534b5604030201b63cfbcd00000004000000500000ff101fd4757679910e6d000000000000000000000000000000000000000000000000000000000000000000000000000008240000000a000000540001000157464b56
def keyHash0 : Nat := 0xa154ac315ad9028477f7a79862c565e6a89d2177d6e5f038a0ba7967bb960fd
def fwDev : Dev := { flash := { bytes := flashOf 0 220 fwBytes }, pwr := { inUse := (List.range 8).map fun k => (4 + k, keyHash0 / 2 ^ (32 * k) % 2 ^ 32) } }
def bdBytes : Nat := 0x5000700344e7e426400000008000000500000ff0196bab4e58ffc469d0000000000000000000000000000000000000000000000000000000000000000000000000000082400000009000000580001000149424b56
def bdDev (b : Nat) : Dev := { flash := { bytes := flashOf b 88 bdBytes } }
def badBytes : Nat := 0xffffffff000b000802bb14fc00000008000000500000070157e6f3dc92a124d40000000000000000000000000000000000000000000000000000000000000000000000000000082400000009000000580001000149424b56
def badDev : Dev := {flash:={bytes:=flashOf 0x100000 88 badBytes ++ [(0x30000C,8),(0x30000D,0),(0x30000E,0),(0x30000F,0)]}}
def noSect (b : Nat) : Dev := { flash := { bytes := [(b + 6, 0), (b + 7, 0)] } }
def mgtRuns (d : Dev) (l : List (Fld × Nat × Nat) := []) : State := set ([(F.mgtState_core,0,0)] ++ l) { d with mgt := { d.mgt with fwRun := true } }
def mb (ws : List Nat) : QEnt := { by_ := { port := 3, tag := 9 }, words := ws }
def mbRun (ws : List Nat) (l : List (Fld × Nat × Nat) := []) (h : MgtH := {}) (d : Dev := {}) : State := set ([(F.mgtState_core,0,0)] ++ l) { d with mgt := { h with fwRun := true, q26 := [mb ws] } }
def ck : Chunk := { by_ := none, stream := 7, offset := 4, data := [1, 2, 3, 4] }

/-! ### Ill-formed commands, one for each check of WellFormed.lean -/

def canBad : CanFrame := { id := 0x800, dlc := 1, data := [0] }
def frameBad : Frame := { dst := 2 ^ 48, src := 0, etype := 0, body := [] }
def pdelayBad : PdelayReq := { major := 16, minor := 0, domain := 0, seq := 0, corr := 0, clock := 0, port := 0 }

theorem test_wf_read_port : Instr.wf (.read { port := 4, tag := 0 } 0 0 1) = false := by decide
theorem test_wf_read_count : Instr.wf (.read w3 0 0 0) = false := by decide
theorem test_wf_write_empty : Instr.wf (.write w3 0 0 []) = false := by decide
theorem test_wf_write_long : Instr.wf (.write w3 0 0 (List.replicate 65 0)) = false := by decide
theorem test_wf_maskedWrite_empty : Instr.wf (.maskedWrite w3 0 0 []) = false := by decide
theorem test_wf_queuePush_size : Instr.wf (.queuePush w3 0 0 [1]) = false := by decide
theorem test_wf_gafferSegment : Instr.wf (.gafferSegment 0 []) = false := by decide
theorem test_wf_holdSetConverted : Instr.wf (.holdSetConverted 0 [0, 0, 0, 8192]) = false := by decide
theorem test_wf_offsetCalibration : Instr.wf (.offsetCalibration 0 (-8193)) = false := by decide
theorem test_wf_gainInjection : Instr.wf (.gainInjection 0 8192) = false := by decide
theorem test_wf_scHold : Instr.wf (.scHold 0 0 32768) = false := by decide
theorem test_wf_frameForward : Instr.wf (.frameForward 0 frameBad true) = false := by decide
theorem test_wf_pdelayResponse : Instr.wf (.pdelayResponse 0 pdelayBad) = false := by decide
theorem test_wf_canFrameRx : Instr.wf (.canFrameRx canBad false) = false := by decide
theorem test_wf_canWake : Instr.wf (.canWake (.frame canBad)) = false := by decide
theorem test_wf_chkDataWrite : Instr.wf (.chkDataWrite w3 0 1 2 0) = false := by decide
theorem test_wf_good : Instr.wf (.queuePush w3 0 0 (List.replicate 8 0)) = true ∧ Instr.wf (.read w3 0 0 64) = true := by decide

/-! ### Words of lane instructions, written from the table and the formats of R258 -/

theorem test_word_nop : LOp.decode 0x00000000 = some .nop := by decide
theorem test_word_ld : LOp.decode 0b000001_0011_00000000_0_101_1_000_0_00000 = some (.ld 3 5 true) := by decide
theorem test_word_std : LOp.decode 0b000100_1111_00000000_10000000010001 = some (.std 15 0x2011) := by decide
theorem test_word_ldi : LOp.decode 0b000101_0010_000000_1111111111111111 = some (.ldi 2 0xFFFF) := by decide
theorem test_word_mova : LOp.decode 0b001010_0_110_1001_000000000000000000 = some (.mova 6 9) := by decide
theorem test_word_sub : LOp.decode 0b010001_0001_0010_0011_00000000000000 = some (.sub 1 2 3) := by decide
theorem test_word_shr : LOp.decode 0b011010_0001_0010_0000_000000000_11111 = some (.shr 1 2 31) := by decide
theorem test_word_macm : LOp.decode 0b100011_0000_00000000_1_111_0_110_1_00000 = some (.macm 1 7 false 6 true) := by decide
theorem test_word_ext : LOp.decode 0b100111_0101_0000_0000_1_0000000_100000 = some (.ext 5 1 32) := by decide
theorem test_word_rep : LOp.decode 0b111000_000000000011_00_000000001001 = some (.rep 3 9) := by decide
theorem test_word_brc : LOp.decode 0b111011_0111_0000000000_111111111111 = some (.brc 7 4095) := by decide
theorem test_word_end : LOp.decode 0xFC000000 = some .fin := by decide
theorem test_word_reserved_bit : LOp.decode 0b010001_0001_0010_0011_00000000000001 = none ∧ LOp.decode 0xF4000000 = none := by decide

/-! ### Statements whose hypotheses are about a step, a command or a number -/

/-- SequenceStaysConsistent, PlatformFrames and MotionFrames: a step, and a command of either frame, that answers a next state. -/
theorem test_SequenceStaysConsistent_witnesses : Seq.ok State.reset.seq ∧ step State.reset = .next State.reset.idle := ⟨rfl, rfl⟩
theorem test_PlatformFrames_witnesses : ∃ t, exec .canRecovered (sys {}) = .next t := ⟨_, rfl⟩
theorem test_MotionFrames_witnesses : ∃ t, exec (.cmpDisarm w3 0 0) (sys {}) = .next t := ⟨_, rfl⟩
theorem test_LaneWordsDecode_witnesses : (0xFC000000 : Nat) < 2 ^ 32 ∧ LOp.decode 0xFC000000 = some .fin := by decide
theorem test_RoundingIsToNearestEven_witnesses :
    (0 : Nat) < 2 ∧ (-129 : Int) < -(2 ^ 7) ∧ (2 ^ 7 - 1 : Int) < 128 ∧ (-(2 ^ 7) : Int) ≤ -128 ∧ (127 : Int) ≤ 2 ^ 7 - 1 := by decide

/-! ### Every hypothesis can be met -/

/-- LaneMovesAndCompares. -/
theorem test_LaneMovesAndCompares_witnesses :
    (let s : State := onLane .nop; let n : Fin 8 := 0; let r : LaneRun := run0; s.LaneAt n .nop r) ∧
    (let s : State := onLane (.ldi 3 65535); let n : Fin 8 := 0; let r : LaneRun := run0; let d : Fin 16 := 3; let imm : Fin 65536 := 65535; s.LaneAt n (.ldi d imm) r) ∧
    (let s : State := onLane (.ldih 3 65535) {d:=[(3,7)]}; let n : Fin 8 := 0; let r : LaneRun := run0; let d : Fin 16 := 3; let imm : Fin 65536 := 65535; s.LaneAt n (.ldih d imm) r) ∧
    (let s : State := onLane (.mov 1 15) {d:=[(15,4294967295)]}; let n : Fin 8 := 0; let r : LaneRun := run0; let d : Fin 16 := 1; let a : Fin 16 := 15; s.LaneAt n (.mov d a) r) ∧
    (let s : State := onLane (.lda 7 16383); let n : Fin 8 := 0; let r : LaneRun := run0; let k : Fin 16384 := 16383; let q : Fin 8 := 7; s.LaneAt n (.lda q k) r) ∧
    (let s : State := onLane (.ldm 7 16383); let n : Fin 8 := 0; let r : LaneRun := run0; let k : Fin 16384 := 16383; let q : Fin 8 := 7; s.LaneAt n (.ldm q k) r) ∧
    (let s : State := onLane (.mova 7 2) {d:=[(2,4294967295)]}; let n : Fin 8 := 0; let r : LaneRun := run0; let a : Fin 16 := 2; let q : Fin 8 := 7; s.LaneAt n (.mova q a) r) ∧
    (let s : State := onLane (.movm 7 2) {d:=[(2,4294967295)]}; let n : Fin 8 := 0; let r : LaneRun := run0; let a : Fin 16 := 2; let q : Fin 8 := 7; s.LaneAt n (.movm q a) r) ∧
    (let s : State := onLane (.cmp 1 2) {d:=[(1,2147483648),(2,2147483647)]}; let n : Fin 8 := 0; let r : LaneRun := run0; let a : Fin 16 := 1; let b : Fin 16 := 2; s.LaneAt n (.cmp a b) r) ∧
    (let s : State := onLane (.maxi 1 2 3) {d:=[(1,2147483648),(2,2147483647)]}; let n : Fin 8 := 0; let r : LaneRun := run0; let d : Fin 16 := 1; let a : Fin 16 := 2; let b : Fin 16 := 3; s.LaneAt n (.maxi d a b) r) ∧
    (let s : State := onLane (.mini 1 2 3) {d:=[(1,2147483648),(2,2147483647)]}; let n : Fin 8 := 0; let r : LaneRun := run0; let d : Fin 16 := 1; let a : Fin 16 := 2; let b : Fin 16 := 3; s.LaneAt n (.mini d a b) r) := by
  refine ⟨?_, ?_, ?_, ?_, ?_, ?_, ?_, ?_, ?_, ?_, ?_⟩ <;> decide +kernel

/-- LaneArithmetic. -/
theorem test_LaneArithmetic_witnesses :
    (let s : State := onLane (.add 3 1 2) {d:=[(1,2147483647),(2,1)]}; let n : Fin 8 := 0; let r : LaneRun := run0; let d : Fin 16 := 3; let a : Fin 16 := 1; let b : Fin 16 := 2; s.LaneAt n (.add d a b) r) ∧
    (let s : State := onLane (.add 3 1 2) {d:=[(1,2147483646),(2,1)]}; let n : Fin 8 := 0; let r : LaneRun := run0; let d : Fin 16 := 3; let a : Fin 16 := 1; let b : Fin 16 := 2; s.LaneAt n (.add d a b) r) ∧
    (let s : State := onLane (.sub 3 1 2) {d:=[(1,2147483648),(2,1)]}; let n : Fin 8 := 0; let r : LaneRun := run0; let d : Fin 16 := 3; let a : Fin 16 := 1; let b : Fin 16 := 2; s.LaneAt n (.sub d a b) r) ∧
    (let s : State := onLane (.neg 3 1) {d:=[(1,2147483648)]}; let n : Fin 8 := 0; let r : LaneRun := run0; let d : Fin 16 := 3; let a : Fin 16 := 1; s.LaneAt n (.neg d a) r) ∧
    (let s : State := onLane (.abs 3 1) {d:=[(1,2147483648)]}; let n : Fin 8 := 0; let r : LaneRun := run0; let d : Fin 16 := 3; let a : Fin 16 := 1; s.LaneAt n (.abs d a) r) ∧
    (let s : State := onLane (.min 3 1 2) {d:=[(1,2147483648),(2,1)]}; let n : Fin 8 := 0; let r : LaneRun := run0; let d : Fin 16 := 3; let a : Fin 16 := 1; let b : Fin 16 := 2; s.LaneAt n (.min d a b) r) ∧
    (let s : State := onLane (.max 3 1 2) {d:=[(1,2147483648),(2,1)]}; let n : Fin 8 := 0; let r : LaneRun := run0; let d : Fin 16 := 3; let a : Fin 16 := 1; let b : Fin 16 := 2; s.LaneAt n (.max d a b) r) ∧
    (let s : State := onLane (.shl 3 1 31) {d:=[(1,4294967295)]}; let n : Fin 8 := 0; let r : LaneRun := run0; let d : Fin 16 := 3; let a : Fin 16 := 1; let k : Fin 32 := 31; s.LaneAt n (.shl d a k) r) ∧
    (let s : State := onLane (.and 3 1 2) {d:=[(1,2147483648),(2,4294967295)]}; let n : Fin 8 := 0; let r : LaneRun := run0; let d : Fin 16 := 3; let a : Fin 16 := 1; let b : Fin 16 := 2; s.LaneAt n (.and d a b) r) ∧
    (let s : State := onLane (.or 3 1 2) {d:=[(1,2147483648),(2,1)]}; let n : Fin 8 := 0; let r : LaneRun := run0; let d : Fin 16 := 3; let a : Fin 16 := 1; let b : Fin 16 := 2; s.LaneAt n (.or d a b) r) ∧
    (let s : State := onLane (.xor 3 1 2) {d:=[(1,2147483648),(2,4294967295)]}; let n : Fin 8 := 0; let r : LaneRun := run0; let d : Fin 16 := 3; let a : Fin 16 := 1; let b : Fin 16 := 2; s.LaneAt n (.xor d a b) r) ∧
    (let s : State := onLane (.shr 3 1 1) {d:=[(1,3)]}; let n : Fin 8 := 0; let r : LaneRun := run0; let d : Fin 16 := 3; let a : Fin 16 := 1; let k : Fin 32 := 1; s.LaneAt n (.shr d a k) r) ∧
    (let s : State := onLane (.mulq 3 1 2) {d:=[(1,2147483648),(2,2147483648)]}; let n : Fin 8 := 0; let r : LaneRun := run0; let d : Fin 16 := 3; let a : Fin 16 := 1; let b : Fin 16 := 2; s.LaneAt n (.mulq d a b) r) ∧
    (let s : State := onLane (.ext 3 1 63) {acc1:=5*2^31}; let n : Fin 8 := 0; let r : LaneRun := run0; let d : Fin 16 := 3; let x : Fin 2 := 1; let sh : Fin 64 := 63; s.LaneAt n (.ext d x sh) r) ∧
    (let s : State := onLane (.ext 3 1 31) {acc1:=5*2^31}; let n : Fin 8 := 0; let r : LaneRun := run0; let d : Fin 16 := 3; let x : Fin 2 := 1; let sh : Fin 64 := 31; s.LaneAt n (.ext d x sh) r) ∧
    (let s : State := onLane (.ext 3 0 32) {acc0:=2^70}; let n : Fin 8 := 0; let r : LaneRun := run0; let d : Fin 16 := 3; let x : Fin 2 := 0; let sh : Fin 64 := 32; s.LaneAt n (.ext d x sh) r) := by
  refine ⟨?_, ?_, ?_, ?_, ?_, ?_, ?_, ?_, ?_, ?_, ?_, ?_, ?_, ?_, ?_, ?_⟩ <;> decide +kernel

/-- LaneExtremes. -/
theorem test_LaneExtremes_witnesses :
    (let s : State := onLane (.maxi 1 2 3) {d:=[(1,2147483648),(2,2147483647)]} {run0 with stack:=[{start:=0,stop:=5,count:=9,lc:=4}]}; let n : Fin 8 := 0; let r : LaneRun := {run0 with stack:=[{start:=0,stop:=5,count:=9,lc:=4}]}; let d : Fin 16 := 1; let a : Fin 16 := 2; let b : Fin 16 := 3; let l := s.dev.pl n; s.LaneAt n (.maxi d a b) r ∧ l.dr d < l.dr a) ∧
    (let s : State := onLane (.maxi 1 2 1) {d:=[(1,2147483648),(2,2147483647)]}; let n : Fin 8 := 0; let r : LaneRun := run0; let d : Fin 16 := 1; let a : Fin 16 := 2; let b : Fin 16 := 1; let l := s.dev.pl n; s.LaneAt n (.maxi d a b) r ∧ l.dr d < l.dr a) ∧
    (let s : State := onLane (.maxi 1 2 3) {d:=[(1,5),(2,5)]}; let n : Fin 8 := 0; let r : LaneRun := run0; let d : Fin 16 := 1; let a : Fin 16 := 2; let b : Fin 16 := 3; let l := s.dev.pl n; s.LaneAt n (.maxi d a b) r ∧ l.dr a ≤ l.dr d) ∧
    (let s : State := onLane (.mini 1 2 3) {d:=[(2,2147483648),(1,2147483647)]}; let n : Fin 8 := 0; let r : LaneRun := run0; let d : Fin 16 := 1; let a : Fin 16 := 2; let b : Fin 16 := 3; let l := s.dev.pl n; s.LaneAt n (.mini d a b) r ∧ l.dr a < l.dr d) ∧
    (let s : State := onLane (.mini 1 2 3) {d:=[(1,5),(2,5)]}; let n : Fin 8 := 0; let r : LaneRun := run0; let d : Fin 16 := 1; let a : Fin 16 := 2; let b : Fin 16 := 3; let l := s.dev.pl n; s.LaneAt n (.mini d a b) r ∧ l.dr d ≤ l.dr a) := by
  refine ⟨?_, ?_, ?_, ?_, ?_⟩ <;> decide +kernel

/-- LaneAccumulators. -/
theorem test_LaneAccumulators_witnesses :
    (let s : State := onLane (.mpy 1 1 2) {d:=[(1,2147483648),(2,2147483648)]}; let n : Fin 8 := 0; let r : LaneRun := run0; let x : Fin 2 := 1; let a : Fin 16 := 1; let b : Fin 16 := 2; s.LaneAt n (.mpy x a b) r) ∧
    (let s : State := onLane (.mac 1 1 2) {d:=[(1,2147483648),(2,2147483648)], acc1:=2^71-1}; let n : Fin 8 := 0; let r : LaneRun := run0; let x : Fin 2 := 1; let a : Fin 16 := 1; let b : Fin 16 := 2; s.LaneAt n (.mac x a b) r) ∧
    (let s : State := onLane (.msu 1 1 2) {d:=[(1,2147483648),(2,2147483648)], acc1:=-2^71}; let n : Fin 8 := 0; let r : LaneRun := run0; let x : Fin 2 := 1; let a : Fin 16 := 1; let b : Fin 16 := 2; s.LaneAt n (.msu x a b) r) ∧
    (let s : State := onLane (.clr 1) {acc1:=5}; let n : Fin 8 := 0; let r : LaneRun := run0; let x : Fin 2 := 1; s.LaneAt n (.clr x) r) ∧
    (let s : State := onLane (.ldacc 1 1) {d:=[(1,2147483648)]}; let n : Fin 8 := 0; let r : LaneRun := run0; let x : Fin 2 := 1; let a : Fin 16 := 1; s.LaneAt n (.ldacc x a) r) ∧
    (let s : State := onLane (.accadd 1) {acc0:=2^70,acc1:=2^70}; let n : Fin 8 := 0; let r : LaneRun := run0; let x : Fin 2 := 1; s.LaneAt n (.accadd x) r) ∧
    (let s : State := onLane (.accsh 1 31) {acc1:=2^60}; let n : Fin 8 := 0; let r : LaneRun := run0; let x : Fin 2 := 1; let sh : Fin 64 := 31; s.LaneAt n (.accsh x sh) r) ∧
    (let s : State := onLane (.accsh 1 63) {acc1:=3}; let n : Fin 8 := 0; let r : LaneRun := run0; let x : Fin 2 := 1; let sh : Fin 64 := 63; s.LaneAt n (.accsh x sh) r) ∧
    (let s : State := onLane (.accsh 1 32) {acc1:=3*2^31}; let n : Fin 8 := 0; let r : LaneRun := run0; let x : Fin 2 := 1; let sh : Fin 64 := 32; s.LaneAt n (.accsh x sh) r) := by
  refine ⟨?_, ?_, ?_, ?_, ?_, ?_, ?_, ?_, ?_⟩ <;> decide +kernel

/-- LaneMemory. -/
theorem test_LaneMemory_witnesses :
    (let s : State := onLane (.ld 3 7 true) {a:=[(7,8191)], m:=[(7,16383)], dmem:=[(8191,9)]}; let n : Fin 8 := 0; let r : LaneRun := run0; let d : Fin 16 := 3; let i : Fin 8 := 7; let pa : Bool := true; let v : Nat := 9; let l := s.dev.pl n; let a := Tbl.get 0 i l.a; s.LaneAt n (.ld d i pa) r ∧ s.laneGood n a ∧ s.laneWord n r a = some v) ∧
    (let s : State := onLane (.ldd 3 0x2020) {} {run0 with outs:=[(0,77)]}; let n : Fin 8 := 0; let r : LaneRun := {run0 with outs:=[(0,77)]}; let d : Fin 16 := 3; let k : Fin 16384 := 0x2020; let v : Nat := 77; s.LaneAt n (.ldd d k) r ∧ s.laneGood n k ∧ s.laneWord n r k = some v) ∧
    (let s : State := onLane (.st 3 7 true) {a:=[(7,8191)], m:=[(7,1)], d:=[(3,6)]}; let n : Fin 8 := 0; let r : LaneRun := run0; let d : Fin 16 := 3; let i : Fin 8 := 7; let pa : Bool := true; let l := s.dev.pl n; let a := Tbl.get 0 i l.a; s.LaneAt n (.st d i pa) r ∧ a ≤ 0x1FFF) ∧
    (let s : State := onLane (.st 3 7 true) {a:=[(7,0x202B)], m:=[(7,1)], d:=[(3,6)]}; let n : Fin 8 := 0; let r : LaneRun := run0; let d : Fin 16 := 3; let i : Fin 8 := 7; let pa : Bool := true; let l := s.dev.pl n; let a := Tbl.get 0 i l.a; s.LaneAt n (.st d i pa) r ∧ 0x2020 ≤ a ∧ a ≤ 0x202B) ∧
    (let s : State := onLane (.std 3 8191) {d:=[(3,6)]}; let n : Fin 8 := 0; let r : LaneRun := run0; let d : Fin 16 := 3; let k : Fin 16384 := 8191; s.LaneAt n (.std d k) r ∧ k.val ≤ 0x1FFF) ∧
    (let s : State := onLane (.std 3 0x2020) {d:=[(3,6)]}; let n : Fin 8 := 0; let r : LaneRun := run0; let d : Fin 16 := 3; let k : Fin 16384 := 0x2020; s.LaneAt n (.std d k) r ∧ 0x2020 ≤ k.val ∧ k.val ≤ 0x202B) ∧
    (let s : State := onLane (.macm 1 7 true 6 true) {a:=[(6,1),(7,2)], m:=[(6,1),(7,1)], dmem:=[(1,4294967295),(2,5)]}; let n : Fin 8 := 0; let r : LaneRun := run0; let i : Fin 8 := 7; let j : Fin 8 := 6; let pa : Bool := true; let pb : Bool := true; let x : Fin 2 := 1; let u : Nat := 5; let v : Nat := 4294967295; let l := s.dev.pl n; let a := Tbl.get 0 i l.a; s.LaneAt n (.macm x i pa j pb) r ∧ s.laneGood n a ∧ s.laneGood n (Tbl.get 0 j l.a) ∧ s.laneWord n r a = some u ∧ s.laneWord n r (Tbl.get 0 j l.a) = some v) := by
  refine ⟨?_, ?_, ?_, ?_, ?_, ?_, ?_⟩ <;>
    first | decide +kernel | (unfold State.laneGood; decide +kernel)

/-- LaneControl. -/
theorem test_LaneControl_witnesses :
    (let r : LaneRun := run0; r.stack = []) ∧
    (let r : LaneRun := {run0 with stack:=[{start:=0,stop:=5,count:=9,lc:=4}]}; let b : Rep := {start:=0,stop:=5,count:=9,lc:=4}; let l : List Rep := []; r.stack = b :: l ∧ r.pc ≠ b.stop) ∧
    (let r : LaneRun := {run0 with pc:=5, stack:=[{start:=0,stop:=5,count:=9,lc:=7}]}; let b : Rep := {start:=0,stop:=5,count:=9,lc:=7}; let l : List Rep := []; r.stack = b :: l ∧ r.pc = b.stop ∧ b.lc + 1 < b.count) ∧
    (let r : LaneRun := {run0 with pc:=5, stack:=[{start:=0,stop:=5,count:=9,lc:=8}]}; let b : Rep := {start:=0,stop:=5,count:=9,lc:=8}; let l : List Rep := []; r.stack = b :: l ∧ r.pc = b.stop ∧ b.count ≤ b.lc + 1) ∧
    (let s : State := onLane (.rep 0 4095); let n : Fin 8 := 0; let r : LaneRun := run0; let count : Fin 4096 := 0; let last : Fin 4096 := 4095; s.LaneAt n (.rep count last) r ∧ ((r.pc < last.val ∧ ∀ b ∈ r.stack.head?, last.val ≤ b.stop)) ∧ r.stack.length < 4) ∧
    (let s : State := onLane (.rep 5 7) {} {run0 with stack:=[{start:=0,stop:=7,count:=9,lc:=8}]}; let n : Fin 8 := 0; let r : LaneRun := {run0 with stack:=[{start:=0,stop:=7,count:=9,lc:=8}]}; let count : Fin 4096 := 5; let last : Fin 4096 := 7; s.LaneAt n (.rep count last) r ∧ ((r.pc < last.val ∧ ∀ b ∈ r.stack.head?, last.val ≤ b.stop)) ∧ r.stack.length < 4) ∧
    (let s : State := onLane (.repd 1 4095) {d:=[(1,4096)]}; let n : Fin 8 := 0; let r : LaneRun := run0; let a : Fin 16 := 1; let last : Fin 4096 := 4095; let l := s.dev.pl n; s.LaneAt n (.repd a last) r ∧ ((r.pc < last.val ∧ ∀ b ∈ r.stack.head?, last.val ≤ b.stop)) ∧ r.stack.length < 4 ∧ 0 < l.dr a ∧ l.dr a ≤ 4096) ∧
    (let s : State := onLane (.repd 1 4095); let n : Fin 8 := 0; let r : LaneRun := run0; let a : Fin 16 := 1; let last : Fin 4096 := 4095; let l := s.dev.pl n; s.LaneAt n (.repd a last) r ∧ ((r.pc < last.val ∧ ∀ b ∈ r.stack.head?, last.val ≤ b.stop)) ∧ l.dr a = 0) ∧
    (let s : State := onLane (.br 0) {} {run0 with stack:=[{start:=1,stop:=7,count:=9,lc:=8}]}; let n : Fin 8 := 0; let r : LaneRun := {run0 with stack:=[{start:=1,stop:=7,count:=9,lc:=8}]}; let last : Fin 4096 := 0; s.LaneAt n (.br last) r ∧ ((∀ b ∈ r.stack, b.stop ≠ r.pc))) ∧
    (let s : State := onLane (.brc 7 100); let n : Fin 8 := 0; let r : LaneRun := run0; let last : Fin 4096 := 100; let c : Fin 8 := 7; let met := match c.val with | 0 => r.z | 1 => !r.z | 2 => r.n | 3 => !r.n | 4 => !r.z && !r.n | 5 => r.z || r.n | 6 => r.v | _ => !r.v; s.LaneAt n (.brc c last) r ∧ ((∀ b ∈ r.stack, b.stop ≠ r.pc)) ∧ met = true) ∧
    (let s : State := onLane (.brc 6 100); let n : Fin 8 := 0; let r : LaneRun := run0; let last : Fin 4096 := 100; let c : Fin 8 := 6; let met := match c.val with | 0 => r.z | 1 => !r.z | 2 => r.n | 3 => !r.n | 4 => !r.z && !r.n | 5 => r.z || r.n | 6 => r.v | _ => !r.v; s.LaneAt n (.brc c last) r ∧ ((∀ b ∈ r.stack, b.stop ≠ r.pc)) ∧ met = false) := by
  refine ⟨?_, ?_, ?_, ?_, ?_, ?_, ?_, ?_, ?_, ?_, ?_⟩ <;> decide +kernel

/-- LaneFaultsStop. -/
theorem test_LaneFaultsStop_witnesses :
    (let s : State := onLane (.ldd 1 0x2011); let n : Fin 8 := 0; let r : LaneRun := run0; let d : Fin 16 := 1; let k : Fin 16384 := 0x2011; s.dev.rd F.plCtrl_run n = 1 ∧ s.LaneAt n (.ldd d k) r ∧ s.laneWord n r k = none) ∧
    (let s : State := onLane (.ld 1 2 true) {a:=[(2,0x2050)]}; let n : Fin 8 := 0; let r : LaneRun := run0; let d : Fin 16 := 1; let i : Fin 8 := 2; let pa : Bool := true; let l := s.dev.pl n; s.dev.rd F.plCtrl_run n = 1 ∧ s.LaneAt n (.ld d i pa) r ∧ s.laneWord n r (Tbl.get 0 i l.a) = none) ∧
    (let s : State := onLane (.std 1 0x201F); let n : Fin 8 := 0; let r : LaneRun := run0; let d : Fin 16 := 1; let a : Fin 16 := 0; let k : Fin 16384 := 0x201F; let outside := fun a => (0x2000 ≤ a ∧ a < 0x2020) ∨ 0x202B < a; s.dev.rd F.plCtrl_run n = 1 ∧ s.LaneAt n (.std d k) r ∧ outside k.val) ∧
    (let s : State := onLane (.st 1 2 true) {a:=[(2,0x202C)]}; let n : Fin 8 := 0; let r : LaneRun := run0; let d : Fin 16 := 1; let a : Fin 16 := 0; let i : Fin 8 := 2; let pa : Bool := true; let l := s.dev.pl n; let outside := fun a => (0x2000 ≤ a ∧ a < 0x2020) ∨ 0x202B < a; s.dev.rd F.plCtrl_run n = 1 ∧ s.LaneAt n (.st d i pa) r ∧ outside (Tbl.get 0 i l.a)) ∧
    (let s : State := onLane (.rep 1 9) {} {run0 with stack:=List.replicate 4 {start:=0,stop:=90,count:=2}}; let n : Fin 8 := 0; let r : LaneRun := {run0 with stack:=List.replicate 4 {start:=0,stop:=90,count:=2}}; let count : Fin 4096 := 1; let last : Fin 4096 := 9; s.dev.rd F.plCtrl_run n = 1 ∧ s.LaneAt n (.rep count last) r ∧ r.stack.length = 4) ∧
    (let s : State := onLane (.rep 1 0); let n : Fin 8 := 0; let r : LaneRun := run0; let count : Fin 4096 := 1; let last : Fin 4096 := 0; s.dev.rd F.plCtrl_run n = 1 ∧ s.LaneAt n (.rep count last) r ∧ last.val ≤ r.pc) ∧
    (let s : State := onLane (.repd 1 9) {d:=[(1,4097)]}; let n : Fin 8 := 0; let r : LaneRun := run0; let a : Fin 16 := 1; let last : Fin 4096 := 9; let l := s.dev.pl n; s.dev.rd F.plCtrl_run n = 1 ∧ s.LaneAt n (.repd a last) r ∧ ((l.dr a < 0 ∨ 4096 < l.dr a))) ∧
    (let s : State := onLane (.repd 1 9) {d:=[(1,4294967295)]}; let n : Fin 8 := 0; let r : LaneRun := run0; let a : Fin 16 := 1; let last : Fin 4096 := 9; let l := s.dev.pl n; s.dev.rd F.plCtrl_run n = 1 ∧ s.LaneAt n (.repd a last) r ∧ ((l.dr a < 0 ∨ 4096 < l.dr a))) ∧
    (let s : State := onLane (.br 9) {} {run0 with stack:=[{start:=0,stop:=0,count:=2}]}; let n : Fin 8 := 0; let r : LaneRun := {run0 with stack:=[{start:=0,stop:=0,count:=2}]}; let last : Fin 4096 := 9; s.dev.rd F.plCtrl_run n = 1 ∧ s.LaneAt n (.br last) r ∧ ((∃ b ∈ r.stack, b.stop = r.pc))) ∧
    (let s : State := onLane .nop {} {run0 with pc:=4096}; let n : Fin 8 := 0; let r : LaneRun := {run0 with pc:=4096}; let l := s.dev.pl n; s.dev.rd F.plCtrl_run n = 1 ∧ 9 ≤ s.seq.released ∧ l.run = some r ∧ r.cycles < s.dev.rd F.plHook_budget n r.f.hook ∧ 4096 ≤ r.pc) ∧
    (let s : State := (onLane .nop {} {run0 with pc:=4095} |> fun s => {s with dev := s.dev.modPl 0 fun l => {l with imem := [(4095,0x3D*2^26)]}}); let n : Fin 8 := 0; let r : LaneRun := {run0 with pc:=4095}; let l := s.dev.pl n; s.dev.rd F.plCtrl_run n = 1 ∧ 9 ≤ s.seq.released ∧ l.run = some r ∧ r.cycles < s.dev.rd F.plHook_budget n r.f.hook ∧ r.pc < 4096 ∧ s.dev.bad.contains (imemAddr n r.pc) = false ∧ LOp.decode (Tbl.get 0 r.pc l.imem) = none) ∧
    (let s : State := onLane .fin; let n : Fin 8 := 0; let r : LaneRun := run0; let o : LOp := .fin; s.dev.rd F.plCtrl_run n = 1 ∧ s.LaneAt n o r) := by
  refine ⟨?_, ?_, ?_, ?_, ?_, ?_, ?_, ?_, ?_, ?_, ?_, ?_⟩ <;> decide +kernel

/-- LaneEndPublishes. -/
theorem test_LaneEndPublishes_witnesses :
    (let s : State := onLane .fin {} {run0 with outs:=[(0,5),(11,7)], cycles:=65534}; let n : Fin 8 := 0; let r : LaneRun := {run0 with outs:=[(0,5),(11,7)], cycles:=65534}; s.LaneAt n .fin r ∧ r.outs.sorted = true ∧ ((∀ e ∈ r.outs, e.1 < 12)) ∧ r.cycles < 65535) ∧
    (let s : State := onLane .fin {pub:=6} {run0 with outs:=[(0,5),(11,7)], cycles:=4}; let n : Fin 8 := 0; let r : LaneRun := {run0 with outs:=[(0,5),(11,7)], cycles:=4}; s.LaneAt n .fin r ∧ r.outs.sorted = true ∧ ((∀ e ∈ r.outs, e.1 < 12)) ∧ r.cycles < 65535) := by
  refine ⟨?_, ?_⟩ <;> decide +kernel

/-- LaneRuns. -/
theorem test_LaneRuns_witnesses :
    (let s : State := sys (({now:=9}:Dev).modPl 0 fun l => {l with due:=[(2,{j:=0,at_:=10,ts:=7})]}); let n : Fin 8 := 0; let h : Fin 3 := 2; let j : HookDue := {j:=0,at_:=10,ts:=7}; let l := s.dev.pl n; 9 ≤ s.seq.released ∧ Tbl.find h.val l.due = some j ∧ s.dev.now < j.at_) ∧
    (let s : State := sys (({now:=10}:Dev).modPl 0 fun l => {l with due:=[(2,{j:=0,at_:=10,ts:=7})]}); let n : Fin 8 := 0; let h : Fin 3 := 2; let j : HookDue := {j:=0,at_:=10,ts:=7}; let l := s.dev.pl n; 9 ≤ s.seq.released ∧ Tbl.find h.val l.due = some j ∧ j.at_ ≤ s.dev.now ∧ l.wait = [] ∧ l.run = none) ∧
    (let s : State := sys (({now:=11}:Dev).modPl 0 fun l => {l with due:=[(0,{j:=0,at_:=10,ts:=7})], wait:=[firing0]}); let n : Fin 8 := 0; let h : Fin 3 := 0; let j : HookDue := {j:=0,at_:=10,ts:=7}; let l := s.dev.pl n; 9 ≤ s.seq.released ∧ Tbl.find h.val l.due = some j ∧ j.at_ ≤ s.dev.now ∧ (∃ g ∈ l.wait, g.hook = h)) ∧
    (let s : State := sys ((({}:Dev).wr F.plCtrl_run 1).modPl 0 fun l => {l with wait:=[firing0]}); let n : Fin 8 := 0; let f : Firing := firing0; let rest : List Firing := []; let l := s.dev.pl n; 9 ≤ s.seq.released ∧ l.run = none ∧ l.wait = f :: rest ∧ s.dev.rd F.plCtrl_run n = 1) ∧
    (let s : State := sys ((({}:Dev).wr F.plHook_budget 9).modPl 0 fun l => {l with run:=some {run0 with cycles:=9}}); let n : Fin 8 := 0; let r : LaneRun := {run0 with cycles:=9}; let l := s.dev.pl n; 9 ≤ s.seq.released ∧ l.run = some r ∧ s.dev.rd F.plHook_budget n r.f.hook ≤ r.cycles) ∧
    (let s : State := sys (({}:Dev).modPl 0 fun l => {l with run:=some run0}); let n : Fin 8 := 0; let r : LaneRun := run0; let off : Fin 65536 := 0x3FFC; let l := s.dev.pl n; 9 ≤ s.seq.released ∧ l.run = some r ∧ off.val % 4 = 0 ∧ (off.val < 0x4000 ∨ 0x8000 ≤ off.val)) ∧
    (let s : State := sys (({}:Dev).modPl 0 fun l => {l with run:=some run0}); let n : Fin 8 := 0; let r : LaneRun := run0; let off : Fin 65536 := 0x8000; let l := s.dev.pl n; 9 ≤ s.seq.released ∧ l.run = some r ∧ off.val % 4 = 0 ∧ (off.val < 0x4000 ∨ 0x8000 ≤ off.val)) := by
  refine ⟨?_, ?_, ?_, ?_, ?_, ?_, ?_⟩ <;> decide +kernel

/-- LaneWrites. -/
theorem test_LaneWrites_witnesses :
    (let s : State := sys {}; let w : Who := w3; let n : Fin 8 := 0; let ctrl := F.plCtrl_run.addr n 0; s.GrantsPart w ctrl ∧ s.dev.rd F.plCtrl_run n = 0 ∧ s.dev.budgetFits n = true ∧ ((s.dev.rd F.plCtrl_bind n = 0 ∨ s.dev.otherBound n = false)) ∧ s.dev.laneUsed n (s.dev.outen n) = false) ∧
    (let s : State := set [(F.plCtrl_run,1,0)]; let w : Who := w3; let n : Fin 8 := 0; let ctrl := F.plCtrl_run.addr n 0; s.GrantsPart w ctrl ∧ s.dev.rd F.plCtrl_run n = 1 ∧ s.dev.laneUsed n (s.dev.outen n) = false) ∧
    (let s : State := sys {}; let w : Who := w3; let n : Fin 8 := 0; let ctrl := F.plCtrl_run.addr n 0; s.Grants w ctrl ∧ s.dev.rd F.plCtrl_run n = 0) ∧
    (let s : State := set [(F.plCtrl_run,1,0)]; let w : Who := w3; let n : Fin 8 := 0; let ctrl := F.plCtrl_run.addr n 0; s.Grants w ctrl ∧ s.dev.rd F.plCtrl_run n = 1) ∧
    (let s : State := sys {}; let w : Who := w3; let n : Fin 8 := 0; let i : Nat := 4095; let imem := laneBase n + 4 * i; s.Grants w imem ∧ i < 4096 ∧ s.dev.rd F.plCtrl_run n = 0 ∧ s.dev.laneUsed n (s.dev.outen n) = false) ∧
    (let s : State := sys {}; let w : Who := w3; let n : Fin 8 := 0; let i : Nat := 8191; let dmem := laneBase n + 0x8000 + 4 * i; s.Grants w dmem ∧ i < 8192 ∧ s.dev.laneUsed n (s.dev.outen n) = false) ∧
    (let s : State := sys {}; let w : Who := w3; let n : Fin 8 := 0; let k : Fin 16 := 15; s.Grants w (F.plParam_value.addr n k)) := by
  refine ⟨?_, ?_, ?_, ?_, ?_, ?_, ?_⟩ <;> decide +kernel

/-- RegisterAccesses. -/
theorem test_RegisterAccesses_witnesses :
    (let s : State := set [(F.plParam_value,7,0)] {net:={q21:=List.replicate 63 {port:=0,code:=.ok,tag:=1,op:=1,addr:=0}}}; let w : Who := w0; let n : Fin 8 := 0; let k : Fin 16 := 0; let a := F.plParam_value.addr n k; let core := s.dev.rd F.mgtState_core = 0 ∧ s.dev.mgt.noImage = false; s.GrantsRead w a ∧ core ∧ w.port.val < 4 ∧ s.dev.net.q21.length < 64) ∧
    (let s : State := set [(F.plParam_value,7,0)] {net:={q21:=List.replicate 63 {port:=0,code:=.ok,tag:=1,op:=1,addr:=0}}}; let w : Who := w0; let n : Fin 8 := 0; let k : Fin 16 := 0; let a := F.plParam_value.addr n k; let core := s.dev.rd F.mgtState_core = 0 ∧ s.dev.mgt.noImage = false; s.Grants w a ∧ core) ∧
    (let s : State := set [(F.plParam_value,7,0)] {net:={q21:=List.replicate 63 {port:=0,code:=.ok,tag:=1,op:=1,addr:=0}}}; let w : Who := w0; let n : Fin 8 := 0; let k : Fin 16 := 0; let a := F.plParam_value.addr n k; let core := s.dev.rd F.mgtState_core = 0 ∧ s.dev.mgt.noImage = false; s.GrantsPart w a ∧ core) ∧
    (let s : State := sys {}; let w : Who := w0; let n : Fin 8 := 0; let k : Fin 16 := 15; let a := F.plParam_value.addr n k; s.Grants w a) := by
  refine ⟨?_, ?_, ?_, ?_⟩ <;> decide +kernel

/-- RefusedAccesses. -/
theorem test_RefusedAccesses_witnesses :
    (let s : State := sys noRight; let w : Who := w0; let addr : BitVec 32 := 0x10000; let a := addr.toNat; addrDom a ≤ s.seq.released ∧ s.dev.mayAccess w.port a true = false) ∧
    (let s : State := sys {}; let w : Who := w0; let addr : BitVec 32 := 0x10300; let a := addr.toNat; addrDom a ≤ s.seq.released ∧ s.dev.mayAccess w.port a true = false) ∧
    (let s : State := sys {}; let w : Who := w0; let addr : BitVec 32 := 0xFFFFFFFC; let a := addr.toNat; addrDom a ≤ s.seq.released ∧ s.dev.mayAccess w.port a true = true ∧ placeOf a = none) ∧
    (let s : State := sys {}; let w : Who := w0; let addr : BitVec 32 := 0xC0801; let a := addr.toNat; addrDom a ≤ s.seq.released ∧ s.dev.mayAccess w.port a true = true ∧ ((∃ p, placeOf a = some p)) ∧ a % 4 ≠ 0) := by
  refine ⟨?_, ?_, ?_, ?_⟩ <;>
    first | decide +kernel | (simp only [← Option.isSome_iff_exists]; decide +kernel)

/-- QueuePushes. -/
theorem test_QueuePushes_witnesses :
    (let s : State := set [(F.axState_state,1,7)] (({}:Dev).modAxis 7 fun h => {h with queue:=List.replicate 15 {by_:={port:=0,tag:=0},words:=[]}}); let w : Who := w0; let n : Fin 8 := 7; let q : Fin 32 := 7; let data : List (BitVec 32) := entry0; let l := (s.dev.axis n).queue; q.val = n ∧ 8 ≤ s.seq.released ∧ s.dev.right w.port 11 = 0 ∧ data.length = 8 ∧ entryOk (wordsNat data) = true ∧ s.dev.rd F.mgtState_core = 0 ∧ s.dev.mgt.noImage = false ∧ ((s.dev.axState n = 1 ∨ s.dev.axState n = 2)) ∧ l.length < 16) ∧
    (let s : State := set [(F.axState_state,2,7)] (({}:Dev).modAxis 7 fun h => {h with queue:=List.replicate 16 {by_:={port:=0,tag:=0},words:=[]}}); let w : Who := w0; let n : Fin 8 := 7; let q : Fin 32 := 7; let data : List (BitVec 32) := entry0; let l := (s.dev.axis n).queue; q.val = n ∧ 8 ≤ s.seq.released ∧ s.dev.right w.port 11 = 0 ∧ data.length = 8 ∧ entryOk (wordsNat data) = true ∧ s.dev.rd F.mgtState_core = 0 ∧ s.dev.mgt.noImage = false ∧ ((s.dev.axState n = 1 ∨ s.dev.axState n = 2)) ∧ 16 ≤ l.length) ∧
    (let s : State := set [(F.tbState_stepok,0,0)]; let w : Who := w0; let n : Fin 8 := 0; let q : Fin 32 := 0; let data : List (BitVec 32) := entry0; q.val = n ∧ 8 ≤ s.seq.released ∧ s.dev.right w.port 11 = 0 ∧ data.length = 8 ∧ entryOk (wordsNat data) = true ∧ s.dev.rd F.mgtState_core = 0 ∧ s.dev.mgt.noImage = false ∧ s.dev.axState n = 0) := by
  refine ⟨?_, ?_, ?_⟩ <;> decide +kernel

/-- CommandEngine. -/
theorem test_CommandEngine_witnesses :
    (let s : State := sys {net:={rxq:=[frm0]}}; let x : RxFrame := frm0; let d : Dev := {}; let w0 : Nat := 4196097; let addr : Nat := 65536; let tag := w0 / 2 ^ 8 % 2 ^ 7; let count := w0 / 2 ^ 16; 11 ≤ s.seq.released ∧ s.dev.takeType 2 = some (x, d) ∧ x.frame.len = 8 ∧ wordsOf x.frame.payload 2 = [w0, addr] ∧ w0 % 256 = 1 ∧ bitOf w0 15 = false ∧ 1 ≤ count ∧ count ≤ 64 ∧ (∀ e ∈ s.dev.net.inflight, e.1 ≠ tag) ∧ (s.dev.net.inflight.filter fun e => e.2 == x.port).length < s.dev.quota x.port) ∧
    (let s : State := sys {net:={cmdq:=[(3,[rec0,rec0])],turn:=1}}; let p : Fin 4 := 3; let c : CmdRec := rec0; let l : List CmdRec := [rec0]; recDom c ≤ s.seq.released ∧ s.dev.net.q21.length < 64 ∧ s.dev.nextPort = some p ∧ Tbl.get [] p.val s.dev.net.cmdq = c :: l) := by
  refine ⟨?_, ?_⟩ <;> decide +kernel

/-- TimeBaseCommands. -/
theorem test_TimeBaseCommands_witnesses :
    (let s : State := set [] {tim:={tb:=[(3,{val:=(7*10^9+5)*2^40+2^30})]}}; let w : Who := w0; let n : Fin 4 := 3; s.GrantsRead w (R.tbTsfr.base + 0x100 * n)) ∧
    (let s : State := set [] {tim:={tb:=[(3,{val:=(7*10^9+5)*2^40+2^30})]}}; let w : Who := w0; let n : Fin 4 := 3; let ctrl := F.tbCtrl_load.addr n 0; let legal := s.dev.sourceOk n (s.dev.source n) (s.dev.flag F.tbCtrl_gm n) = .ok; s.GrantsPart w ctrl ∧ legal ∧ s.dev.rd F.tbState_stepok n = 1) ∧
    (let s : State := set [(F.tbState_stepok,1,3),(F.tbLdns_ns,999999999,3),(F.tbLdsec_seclo,9,3)] {tim:={judge:=[.ctrl by0 3 64]}}; let n : Fin 4 := 3; let by_ : Cmdr := by0; let ctrl := F.tbCtrl_load.addr n 0; let legal := s.dev.sourceOk n (s.dev.source n) (s.dev.flag F.tbCtrl_gm n) = .ok; let fields := s.dev.rd F.tbCtrl_src n + 4 * s.dev.rd F.tbCtrl_port n + 8 * s.dev.rd F.tbCtrl_gm n + 16 * s.dev.rd F.tbCtrl_manual n + 256 * s.dev.rd F.tbCtrl_loststop n; let judged := fun (bit : Nat) => s.dev.tim.judge = [.ctrl by_ n (fields + bit)]; judged 64 ∧ legal ∧ s.dev.rd F.tbState_stepok n = 1 ∧ s.dev.rd F.tbLdns_ns n < 10 ^ 9) ∧
    (let s : State := set [(F.tbState_stepok,0,0)]; let w : Who := w0; let n : Fin 4 := 0; let ctrl := F.tbCtrl_load.addr n 0; let legal := s.dev.sourceOk n (s.dev.source n) (s.dev.flag F.tbCtrl_gm n) = .ok; s.GrantsPart w ctrl ∧ legal ∧ s.dev.rd F.tbState_stepok n = 0) ∧
    (let s : State := sys {}; let w : Who := w0; let n : Fin 4 := 1; let ctrl := F.tbCtrl_load.addr n 0; let legal := s.dev.sourceOk n (s.dev.source n) (s.dev.flag F.tbCtrl_gm n) = .ok; let live := ∃ a < 8, s.dev.rd F.axTick_tb a = n ∧ s.dev.axState a ≠ 0; s.GrantsPart w ctrl ∧ legal ∧ ¬ live) ∧
    (let s : State := sys {tim:={judge:=[.ctrl by0 1 32]}}; let n : Fin 4 := 1; let by_ : Cmdr := by0; let ctrl := F.tbCtrl_load.addr n 0; let legal := s.dev.sourceOk n (s.dev.source n) (s.dev.flag F.tbCtrl_gm n) = .ok; let live := ∃ a < 8, s.dev.rd F.axTick_tb a = n ∧ s.dev.axState a ≠ 0; let fields := s.dev.rd F.tbCtrl_src n + 4 * s.dev.rd F.tbCtrl_port n + 8 * s.dev.rd F.tbCtrl_gm n + 16 * s.dev.rd F.tbCtrl_manual n + 256 * s.dev.rd F.tbCtrl_loststop n; let judged := fun (bit : Nat) => s.dev.tim.judge = [.ctrl by_ n (fields + bit)]; judged 32 ∧ legal ∧ ¬ live) ∧
    (let s : State := axisIn 7 1 [(F.axTick_tb,2,7),(F.tbState_stepok,0,2)]; let w : Who := w0; let n : Fin 4 := 2; let ctrl := F.tbCtrl_load.addr n 0; let legal := s.dev.sourceOk n (s.dev.source n) (s.dev.flag F.tbCtrl_gm n) = .ok; let live := ∃ a < 8, s.dev.rd F.axTick_tb a = n ∧ s.dev.axState a ≠ 0; s.GrantsPart w ctrl ∧ legal ∧ live ∧ s.dev.rd F.tbState_stepok n = 0) ∧
    (let s : State := sys {}; let w : Who := w0; let n : Fin 4 := 2; let port : Fin 2 := 1; let dom : Fin 256 := 255; let minor : Fin 256 := 0; let major : Fin 16 := 0; let src : Source  := { src := 1, port := port, domain := dom, minor := minor, major := major }; s.Grants w (F.tbCtrl_src.addr n 0) ∧ s.dev.sourceOk n src (s.dev.flag F.tbCtrl_gm n && n == 0) = .ok ∧ s.dev.source n ≠ src) ∧
    (let s : State := set [(F.tbState_stepok,1,2)]; let w : Who := w0; let n : Fin 4 := 2; let port : Fin 2 := 1; let dom : Fin 256 := 255; let minor : Fin 256 := 0; let major : Fin 16 := 0; let src : Source  := { src := 1, port := port, domain := dom, minor := minor, major := major }; s.Grants w (F.tbCtrl_src.addr n 0) ∧ s.dev.sourceOk n src (s.dev.flag F.tbCtrl_gm n && n == 0) = .ok ∧ s.dev.source n ≠ src) ∧
    (let s : State := set [(F.tbCtrl_manual,1,1),(F.tbRlim_rlim,5,1)]; let w : Who := w0; let n : Fin 4 := 1; let v : BitVec 32 := -5; s.Grants w (F.tbRate_rate.addr n 0) ∧ s.dev.rd F.tbCtrl_manual n = 1 ∧ v.toInt.natAbs ≤ s.dev.rd F.tbRlim_rlim n) ∧
    (let s : State := set [(F.tbRate_rate,1000,1)] {tim:={tb:=[(1,{integ:=-77777})]}}; let w : Who := w0; let n : Fin 4 := 1; let v : BitVec 32 := 1; s.Grants w (F.tbRlim_rlim.addr n 0) ∧ v.toNat ≠ 0 ∧ v.toNat < 2 ^ 31) ∧
    (let s : State := sys {}; let w : Who := w0; let n : Fin 4 := 1; let v : BitVec 32 := 0x7FFFFFFF; s.Grants w (F.tbRlim_rlim.addr n 0) ∧ v.toNat ≠ 0 ∧ v.toNat < 2 ^ 31) := by
  refine ⟨?_, ?_, ?_, ?_, ?_, ?_, ?_, ?_, ?_, ?_, ?_, ?_⟩ <;> decide +kernel

/-- TimeBaseMeasurements. -/
theorem test_TimeBaseMeasurements_witnesses :
    (let s : State := set [(F.tbCtrl_src,1,3),(F.tbCtrl_port,1,3)]; let n : Fin 4 := 3; let p : Fin 2 := 1; let dom : Fin 256 := 0; let minor : Fin 256 := 0; let major : Fin 16 := 0; let src : Source  := { src := 1, port := p, domain := dom, minor := minor, major := major }; 4 ≤ s.seq.released ∧ s.dev.source n = src ∧ (∀ m < n.val, s.dev.source m ≠ src)) ∧
    (let s : State := sys {}; let p : Fin 2 := 0; let dom : Fin 256 := 0; let minor : Fin 256 := 0; let major : Fin 16 := 0; let src : Source  := { src := 1, port := p, domain := dom, minor := minor, major := major }; 4 ≤ s.seq.released ∧ (∀ m < 4, s.dev.source m ≠ src)) ∧
    (let s : State := set [(F.tbCtrl_src,2,0)] {now:=5*10^9}; let n : Fin 4 := 0; let width : Nat := 2000000; 4 ≤ s.seq.released ∧ 2000000 ≤ width ∧ width ≤ 2550000 ∧ s.dev.rd F.tbCtrl_src n = 2) ∧
    (let s : State := set [(F.tbCtrl_src,2,3),(F.tbState_state,3,3)] {now:=5*10^12,tim:={tb:=[(3,{val:=(7*10^9+5)*2^40})]}}; let n : Fin 4 := 3; let width : Nat := 2550000; 4 ≤ s.seq.released ∧ 2000000 ≤ width ∧ width ≤ 2550000 ∧ s.dev.rd F.tbCtrl_src n = 2) ∧
    (let s : State := set [(F.tbCtrl_src,2,3),(F.tbState_state,1,3),(F.tbLdns_ns,7,3)] {now:=5*10^12,tim:={tb:=[(3,{val:=(7*10^9+5)*2^40})]}}; let n : Fin 4 := 3; let width : Nat := 2550000; 4 ≤ s.seq.released ∧ 2000000 ≤ width ∧ width ≤ 2550000 ∧ s.dev.rd F.tbCtrl_src n = 2) ∧
    (let s : State := set [(F.tbCtrl_src,2,0)]; let width : Nat := 1999999; 4 ≤ s.seq.released ∧ (width < 2000000 ∨ 2550000 < width)) ∧
    (let s : State := set [(F.tbCtrl_src,2,0)]; let width : Nat := 2550001; 4 ≤ s.seq.released ∧ (width < 2000000 ∨ 2550000 < width)) ∧
    (let s : State := set [(F.tbCtrl_src,1,2)] {now:=900,tim:={judge:=[.meas 2 800 (-77777) 5]}}; let n : Fin 4 := 2; let ingress : Nat := 800; let x : Int := -77777; let stamp : Int := 5; 4 ≤ s.seq.released ∧ s.dev.tim.judge = [.meas n ingress x stamp] ∧ s.dev.measStale n ingress = false) ∧
    (let s : State := set [(F.tbCtrl_src,1,2),(F.tbState_state,3,2),(F.tbState_meascnt,65535,2)] {now:=900000,tim:={judge:=[.meas 2 800000 (2^62) 5]}}; let n : Fin 4 := 2; let ingress : Nat := 800000; let x : Int := 2^62; let stamp : Int := 5; 4 ≤ s.seq.released ∧ s.dev.tim.judge = [.meas n ingress x stamp] ∧ s.dev.measStale n ingress = false) ∧
    (let s : State := set [(F.tbCtrl_src,1,0),(F.tbState_state,2,0)] {now:=900000,tim:={judge:=[.meas 0 800000 (384) 5]}}; let n : Fin 4 := 0; let ingress : Nat := 800000; let x : Int := 384; let stamp : Int := 5; 4 ≤ s.seq.released ∧ s.dev.tim.judge = [.meas n ingress x stamp] ∧ s.dev.measStale n ingress = false) ∧
    (let s : State := set [(F.tbCtrl_src,1,3)] {now:=9,tim:={tb:=[(3,{stepAt:=some 9})],judge:=[.meas 3 0 1 5]}}; let n : Fin 4 := 3; let ingress : Nat := 0; let x : Int := 1; let stamp : Int := 5; 4 ≤ s.seq.released ∧ s.dev.tim.judge = [.meas n ingress x stamp] ∧ s.dev.measStale n ingress = true) ∧
    (let s : State := set [(F.tbCtrl_src,1,3),(F.tbState_state,3,3),(F.tbSrcto_srcto,5,3)] {now:=5000}; let n : Fin 4 := 3; 4 ≤ s.seq.released ∧ s.dev.rd F.tbCtrl_src n ≠ 0 ∧ (s.dev.tb n).lastMeas + s.dev.rd F.tbSrcto_srcto n * 1000 ≤ s.dev.now ∧ s.dev.rd F.tbState_state n = 3) ∧
    (let s : State := mgtRuns {now:=10^12,tim:={tb:=[(3,{limSince:=some 0})]}}; let n : Fin 4 := 3; let since : Nat := 0; 4 ≤ s.seq.released ∧ s.dev.mgt.fwRun = true ∧ s.dev.rd F.mgtState_core = 0 ∧ (s.dev.tb n).limSince = some since ∧ since + 10 ^ 12 ≤ s.dev.now ∧ (s.dev.tb n).limLogged = false) ∧
    (let s : State := set [(F.mgtState_core,1,0)] {now:=10^12,mgt:={fwRun:=true},tim:={tb:=[(3,{limSince:=some 0})]}}; 4 ≤ s.seq.released ∧ s.dev.rd F.mgtState_core ≠ 0) := by
  refine ⟨?_, ?_, ?_, ?_, ?_, ?_, ?_, ?_, ?_, ?_, ?_, ?_, ?_, ?_⟩ <;> decide +kernel

/-- PeerDelay. -/
theorem test_PeerDelay_witnesses :
    (let s : State := set [(F.tsuCtrl_pdly,1,1),(F.tsuLat_inlat,3,1)] {now:=10^7,tim:={tsu:=[(1,{req:=some (5,4)})]}}; let p : Fin 2 := 1; let base : Nat := 4; let t1 : Int := 5; let d := s.dev; let tsu := d.tsu p; let asked := tsu.req = some (t1, base); 4 ≤ s.seq.released ∧ d.rd F.tsuCtrl_pdly p = 1 ∧ asked ∧ tsu.loaded = false) ∧
    (let s : State := set [(F.tsuCtrl_pdly,1,1),(F.tsuLinkdly_d,99999,1)] {now:=10^7,tim:={tsu:=[(1,{loaded:=true,req:=some (5,4)})]}}; let p : Fin 2 := 1; let base : Nat := 4; let t1 : Int := 5; let d := s.dev; let tsu := d.tsu p; let asked := tsu.req = some (t1, base); 4 ≤ s.seq.released ∧ d.rd F.tsuCtrl_pdly p = 1 ∧ asked ∧ tsu.loaded = true) ∧
    (let s : State := set [(F.tsuCtrl_pdly,1,1)]; let p : Fin 2 := 1; let d := s.dev; let tsu := d.tsu p; 4 ≤ s.seq.released ∧ d.rd F.tsuCtrl_pdly p = 1 ∧ tsu.req = none) ∧
    (let s : State := set [(F.tsuCtrl_pdly,1,0)]; let p : Fin 2 := 0; let d := s.dev; let tsu := d.tsu p; 4 ≤ s.seq.released ∧ d.rd F.tsuCtrl_pdly p = 1 ∧ tsu.missed ≠ 2) ∧
    (let s : State := set [(F.tsuCtrl_pdly,1,0)] {tim:={tsu:=[(0,{missed:=3})]}}; let p : Fin 2 := 0; let d := s.dev; let tsu := d.tsu p; 4 ≤ s.seq.released ∧ d.rd F.tsuCtrl_pdly p = 1 ∧ tsu.missed ≠ 2) ∧
    (let s : State := set [(F.tsuCtrl_pdly,1,1)] {tim:={tsu:=[(1,{missed:=2})]}}; let p : Fin 2 := 1; let d := s.dev; let tsu := d.tsu p; 4 ≤ s.seq.released ∧ d.rd F.tsuCtrl_pdly p = 1 ∧ tsu.missed = 2) := by
  refine ⟨?_, ?_, ?_, ?_, ?_, ?_⟩ <;> decide +kernel

/-- PeersAndRoot. -/
theorem test_PeersAndRoot_witnesses :
    (let s : State := sys {}; 11 ≤ s.seq.released) ∧
    (let s : State := set [(F.tbCtrl_gm,1,0),(F.tbGm_onp1,1,0)]; 11 ≤ s.seq.released ∧ s.dev.rd F.tbCtrl_gm 0 = 1 ∧ s.dev.rd F.tbGm_onp1 = 1) ∧
    (let s : State := set [(F.timRoot_src,1,0),(F.timRoot_syncok,1,0)] {now:=9}; 4 ≤ s.seq.released ∧ s.dev.rd F.timRoot_src = 1 ∧ s.dev.rd F.timRoot_holdover = 0) ∧
    (let s : State := set [(F.timRoot_src,1,0),(F.timRoot_holdover,1,0)] {now:=5*10^12+1, tim:={holdSince:=some 7}}; let since : Nat := 7; 4 ≤ s.seq.released ∧ s.dev.rd F.timRoot_holdover = 1 ∧ s.dev.rd F.timRoot_src = 1 ∧ s.dev.tim.holdSince = some since) ∧
    (let s : State := set [(F.timRoot_src,1,0)]; 4 ≤ s.seq.released ∧ (s.dev.rd F.timRoot_holdover = 0 ∨ s.dev.rd F.timRoot_src = 0)) ∧
    (let s : State := set [(F.tsuCtrl_pdly,1,1),(F.netPLink_up,1,1)] {net:={preconfig:=false},now:=77}; let p : Fin 2 := 1; 4 ≤ s.seq.released ∧ s.dev.rd F.tsuCtrl_pdly p = 1 ∧ s.dev.rd F.netPLink_up p = 1 ∧ s.dev.net.preconfig = false ∧ (s.dev.tsu p).next ≤ s.dev.now) ∧
    (let s : State := set [(F.tsuCtrl_pdly,1,1),(F.netPLink_up,1,1)] {net:={preconfig:=false},now:=77,tim:={tsu:=[(1,{next:=78})]}}; let p : Fin 2 := 1; 4 ≤ s.seq.released ∧ s.dev.rd F.tsuCtrl_pdly p = 1 ∧ s.dev.rd F.netPLink_up p = 1 ∧ s.dev.net.preconfig = false ∧ s.dev.now < (s.dev.tsu p).next) := by
  refine ⟨?_, ?_, ?_, ?_, ?_, ?_, ?_⟩ <;> decide +kernel

/-- Launches. -/
theorem test_Launches_witnesses :
    (let s : State := set [(F.lchCtrl_en,1,15),(F.lchTsec_sec,4294967295,15)]; let w : Who := w3; let n : Fin 16 := 15; let v : BitVec 32 := 999999999; let ns := v.toNat % 2 ^ 30; let a := F.lchTns_ns.addr n 0; s.Grants w a ∧ ns < 10 ^ 9) ∧
    (let s : State := set [(F.lchCtrl_en,1,15)] {tim:={tb:=[(0,{val:=10^10*2^40})]}}; let w : Who := w3; let n : Fin 16 := 15; let v : BitVec 32 := 999999999; let ns := v.toNat % 2 ^ 30; let a := F.lchTns_ns.addr n 0; s.Grants w a ∧ ns < 10 ^ 9) ∧
    (let s : State := sys {}; let w : Who := w3; let n : Fin 16 := 0; let v : BitVec 32 := 0; let ns := v.toNat % 2 ^ 30; let a := F.lchTns_ns.addr n 0; s.Grants w a ∧ ns < 10 ^ 9) ∧
    (let s : State := sys {}; let w : Who := w3; let n : Fin 16 := 0; let v : BitVec 32 := 1000000000; let ns := v.toNat % 2 ^ 30; let a := F.lchTns_ns.addr n 0; s.Grants w a ∧ 10 ^ 9 ≤ ns) ∧
    (let s : State := set [(F.lchStat_armed,1,3),(F.lchStat_fired,65535,3)] {tim:={later with lch:=[(3,{passed:=true})]}}; let n : Fin 16 := 3; let due := s.dev.rd F.lchStat_armed n = 1 ∧ 0 ≤ s.dev.lchPast n; 4 ≤ s.seq.released ∧ due ∧ (s.dev.lch n).passed = true) ∧
    (let s : State := set [(F.lchStat_armed,1,3),(F.lchCtrl_kind,5,3),(F.lchCtrl_arg,1,3),(F.lchCtrl_width,1000,3),(F.lchPer_per,100,3)] {tim:={later with lch:=[(3,{t:=2^32*10^9-1})]}}; let n : Fin 16 := 3; let due := s.dev.rd F.lchStat_armed n = 1 ∧ 0 ≤ s.dev.lchPast n; 4 ≤ s.seq.released ∧ due ∧ (s.dev.lch n).passed = false ∧ s.dev.rd F.lchCtrl_kind n = 5) ∧
    (let s : State := set [(F.lchStat_armed,1,3)] {tim:={later with lch:=[(3,{t:=1000001})]}}; let n : Fin 16 := 3; let due := s.dev.rd F.lchStat_armed n = 1 ∧ 0 ≤ s.dev.lchPast n; 4 ≤ s.seq.released ∧ ¬ due) := by
  refine ⟨?_, ?_, ?_, ?_, ?_, ?_, ?_⟩ <;> decide +kernel

/-- MasterSegments. -/
theorem test_MasterSegments_witnesses :
    (let s : State := set [(F.gmStat_state,1,7)]; let m : Fin 8 := 7; let words : List (BitVec 32) := [5,0,0,0,0,0,0,0,0,0,0,1000]; let g := s.dev.gmc m; let x := segOf (wordsNat words); 8 ≤ s.seq.released ∧ s.dev.rd F.gmStat_state m = 1 ∧ g.live = none ∧ g.queue = [] ∧ g.first = true ∧ segFits (wordsNat words) = true ∧ smod (s.dev.gmNow m) x.t0 span16 < 0) ∧
    (let s : State := sys {}; let m : Fin 8 := 0; 8 ≤ s.seq.released ∧ s.dev.rd F.gmStat_state m = 0) ∧
    (let s : State := set [(F.gmCtrl_en,1,7),(F.gmStat_state,1,7)] {gm:=[(7,{queue:=[seg0]})]}; let m : Fin 8 := 7; let q : Seg := seg0; let g := s.dev.gmc m; 8 ≤ s.seq.released ∧ s.dev.rd F.gmCtrl_en m = 1 ∧ g.queue = [q] ∧ reached (s.dev.gmNow m) q.t0 = true ∧ s.dev.rd F.gmStat_state m = 1) ∧
    (let s : State := set [(F.gmCtrl_en,1,7),(F.gmStat_state,2,7)] {gm:=[(7,{queue:=[seg0]})]}; let m : Fin 8 := 7; let q : Seg := seg0; let g := s.dev.gmc m; 8 ≤ s.seq.released ∧ s.dev.rd F.gmCtrl_en m = 1 ∧ g.queue = [q] ∧ reached (s.dev.gmNow m) q.t0 = true ∧ s.dev.rd F.gmStat_state m = 2) ∧
    (let s : State := set [(F.gmStat_state,2,7),(F.gmCtrl_stalemode,2,7)] {gm:=[(7,{live:=some seg0})],tim:={tb:=[(0,{val:=1000*2^40})]}}; let m : Fin 8 := 7; let old : Seg := seg0; let g := s.dev.gmc m; 8 ≤ s.seq.released ∧ g.live = some old ∧ s.dev.rd F.gmStat_state m = 2 ∧ reached (s.dev.gmNow m) (old.t0 + old.h * 65536) = true ∧ g.queue = [] ∧ s.dev.rd F.gmCtrl_stalemode m = 2) ∧
    (let s : State := set [(F.gmStat_state,3,7),(F.gmCtrl_stalemode,1,7),(F.axCpl_msrc,7,3),(F.axCstat_cstate,3,3)] {gm:=[(7,{live:=some seg0})],tim:={tb:=[(0,{val:=10^12*2^40})]}}; let m : Fin 8 := 7; let old : Seg := seg0; let g := s.dev.gmc m; 8 ≤ s.seq.released ∧ g.live = some old ∧ s.dev.rd F.gmStat_state m = 3 ∧ g.expired = false ∧ s.dev.rd F.gmCtrl_stalemode m = 1) := by
  refine ⟨?_, ?_, ?_, ?_, ?_, ?_⟩ <;> decide +kernel

/-- MasterWrites. -/
theorem test_MasterWrites_witnesses :
    (let s : State := sys {}; let w : Who := w3; let m : Fin 8 := 7; let ctrl := F.gmCtrl_en.addr m 0; s.Grants w ctrl ∧ s.dev.followers m = [] ∧ s.dev.rd F.gmCtrl_en m = 0) ∧
    (let s : State := sys {gm:=[(7,{queue:=[seg0],live:=some seg0})]}; let w : Who := w3; let m : Fin 8 := 7; let ctrl := F.gmCtrl_en.addr m 0; s.GrantsPart w ctrl ∧ s.dev.rd F.gmCtrl_stalemode m ≤ 2) ∧
    (let s : State := sys {}; let w : Who := w3; let m : Fin 8 := 7; let ctrl := F.gmCtrl_en.addr m 0; s.Grants w ctrl ∧ s.dev.rd F.gmStat_state m ≠ 3 ∧ s.dev.bad.contains (F.gmGrace_grace.addr m 0) = false) ∧
    (let s : State := sys {}; let w : Who := w3; let src : Fin 12 := 11; s.Grants w (shiftAddr src) ∧ s.dev.followed (8 + src) = false) ∧
    (let s : State := sys {}; let w : Who := w3; let src : Fin 12 := 7; s.Grants w (shiftAddr src) ∧ s.dev.followed (8 + src) = false) ∧
    (let s : State := sys {}; let w : Who := w3; let v : BitVec 32 := 0; let c : Fin 16 := 15; let desc := 0xC0800 + 16 * c.val; s.Grants w desc ∧ s.dev.camInUse c = false ∧ v.toNat % 2 ^ 18 + 2 ^ s.dev.rd F.camFmt_log2n c ≤ 196608) ∧
    (let s : State := set [(F.axCpl_mode,2,0),(F.axCpl_msrc,0,0),(F.axCstat_cstate,3,0),(F.axCamsel_cur,15,0)]; let w : Who := w3; let v : BitVec 32 := 0; let c : Fin 16 := 15; let desc := 0xC0800 + 16 * c.val; s.Grants w desc ∧ s.dev.camInUse c = true ∧ v.toNat % 2 ^ 18 + 2 ^ s.dev.rd F.camFmt_log2n c ≤ 196608) ∧
    (let s : State := sys {}; let w : Who := w3; let i : Fin 196608 := 196607; let point := 0x200000 + 4 * i.val; s.Grants w point ∧ s.dev.pointInUse i = false) := by
  refine ⟨?_, ?_, ?_, ?_, ?_, ?_, ?_, ?_⟩ <;> decide +kernel

/-- Couplings. -/
theorem test_Couplings_witnesses :
    (let s : State := set [(F.axCpl_mode,1,7),(F.axState_state,2,7),(F.axPstat_mode,2,7),(F.axCpl_msrc,3,7),(F.gmStat_state,2,3)]; let w : Who := w3; let n : Fin 8 := 7; let a := F.axEcmd_engage.addr n 0; s.Grants w a ∧ s.dev.engageOk n = true) ∧
    (let s : State := sys {}; let w : Who := w3; let n : Fin 8 := 7; let a := F.axEcmd_engage.addr n 0; s.Grants w a ∧ s.dev.engageOk n = false) ∧
    (let s : State := set [(F.axCstat_cstate,3,7)]; let w : Who := w3; let n : Fin 8 := 7; let a := F.axEcmd_engage.addr n 0; let cs := s.dev.rd F.axCstat_cstate n; s.Grants w a ∧ cs = 3) ∧
    (let s : State := set [(F.axCstat_cstate,1,7)]; let w : Who := w3; let n : Fin 8 := 7; let a := F.axEcmd_engage.addr n 0; let cs := s.dev.rd F.axCstat_cstate n; s.Grants w a ∧ cs = 1) ∧
    (let s : State := set [(F.axCstat_cstate,4,7)]; let w : Who := w3; let n : Fin 8 := 7; let a := F.axEcmd_engage.addr n 0; let cs := s.dev.rd F.axCstat_cstate n; s.Grants w a ∧ cs ≠ 1 ∧ cs ≠ 3) ∧
    (let s : State := set [(F.axCstat_cstate,0,7)]; let w : Who := w3; let n : Fin 8 := 7; let a := F.axEcmd_engage.addr n 0; let cs := s.dev.rd F.axCstat_cstate n; s.Grants w a ∧ cs ≠ 1 ∧ cs ≠ 3) ∧
    (let s : State := set [(F.axCstat_cstate,1,7)]; let w : Who := w3; let n : Fin 8 := 7; let a := F.axEcmd_engage.addr n 0; let cs := s.dev.rd F.axCstat_cstate n; s.Grants w a ∧ cs ≤ 1) ∧
    (let s : State := set [(F.axCstat_cstate,4,7),(F.axState_state,2,7)]; let w : Who := w3; let n : Fin 8 := 7; let a := F.axEcmd_engage.addr n 0; s.Grants w a) ∧
    (let s : State := set [(F.axCstat_cstate,3,7),(F.axState_state,2,7)]; let w : Who := w3; let n : Fin 8 := 7; let a := F.axEcmd_engage.addr n 0; s.Grants w a) ∧
    (let s : State := sys {}; let w : Who := w3; let n : Fin 8 := 7; let nxv : Bool := false; let cur : Fin 16 := 15; let a := F.axEcmd_engage.addr n 0; let sel := F.axCamsel_cur.addr n 0; let cs := s.dev.rd F.axCstat_cstate n; s.Grants w a ∧ s.Grants w sel ∧ ((cur.val = s.dev.rd F.axCamsel_cur n ∨ cs = 0)) ∧ ((nxv = false ∨ cs ≠ 0))) ∧
    (let s : State := set [(F.axCstat_cstate,3,7)]; let w : Who := w3; let n : Fin 8 := 7; let nxv : Bool := true; let cur : Fin 16 := 0; let a := F.axEcmd_engage.addr n 0; let sel := F.axCamsel_cur.addr n 0; let cs := s.dev.rd F.axCstat_cstate n; s.Grants w a ∧ s.Grants w sel ∧ ((cur.val = s.dev.rd F.axCamsel_cur n ∨ cs = 0)) ∧ ((nxv = false ∨ cs ≠ 0))) := by
  refine ⟨?_, ?_, ?_, ?_, ?_, ?_, ?_, ?_, ?_, ?_, ?_⟩ <;> decide +kernel

/-- AxisCommands. -/
theorem test_AxisCommands_witnesses :
    (let s : State := set (tick5 7) {devstate:=3}; let w : Who := w3; let n : Fin 8 := 7; let a := F.axCmd_cmd.addr n 0; s.Grants w a ∧ s.dev.enableCheck n = .ok) ∧
    (let s : State := set (tick5 7) {devstate:=3,tim:={judge:=[.enable by0 7]}}; let w : Who := w3; let n : Fin 8 := 7; let by_ : Cmdr := by0; let a := F.axCmd_cmd.addr n 0; let quiet := (s.dev.axis n).loopPend = []; s.Grants w a ∧ s.dev.tim.judge = [.enable by_ n] ∧ s.dev.enableCheck n = .ok ∧ quiet ∧ (∀ src < 13, s.dev.tripOn src = false)) ∧
    (let s : State := set (tick5 7 ++ (F.axCfg_kind,2,7) :: (List.range 4).flatMap fun l => [(F.legCfg_use,1,l),(F.legCfg_axis,7,l),(F.legCfg_slot,l,l),(F.snsSmp_navg,1,l)]) {devstate:=3,tim:={judge:=[.enable by0 7]}}; let w : Who := w3; let n : Fin 8 := 7; let by_ : Cmdr := by0; let l : Nat := 3; let a := F.axCmd_cmd.addr n 0; let quiet := (s.dev.axis n).loopPend = []; s.Grants w a ∧ s.dev.tim.judge = [.enable by_ n] ∧ s.dev.enableCheck n = .ok ∧ quiet ∧ (∀ src < 13, s.dev.tripOn src = false) ∧ l ∈ s.dev.axLegs n) ∧
    (let s : State := set (tick5 7) {devstate:=3,tim:={judge:=[.enable by0 7]}}; let w : Who := w3; let n : Fin 8 := 7; let by_ : Cmdr := by0; let a := F.axCmd_cmd.addr n 0; let quiet := (s.dev.axis n).loopPend = []; s.Grants w a ∧ s.dev.tim.judge = [.enable by_ n] ∧ s.dev.enableCheck n = .ok ∧ quiet ∧ (∀ src < 13, s.dev.tripOn src = false) ∧ s.dev.net.q21.length < 64 ∧ by_.port < 4) ∧
    (let s : State := sys {}; let w : Who := w3; let n : Fin 8 := 7; let a := F.axCmd_cmd.addr n 0; s.Grants w a ∧ s.dev.enableCheck n ≠ .ok) ∧
    (let s : State := axisIn 7 1; let w : Who := w3; let n : Fin 8 := 7; let a := F.axCmd_cmd.addr n 0; let st := s.dev.axState n; s.Grants w a ∧ st = 1) ∧
    (let s : State := axisIn 7 2; let w : Who := w3; let n : Fin 8 := 7; let a := F.axCmd_cmd.addr n 0; let st := s.dev.axState n; s.Grants w a ∧ st = 2) ∧
    (let s : State := axisIn 7 3; let w : Who := w3; let n : Fin 8 := 7; let a := F.axCmd_cmd.addr n 0; let st := s.dev.axState n; s.Grants w a ∧ st ≠ 1 ∧ st ≠ 2) ∧
    (let s : State := axisIn 7 0; let w : Who := w3; let n : Fin 8 := 7; let a := F.axCmd_cmd.addr n 0; let st := s.dev.axState n; s.Grants w a ∧ st ≠ 1 ∧ st ≠ 2) ∧
    (let s : State := axisIn 7 2 [(F.axPstat_mode,1,7)]; let w : Who := w3; let n : Fin 8 := 7; let a := F.axCmd_cmd.addr n 0; let st := s.dev.axState n; let quiet := (s.dev.axis n).loopPend = []; let rest := s.dev.atRest n = true ∧ s.dev.rd F.axCstat_cstate n = 0; s.Grants w a ∧ st = 2 ∧ rest ∧ quiet) ∧
    (let s : State := axisIn 7 2 [(F.axPstat_mode,1,7),(F.axCstat_cstate,3,7)]; let w : Who := w3; let n : Fin 8 := 7; let a := F.axCmd_cmd.addr n 0; let st := s.dev.axState n; let rest := s.dev.atRest n = true ∧ s.dev.rd F.axCstat_cstate n = 0; s.Grants w a ∧ st = 2 ∧ ¬ rest) ∧
    (let s : State := axisIn 7 2; let w : Who := w3; let n : Fin 8 := 7; let a := F.axCmd_cmd.addr n 0; let st := s.dev.axState n; let quiet := (s.dev.axis n).loopPend = []; let queue := (s.dev.axis n).queue; s.Grants w a ∧ st = 2 ∧ quiet ∧ queue = []) ∧
    (let s : State := axisIn 7 3; let w : Who := w3; let n : Fin 8 := 7; let a := F.axCmd_cmd.addr n 0; let st := s.dev.axState n; s.Grants w a ∧ (st = 1 ∨ st = 3)) ∧
    (let s : State := axisIn 7 1; let w : Who := w3; let n : Fin 8 := 7; let a := F.axCmd_cmd.addr n 0; let st := s.dev.axState n; s.Grants w a ∧ (st = 1 ∨ st = 3)) ∧
    (let s : State := axisIn 7 4; let w : Who := w3; let n : Fin 8 := 7; let a := F.axCmd_cmd.addr n 0; let st := s.dev.axState n; s.Grants w a ∧ (st = 0 ∨ 4 ≤ st)) ∧
    (let s : State := axisIn 7 0; let w : Who := w3; let n : Fin 8 := 7; let a := F.axCmd_cmd.addr n 0; let st := s.dev.axState n; s.Grants w a ∧ (st = 0 ∨ 4 ≤ st)) ∧
    (let s : State := axisIn 7 2; let w : Who := w3; let n : Fin 8 := 7; let a := F.axCmd_cmd.addr n 0; s.Grants w a) ∧
    (let s : State := axisIn 7 0; let w : Who := w3; let n : Fin 8 := 7; let a := F.axCmd_cmd.addr n 0; s.Grants w a) ∧
    (let s : State := set [(F.axState_state,3,7)] (({}:Dev).modAxis 7 fun h => {h with queue:=[{by_:={port:=0,tag:=0},words:=[]}]}); let w : Who := w3; let n : Fin 8 := 7; let a := F.axCmd_cmd.addr n 0; s.Grants w a) ∧
    (let s : State := set [(F.axState_state,2,7)] (({}:Dev).modAxis 7 fun h => {h with queue:=[{by_:={port:=0,tag:=0},words:=[]}]}); let w : Who := w3; let n : Fin 8 := 7; let a := F.axCmd_cmd.addr n 0; let queue := (s.dev.axis n).queue; s.Grants w a ∧ w.port ≠ 4 ∧ (∀ e ∈ queue, e.by_.port ≠ 4) ∧ s.dev.net.q21.length + queue.length < 64) := by
  refine ⟨?_, ?_, ?_, ?_, ?_, ?_, ?_, ?_, ?_, ?_, ?_, ?_, ?_, ?_, ?_, ?_, ?_, ?_, ?_, ?_⟩ <;> decide +kernel

/-- AxisStopsAndFaults. -/
theorem test_AxisStopsAndFaults_witnesses :
    (let s : State := running 1; let n : Fin 8 := 7; let f : FaultBy := .stall; let st := s.dev.axState n; 8 ≤ s.seq.released ∧ 1 ≤ st ∧ st ≤ 3 ∧ Tbl.get 0 n.val s.dev.trip.react = 0 ∧ f ≠ .legTrip true ∧ ((f = .driver true → s.dev.rd F.axReact_src10 n = 0))) ∧
    (let s : State := running 3; let n : Fin 8 := 7; let f : FaultBy := .driver true; let st := s.dev.axState n; 8 ≤ s.seq.released ∧ 1 ≤ st ∧ st ≤ 3 ∧ Tbl.get 0 n.val s.dev.trip.react = 0 ∧ f ≠ .legTrip true ∧ ((f = .driver true → s.dev.rd F.axReact_src10 n = 0))) ∧
    (let s : State := running 2; let n : Fin 8 := 7; let f : FaultBy := .legTrip false; let st := s.dev.axState n; 8 ≤ s.seq.released ∧ 1 ≤ st ∧ st ≤ 3 ∧ Tbl.get 0 n.val s.dev.trip.react = 0 ∧ f ≠ .legTrip true ∧ ((f = .driver true → s.dev.rd F.axReact_src10 n = 0))) ∧
    (let s : State := running 2; let n : Fin 8 := 7; let f : FaultBy := .sto; let st := s.dev.axState n; 8 ≤ s.seq.released ∧ 1 ≤ st ∧ st ≤ 3 ∧ Tbl.get 0 n.val s.dev.trip.react = 0 ∧ f ≠ .legTrip true ∧ ((f = .driver true → s.dev.rd F.axReact_src10 n = 0))) ∧
    (let s : State := running 2; let n : Fin 8 := 7; let f : FaultBy := .feedback; let st := s.dev.axState n; 8 ≤ s.seq.released ∧ 1 ≤ st ∧ st ≤ 3 ∧ Tbl.get 0 n.val s.dev.trip.react = 0 ∧ f ≠ .legTrip true ∧ ((f = .driver true → s.dev.rd F.axReact_src10 n = 0))) ∧
    (let s : State := running 2; let n : Fin 8 := 7; let f : FaultBy := .unreplayable; let st := s.dev.axState n; 8 ≤ s.seq.released ∧ 1 ≤ st ∧ st ≤ 3 ∧ Tbl.get 0 n.val s.dev.trip.react = 0 ∧ f ≠ .legTrip true ∧ ((f = .driver true → s.dev.rd F.axReact_src10 n = 0))) ∧
    (let s : State := running 2; let n : Fin 8 := 7; let f : FaultBy := .driver false; let st := s.dev.axState n; 8 ≤ s.seq.released ∧ 1 ≤ st ∧ st ≤ 3 ∧ Tbl.get 0 n.val s.dev.trip.react = 0 ∧ f ≠ .legTrip true ∧ ((f = .driver true → s.dev.rd F.axReact_src10 n = 0))) ∧
    (let s : State := running 1; let n : Fin 8 := 7; let st := s.dev.axState n; 8 ≤ s.seq.released ∧ 1 ≤ st ∧ st ≤ 3 ∧ Tbl.get 0 n.val s.dev.trip.react = 0) ∧
    (let s : State := running 3; let n : Fin 8 := 7; let st := s.dev.axState n; 8 ≤ s.seq.released ∧ 1 ≤ st ∧ st ≤ 3 ∧ Tbl.get 0 n.val s.dev.trip.react = 0) ∧
    (let s : State := running 0; let n : Fin 8 := 7; let st := s.dev.axState n; 8 ≤ s.seq.released ∧ st = 0) ∧
    (let s : State := running 2; let n : Fin 8 := 7; let st := s.dev.axState n; 8 ≤ s.seq.released ∧ st = 2) ∧
    (let s : State := set [(F.axState_state,1,7),(F.axCfg_stopend,1,7)]; let n : Fin 8 := 7; let st := s.dev.axState n; 8 ≤ s.seq.released ∧ st = 1 ∧ s.dev.rd F.axCfg_stopend n = 1) ∧
    (let s : State := running 1; let n : Fin 8 := 7; let st := s.dev.axState n; 8 ≤ s.seq.released ∧ st = 1 ∧ s.dev.rd F.axCfg_stopend n = 0) ∧
    (let s : State := set [(F.axState_state,3,7),(F.axCfg_stopend,1,7)]; let n : Fin 8 := 7; let st := s.dev.axState n; 8 ≤ s.seq.released ∧ st = 3 ∧ s.dev.rd F.axCfg_stopend n = 1) ∧
    (let s : State := running 0; let n : Fin 8 := 7; let st := s.dev.axState n; 8 ≤ s.seq.released ∧ (st = 0 ∨ 4 ≤ st)) ∧
    (let s : State := running 4; let n : Fin 8 := 7; let st := s.dev.axState n; 8 ≤ s.seq.released ∧ (st = 0 ∨ 4 ≤ st)) ∧
    (let s : State := set [(F.axState_state,3,7),(F.axStopto_stopto,0,7)]; let n : Fin 8 := 7; let st := s.dev.axState n; 8 ≤ s.seq.released ∧ st = 3 ∧ (s.dev.axis n).stopAt + s.dev.rd F.axStopto_stopto n * 1000 ≤ s.dev.now) ∧
    (let s : State := running 2; let n : Fin 8 := 7; let st := s.dev.axState n; 8 ≤ s.seq.released ∧ st ≠ 3) ∧
    (let s : State := set [(F.axState_state,2,7),(F.axCfg_autostill,1,7),(F.axCfg_stilldly,3,7)] {ax:=[(7,{rest:=3})]}; let n : Fin 8 := 7; let st := s.dev.axState n; 8 ≤ s.seq.released ∧ st = 2 ∧ s.dev.rd F.axCfg_autostill n = 1 ∧ s.dev.rd F.axCfg_stilldly n ≤ (s.dev.axis n).rest) ∧
    (let s : State := running 2; let n : Fin 8 := 7; 8 ≤ s.seq.released ∧ (s.dev.axis n).rest < s.dev.rd F.axCfg_stilldly n) := by
  refine ⟨?_, ?_, ?_, ?_, ?_, ?_, ?_, ?_, ?_, ?_, ?_, ?_, ?_, ?_, ?_, ?_, ?_, ?_, ?_, ?_⟩ <;> decide +kernel

/-- QueueEntries. -/
theorem test_QueueEntries_witnesses :
    (let s : State := axis7 {queue:=[ent 1 (2^64-65536*9), ent 7 0]} [(F.axState_state,1,7)]; let n : Fin 8 := 7; let e : QEnt := ent 1 (2^64-65536*9); let l : List QEnt := [ent 7 0]; let old := s.dev.rd F.axPstat_mode n; let st := s.dev.axState n; let free := fun (m : Nat) => old = m ∨ s.dev.rd F.axCstat_cstate n = 0; 8 ≤ s.seq.released ∧ (s.dev.axis n).queue = e :: l ∧ ((st = 1 ∨ st = 2)) ∧ s.dev.entryDue n e (s.dev.tb16 (s.dev.rd F.axTick_tb n)) = true ∧ e.op = 1 ∧ free 0) ∧
    (let s : State := axis7 {queue:=[ent 1 5, ent 7 0],prf:={p:=100},cpl:={c:=-7}} [(F.axState_state,2,7),(F.axPstat_mode,2,7)]; let n : Fin 8 := 7; let e : QEnt := ent 1 5; let l : List QEnt := [ent 7 0]; let old := s.dev.rd F.axPstat_mode n; let st := s.dev.axState n; let free := fun (m : Nat) => old = m ∨ s.dev.rd F.axCstat_cstate n = 0; 8 ≤ s.seq.released ∧ (s.dev.axis n).queue = e :: l ∧ ((st = 1 ∨ st = 2)) ∧ s.dev.entryDue n e (s.dev.tb16 (s.dev.rd F.axTick_tb n)) = true ∧ e.op = 1 ∧ free 0) ∧
    (let s : State := axis7 {queue:=[ent 2 5, ent 7 0],prf:={p:=100,tgt:=2^63-2}} [(F.axState_state,2,7),(F.axPstat_mode,0,7)]; let n : Fin 8 := 7; let e : QEnt := ent 2 5; let l : List QEnt := [ent 7 0]; let old := s.dev.rd F.axPstat_mode n; let st := s.dev.axState n; let free := fun (m : Nat) => old = m ∨ s.dev.rd F.axCstat_cstate n = 0; 8 ≤ s.seq.released ∧ (s.dev.axis n).queue = e :: l ∧ ((st = 1 ∨ st = 2)) ∧ s.dev.entryDue n e (s.dev.tb16 (s.dev.rd F.axTick_tb n)) = true ∧ e.op = 2 ∧ free 0) ∧
    (let s : State := axis7 {queue:=[ent 2 5, ent 7 0],prf:={p:=100,tgt:=9}} [(F.axState_state,2,7),(F.axPstat_mode,1,7)]; let n : Fin 8 := 7; let e : QEnt := ent 2 5; let l : List QEnt := [ent 7 0]; let old := s.dev.rd F.axPstat_mode n; let st := s.dev.axState n; let free := fun (m : Nat) => old = m ∨ s.dev.rd F.axCstat_cstate n = 0; 8 ≤ s.seq.released ∧ (s.dev.axis n).queue = e :: l ∧ ((st = 1 ∨ st = 2)) ∧ s.dev.entryDue n e (s.dev.tb16 (s.dev.rd F.axTick_tb n)) = true ∧ e.op = 2 ∧ free 0) ∧
    (let s : State := axis7 {queue:=[ent 3 (2^64-2^62), ent 7 0]} [(F.axState_state,2,7),(F.axPstat_mode,1,7)]; let n : Fin 8 := 7; let e : QEnt := ent 3 (2^64-2^62); let l : List QEnt := [ent 7 0]; let old := s.dev.rd F.axPstat_mode n; let st := s.dev.axState n; let free := fun (m : Nat) => old = m ∨ s.dev.rd F.axCstat_cstate n = 0; 8 ≤ s.seq.released ∧ (s.dev.axis n).queue = e :: l ∧ ((st = 1 ∨ st = 2)) ∧ s.dev.entryDue n e (s.dev.tb16 (s.dev.rd F.axTick_tb n)) = true ∧ e.op = 3 ∧ free 1) ∧
    (let s : State := axis7 {queue:=[ent 3 65536, ent 7 0]} [(F.axState_state,1,7)]; let n : Fin 8 := 7; let e : QEnt := ent 3 65536; let l : List QEnt := [ent 7 0]; let old := s.dev.rd F.axPstat_mode n; let st := s.dev.axState n; let free := fun (m : Nat) => old = m ∨ s.dev.rd F.axCstat_cstate n = 0; 8 ≤ s.seq.released ∧ (s.dev.axis n).queue = e :: l ∧ ((st = 1 ∨ st = 2)) ∧ s.dev.entryDue n e (s.dev.tb16 (s.dev.rd F.axTick_tb n)) = true ∧ e.op = 3 ∧ free 1) ∧
    (let s : State := axis7 {queue:=[ent 4 65536, ent 7 0],prf:={p:=5}} [(F.axState_state,1,7)]; let n : Fin 8 := 7; let e : QEnt := ent 4 65536; let l : List QEnt := [ent 7 0]; let old := s.dev.rd F.axPstat_mode n; let st := s.dev.axState n; let free := fun (m : Nat) => old = m ∨ s.dev.rd F.axCstat_cstate n = 0; 8 ≤ s.seq.released ∧ (s.dev.axis n).queue = e :: l ∧ ((st = 1 ∨ st = 2)) ∧ s.dev.entryDue n e (s.dev.tb16 (s.dev.rd F.axTick_tb n)) = true ∧ e.op = 4 ∧ free 2) ∧
    (let s : State := axis7 {queue:=[ent 5 65536, ent 7 0],prf:={p:=5,tgt:=8}} [(F.axState_state,2,7),(F.axPstat_mode,2,7),(F.axCstat_cstate,3,7)]; let n : Fin 8 := 7; let e : QEnt := ent 5 65536; let l : List QEnt := [ent 7 0]; let old := s.dev.rd F.axPstat_mode n; let st := s.dev.axState n; let free := fun (m : Nat) => old = m ∨ s.dev.rd F.axCstat_cstate n = 0; 8 ≤ s.seq.released ∧ (s.dev.axis n).queue = e :: l ∧ ((st = 1 ∨ st = 2)) ∧ s.dev.entryDue n e (s.dev.tb16 (s.dev.rd F.axTick_tb n)) = true ∧ e.op = 5 ∧ free 2) ∧
    (let s : State := axis7 {queue:=[ent 5 65536, ent 7 0],prf:={p:=5,tgt:=8}} [(F.axState_state,2,7),(F.axPstat_mode,1,7)]; let n : Fin 8 := 7; let e : QEnt := ent 5 65536; let l : List QEnt := [ent 7 0]; let old := s.dev.rd F.axPstat_mode n; let st := s.dev.axState n; let free := fun (m : Nat) => old = m ∨ s.dev.rd F.axCstat_cstate n = 0; 8 ≤ s.seq.released ∧ (s.dev.axis n).queue = e :: l ∧ ((st = 1 ∨ st = 2)) ∧ s.dev.entryDue n e (s.dev.tb16 (s.dev.rd F.axTick_tb n)) = true ∧ e.op = 5 ∧ free 2) ∧
    (let s : State := axis7 {queue:=[ent 1 5, ent 7 0]} [(F.axState_state,2,7),(F.axPstat_mode,2,7),(F.axCstat_cstate,3,7)]; let n : Fin 8 := 7; let e : QEnt := ent 1 5; let l : List QEnt := [ent 7 0]; let old := s.dev.rd F.axPstat_mode n; let st := s.dev.axState n; let free := fun (m : Nat) => old = m ∨ s.dev.rd F.axCstat_cstate n = 0; 8 ≤ s.seq.released ∧ (s.dev.axis n).queue = e :: l ∧ ((st = 1 ∨ st = 2)) ∧ s.dev.entryDue n e (s.dev.tb16 (s.dev.rd F.axTick_tb n)) = true ∧ e.op = 1 ∧ ¬ free 0) ∧
    (let s : State := axis7 {queue:=[ent 6 3 0 77, ent 7 0]} [(F.axState_state,2,7)]; let n : Fin 8 := 7; let e : QEnt := ent 6 3 0 77; let l : List QEnt := [ent 7 0]; let st := s.dev.axState n; 8 ≤ s.seq.released ∧ (s.dev.axis n).queue = e :: l ∧ ((st = 1 ∨ st = 2)) ∧ s.dev.entryDue n e (s.dev.tb16 (s.dev.rd F.axTick_tb n)) = true ∧ e.op = 6) ∧
    (let s : State := axis7 {queue:=[ent 6 0 0 (2^62), ent 7 0]} [(F.axState_state,1,7)]; let n : Fin 8 := 7; let e : QEnt := ent 6 0 0 (2^62); let l : List QEnt := [ent 7 0]; let st := s.dev.axState n; 8 ≤ s.seq.released ∧ (s.dev.axis n).queue = e :: l ∧ ((st = 1 ∨ st = 2)) ∧ s.dev.entryDue n e (s.dev.tb16 (s.dev.rd F.axTick_tb n)) = true ∧ e.op = 6) ∧
    (let s : State := axis7 {queue:=[ent 7 0, ent 7 0]} [(F.axState_state,1,7)]; let n : Fin 8 := 7; let e : QEnt := ent 7 0; let l : List QEnt := [ent 7 0]; let st := s.dev.axState n; 8 ≤ s.seq.released ∧ (s.dev.axis n).queue = e :: l ∧ ((st = 1 ∨ st = 2)) ∧ s.dev.entryDue n e (s.dev.tb16 (s.dev.rd F.axTick_tb n)) = true ∧ e.op = 7) ∧
    (let s : State := axis7 {queue:=[ent 1 0 1, ent 7 0],prf:={v:=5}} [(F.axState_state,1,7),(F.axPstat_mode,1,7)]; let n : Fin 8 := 7; let e : QEnt := ent 1 0 1; let l : List QEnt := [ent 7 0]; let st := s.dev.axState n; 8 ≤ s.seq.released ∧ (s.dev.axis n).queue = e :: l ∧ ((st = 1 ∨ st = 2)) ∧ s.dev.entryDue n e (s.dev.tb16 (s.dev.rd F.axTick_tb n)) = false) ∧
    (let s : State := axis7 {queue:=[ent 7 0 1, ent 7 0],prf:={v:=5}} [(F.axState_state,1,7),(F.axPstat_mode,1,7)]; let n : Fin 8 := 7; let e : QEnt := ent 7 0 1; let l : List QEnt := [ent 7 0]; let st := s.dev.axState n; 8 ≤ s.seq.released ∧ (s.dev.axis n).queue = e :: l ∧ ((st = 1 ∨ st = 2)) ∧ s.dev.entryDue n e (s.dev.tb16 (s.dev.rd F.axTick_tb n)) = false) ∧
    (let s : State := axis7 {queue:=[ent 7 0, ent 7 0]} [(F.axState_state,1,7)]; let n : Fin 8 := 7; let e : QEnt := ent 7 0; let l : List QEnt := [ent 7 0]; let st := s.dev.axState n; 8 ≤ s.seq.released ∧ (s.dev.axis n).queue = e :: l ∧ ((st = 1 ∨ st = 2)) ∧ e.op ≠ 1) := by
  refine ⟨?_, ?_, ?_, ?_, ?_, ?_, ?_, ?_, ?_, ?_, ?_, ?_, ?_, ?_, ?_, ?_⟩ <;> decide +kernel

/-- Compares. -/
theorem test_Compares_witnesses :
    (let s : State := cmp7 {due:=some (0,true)} [(F.cmpPoslo_pos,5),(F.cmpCtrl_fired,1)]; let w : Who := w3; let n : Fin 8 := 7; let c : Fin 4 := 3; let hi := F.cmpPoshi_pos.addr n c; s.Grants w hi) ∧
    (let s : State := cmp7 {xc:=2^63-1,due:=some (0,true)} [(F.cmpCtrl_armed,1),(F.cmpPer_per,5)]; let n : Fin 8 := 7; let c : Fin 4 := 3; let t0 : Int := 0; let up : Bool := true; let u := s.dev.cmpu n c; 8 ≤ s.seq.released ∧ u.due = some (t0, up) ∧ s.dev.rd F.cmpCtrl_armed n c = 1 ∧ t0 ≤ s.dev.tb16 (s.dev.rd F.axTick_tb n)) ∧
    (let s : State := cmp7 {xc:=9,due:=some (0,false)} [(F.cmpCtrl_armed,1)]; let n : Fin 8 := 7; let c : Fin 4 := 3; let t0 : Int := 0; let up : Bool := false; let u := s.dev.cmpu n c; 8 ≤ s.seq.released ∧ u.due = some (t0, up) ∧ s.dev.rd F.cmpCtrl_armed n c = 1 ∧ t0 ≤ s.dev.tb16 (s.dev.rd F.axTick_tb n)) ∧
    (let s : State := cmp7 {xc:=9,due:=some (0,false)} [(F.cmpCtrl_armed,1),(F.cmpPer_per,5)]; let n : Fin 8 := 7; let c : Fin 4 := 3; let t0 : Int := 0; let up : Bool := false; let u := s.dev.cmpu n c; 8 ≤ s.seq.released ∧ u.due = some (t0, up) ∧ s.dev.rd F.cmpCtrl_armed n c = 1 ∧ t0 ≤ s.dev.tb16 (s.dev.rd F.axTick_tb n)) ∧
    (let s : State := cmp7 {due:=some (0,true)} [(F.cmpCtrl_armed,1),(F.cmpCtrl_action,4),(F.cmpCtrl_arg,1)]; let n : Fin 8 := 7; let c : Fin 4 := 3; let t0 : Int := 0; let up : Bool := true; let u := s.dev.cmpu n c; let action := s.dev.rd F.cmpCtrl_action n c; 8 ≤ s.seq.released ∧ u.due = some (t0, up) ∧ s.dev.rd F.cmpCtrl_armed n c = 1 ∧ t0 ≤ s.dev.tb16 (s.dev.rd F.axTick_tb n) ∧ ((action = 4 ∨ action = 5))) ∧
    (let s : State := cmp7 {due:=some (0,true)} [(F.cmpCtrl_armed,1),(F.cmpCtrl_action,5),(F.cmpCtrl_arg,1)]; let n : Fin 8 := 7; let c : Fin 4 := 3; let t0 : Int := 0; let up : Bool := true; let u := s.dev.cmpu n c; let action := s.dev.rd F.cmpCtrl_action n c; 8 ≤ s.seq.released ∧ u.due = some (t0, up) ∧ s.dev.rd F.cmpCtrl_armed n c = 1 ∧ t0 ≤ s.dev.tb16 (s.dev.rd F.axTick_tb n) ∧ ((action = 4 ∨ action = 5))) ∧
    (let s : State := cmp7 {due:=some (0,true)} [(F.cmpCtrl_armed,1),(F.cmpCtrl_action,1),(F.cmpCtrl_arg,7)]; let n : Fin 8 := 7; let c : Fin 4 := 3; let t0 : Int := 0; let up : Bool := true; let u := s.dev.cmpu n c; let action := s.dev.rd F.cmpCtrl_action n c; 8 ≤ s.seq.released ∧ u.due = some (t0, up) ∧ s.dev.rd F.cmpCtrl_armed n c = 1 ∧ t0 ≤ s.dev.tb16 (s.dev.rd F.axTick_tb n) ∧ 1 ≤ action ∧ action ≤ 3) ∧
    (let s : State := cmp7 {due:=some (0,true)} [(F.cmpCtrl_armed,1),(F.cmpCtrl_action,3),(F.cmpCtrl_arg,7),(F.cmpCtrl_width,9)]; let n : Fin 8 := 7; let c : Fin 4 := 3; let t0 : Int := 0; let up : Bool := true; let u := s.dev.cmpu n c; let action := s.dev.rd F.cmpCtrl_action n c; 8 ≤ s.seq.released ∧ u.due = some (t0, up) ∧ s.dev.rd F.cmpCtrl_armed n c = 1 ∧ t0 ≤ s.dev.tb16 (s.dev.rd F.axTick_tb n) ∧ 1 ≤ action ∧ action ≤ 3) ∧
    (let s : State := cmp7 {due:=some (0,true)} [(F.cmpCtrl_armed,1),(F.cmpCtrl_action,2),(F.cmpCtrl_arg,7),(F.cmpCtrl_width,9)]; let n : Fin 8 := 7; let c : Fin 4 := 3; let t0 : Int := 0; let up : Bool := true; let u := s.dev.cmpu n c; let action := s.dev.rd F.cmpCtrl_action n c; 8 ≤ s.seq.released ∧ u.due = some (t0, up) ∧ s.dev.rd F.cmpCtrl_armed n c = 1 ∧ t0 ≤ s.dev.tb16 (s.dev.rd F.axTick_tb n) ∧ 1 ≤ action ∧ action ≤ 3) ∧
    (let s : State := sys {}; let n : Fin 8 := 7; let c : Fin 4 := 3; let u := s.dev.cmpu n c; 8 ≤ s.seq.released ∧ u.due = none) ∧
    (let s : State := cmp7 {due:=some (0,true)} [(F.cmpCtrl_armed,1)]; let w : Who := w3; let n : Fin 8 := 7; let c : Fin 4 := 3; let ctrl := F.cmpCtrl_armed.addr n c; let action := s.dev.rd F.cmpCtrl_action n c; let arg := s.dev.rd F.cmpCtrl_arg n c; let legal := fun (dir action arg width : Nat) => dir ≤ 2 ∧ action ≤ 6 ∧ (3 ≤ action → action ≤ 5 → width ≠ 0) ∧ (1 ≤ action → action ≤ 3 → arg ≤ 7) ∧ (action = 4 → arg ≤ 1); s.GrantsPart w ctrl ∧ legal (s.dev.rd F.cmpCtrl_dir n c) action arg (s.dev.rd F.cmpCtrl_width n c)) ∧
    (let s : State := sys {}; let w : Who := w3; let n : Fin 8 := 7; let c : Fin 4 := 3; let v : BitVec 32 := 0x7F358; let ctrl := F.cmpCtrl_armed.addr n c; let action := s.dev.rd F.cmpCtrl_action n c; let arg := s.dev.rd F.cmpCtrl_arg n c; let legal := fun (dir action arg width : Nat) => dir ≤ 2 ∧ action ≤ 6 ∧ (3 ≤ action → action ≤ 5 → width ≠ 0) ∧ (1 ≤ action → action ≤ 3 → arg ≤ 7) ∧ (action = 4 → arg ≤ 1); let x' := v.toNat; s.Grants w ctrl ∧ legal (bitsOf x' 2 2) (bitsOf x' 4 4) (bitsOf x' 8 4) (bitsOf x' 12 8)) ∧
    (let s : State := sys {}; let w : Who := w3; let n : Fin 8 := 7; let c : Fin 4 := 3; let v : BitVec 32 := 0; let ctrl := F.cmpCtrl_armed.addr n c; let action := s.dev.rd F.cmpCtrl_action n c; let arg := s.dev.rd F.cmpCtrl_arg n c; let legal := fun (dir action arg width : Nat) => dir ≤ 2 ∧ action ≤ 6 ∧ (3 ≤ action → action ≤ 5 → width ≠ 0) ∧ (1 ≤ action → action ≤ 3 → arg ≤ 7) ∧ (action = 4 → arg ≤ 1); let x' := v.toNat; s.Grants w ctrl ∧ legal (bitsOf x' 2 2) (bitsOf x' 4 4) (bitsOf x' 8 4) (bitsOf x' 12 8)) ∧
    (let s : State := sys {}; let w : Who := w3; let n : Fin 8 := 7; let c : Fin 4 := 3; let v : BitVec 32 := 0x70; let ctrl := F.cmpCtrl_armed.addr n c; let action := s.dev.rd F.cmpCtrl_action n c; let arg := s.dev.rd F.cmpCtrl_arg n c; let legal := fun (dir action arg width : Nat) => dir ≤ 2 ∧ action ≤ 6 ∧ (3 ≤ action → action ≤ 5 → width ≠ 0) ∧ (1 ≤ action → action ≤ 3 → arg ≤ 7) ∧ (action = 4 → arg ≤ 1); let x' := v.toNat; s.Grants w ctrl ∧ ¬ legal (bitsOf x' 2 2) (bitsOf x' 4 4) (bitsOf x' 8 4) (bitsOf x' 12 8)) ∧
    (let s : State := sys {}; let w : Who := w3; let n : Fin 8 := 7; let c : Fin 4 := 3; let v : BitVec 32 := 0x30; let ctrl := F.cmpCtrl_armed.addr n c; let action := s.dev.rd F.cmpCtrl_action n c; let arg := s.dev.rd F.cmpCtrl_arg n c; let legal := fun (dir action arg width : Nat) => dir ≤ 2 ∧ action ≤ 6 ∧ (3 ≤ action → action ≤ 5 → width ≠ 0) ∧ (1 ≤ action → action ≤ 3 → arg ≤ 7) ∧ (action = 4 → arg ≤ 1); let x' := v.toNat; s.Grants w ctrl ∧ ¬ legal (bitsOf x' 2 2) (bitsOf x' 4 4) (bitsOf x' 8 4) (bitsOf x' 12 8)) ∧
    (let s : State := sys {}; let w : Who := w3; let n : Fin 8 := 7; let c : Fin 4 := 3; let v : BitVec 32 := 0x830; let ctrl := F.cmpCtrl_armed.addr n c; let action := s.dev.rd F.cmpCtrl_action n c; let arg := s.dev.rd F.cmpCtrl_arg n c; let legal := fun (dir action arg width : Nat) => dir ≤ 2 ∧ action ≤ 6 ∧ (3 ≤ action → action ≤ 5 → width ≠ 0) ∧ (1 ≤ action → action ≤ 3 → arg ≤ 7) ∧ (action = 4 → arg ≤ 1); let x' := v.toNat; s.Grants w ctrl ∧ ¬ legal (bitsOf x' 2 2) (bitsOf x' 4 4) (bitsOf x' 8 4) (bitsOf x' 12 8)) ∧
    (let s : State := sys {}; let w : Who := w3; let n : Fin 8 := 7; let c : Fin 4 := 3; let v : BitVec 32 := 0xC; let ctrl := F.cmpCtrl_armed.addr n c; let action := s.dev.rd F.cmpCtrl_action n c; let arg := s.dev.rd F.cmpCtrl_arg n c; let legal := fun (dir action arg width : Nat) => dir ≤ 2 ∧ action ≤ 6 ∧ (3 ≤ action → action ≤ 5 → width ≠ 0) ∧ (1 ≤ action → action ≤ 3 → arg ≤ 7) ∧ (action = 4 → arg ≤ 1); let x' := v.toNat; s.Grants w ctrl ∧ ¬ legal (bitsOf x' 2 2) (bitsOf x' 4 4) (bitsOf x' 8 4) (bitsOf x' 12 8)) := by
  refine ⟨?_, ?_, ?_, ?_, ?_, ?_, ?_, ?_, ?_, ?_, ?_, ?_, ?_, ?_, ?_, ?_, ?_⟩ <;> decide +kernel

/-- LimitsAndSteps. -/
theorem test_LimitsAndSteps_witnesses :
    (let s : State := sys {}; let w : Who := w3; let n : Fin 8 := 7; let k : Fin 6 := 5; let v : BitVec 32 := 0x7FFFFFFF; let hi := F.axVmaxhi_v.addr n 0 + 8 * k; let fs := limRegs k; let x := sx 64 (s.dev.rd fs.1 n + 2 ^ 32 * v.toNat); s.Grants w hi ∧ 0 < x) ∧
    (let s : State := sys {}; let w : Who := w3; let n : Fin 8 := 7; let k : Fin 6 := 0; let v : BitVec 32 := 1; let hi := F.axVmaxhi_v.addr n 0 + 8 * k; let fs := limRegs k; let x := sx 64 (s.dev.rd fs.1 n + 2 ^ 32 * v.toNat); s.Grants w hi ∧ 0 < x) ∧
    (let s : State := set [(F.axVmaxlo_v,0,7)]; let w : Who := w3; let n : Fin 8 := 7; let k : Fin 6 := 0; let v : BitVec 32 := 0; let hi := F.axVmaxhi_v.addr n 0 + 8 * k; let fs := limRegs k; let x := sx 64 (s.dev.rd fs.1 n + 2 ^ 32 * v.toNat); s.Grants w hi ∧ x ≤ 0) ∧
    (let s : State := sys {}; let w : Who := w3; let n : Fin 8 := 7; let k : Fin 6 := 3; let v : BitVec 32 := 0x80000000; let hi := F.axVmaxhi_v.addr n 0 + 8 * k; let fs := limRegs k; let x := sx 64 (s.dev.rd fs.1 n + 2 ^ 32 * v.toNat); s.Grants w hi ∧ x ≤ 0) ∧
    (let s : State := axis7 {stp:={due:=some 0,vk:=5,n:=3}} []; let n : Fin 8 := 7; let due : Int := 0; let h := (s.dev.axis n).stp; let falls := 8 ≤ s.seq.released ∧ h.due = some due ∧ due ≤ s.dev.tb16 (s.dev.rd F.axTick_tb n); falls ∧ s.dev.rd F.axStep_outen n = 0) ∧
    (let s : State := axis7 {stp:={due:=some 0,vk:=5,n:=3,dir:=true}} [(F.axStep_outen,1,7)]; let n : Fin 8 := 7; let due : Int := 0; let h := (s.dev.axis n).stp; let dir := if h.owed = 0 then sgnQ (h.vAt due) else h.owed; let lvl := decide (dir < 0) == s.dev.flag F.axStep_dirpol n; let setup : Int  := s.dev.rd F.axStep_dirsu n * (10 * 65536); let falls := 8 ≤ s.seq.released ∧ h.due = some due ∧ due ≤ s.dev.tb16 (s.dev.rd F.axTick_tb n); falls ∧ s.dev.rd F.axStep_outen n = 1 ∧ dir ≠ 0 ∧ lvl = h.dir ∧ (∀ u ∈ h.dirAt, u + setup ≤ due)) ∧
    (let s : State := axis7 {stp:={due:=some 0,vk:=-5,n:=3,dir:=true}} [(F.axStep_outen,1,7),(F.axStep_dirsu,0,7)]; let n : Fin 8 := 7; let due : Int := 0; let h := (s.dev.axis n).stp; let dir := if h.owed = 0 then sgnQ (h.vAt due) else h.owed; let lvl := decide (dir < 0) == s.dev.flag F.axStep_dirpol n; let turn := match h.pulseEnd with | some e => max due (e + s.dev.rd F.axStep_dirh n * (10 * 65536)) | none => due; let setup : Int  := s.dev.rd F.axStep_dirsu n * (10 * 65536); let falls := 8 ≤ s.seq.released ∧ h.due = some due ∧ due ≤ s.dev.tb16 (s.dev.rd F.axTick_tb n); falls ∧ s.dev.rd F.axStep_outen n = 1 ∧ dir ≠ 0 ∧ lvl ≠ h.dir ∧ turn + setup ≤ due) ∧
    (let s : State := axis7 {stp:={due:=some 0,vk:=5,n:=3,pulseEnd:=some 0,dir:=false}} [(F.axStep_outen,1,7),(F.axStep_dirh,3,7)]; let n : Fin 8 := 7; let due : Int := 0; let h := (s.dev.axis n).stp; let dir := if h.owed = 0 then sgnQ (h.vAt due) else h.owed; let lvl := decide (dir < 0) == s.dev.flag F.axStep_dirpol n; let turn := match h.pulseEnd with | some e => max due (e + s.dev.rd F.axStep_dirh n * (10 * 65536)) | none => due; let setup : Int  := s.dev.rd F.axStep_dirsu n * (10 * 65536); let falls := 8 ≤ s.seq.released ∧ h.due = some due ∧ due ≤ s.dev.tb16 (s.dev.rd F.axTick_tb n); falls ∧ s.dev.rd F.axStep_outen n = 1 ∧ dir ≠ 0 ∧ lvl ≠ h.dir ∧ due < turn + setup) ∧
    (let s : State := axis7 {stp:={due:=some 5}} []; let n : Fin 8 := 7; let due : Int := 5; let h := (s.dev.axis n).stp; 8 ≤ s.seq.released ∧ h.due = some due ∧ s.dev.tb16 (s.dev.rd F.axTick_tb n) < due) ∧
    (let s : State := axis7 {} [(F.axCfg_kind,3,7)]; let w : Who := w3; let n : Fin 8 := 7; let cfg := F.axCfg_still.addr n 0; s.GrantsPart w cfg ∧ s.dev.axState n ≠ 1 ∧ s.dev.rd F.axCfg_kind n ≤ 5 ∧ 1 ≤ s.dev.rd F.axCfg_stilldly n) ∧
    (let s : State := axis7 {} [(F.axState_state,1,7)]; let w : Who := w3; let n : Fin 8 := 7; let still : Fin 3 := 2; let cfg := F.axCfg_still.addr n 0; s.GrantsPart w cfg ∧ s.dev.axState n = 1 ∧ s.dev.rd F.axCfg_still n ≠ still ∧ s.dev.rd F.axCfg_kind n ≤ 5 ∧ 1 ≤ s.dev.rd F.axCfg_stilldly n) := by
  refine ⟨?_, ?_, ?_, ?_, ?_, ?_, ?_, ?_, ?_, ?_, ?_⟩ <;> decide +kernel

/-- CarrierUpdates. -/
theorem test_CarrierUpdates_witnesses :
    (let s : State := set (tick5 7); let n : Fin 8 := 7; let h := s.dev.axis n; let j := s.dev.jNow n; 8 ≤ s.seq.released ∧ (∀ i ∈ h.tick.j, i < j)) ∧
    (let s : State := axis7 {tick:={j:=some (-1)},stp:={n:=5}} (tick5 7 ++ [(F.axState_state,2,7)]); let n : Fin 8 := 7; let h := s.dev.axis n; let j := s.dev.jNow n; 8 ≤ s.seq.released ∧ (∀ i ∈ h.tick.j, i < j)) ∧
    (let s : State := axis7 {tick:={j:=some 0}} []; let n : Fin 8 := 7; let k : Int := 0; let h := s.dev.axis n; let j := s.dev.jNow n; 8 ≤ s.seq.released ∧ h.tick.j = some k ∧ j ≤ k) := by
  refine ⟨?_, ?_, ?_⟩ <;> decide +kernel

/-- StagesRun. -/
theorem test_StagesRun_witnesses :
    (let s : State := sys {}; 8 ≤ s.seq.released) ∧
    (let s : State := stageAt; let n : Fin 8 := 7; let h := s.dev.axis n; let tick := h.tick; let j := tick.j.getD 0; let due := max (s.dev.rootOf n (s.dev.updateAt n j) + s.dev.latency n * 1000) (s.dev.setAt n j fun _ => true); let clean := s.dev.bad = [] ∧ h.out.scrub = none; 8 ≤ s.seq.released ∧ tick.cur = true ∧ s.dev.axState n ≠ 0 ∧ s.dev.setPending n j = false ∧ due ≤ s.dev.now ∧ s.dev.stageTurn (stageRank due 0 n) = true ∧ clean) ∧
    (let s : State := sys {}; let n : Fin 8 := 7; let h := s.dev.axis n; let tick := h.tick; let j := tick.j.getD 0; let due := max (s.dev.rootOf n (s.dev.updateAt n j) + s.dev.latency n * 1000) (s.dev.setAt n j fun _ => true); 8 ≤ s.seq.released ∧ (tick.cur = false ∨ s.dev.axState n = 0 ∨ s.dev.setPending n j = true ∨ s.dev.now < due ∨ s.dev.stageTurn (stageRank due 0 n) = false)) ∧
    (let s : State := axis7 {tick:={outer:=[{j:=3,ts:=-10^9,pos:=false}]},prf:={p:=2^62},cpl:={c:=2^62}} (tick5 7 ++ [(F.axState_state,2,7),(F.fbkSel_src,13,7)]); let n : Fin 8 := 7; let o : OTick := {j:=3,ts:=-10^9,pos:=false}; let rest : List OTick := []; let h := s.dev.axis n; let tick := h.tick; let now_ : Int  := s.dev.tb16 (s.dev.rd F.axTick_tb n); let clean := s.dev.bad = [] ∧ h.out.scrub = none; let src := s.dev.rd F.fbkSel_src n; let at_ := o.ts + s.dev.rd F.axTick_outer n * (10 * 65536); let start := s.dev.rootAt (s.dev.rd F.axTick_tb n) (at_ * 2 ^ 24); let waits := tick.outer = o :: rest ∧ at_ ≤ now_; 8 ≤ s.seq.released ∧ waits ∧ o.pos = false ∧ s.dev.axState n ≠ 0 ∧ s.dev.stageTurn (stageRank start 1 n) = true ∧ clean ∧ src = 13) ∧
    (let s : State := axis7 {tick:={outer:=[{j:=3,ts:=-10^9,pos:=true}]},prf:={p:=77}} (tick5 7 ++ [(F.axState_state,2,7),(F.fbkSel_src,13,7)]); let n : Fin 8 := 7; let o : OTick := {j:=3,ts:=-10^9,pos:=true}; let rest : List OTick := []; let h := s.dev.axis n; let tick := h.tick; let now_ : Int  := s.dev.tb16 (s.dev.rd F.axTick_tb n); let clean := s.dev.bad = [] ∧ h.out.scrub = none; let at_ := o.ts + s.dev.rd F.axTick_outer n * (10 * 65536); let start := s.dev.rootAt (s.dev.rd F.axTick_tb n) (at_ * 2 ^ 24); let waits := tick.outer = o :: rest ∧ at_ ≤ now_; 8 ≤ s.seq.released ∧ waits ∧ o.pos = true ∧ s.dev.axState n ≠ 0 ∧ s.dev.stageTurn (stageRank start 1 n) = true ∧ clean) ∧
    (let s : State := axis7 {tick:={outer:=[{j:=3,ts:=-10^9,pos:=true}]},prf:={p:=77}} (tick5 7 ++ [(F.axState_state,2,7),(F.fbkSel_src,13,7)]) |> (fun s => s.put {s.dev with busyTo := 1}); let n : Fin 8 := 7; let o : OTick := {j:=3,ts:=-10^9,pos:=true}; let rest : List OTick := []; let h := s.dev.axis n; let tick := h.tick; let now_ : Int  := s.dev.tb16 (s.dev.rd F.axTick_tb n); let at_ := o.ts + s.dev.rd F.axTick_outer n * (10 * 65536); let start := s.dev.rootAt (s.dev.rd F.axTick_tb n) (at_ * 2 ^ 24); let waits := tick.outer = o :: rest ∧ at_ ≤ now_; 8 ≤ s.seq.released ∧ waits ∧ s.dev.axState n ≠ 0 ∧ s.dev.stageTurn (stageRank start 1 n) = false) ∧
    (let s : State := axis7 {tick:={outer:=[{j:=3,ts:=-10^9,pos:=true}]},prf:={p:=77}} []; let n : Fin 8 := 7; let o : OTick := {j:=3,ts:=-10^9,pos:=true}; let rest : List OTick := []; let h := s.dev.axis n; let tick := h.tick; let now_ : Int  := s.dev.tb16 (s.dev.rd F.axTick_tb n); let at_ := o.ts + s.dev.rd F.axTick_outer n * (10 * 65536); let waits := tick.outer = o :: rest ∧ at_ ≤ now_; 8 ≤ s.seq.released ∧ waits ∧ s.dev.axState n = 0) ∧
    (let s : State := sys {}; let n : Fin 8 := 7; let h := s.dev.axis n; let tick := h.tick; let now_ : Int  := s.dev.tb16 (s.dev.rd F.axTick_tb n); 8 ≤ s.seq.released ∧ (∀ x ∈ tick.outer.head?, now_ < x.ts + s.dev.rd F.axTick_outer n * (10 * 65536))) ∧
    (let s : State := axis7 {tick:={fb:=true}} [(F.fbkSel_src,12,7),(F.fqCtrl_en,1,3),(F.fqSt_ready,1,3)]; let n : Fin 8 := 7; let h := s.dev.axis n; let tick := h.tick; let now_ : Int  := s.dev.tb16 (s.dev.rd F.axTick_tb n); let src := s.dev.rd F.fbkSel_src n; 8 ≤ s.seq.released ∧ tick.fb = true ∧ s.dev.axState n = 0 ∧ tick.ts ≤ now_ ∧ 9 ≤ src ∧ src ≤ 12 ∧ s.dev.chanReady src = true ∧ s.dev.rd F.fqCtrl_mode (src - 9) ≠ 4) ∧
    (let s : State := stageAt; let n : Fin 8 := 7; let h := s.dev.axis n; let tick := h.tick; 8 ≤ s.seq.released ∧ (tick.fb = false ∨ s.dev.axState n ≠ 0)) := by
  refine ⟨?_, ?_, ?_, ?_, ?_, ?_, ?_, ?_, ?_, ?_⟩ <;> decide +kernel

/-- ProfileAdvances. -/
theorem test_ProfileAdvances_witnesses :
    (let d : Dev := ({}:Dev); let n : Fin 8 := 7; d.axState n ≠ 2 ∧ d.axState n ≠ 3) ∧
    (let d : Dev := (axis7 {prf:={v:=5,tgt:=99}} [(F.axState_state,2,7),(F.axPstat_mode,1,7)]).dev; let n : Fin 8 := 7; d.axState n = 2 ∧ d.rd F.axPstat_mode n = 1) ∧
    (let d : Dev := (axis7 {prf:={v:=5,tgt:=65536*10^7}} (tick5 7 ++ [(F.axState_state,2,7),(F.axPstat_mode,1,7)])).dev; let n : Fin 8 := 7; d.axState n = 2 ∧ d.rd F.axPstat_mode n = 1) := by
  refine ⟨?_, ?_, ?_⟩ <;> decide +kernel

/-- LoopCommands. -/
theorem test_LoopCommands_witnesses :
    (let s : State := loops []; let w : Who := w3; let n : Fin 8 := 7; let a := R.axLoopctl.base + 0x2000 * n.val; s.Grants w a) ∧
    (let s : State := loops [] 1; let w : Who := w3; let n : Fin 8 := 7; let a := R.axLoopctl.base + 0x2000 * n.val; s.Grants w a) ∧
    (let s : State := loops [(2,{st:=.closed}),(3,{st:=.closed})]; let w : Who := w3; let n : Fin 8 := 7; let a := R.axLoopctl.base + 0x2000 * n.val; s.Grants w a) ∧
    (let s : State := loops [(1,{st:=.closed}),(2,{st:=.closed}),(3,{st:=.closed})]; let w : Who := w3; let n : Fin 8 := 7; let a := R.axLoopctl.base + 0x2000 * n.val; s.Grants w a) ∧
    (let s : State := loops [(0,{st:=.closed}),(1,{st:=.closed}),(2,{st:=.closed}),(3,{st:=.closed})] 2 [(F.axHold_ticks,9,7)] 65537; let w : Who := w3; let n : Fin 8 := 7; let a := R.axLoopctl.base + 0x2000 * n.val; s.Grants w a) ∧
    (let s : State := loops [(0,{st:=.closed}),(1,{st:=.closed}),(2,{st:=.closed}),(3,{st:=.closed})] 2 [(F.axHold_ticks,9,7)] (2^50); let w : Who := w3; let n : Fin 8 := 7; let a := R.axLoopctl.base + 0x2000 * n.val; s.Grants w a) ∧
    (let s : State := loops [] 3; let w : Who := w3; let n : Fin 8 := 7; let a := R.axLoopctl.base + 0x2000 * n.val; s.Grants w a) ∧
    (let s : State := axis7 {out:={holdDue:=true}} [(F.axState_state,2,7)]; let n : Fin 8 := 7; let h := s.dev.axis n; 8 ≤ s.seq.released ∧ h.out.holdDue = true ∧ s.dev.axState n = 2) ∧
    (let s : State := sys {}; let n : Fin 8 := 7; let h := s.dev.axis n; 8 ≤ s.seq.released ∧ h.out.holdDue = false) ∧
    (let s : State := sys {}; let w : Who := w3; let n : Fin 8 := 7; let word : Fin 8192 := 4095; let v : BitVec 32 := 0x7FFFFFFF; let tab := 0x2C0000 + 0x8000 * n.val + 4 * word.val; s.Grants w tab ∧ (word.val < 4096 → v.toNat < 2 ^ 31) ∧ (s.dev.present n 1 = false ∨ (s.dev.loop n 1).st = .opened)) ∧
    (let s : State := loops []; let w : Who := w3; let n : Fin 8 := 7; let word : Fin 8192 := 8191; let v : BitVec 32 := 0xFFFFFFFF; let tab := 0x2C0000 + 0x8000 * n.val + 4 * word.val; s.Grants w tab ∧ (word.val < 4096 → v.toNat < 2 ^ 31) ∧ (s.dev.present n 1 = false ∨ (s.dev.loop n 1).st = .opened)) ∧
    (let s : State := sys {}; let w : Who := w3; let n : Fin 8 := 7; let word : Fin 8192 := 4095; let v : BitVec 32 := 0x80000000; let tab := 0x2C0000 + 0x8000 * n.val + 4 * word.val; s.Grants w tab ∧ word.val < 4096 ∧ 2 ^ 31 ≤ v.toNat) ∧
    (let s : State := loops [(1,{st:=.closed})]; let w : Who := w3; let n : Fin 8 := 7; let word : Fin 8192 := 4096; let v : BitVec 32 := 0x80000000; let tab := 0x2C0000 + 0x8000 * n.val + 4 * word.val; s.Grants w tab ∧ (word.val < 4096 → v.toNat < 2 ^ 31) ∧ s.dev.present n 1 = true ∧ (s.dev.loop n 1).st ≠ .opened) := by
  refine ⟨?_, ?_, ?_, ?_, ?_, ?_, ?_, ?_, ?_, ?_, ?_, ?_, ?_⟩ <;> decide +kernel

/-- GateDrive. -/
theorem test_GateDrive_witnesses :
    (let s : State := leg23 {want:=some {high:=true,at_:=0}}; let n : Fin 24 := 23; let w : TurnOn := {high:=true,at_:=0}; let h := s.dev.legh n; let ax := s.dev.rd F.legCfg_axis n; let now_ := s.dev.t250 (s.dev.rd F.axTick_tb ax); let open_ := s.dev.rd F.legFlt_lockout n = 0; let noEdges := dueAt now_ h.refEnd = false ∧ dueAt now_ h.ea = false ∧ dueAt now_ h.eb = false; let inTime := w.at_ ≤ s.dev.now ∧ s.dev.now ≤ w.at_ + 1000000; 7 ≤ s.seq.released ∧ noEdges ∧ h.want = some w ∧ inTime ∧ open_) ∧
    (let s : State := leg23 {want:=some {high:=true,at_:=0}}; let n : Fin 24 := 23; let low : Bool := false; let h := s.dev.legh n; let ax := s.dev.rd F.legCfg_axis n; let now_ := s.dev.t250 (s.dev.rd F.axTick_tb ax); let open_ := s.dev.rd F.legFlt_lockout n = 0; let noEdges := dueAt now_ h.refEnd = false ∧ dueAt now_ h.ea = false ∧ dueAt now_ h.eb = false; 7 ≤ s.seq.released ∧ noEdges ∧ (h.want = none ∨ low = false ∧ open_)) ∧
    (let s : State := leg23 {want:=some {high:=true,at_:=0}} [] {now:=1000001}; let n : Fin 24 := 23; let w : TurnOn := {high:=true,at_:=0}; let h := s.dev.legh n; let ax := s.dev.rd F.legCfg_axis n; let now_ := s.dev.t250 (s.dev.rd F.axTick_tb ax); let open_ := s.dev.rd F.legFlt_lockout n = 0; let noEdges := dueAt now_ h.refEnd = false ∧ dueAt now_ h.ea = false ∧ dueAt now_ h.eb = false; 7 ≤ s.seq.released ∧ noEdges ∧ h.want = some w ∧ w.at_ + 1000000 < s.dev.now ∧ open_) ∧
    (let s : State := leg23 {want:=some {high:=true,at_:=0}} [(F.legFlt_lockout,1,23)] {now:=1000001}; let n : Fin 24 := 23; let w : TurnOn := {high:=true,at_:=0}; let h := s.dev.legh n; let ax := s.dev.rd F.legCfg_axis n; let now_ := s.dev.t250 (s.dev.rd F.axTick_tb ax); let open_ := s.dev.rd F.legFlt_lockout n = 0; let noEdges := dueAt now_ h.refEnd = false ∧ dueAt now_ h.ea = false ∧ dueAt now_ h.eb = false; 7 ≤ s.seq.released ∧ noEdges ∧ h.want = some w ∧ w.high = true ∧ w.at_ ≤ s.dev.now ∧ ¬ open_) ∧
    (let s : State := leg23 {ea:=some 0,eb:=some 5}; let n : Fin 24 := 23; let t0 : Int := 0; let h := s.dev.legh n; let ax := s.dev.rd F.legCfg_axis n; let now_ := s.dev.t250 (s.dev.rd F.axTick_tb ax); let open_ := s.dev.rd F.legFlt_lockout n = 0; let rising := dueAt now_ h.refEnd = false ∧ dueAt now_ h.eb = false ∧ h.ea = some t0 ∧ t0 ≤ now_ ∧ h.high = false; let gap := s.dev.nextEdge n true - t0; let least : Int  := s.dev.rd F.legTmin_tmin n + s.dev.rd F.legDt_dt n; 7 ≤ s.seq.released ∧ rising ∧ gap < least ∧ (h.want = none ∨ open_)) ∧
    (let s : State := leg23 {ea:=some 0} [(F.legCmpb_cmp,60000,23)]; let n : Fin 24 := 23; let t0 : Int := 0; let h := s.dev.legh n; let ax := s.dev.rd F.legCfg_axis n; let now_ := s.dev.t250 (s.dev.rd F.axTick_tb ax); let open_ := s.dev.rd F.legFlt_lockout n = 0; let rising := dueAt now_ h.refEnd = false ∧ dueAt now_ h.eb = false ∧ h.ea = some t0 ∧ t0 ≤ now_ ∧ h.high = false; let gap := s.dev.nextEdge n true - t0; let least : Int  := s.dev.rd F.legTmin_tmin n + s.dev.rd F.legDt_dt n; 7 ≤ s.seq.released ∧ rising ∧ least ≤ gap ∧ s.dev.rd F.legCfg_use n = 1 ∧ s.dev.latches n = 0 ∧ open_ ∧ h.gh = false) ∧
    (let s : State := leg23 {want:=some {high:=true,at_:=0}} [] {now:=1000000}; let n : Fin 24 := 23; let w : TurnOn := {high:=true,at_:=0}; let h := s.dev.legh n; let open_ := s.dev.rd F.legFlt_lockout n = 0; let inTime := w.at_ ≤ s.dev.now ∧ s.dev.now ≤ w.at_ + 1000000; 7 ≤ s.seq.released ∧ h.want = some w ∧ inTime ∧ open_) ∧
    (let s : State := leg23 {}; let n : Fin 24 := 23; let h := s.dev.legh n; 7 ≤ s.seq.released ∧ h.want = none) ∧
    (let s : State := leg23 {want:=some {high:=true,at_:=0}} [(F.axState_state,2,7)] {now:=1000000}; let legs : BitVec 24 := 5; 7 ≤ s.seq.released ∧ (∀ k < 24, bitOf legs.toNat k = true → (s.dev.legh k).want = none)) ∧
    (let s : State := leg23 {want:=some {high:=true,at_:=0}} [(F.axState_state,2,7)] {now:=1000000}; let n : Fin 24 := 23; let w : TurnOn := {high:=true,at_:=0}; let legs : BitVec 24 := 0x800001; let h := s.dev.legh n; let open_ := s.dev.rd F.legFlt_lockout n = 0; 7 ≤ s.seq.released ∧ bitOf legs.toNat n = true ∧ h.want = some w ∧ w.at_ + 1000000 ≤ s.dev.now ∧ open_) ∧
    (let s : State := leg23 {gh:=true} [(F.legFlt_lockout,1,23)]; let n : Fin 24 := 23; let mV : Nat := 3; let open_ := s.dev.rd F.legFlt_lockout n = 0; let th := match s.dev.rd F.legBst_uvsel n with | 0 => 3500 | 1 => 4500 | 2 => 7000 | _ => 8500; 7 ≤ s.seq.released ∧ (¬ open_ ∨ th ≤ mV)) ∧
    (let s : State := leg23 {gh:=true} [(F.axState_state,2,7),(F.legBst_uvsel,3,23)]; let n : Fin 24 := 23; let w : TurnOn := {high:=true,at_:=0}; let mV : Nat := 8499; let h := s.dev.legh n; let open_ := s.dev.rd F.legFlt_lockout n = 0; let th := match s.dev.rd F.legBst_uvsel n with | 0 => 3500 | 1 => 4500 | 2 => 7000 | _ => 8500; 7 ≤ s.seq.released ∧ open_ ∧ mV < th ∧ (h.gh = true ∨ h.want = some w ∧ w.high = true ∧ w.at_ ≤ s.dev.now)) ∧
    (let s : State := leg23 {gl:=true}; let n : Fin 24 := 23; let mV : Nat := 0; let h := s.dev.legh n; let open_ := s.dev.rd F.legFlt_lockout n = 0; let th := match s.dev.rd F.legBst_uvsel n with | 0 => 3500 | 1 => 4500 | 2 => 7000 | _ => 8500; 7 ≤ s.seq.released ∧ open_ ∧ mV < th ∧ h.gh = false ∧ h.want = none) ∧
    (let s : State := leg23 {gh:=true} [(F.legFlt_lockout,1,23)]; let n : Fin 24 := 23; let mV : Nat := 9001; let th := match s.dev.rd F.legBst_uvsel n with | 0 => 3500 | 1 => 4500 | 2 => 7000 | _ => 8500; 7 ≤ s.seq.released ∧ th + 500 < mV) ∧
    (let s : State := leg23 {gh:=true} [(F.legFlt_lockout,1,23),(F.legBst_uvsel,1,23)]; let n : Fin 24 := 23; let mV : Nat := 5000; let th := match s.dev.rd F.legBst_uvsel n with | 0 => 3500 | 1 => 4500 | 2 => 7000 | _ => 8500; 7 ≤ s.seq.released ∧ mV ≤ th + 500) := by
  refine ⟨?_, ?_, ?_, ?_, ?_, ?_, ?_, ?_, ?_, ?_, ?_, ?_, ?_, ?_, ?_⟩ <;> decide +kernel

/-- LegsAndBrakes. -/
theorem test_LegsAndBrakes_witnesses :
    (let s : State := leg23 {} [(F.legCfg_use,3,23),(F.legBrk_mode,2,23)]; let n : Fin 24 := 23; let use := s.dev.rd F.legCfg_use n; 7 ≤ s.seq.released ∧ use = 3 ∧ s.dev.rd F.legBrkst_released n = 0 ∧ s.dev.brakeWanted n = true) ∧
    (let s : State := leg23 {} [(F.legCfg_use,3,23),(F.legBrk_mode,1,23),(F.legBrkst_released,1,23)]; let n : Fin 24 := 23; let use := s.dev.rd F.legCfg_use n; 7 ≤ s.seq.released ∧ use = 3 ∧ s.dev.rd F.legBrkst_released n = 1 ∧ s.dev.brakeWanted n = false) ∧
    (let s : State := leg23 {}; let n : Fin 24 := 23; let use := s.dev.rd F.legCfg_use n; 7 ≤ s.seq.released ∧ use ≠ 3) ∧
    (let s : State := leg23 {pull:=some 0}; let n : Fin 24 := 23; let t0 : Nat := 0; let h := s.dev.legh n; 7 ≤ s.seq.released ∧ h.pull = some t0 ∧ t0 ≤ s.dev.now) ∧
    (let s : State := leg23 {pull:=some 1}; let n : Fin 24 := 23; let t0 : Nat := 1; let h := s.dev.legh n; 7 ≤ s.seq.released ∧ h.pull = some t0 ∧ s.dev.now < t0) ∧
    (let s : State := leg23 {} [(F.legCfg_use,2,23)]; let w : Who := w3; let n : Fin 24 := 23; let use := s.dev.rd F.legCfg_use n; let rearm := F.legFlt_rearm.addr n 0; s.GrantsPart w rearm ∧ 2 ≤ use) ∧
    (let s : State := leg23 {} [(F.legCfg_use,1,23)]; let w : Who := w3; let n : Fin 24 := 23; let use := s.dev.rd F.legCfg_use n; let rearm := F.legFlt_rearm.addr n 0; s.GrantsPart w rearm ∧ use ≤ 1) ∧
    (let s : State := leg23 {}; let w : Who := w3; let n : Fin 24 := 23; let v : BitVec 32 := 40; let ax := s.dev.rd F.legCfg_axis n; let cfg := 0xA0000 + 0x800 * n.val; let regs := fun (r : Nat) => cfg + 4 * r; s.Grants w (regs 1) ∧ s.dev.axState ax = 0 ∧ 40 ≤ v.toNat % 2 ^ 12 ∧ v.toNat % 2 ^ 12 ≤ 4000) ∧
    (let s : State := leg23 {}; let w : Who := w3; let n : Fin 24 := 23; let v : BitVec 32 := 4000; let ax := s.dev.rd F.legCfg_axis n; let cfg := 0xA0000 + 0x800 * n.val; let regs := fun (r : Nat) => cfg + 4 * r; s.Grants w (regs 1) ∧ s.dev.axState ax = 0 ∧ 40 ≤ v.toNat % 2 ^ 12 ∧ v.toNat % 2 ^ 12 ≤ 4000) ∧
    (let s : State := leg23 {} [(F.axState_state,1,7)]; let w : Who := w3; let n : Fin 24 := 23; let v : BitVec 32 := 4000; let ax := s.dev.rd F.legCfg_axis n; let cfg := 0xA0000 + 0x800 * n.val; let regs := fun (r : Nat) => cfg + 4 * r; s.Grants w (regs 1) ∧ s.dev.axState ax ≠ 0 ∧ 40 ≤ v.toNat % 2 ^ 12 ∧ v.toNat % 2 ^ 12 ≤ 4000 ∧ v.toNat % 2 ^ 12 ≠ s.dev.rd F.legDt_dt n) ∧
    (let s : State := leg23 {}; let w : Who := w3; let n : Fin 24 := 23; let v : BitVec 32 := 39; let cfg := 0xA0000 + 0x800 * n.val; let regs := fun (r : Nat) => cfg + 4 * r; s.Grants w (regs 1) ∧ (v.toNat % 2 ^ 12 < 40 ∨ 4000 < v.toNat % 2 ^ 12)) ∧
    (let s : State := leg23 {}; let w : Who := w3; let n : Fin 24 := 23; let v : BitVec 32 := 4001; let cfg := 0xA0000 + 0x800 * n.val; let regs := fun (r : Nat) => cfg + 4 * r; s.Grants w (regs 1) ∧ (v.toNat % 2 ^ 12 < 40 ∨ 4000 < v.toNat % 2 ^ 12)) ∧
    (let s : State := leg23 {}; let w : Who := w3; let n : Fin 24 := 23; let v : BitVec 32 := 40; let ax := s.dev.rd F.legCfg_axis n; let cfg := 0xA0000 + 0x800 * n.val; s.Grants w cfg ∧ s.dev.axState ax = 0 ∧ s.dev.axState (bitsOf v.toNat 4 3) = 0 ∧ bitsOf v.toNat 0 3 ≤ 3) := by
  refine ⟨?_, ?_, ?_, ?_, ?_, ?_, ?_, ?_, ?_, ?_, ?_, ?_, ?_⟩ <;> decide +kernel

/-- TripsAndShorts. -/
theorem test_TripsAndShorts_witnesses :
    (let s : State := leg23 {gh:=true} [(F.axState_state,2,7),(F.legIsc_hard,5,23)]; let n : Fin 24 := 23; let x : Int := 5*2^21; let hard : Int  := s.dev.rd F.legIsc_hard n * 2 ^ 21; 7 ≤ s.seq.released ∧ (s.dev.legh n).gh = true ∧ hard ≤ x) ∧
    (let s : State := leg23 {gh:=true} [(F.axState_state,1,7),(F.legIsc_hard,5,23),(F.legIsc_soft,9,23)]; let n : Fin 24 := 23; let x : Int := 5*2^21; let hard : Int  := s.dev.rd F.legIsc_hard n * 2 ^ 21; 7 ≤ s.seq.released ∧ (s.dev.legh n).gh = true ∧ hard ≤ x) ∧
    (let s : State := leg23 {gl:=true,glSince:=some 0} [(F.axState_state,2,7),(F.axReact_src0,2,7),(F.legIsc_hard,50,23),(F.legIsc_soft,9,23)] {now:=10^9}; let n : Fin 24 := 23; let x : Int := 9*2^21; let since : Nat := 0; let soft : Int  := s.dev.rd F.legIsc_soft n * 2 ^ 21; let hard : Int  := s.dev.rd F.legIsc_hard n * 2 ^ 21; let ax := s.dev.rd F.legCfg_axis n; 7 ≤ s.seq.released ∧ (s.dev.legh n).glSince = some since ∧ since + s.dev.rd F.legTblank_tblank n * 1000 ≤ s.dev.now ∧ soft ≤ x ∧ x < hard ∧ s.dev.rd F.legCfg_use n = 1 ∧ s.dev.reactOf ax 0 = 2) ∧
    (let s : State := leg23 {gh:=true} [(F.legIsc_hard,50,23),(F.legIsc_soft,9,23)]; let n : Fin 24 := 23; let x : Int := 9*2^21-1; let soft : Int  := s.dev.rd F.legIsc_soft n * 2 ^ 21; let hard : Int  := s.dev.rd F.legIsc_hard n * 2 ^ 21; 7 ≤ s.seq.released ∧ x < soft ∧ x < hard) ∧
    (let s : State := leg23 {} [(F.axState_state,2,7),(F.tripCfg_en,1,3),(F.tripCfg_pol,1,3),(F.tripCfg_axmask,255,3)]; let k : Fin 4 := 3; let level : Bool := true; let clocks : Nat := 5; let run := min clocks ((s.dev.now - Tbl.get 0 k.val s.dev.trip.from_) / 2000); let pol := s.dev.rd F.tripCfg_pol k = 1; 7 ≤ s.seq.released ∧ s.dev.rd F.tripCfg_en k = 1 ∧ s.dev.rd F.tripCfg_filt k ≤ run ∧ (level = true ↔ pol) ∧ s.dev.tripOn (4 + k) = false) ∧
    (let s : State := leg23 {} [(F.axState_state,2,7),(F.tripCfg_en,1,3),(F.tripCfg_filt,5,3),(F.tripCfg_pol,0,3),(F.tripCfg_axmask,255,3)] {now:=10000}; let k : Fin 4 := 3; let level : Bool := false; let clocks : Nat := 5; let run := min clocks ((s.dev.now - Tbl.get 0 k.val s.dev.trip.from_) / 2000); let pol := s.dev.rd F.tripCfg_pol k = 1; 7 ≤ s.seq.released ∧ s.dev.rd F.tripCfg_en k = 1 ∧ s.dev.rd F.tripCfg_filt k ≤ run ∧ (level = true ↔ pol) ∧ s.dev.tripOn (4 + k) = false) ∧
    (let s : State := leg23 {} [(F.tripCfg_en,1,3),(F.tripStat_level,128,0),(F.tripCfg_pol,1,3)] {now:=99999999}; let k : Fin 4 := 3; let level : Bool := false; let clocks : Nat := 1000; let run := min clocks ((s.dev.now - Tbl.get 0 k.val s.dev.trip.from_) / 2000); let pol := s.dev.rd F.tripCfg_pol k = 1; 7 ≤ s.seq.released ∧ s.dev.rd F.tripCfg_en k = 1 ∧ s.dev.rd F.tripCfg_filt k ≤ run ∧ ¬ (level = true ↔ pol) ∧ s.dev.tripOn (4 + k) = true) ∧
    (let s : State := leg23 {}; let k : Fin 4 := 3; let clocks : Nat := 0; let run := min clocks ((s.dev.now - Tbl.get 0 k.val s.dev.trip.from_) / 2000); 7 ≤ s.seq.released ∧ (s.dev.rd F.tripCfg_en k = 0 ∨ run < s.dev.rd F.tripCfg_filt k)) ∧
    (let s : State := leg23 {} [(F.axState_state,2,7),(F.tripCfg_en,1,3),(F.tripCfg_filt,5,3),(F.tripCfg_pol,0,3),(F.tripCfg_axmask,255,3)] {now:=10000}; let k : Fin 4 := 3; let clocks : Nat := 4; let run := min clocks ((s.dev.now - Tbl.get 0 k.val s.dev.trip.from_) / 2000); 7 ≤ s.seq.released ∧ (s.dev.rd F.tripCfg_en k = 0 ∨ run < s.dev.rd F.tripCfg_filt k)) ∧
    (let s : State := leg23 {} [(F.axState_state,2,7),(F.tripCfg_en,1,3),(F.tripCfg_filt,5,3),(F.tripCfg_pol,0,3),(F.tripCfg_axmask,255,3)] {now:=9999}; let k : Fin 4 := 3; let clocks : Nat := 4000; let run := min clocks ((s.dev.now - Tbl.get 0 k.val s.dev.trip.from_) / 2000); 7 ≤ s.seq.released ∧ (s.dev.rd F.tripCfg_en k = 0 ∨ run < s.dev.rd F.tripCfg_filt k)) ∧
    (let s : State := leg23 {} [(F.axState_state,2,7)]; let src : Fin 3 := 0; let mV : Nat := 0; let clocks : Nat := 256; let uv := if src = 0 then 80 * s.dev.vdrvLevel else 12500 * s.dev.rd F.legSup_uv; let ov := 125 * s.dev.rd F.legSup_ov; let beyond := if src = 1 then ov < mV else 100 * mV < uv; 7 ≤ s.seq.released ∧ 256 ≤ clocks ∧ beyond ∧ s.dev.tripOn (8 + src) = false) ∧
    (let s : State := leg23 {} [(F.axState_state,2,7),(F.legSup_ov,1,0)]; let src : Fin 3 := 1; let mV : Nat := 999999; let clocks : Nat := 256; let uv := if src = 0 then 80 * s.dev.vdrvLevel else 12500 * s.dev.rd F.legSup_uv; let ov := 125 * s.dev.rd F.legSup_ov; let beyond := if src = 1 then ov < mV else 100 * mV < uv; 7 ≤ s.seq.released ∧ 256 ≤ clocks ∧ beyond ∧ s.dev.tripOn (8 + src) = false) ∧
    (let s : State := leg23 {} [(F.axState_state,2,7),(F.legSup_uv,10,0)]; let src : Fin 3 := 2; let mV : Nat := 0; let clocks : Nat := 256; let uv := if src = 0 then 80 * s.dev.vdrvLevel else 12500 * s.dev.rd F.legSup_uv; let ov := 125 * s.dev.rd F.legSup_ov; let beyond := if src = 1 then ov < mV else 100 * mV < uv; 7 ≤ s.seq.released ∧ 256 ≤ clocks ∧ beyond ∧ s.dev.tripOn (8 + src) = false) ∧
    (let s : State := leg23 {} [(F.tripStat_level,1024,0),(F.legSup_uv,10,0)]; let src : Fin 3 := 2; let mV : Nat := 99999; let clocks : Nat := 256; let uv := if src = 0 then 80 * s.dev.vdrvLevel else 12500 * s.dev.rd F.legSup_uv; let ov := 125 * s.dev.rd F.legSup_ov; let stays := if src = 1 then 98 * ov < 100 * mV else 100 * (100 * mV) < 102 * uv; 7 ≤ s.seq.released ∧ 256 ≤ clocks ∧ ¬ stays ∧ s.dev.tripOn (8 + src) = true) ∧
    (let s : State := leg23 {} [(F.tripStat_level,256,0)]; let src : Fin 3 := 0; let mV : Nat := 99999; let clocks : Nat := 256; let uv := if src = 0 then 80 * s.dev.vdrvLevel else 12500 * s.dev.rd F.legSup_uv; let ov := 125 * s.dev.rd F.legSup_ov; let stays := if src = 1 then 98 * ov < 100 * mV else 100 * (100 * mV) < 102 * uv; 7 ≤ s.seq.released ∧ 256 ≤ clocks ∧ ¬ stays ∧ s.dev.tripOn (8 + src) = true) ∧
    (let s : State := leg23 {} [(F.tripStat_level,512,0),(F.legSup_ov,10,0)]; let src : Fin 3 := 1; let mV : Nat := 0; let clocks : Nat := 256; let uv := if src = 0 then 80 * s.dev.vdrvLevel else 12500 * s.dev.rd F.legSup_uv; let ov := 125 * s.dev.rd F.legSup_ov; let stays := if src = 1 then 98 * ov < 100 * mV else 100 * (100 * mV) < 102 * uv; 7 ≤ s.seq.released ∧ 256 ≤ clocks ∧ ¬ stays ∧ s.dev.tripOn (8 + src) = true) ∧
    (let s : State := leg23 {} [(F.tripStat_level,1024,0),(F.legSup_uv,10,0)]; let src : Fin 3 := 2; let mV : Nat := 99999; let clocks : Nat := 255; let uv := if src = 0 then 80 * s.dev.vdrvLevel else 12500 * s.dev.rd F.legSup_uv; let ov := 125 * s.dev.rd F.legSup_ov; let beyond := if src = 1 then ov < mV else 100 * mV < uv; let stays := if src = 1 then 98 * ov < 100 * mV else 100 * (100 * mV) < 102 * uv; 7 ≤ s.seq.released ∧ (clocks < 256 ∨ s.dev.tripOn (8 + src) = true ∧ stays ∨ s.dev.tripOn (8 + src) = false ∧ ¬ beyond)) ∧
    (let s : State := leg23 {} [(F.tripStat_level,1024,0),(F.legSup_uv,10,0)]; let src : Fin 3 := 2; let mV : Nat := 0; let clocks : Nat := 256; let uv := if src = 0 then 80 * s.dev.vdrvLevel else 12500 * s.dev.rd F.legSup_uv; let ov := 125 * s.dev.rd F.legSup_ov; let beyond := if src = 1 then ov < mV else 100 * mV < uv; let stays := if src = 1 then 98 * ov < 100 * mV else 100 * (100 * mV) < 102 * uv; 7 ≤ s.seq.released ∧ (clocks < 256 ∨ s.dev.tripOn (8 + src) = true ∧ stays ∨ s.dev.tripOn (8 + src) = false ∧ ¬ beyond)) ∧
    (let s : State := leg23 {}; let src : Fin 3 := 0; let mV : Nat := 99999; let clocks : Nat := 9999; let uv := if src = 0 then 80 * s.dev.vdrvLevel else 12500 * s.dev.rd F.legSup_uv; let ov := 125 * s.dev.rd F.legSup_ov; let beyond := if src = 1 then ov < mV else 100 * mV < uv; let stays := if src = 1 then 98 * ov < 100 * mV else 100 * (100 * mV) < 102 * uv; 7 ≤ s.seq.released ∧ (clocks < 256 ∨ s.dev.tripOn (8 + src) = true ∧ stays ∨ s.dev.tripOn (8 + src) = false ∧ ¬ beyond)) ∧
    (let s : State := leg23 {} [(F.legSup_ov,10,0)]; let src : Fin 3 := 1; let mV : Nat := 0; let clocks : Nat := 256; let uv := if src = 0 then 80 * s.dev.vdrvLevel else 12500 * s.dev.rd F.legSup_uv; let ov := 125 * s.dev.rd F.legSup_ov; let beyond := if src = 1 then ov < mV else 100 * mV < uv; let stays := if src = 1 then 98 * ov < 100 * mV else 100 * (100 * mV) < 102 * uv; 7 ≤ s.seq.released ∧ (clocks < 256 ∨ s.dev.tripOn (8 + src) = true ∧ stays ∨ s.dev.tripOn (8 + src) = false ∧ ¬ beyond)) ∧
    (let s : State := leg23 {}; let g : Fin 6 := 5; let x : Int := -300; let th : Int  := s.dev.rd F.lgOt_thresh g; 7 ≤ s.seq.released ∧ x < th ∧ s.dev.trip.ot = 0 ∧ s.dev.tripOn 11 = false) ∧
    (let s : State := leg23 {} [(F.axState_state,2,7)]; let g : Fin 6 := 5; let x : Int := 300; let th : Int  := s.dev.rd F.lgOt_thresh g; 7 ≤ s.seq.released ∧ th ≤ x ∧ s.dev.trip.ot = 0 ∧ s.dev.tripOn 11 = false) ∧
    (let s : State := leg23 {}; let w : Who := w3; let k : Fin 4 := 3; let cfg := F.tripCfg_en.addr k 0; s.Grants w cfg ∧ s.dev.tripOn (4 + k) = false) ∧
    (let s : State := leg23 {} [(F.tripCfg_en,1,3)] {now:=55}; let w : Who := w3; let k : Fin 4 := 3; let cfg := F.tripCfg_en.addr k 0; s.Grants w cfg ∧ s.dev.tripOn (4 + k) = false) := by
  refine ⟨?_, ?_, ?_, ?_, ?_, ?_, ?_, ?_, ?_, ?_, ?_, ?_, ?_, ?_, ?_, ?_, ?_, ?_, ?_, ?_, ?_, ?_, ?_, ?_⟩ <;> decide +kernel

/-- SampleSets. -/
theorem test_SampleSets_witnesses :
    (let s : State := set [(F.snsSmp_en,1,23),(F.snsSmp_navg,1,23)]; let n : Fin 24 := 23; let k : Nat := 0; let p : Int := 0; let at_ : Int := 0; let ax := s.dev.rd F.legCfg_axis n; let per : Int  := s.dev.rd F.axCper_per ax; 0 < per ∧ s.dev.holdDue n = some (k, p, at_)) ∧
    (let s : State := set [(F.snsSmp_en,1,23),(F.snsSmp_navg,1,23)]; let n : Fin 24 := 23; let k : Nat := 0; let p : Int := 0; let at_ : Int := 0; let m : Nat := 0; let x : Int := 0; let h := s.dev.snsLeg n; let ax := s.dev.rd F.legCfg_axis n; let per : Int  := s.dev.rd F.axCper_per ax; let now_ := s.dev.t250 (s.dev.rd F.axTick_tb ax); let ph : Int  := s.dev.rd F.axCphase_phase ax; let navg := s.dev.rd F.snsSmp_navg n; let off := fun (k : Nat) => s.dev.rdI F.snsSpos_spos n + (2 * (k : Int) - navg + 1) * s.dev.rd F.snsSmp_space n / 2; let due := fun (x : Int) => now_ - 20 < x ∧ x ≤ now_ ∧ ∀ l ∈ h.last, l ≤ now_ → l < x; 0 < per ∧ s.dev.holdDue n = some (k, p, at_) ∧ m < navg ∧ (x - ph - off m) % per = 0 ∧ due x ∧ now_ < x + per) ∧
    (let s : State := set [(F.snsSmp_en,1,23),(F.snsSmp_navg,1,23)]; let n : Fin 24 := 23; let k : Nat := 0; let at_ : Int := 0; let h := s.dev.snsLeg n; let ax := s.dev.rd F.legCfg_axis n; let per : Int  := s.dev.rd F.axCper_per ax; let now_ := s.dev.t250 (s.dev.rd F.axTick_tb ax); let ph : Int  := s.dev.rd F.axCphase_phase ax; let navg := s.dev.rd F.snsSmp_navg n; let off := fun (k : Nat) => s.dev.rdI F.snsSpos_spos n + (2 * (k : Int) - navg + 1) * s.dev.rd F.snsSmp_space n / 2; let due := fun (x : Int) => now_ - 20 < x ∧ x ≤ now_ ∧ ∀ l ∈ h.last, l ≤ now_ → l < x; 0 < per ∧ k < navg ∧ (at_ - ph - off k) % per = 0 ∧ now_ < at_ + per ∧ due at_) ∧
    (let s : State := set [(F.snsSmp_en,1,23),(F.snsSmp_navg,1,23)]; let n : Fin 24 := 23; let k : Nat := 0; let p : Int := 0; let at_ : Int := 0; let h := s.dev.snsLeg n; 7 ≤ s.seq.released ∧ s.dev.holds n = true ∧ s.dev.holdDue n = some (k, p, at_) ∧ h.hold = none) ∧
    (let s : State := set [(F.snsSmp_en,1,23),(F.snsSmp_navg,2,23),(F.snsSmp_space,10,23)] {sns:={leg:=[(23,{hold:=some {at_:=7,per:=-9,valid:=true},skipLog:=some 0,sets:=[{per:=0,k:=0,codes:=[7],corr:=(1,2)}]})]}}; let n : Fin 24 := 23; let k : Nat := 0; let p : Int := 0; let at_ : Int := -5; let h := s.dev.snsLeg n; let navg := s.dev.rd F.snsSmp_navg n; 7 ≤ s.seq.released ∧ s.dev.holds n = true ∧ s.dev.holdDue n = some (k, p, at_) ∧ h.hold.isSome = true ∧ k + 1 < navg ∧ h.skipLog = some p) ∧
    (let s : State := sys {}; let n : Fin 24 := 23; 7 ≤ s.seq.released ∧ (s.dev.holds n = false ∨ s.dev.holdDue n = none)) ∧
    (let s : State := sys {}; let g : Fin 6 := 0; 5 ≤ s.seq.released ∧ s.dev.firstHold g = none) ∧
    (let s : State := set [(F.snsSmp_en,1,23),(F.snsSmp_navg,1,23)] {now:=60007,sns:={leg:=[(23,{sets:=[{per:=0,k:=1,codes:=[],corr:=(5,2^30)}],hold:=some {at_:=7,per:=0,valid:=true}})]}}; let g : Fin 6 := 5; let i : Fin 4 := 3; let t0 : Int := 7; let w : HeldS := {at_:=7,per:=0,valid:=true}; let f0 : Machine.SSet := {per:=0,k:=1,codes:=[],corr:=(5,2^30)}; let m := 4 * g.val + i.val; let f := s.dev.snsLeg m; 5 ≤ s.seq.released ∧ s.dev.firstHold g = some t0 ∧ f.hold = some w ∧ w.at_ = t0 ∧ f.sets = [f0] ∧ f0.per = w.per) := by
  refine ⟨?_, ?_, ?_, ?_, ?_, ?_, ?_, ?_⟩ <;> decide +kernel

/-- SenseConversions. -/
theorem test_SenseConversions_witnesses :
    (let s : State := sys {}; let w : Who := w3; let g : Fin 6 := 5; let v : BitVec 32 := 2000; let cfg := R.snsCfg.base + 0x40 * g.val; let ratio := v.toNat % 2 ^ 16; let irange := bitsOf v.toNat 16 3; let fits := 2000 ≤ ratio ∧ ratio ≤ 50000 ∧ irange ≤ 5; let live := fun (l : Nat) => s.dev.rd F.legCfg_use l = 1 ∧ s.dev.axState (s.dev.rd F.legCfg_axis l) ≠ 0; s.Grants w cfg ∧ fits ∧ (∀ i < 4, ¬ live (4 * g + i))) ∧
    (let s : State := sys {}; let w : Who := w3; let g : Fin 6 := 5; let v : BitVec 32 := 0x5C350; let cfg := R.snsCfg.base + 0x40 * g.val; let ratio := v.toNat % 2 ^ 16; let irange := bitsOf v.toNat 16 3; let fits := 2000 ≤ ratio ∧ ratio ≤ 50000 ∧ irange ≤ 5; let live := fun (l : Nat) => s.dev.rd F.legCfg_use l = 1 ∧ s.dev.axState (s.dev.rd F.legCfg_axis l) ≠ 0; s.Grants w cfg ∧ fits ∧ (∀ i < 4, ¬ live (4 * g + i))) ∧
    (let s : State := set [(F.legCfg_use,1,20),(F.legCfg_axis,7,20),(F.axState_state,1,7)]; let w : Who := w3; let g : Fin 6 := 5; let v : BitVec 32 := 2000; let cfg := R.snsCfg.base + 0x40 * g.val; let ratio := v.toNat % 2 ^ 16; let irange := bitsOf v.toNat 16 3; let fits := 2000 ≤ ratio ∧ ratio ≤ 50000 ∧ irange ≤ 5; let live := fun (l : Nat) => s.dev.rd F.legCfg_use l = 1 ∧ s.dev.axState (s.dev.rd F.legCfg_axis l) ≠ 0; s.Grants w cfg ∧ fits ∧ live (4 * g.val)) ∧
    (let s : State := sys {}; let w : Who := w3; let g : Fin 6 := 5; let v : BitVec 32 := 1999; let cfg := R.snsCfg.base + 0x40 * g.val; let ratio := v.toNat % 2 ^ 16; let irange := bitsOf v.toNat 16 3; let fits := 2000 ≤ ratio ∧ ratio ≤ 50000 ∧ irange ≤ 5; s.Grants w cfg ∧ ¬ fits) ∧
    (let s : State := sys {}; let w : Who := w3; let g : Fin 6 := 5; let v : BitVec 32 := 0x6C350; let cfg := R.snsCfg.base + 0x40 * g.val; let ratio := v.toNat % 2 ^ 16; let irange := bitsOf v.toNat 16 3; let fits := 2000 ≤ ratio ∧ ratio ≤ 50000 ∧ irange ≤ 5; s.Grants w cfg ∧ ¬ fits) ∧
    (let s : State := mgtRuns {now:=10^9} [(F.snsCal_ofsen,1,5)]; let n : Fin 24 := 23; let c := n.val / 4; let quiet := fun (l ps : Nat) => ∀ t ∈ (s.dev.snsLeg l).heldAt, t + ps ≤ (s.dev.now : Int); let idle := ∀ i < 4, (s.dev.snsLeg (4 * c + i)).hold = none ∧ quiet (4 * c + i) 50000; let runs := s.dev.mgt.fwRun = true ∧ s.dev.rd F.mgtState_core = 0; let calibrates := runs ∧ s.dev.rd F.snsCal_ofsen c = 1 ∧ s.dev.lowOffFor n (s.dev.rd F.snsSmp_settle n * 4000) = true ∧ idle; 5 ≤ s.seq.released ∧ calibrates) ∧
    (let s : State := mgtRuns {now:=10^9,sns:={leg:=[(23,{ofsLoaded:=true,heldAt:=some (10^9-50000)})]}} [(F.snsCal_ofsen,1,5),(F.snsOfs_ofs,7,23),(F.snsCal_ofsk,3,5)]; let n : Fin 24 := 23; let c := n.val / 4; let quiet := fun (l ps : Nat) => ∀ t ∈ (s.dev.snsLeg l).heldAt, t + ps ≤ (s.dev.now : Int); let idle := ∀ i < 4, (s.dev.snsLeg (4 * c + i)).hold = none ∧ quiet (4 * c + i) 50000; let runs := s.dev.mgt.fwRun = true ∧ s.dev.rd F.mgtState_core = 0; let calibrates := runs ∧ s.dev.rd F.snsCal_ofsen c = 1 ∧ s.dev.lowOffFor n (s.dev.rd F.snsSmp_settle n * 4000) = true ∧ idle; 5 ≤ s.seq.released ∧ calibrates) ∧
    (let s : State := sys {}; let n : Fin 24 := 23; let c := n.val / 4; let quiet := fun (l ps : Nat) => ∀ t ∈ (s.dev.snsLeg l).heldAt, t + ps ≤ (s.dev.now : Int); let idle := ∀ i < 4, (s.dev.snsLeg (4 * c + i)).hold = none ∧ quiet (4 * c + i) 50000; let runs := s.dev.mgt.fwRun = true ∧ s.dev.rd F.mgtState_core = 0; let calibrates := runs ∧ s.dev.rd F.snsCal_ofsen c = 1 ∧ s.dev.lowOffFor n (s.dev.rd F.snsSmp_settle n * 4000) = true ∧ idle; 5 ≤ s.seq.released ∧ ¬ calibrates) ∧
    (let s : State := mgtRuns {now:=10^9,sns:={leg:=[(20,{heldAt:=some (10^9-49999)})]}} [(F.snsCal_ofsen,1,5),(F.snsOfs_ofs,7,23)]; let n : Fin 24 := 23; let c := n.val / 4; let quiet := fun (l ps : Nat) => ∀ t ∈ (s.dev.snsLeg l).heldAt, t + ps ≤ (s.dev.now : Int); let idle := ∀ i < 4, (s.dev.snsLeg (4 * c + i)).hold = none ∧ quiet (4 * c + i) 50000; let runs := s.dev.mgt.fwRun = true ∧ s.dev.rd F.mgtState_core = 0; let calibrates := runs ∧ s.dev.rd F.snsCal_ofsen c = 1 ∧ s.dev.lowOffFor n (s.dev.rd F.snsSmp_settle n * 4000) = true ∧ idle; 5 ≤ s.seq.released ∧ ¬ calibrates) ∧
    (let s : State := set [(F.snsCal_ofsen,1,5)] {now:=10^9}; let n : Fin 24 := 23; let c := n.val / 4; let quiet := fun (l ps : Nat) => ∀ t ∈ (s.dev.snsLeg l).heldAt, t + ps ≤ (s.dev.now : Int); let idle := ∀ i < 4, (s.dev.snsLeg (4 * c + i)).hold = none ∧ quiet (4 * c + i) 50000; let runs := s.dev.mgt.fwRun = true ∧ s.dev.rd F.mgtState_core = 0; let calibrates := runs ∧ s.dev.rd F.snsCal_ofsen c = 1 ∧ s.dev.lowOffFor n (s.dev.rd F.snsSmp_settle n * 4000) = true ∧ idle; 5 ≤ s.seq.released ∧ ¬ calibrates) ∧
    (let s : State := set [(F.legCfg_use,1,23),(F.legCfg_axis,7,23),(F.axState_state,1,7),(F.snsSt_ofsstale,0,23)] {now:=10^11}; let n : Fin 24 := 23; let h := s.dev.snsLeg n; let live := fun (l : Nat) => s.dev.rd F.legCfg_use l = 1 ∧ s.dev.axState (s.dev.rd F.legCfg_axis l) ≠ 0; 5 ≤ s.seq.released ∧ live n ∧ s.dev.rd F.snsSt_ofsstale n = 0 ∧ h.ofsAt + 10 ^ 11 ≤ s.dev.now) ∧
    (let s : State := sys {}; let n : Fin 24 := 23; let h := s.dev.snsLeg n; 5 ≤ s.seq.released ∧ s.dev.now < h.ofsAt + 10 ^ 11) ∧
    (let s : State := mgtRuns {now:=10^9} [(F.snsCal_injen,1,5)]; let n : Fin 24 := 23; let m : Int := 2000; let c := n.val / 4; let code := max (-8192) (min 8191 m); let o := s.dev.rdI F.snsOfs_ofs n; let quiet := fun (l ps : Nat) => ∀ t ∈ (s.dev.snsLeg l).heldAt, t + ps ≤ (s.dev.now : Int); let idle := ∀ i < 4, (s.dev.snsLeg (4 * c + i)).hold = none ∧ quiet (4 * c + i) 50000; let runs := s.dev.mgt.fwRun = true ∧ s.dev.rd F.mgtState_core = 0; let injects := runs ∧ s.dev.rd F.snsCal_injen c = 1 ∧ s.dev.lowOffFor n 400000 = true ∧ quiet n 400000 ∧ idle; 5 ≤ s.seq.released ∧ injects ∧ 256 * code ≠ o) ∧
    (let s : State := mgtRuns {now:=10^9,sns:={leg:=[(23,{heldAt:=some (10^9-400000)})],grp:=[(5,{ginjLoaded:=true})]}} [(F.snsCal_injen,1,5),(F.snsGinj_ginj,1000000,5)]; let n : Fin 24 := 23; let m : Int := -1; let c := n.val / 4; let code := max (-8192) (min 8191 m); let o := s.dev.rdI F.snsOfs_ofs n; let quiet := fun (l ps : Nat) => ∀ t ∈ (s.dev.snsLeg l).heldAt, t + ps ≤ (s.dev.now : Int); let idle := ∀ i < 4, (s.dev.snsLeg (4 * c + i)).hold = none ∧ quiet (4 * c + i) 50000; let runs := s.dev.mgt.fwRun = true ∧ s.dev.rd F.mgtState_core = 0; let injects := runs ∧ s.dev.rd F.snsCal_injen c = 1 ∧ s.dev.lowOffFor n 400000 = true ∧ quiet n 400000 ∧ idle; 5 ≤ s.seq.released ∧ injects ∧ 256 * code ≠ o) ∧
    (let s : State := sys {}; let n : Fin 24 := 23; let c := n.val / 4; let quiet := fun (l ps : Nat) => ∀ t ∈ (s.dev.snsLeg l).heldAt, t + ps ≤ (s.dev.now : Int); let idle := ∀ i < 4, (s.dev.snsLeg (4 * c + i)).hold = none ∧ quiet (4 * c + i) 50000; let runs := s.dev.mgt.fwRun = true ∧ s.dev.rd F.mgtState_core = 0; let injects := runs ∧ s.dev.rd F.snsCal_injen c = 1 ∧ s.dev.lowOffFor n 400000 = true ∧ quiet n 400000 ∧ idle; 5 ≤ s.seq.released ∧ ¬ injects) ∧
    (let s : State := mgtRuns {now:=10^9,sns:={leg:=[(23,{heldAt:=some (10^9-399999)})]}} [(F.snsCal_injen,1,5)]; let n : Fin 24 := 23; let c := n.val / 4; let quiet := fun (l ps : Nat) => ∀ t ∈ (s.dev.snsLeg l).heldAt, t + ps ≤ (s.dev.now : Int); let idle := ∀ i < 4, (s.dev.snsLeg (4 * c + i)).hold = none ∧ quiet (4 * c + i) 50000; let runs := s.dev.mgt.fwRun = true ∧ s.dev.rd F.mgtState_core = 0; let injects := runs ∧ s.dev.rd F.snsCal_injen c = 1 ∧ s.dev.lowOffFor n 400000 = true ∧ quiet n 400000 ∧ idle; 5 ≤ s.seq.released ∧ ¬ injects) ∧
    (let s : State := set [(F.snsCal_injen,1,5)] {now:=10^9}; let n : Fin 24 := 23; let c := n.val / 4; let quiet := fun (l ps : Nat) => ∀ t ∈ (s.dev.snsLeg l).heldAt, t + ps ≤ (s.dev.now : Int); let idle := ∀ i < 4, (s.dev.snsLeg (4 * c + i)).hold = none ∧ quiet (4 * c + i) 50000; let runs := s.dev.mgt.fwRun = true ∧ s.dev.rd F.mgtState_core = 0; let injects := runs ∧ s.dev.rd F.snsCal_injen c = 1 ∧ s.dev.lowOffFor n 400000 = true ∧ quiet n 400000 ∧ idle; 5 ≤ s.seq.released ∧ ¬ injects) ∧
    (let s : State := sys {}; let runs := s.dev.mgt.fwRun = true ∧ s.dev.rd F.mgtState_core = 0; 7 ≤ s.seq.released ∧ ¬ runs) ∧
    (let s : State := mgtRuns {}; let runs := s.dev.mgt.fwRun = true ∧ s.dev.rd F.mgtState_core = 0; 7 ≤ s.seq.released ∧ runs) ∧
    (let s : State := sys {now:=250000}; let c : Fin 2 := 0; let ch : Fin 38 := 0; let h := s.dev.aux c; let open_ := fun (ch : Nat) => ch < 14 ∨ (s.dev.legh (ch - 14)).gl = true ∧ ∃ t ∈ (s.dev.legh (ch - 14)).glSince, t + 200000 ≤ s.dev.now; let turn := if h.vbus then ch.val = 0 else (auxList c)[h.pos]? = some ch.val ∧ open_ ch; 5 ≤ s.seq.released ∧ h.ends ≤ s.dev.now ∧ turn) ∧
    (let s : State := sys {now:=250000,sns:={aux:=[(1,{ends:=0,vbus:=true})]}}; let c : Fin 2 := 1; let ch : Fin 38 := 0; let h := s.dev.aux c; let open_ := fun (ch : Nat) => ch < 14 ∨ (s.dev.legh (ch - 14)).gl = true ∧ ∃ t ∈ (s.dev.legh (ch - 14)).glSince, t + 200000 ≤ s.dev.now; let turn := if h.vbus then ch.val = 0 else (auxList c)[h.pos]? = some ch.val ∧ open_ ch; 5 ≤ s.seq.released ∧ h.ends ≤ s.dev.now ∧ turn) ∧
    (let s : State := sys {now:=250000,sns:={aux:=[(0,{ends:=250000,vbus:=false})]}}; let c : Fin 2 := 0; let ch : Fin 38 := 1; let h := s.dev.aux c; let open_ := fun (ch : Nat) => ch < 14 ∨ (s.dev.legh (ch - 14)).gl = true ∧ ∃ t ∈ (s.dev.legh (ch - 14)).glSince, t + 200000 ≤ s.dev.now; let turn := if h.vbus then ch.val = 0 else (auxList c)[h.pos]? = some ch.val ∧ open_ ch; 5 ≤ s.seq.released ∧ h.ends ≤ s.dev.now ∧ turn) ∧
    (let s : State := sys {now:=250000,sns:={aux:=[(1,{ends:=250000,vbus:=false})]}}; let c : Fin 2 := 1; let ch : Fin 38 := 2; let h := s.dev.aux c; let open_ := fun (ch : Nat) => ch < 14 ∨ (s.dev.legh (ch - 14)).gl = true ∧ ∃ t ∈ (s.dev.legh (ch - 14)).glSince, t + 200000 ≤ s.dev.now; let turn := if h.vbus then ch.val = 0 else (auxList c)[h.pos]? = some ch.val ∧ open_ ch; 5 ≤ s.seq.released ∧ h.ends ≤ s.dev.now ∧ turn) ∧
    (let s : State := sys {now:=250000,sns:={aux:=[(1,{ends:=250000,vbus:=false,pos:=2})]}}; let c : Fin 2 := 1; let ch : Fin 38 := 6; let h := s.dev.aux c; let open_ := fun (ch : Nat) => ch < 14 ∨ (s.dev.legh (ch - 14)).gl = true ∧ ∃ t ∈ (s.dev.legh (ch - 14)).glSince, t + 200000 ≤ s.dev.now; let turn := if h.vbus then ch.val = 0 else (auxList c)[h.pos]? = some ch.val ∧ open_ ch; 5 ≤ s.seq.released ∧ h.ends ≤ s.dev.now ∧ turn) ∧
    (let s : State := sys {now:=250000,sns:={aux:=[(1,{ends:=250000,vbus:=false,pos:=6})]}}; let c : Fin 2 := 1; let ch : Fin 38 := 13; let h := s.dev.aux c; let open_ := fun (ch : Nat) => ch < 14 ∨ (s.dev.legh (ch - 14)).gl = true ∧ ∃ t ∈ (s.dev.legh (ch - 14)).glSince, t + 200000 ≤ s.dev.now; let turn := if h.vbus then ch.val = 0 else (auxList c)[h.pos]? = some ch.val ∧ open_ ch; 5 ≤ s.seq.released ∧ h.ends ≤ s.dev.now ∧ turn) ∧
    (let s : State := sys {now:=250000,sns:={aux:=[(1,{ends:=250000,vbus:=false,pos:=5})]}}; let c : Fin 2 := 1; let ch : Fin 38 := 12; let h := s.dev.aux c; let open_ := fun (ch : Nat) => ch < 14 ∨ (s.dev.legh (ch - 14)).gl = true ∧ ∃ t ∈ (s.dev.legh (ch - 14)).glSince, t + 200000 ≤ s.dev.now; let turn := if h.vbus then ch.val = 0 else (auxList c)[h.pos]? = some ch.val ∧ open_ ch; 5 ≤ s.seq.released ∧ h.ends ≤ s.dev.now ∧ turn) ∧
    (let s : State := sys {now:=250000,leg:=[(23,{gl:=true,glSince:=some 50000})],sns:={aux:=[(1,{ends:=250000,vbus:=false,pos:=18})]}}; let c : Fin 2 := 1; let ch : Fin 38 := 37; let h := s.dev.aux c; let open_ := fun (ch : Nat) => ch < 14 ∨ (s.dev.legh (ch - 14)).gl = true ∧ ∃ t ∈ (s.dev.legh (ch - 14)).glSince, t + 200000 ≤ s.dev.now; let turn := if h.vbus then ch.val = 0 else (auxList c)[h.pos]? = some ch.val ∧ open_ ch; 5 ≤ s.seq.released ∧ h.ends ≤ s.dev.now ∧ turn) ∧
    (let s : State := mgtRuns {now:=250000,leg:=[(23,{gl:=true,glSince:=some 50000})],sns:={aux:=[(1,{ends:=250000,vbus:=false,pos:=18})]}}; let c : Fin 2 := 1; let ch : Fin 38 := 37; let h := s.dev.aux c; let open_ := fun (ch : Nat) => ch < 14 ∨ (s.dev.legh (ch - 14)).gl = true ∧ ∃ t ∈ (s.dev.legh (ch - 14)).glSince, t + 200000 ≤ s.dev.now; let turn := if h.vbus then ch.val = 0 else (auxList c)[h.pos]? = some ch.val ∧ open_ ch; 5 ≤ s.seq.released ∧ h.ends ≤ s.dev.now ∧ turn) ∧
    (let s : State := sys {now:=249999}; let c : Fin 2 := 0; let ch : Fin 38 := 0; let h := s.dev.aux c; let open_ := fun (ch : Nat) => ch < 14 ∨ (s.dev.legh (ch - 14)).gl = true ∧ ∃ t ∈ (s.dev.legh (ch - 14)).glSince, t + 200000 ≤ s.dev.now; 5 ≤ s.seq.released ∧ (s.dev.now < h.ends ∨ (h.vbus = true ∧ ch.val ≠ 0) ∨ (h.vbus = false ∧ ¬ ch.val ∈ 0 :: auxList c) ∨ ¬ open_ ch ∧ ch.val ≠ 0)) ∧
    (let s : State := sys {now:=250000}; let c : Fin 2 := 0; let ch : Fin 38 := 5; let h := s.dev.aux c; let open_ := fun (ch : Nat) => ch < 14 ∨ (s.dev.legh (ch - 14)).gl = true ∧ ∃ t ∈ (s.dev.legh (ch - 14)).glSince, t + 200000 ≤ s.dev.now; 5 ≤ s.seq.released ∧ (s.dev.now < h.ends ∨ (h.vbus = true ∧ ch.val ≠ 0) ∨ (h.vbus = false ∧ ¬ ch.val ∈ 0 :: auxList c) ∨ ¬ open_ ch ∧ ch.val ≠ 0)) ∧
    (let s : State := sys {now:=250000,sns:={aux:=[(0,{ends:=250000,vbus:=false})]}}; let c : Fin 2 := 0; let ch : Fin 38 := 2; let h := s.dev.aux c; let open_ := fun (ch : Nat) => ch < 14 ∨ (s.dev.legh (ch - 14)).gl = true ∧ ∃ t ∈ (s.dev.legh (ch - 14)).glSince, t + 200000 ≤ s.dev.now; 5 ≤ s.seq.released ∧ (s.dev.now < h.ends ∨ (h.vbus = true ∧ ch.val ≠ 0) ∨ (h.vbus = false ∧ ¬ ch.val ∈ 0 :: auxList c) ∨ ¬ open_ ch ∧ ch.val ≠ 0)) ∧
    (let s : State := sys {now:=250000,leg:=[(23,{gl:=true,glSince:=some 50001})],sns:={aux:=[(1,{ends:=250000,vbus:=false,pos:=18})]}}; let c : Fin 2 := 1; let ch : Fin 38 := 37; let h := s.dev.aux c; let open_ := fun (ch : Nat) => ch < 14 ∨ (s.dev.legh (ch - 14)).gl = true ∧ ∃ t ∈ (s.dev.legh (ch - 14)).glSince, t + 200000 ≤ s.dev.now; 5 ≤ s.seq.released ∧ (s.dev.now < h.ends ∨ (h.vbus = true ∧ ch.val ≠ 0) ∨ (h.vbus = false ∧ ¬ ch.val ∈ 0 :: auxList c) ∨ ¬ open_ ch ∧ ch.val ≠ 0)) ∧
    (let s : State := set [(F.fqCtrl_mode,4,3),(F.fqCtrl_en,1,3),(F.fqCtrl_axis,7,3),(F.axCfg_kind,1,7)] {now:=5}; let q : Fin 4 := 3; 5 ≤ s.seq.released ∧ s.dev.rd F.fqCtrl_mode q = 4 ∧ s.dev.fqWorks q = true) ∧
    (let s : State := sys {}; let q : Fin 4 := 3; 5 ≤ s.seq.released ∧ (s.dev.rd F.fqCtrl_mode q ≠ 4 ∨ s.dev.fqWorks q = false)) := by
  refine ⟨?_, ?_, ?_, ?_, ?_, ?_, ?_, ?_, ?_, ?_, ?_, ?_, ?_, ?_, ?_, ?_, ?_, ?_, ?_, ?_, ?_, ?_, ?_, ?_, ?_, ?_, ?_, ?_, ?_, ?_, ?_, ?_, ?_, ?_⟩ <;> decide +kernel

/-- FeedbackChannels. -/
theorem test_FeedbackChannels_witnesses :
    (let s : State := set [(F.faCtrl_start,0,7),(F.faCtrl_en,1,7),(F.faCtrl_axis,7,7),(F.axCfg_kind,5,7)]; let n : Fin 8 := 7; let h := s.dev.fa n; let a := s.dev.rd F.faCtrl_axis n; let now_ : Int  := s.dev.tb16 (s.dev.rd F.axTick_tb a); let lead : Int  := s.dev.faLeadPs n * 65536 / 1000; let ts := s.dev.sampleAt a (s.dev.tickSampled a (s.dev.rd F.axTick_cdiv a * s.dev.rd F.axTick_vdiv a) ((now_ + lead) / 16384)); let began := s.dev.now - ((now_ - (ts - lead)) * 1000 / 65536).toNat; 6 ≤ s.seq.released ∧ s.dev.faServes n = true ∧ h.frame = none ∧ h.asked ≠ some ts ∧ h.busyTill ≤ began ∧ ts - lead ≤ now_) ∧
    (let s : State := set [(F.faCtrl_start,0,7),(F.faCtrl_en,1,7),(F.faCtrl_axis,7,7),(F.axCfg_kind,5,7),(F.axTick_vdiv,5,7),(F.axTick_cdiv,2,7)] {now:=10^9,tim:=later}; let n : Fin 8 := 7; let h := s.dev.fa n; let a := s.dev.rd F.faCtrl_axis n; let now_ : Int  := s.dev.tb16 (s.dev.rd F.axTick_tb a); let lead : Int  := s.dev.faLeadPs n * 65536 / 1000; let ts := s.dev.sampleAt a (s.dev.tickSampled a (s.dev.rd F.axTick_cdiv a * s.dev.rd F.axTick_vdiv a) ((now_ + lead) / 16384)); let began := s.dev.now - ((now_ - (ts - lead)) * 1000 / 65536).toNat; 6 ≤ s.seq.released ∧ s.dev.faServes n = true ∧ h.frame = none ∧ h.asked ≠ some ts ∧ h.busyTill ≤ began ∧ ts - lead ≤ now_) ∧
    (let s : State := sys {}; let n : Fin 8 := 7; let h := s.dev.fa n; 6 ≤ s.seq.released ∧ (s.dev.faServes n = false ∨ h.frame ≠ none)) ∧
    (let s : State := set [(F.faCtrl_start,0,7),(F.faCtrl_en,1,7),(F.faCtrl_axis,7,7),(F.axCfg_kind,5,7)] {fbk:={fa:=[(7,{frame:=some (0,0)})]}}; let n : Fin 8 := 7; let h := s.dev.fa n; 6 ≤ s.seq.released ∧ (s.dev.faServes n = false ∨ h.frame ≠ none)) ∧
    (let s : State := sys {}; let n : Fin 8 := 7; let h := s.dev.fa n; 6 ≤ s.seq.released ∧ h.frame = none) ∧
    (let s : State := set [(F.faCtrl_en,1,7),(F.faCtrl_start,1,7)] {fbk:={fa:=[(7,{frame:=some (0,0)})]}}; let n : Fin 8 := 7; let clk : Nat := 0; let t0 : Nat := 0; let ts0 : Int := 0; let h := s.dev.fa n; let ack := s.dev.rd F.faFrm_ackmax n; 6 ≤ s.seq.released ∧ h.frame = some (ts0, t0) ∧ s.dev.rd F.faCtrl_start n = 1 ∧ (clk = 0 ∨ ack < clk)) ∧
    (let s : State := set [(F.faCtrl_en,1,7),(F.faCtrl_start,0,7),(F.faFld_poslen,8,7),(F.faFld_posofs,2,7),(F.faCtrl_lsbfirst,1,7),(F.fbkSel_src,8,7)] {ax:=[(7,{fb:={hist:=[{b1 with t:=5,ext:=true},a1]}})],fbk:={fa:=[(7,{frame:=some (5,0),last:=some 200})]}}; let n : Fin 8 := 7; let t0 : Nat := 0; let ts0 : Int := 5; let h := s.dev.fa n; 6 ≤ s.seq.released ∧ h.frame = some (ts0, t0) ∧ s.dev.rd F.faCtrl_start n = 0 ∧ s.dev.rd F.faCrc_en n = 0 ∧ s.dev.rd F.faFld_errmask n = 0 ∧ s.dev.rd F.faCtrl_gray n = 0 ∧ s.dev.rd F.faCtrl_lsbfirst n = 1) ∧
    (let s : State := set [(F.faCtrl_en,1,7),(F.faCtrl_start,0,7),(F.faFld_poslen,8,7),(F.faFld_posofs,2,7),(F.faCtrl_lsbfirst,1,7),(F.faCtrl_signed,1,7)] {fbk:={fa:=[(7,{frame:=some (5,0)})]}}; let n : Fin 8 := 7; let t0 : Nat := 0; let ts0 : Int := 5; let h := s.dev.fa n; 6 ≤ s.seq.released ∧ h.frame = some (ts0, t0) ∧ s.dev.rd F.faCtrl_start n = 0 ∧ s.dev.rd F.faCrc_en n = 0 ∧ s.dev.rd F.faFld_errmask n = 0 ∧ s.dev.rd F.faCtrl_gray n = 0 ∧ s.dev.rd F.faCtrl_lsbfirst n = 1) ∧
    (let s : State := sys {}; let n : Fin 8 := 7; 6 ≤ s.seq.released ∧ s.dev.faWorks n = false) ∧
    (let s : State := set [(F.faCtrl_start,1,7),(F.faCtrl_en,1,7),(F.faCtrl_axis,7,7),(F.axCfg_kind,5,7)] {fbk:={fa:=[(7,{meas:=some [1]})]}}; let n : Fin 8 := 7; let clk : Nat := 1; let l : List Nat := [1]; let h := s.dev.fa n; let ack := s.dev.rd F.faFrm_ackmax n; 6 ≤ s.seq.released ∧ s.dev.faWorks n = true ∧ h.meas = some l ∧ l.length < 16 ∧ 1 ≤ clk ∧ clk ≤ ack) ∧
    (let s : State := sys {}; let n : Fin 8 := 7; let h := s.dev.fa n; 6 ≤ s.seq.released ∧ h.meas = none) ∧
    (let s : State := sys {fbk:={fa:=[(7,{meas:=some (List.replicate 16 9)})]}}; let n : Fin 8 := 7; let l : List Nat := List.replicate 16 9; let h := s.dev.fa n; 6 ≤ s.seq.released ∧ h.meas = some l ∧ l.length = 16) ∧
    (let s : State := fq3 {b:=true}; let q : Fin 4 := 3; let a : Bool := false; let b : Bool := false; let na : Nat := 900; let h := s.dev.fq q; let mode := s.dev.rd F.fqCtrl_mode q; let filt := s.dev.rd F.fqCtrl_filt q; let works := s.dev.rd F.fqCtrl_en q = 1 ∧ s.dev.rd F.axCfg_kind (s.dev.rd F.fqCtrl_axis q) ≠ 0; let plain := s.dev.rd F.fqCtrl_inva q = 0 ∧ s.dev.rd F.fqCtrl_invb q = 0 ∧ s.dev.rd F.fqCtrl_swap q = 0; let turn := (quadPos a b + 4 - quadPos h.a h.b) % 4; 6 ≤ s.seq.released ∧ works ∧ mode = 1 ∧ plain ∧ filt < na ∧ turn = 1) ∧
    (let s : State := fq3 {b:=true,dir:=some true,idxOk:=true} [(F.fqCtrl_filt,7)]; let q : Fin 4 := 3; let a : Bool := false; let b : Bool := false; let na : Nat := 8; let h := s.dev.fq q; let mode := s.dev.rd F.fqCtrl_mode q; let filt := s.dev.rd F.fqCtrl_filt q; let works := s.dev.rd F.fqCtrl_en q = 1 ∧ s.dev.rd F.axCfg_kind (s.dev.rd F.fqCtrl_axis q) ≠ 0; let plain := s.dev.rd F.fqCtrl_inva q = 0 ∧ s.dev.rd F.fqCtrl_invb q = 0 ∧ s.dev.rd F.fqCtrl_swap q = 0; let turn := (quadPos a b + 4 - quadPos h.a h.b) % 4; 6 ≤ s.seq.released ∧ works ∧ mode = 1 ∧ plain ∧ filt < na ∧ turn = 1) ∧
    (let s : State := fq3 {}; let q : Fin 4 := 3; let a : Bool := true; let b : Bool := false; let na : Nat := 900; let h := s.dev.fq q; let mode := s.dev.rd F.fqCtrl_mode q; let filt := s.dev.rd F.fqCtrl_filt q; let works := s.dev.rd F.fqCtrl_en q = 1 ∧ s.dev.rd F.axCfg_kind (s.dev.rd F.fqCtrl_axis q) ≠ 0; let plain := s.dev.rd F.fqCtrl_inva q = 0 ∧ s.dev.rd F.fqCtrl_invb q = 0 ∧ s.dev.rd F.fqCtrl_swap q = 0; let turn := (quadPos a b + 4 - quadPos h.a h.b) % 4; 6 ≤ s.seq.released ∧ works ∧ mode = 1 ∧ plain ∧ filt < na ∧ turn = 1) ∧
    (let s : State := fq3 {a:=true}; let q : Fin 4 := 3; let a : Bool := false; let b : Bool := false; let na : Nat := 900; let h := s.dev.fq q; let mode := s.dev.rd F.fqCtrl_mode q; let filt := s.dev.rd F.fqCtrl_filt q; let works := s.dev.rd F.fqCtrl_en q = 1 ∧ s.dev.rd F.axCfg_kind (s.dev.rd F.fqCtrl_axis q) ≠ 0; let plain := s.dev.rd F.fqCtrl_inva q = 0 ∧ s.dev.rd F.fqCtrl_invb q = 0 ∧ s.dev.rd F.fqCtrl_swap q = 0; let turn := (quadPos a b + 4 - quadPos h.a h.b) % 4; 6 ≤ s.seq.released ∧ works ∧ mode = 1 ∧ plain ∧ filt < na ∧ turn = 3) ∧
    (let s : State := fq3 {}; let q : Fin 4 := 3; let a : Bool := false; let b : Bool := true; let na : Nat := 900; let h := s.dev.fq q; let mode := s.dev.rd F.fqCtrl_mode q; let filt := s.dev.rd F.fqCtrl_filt q; let works := s.dev.rd F.fqCtrl_en q = 1 ∧ s.dev.rd F.axCfg_kind (s.dev.rd F.fqCtrl_axis q) ≠ 0; let plain := s.dev.rd F.fqCtrl_inva q = 0 ∧ s.dev.rd F.fqCtrl_invb q = 0 ∧ s.dev.rd F.fqCtrl_swap q = 0; let turn := (quadPos a b + 4 - quadPos h.a h.b) % 4; 6 ≤ s.seq.released ∧ works ∧ mode = 1 ∧ plain ∧ filt < na ∧ turn = 3) ∧
    (let s : State := fq3 {}; let q : Fin 4 := 3; let a : Bool := true; let b : Bool := true; let na : Nat := 900; let h := s.dev.fq q; let mode := s.dev.rd F.fqCtrl_mode q; let filt := s.dev.rd F.fqCtrl_filt q; let works := s.dev.rd F.fqCtrl_en q = 1 ∧ s.dev.rd F.axCfg_kind (s.dev.rd F.fqCtrl_axis q) ≠ 0; let plain := s.dev.rd F.fqCtrl_inva q = 0 ∧ s.dev.rd F.fqCtrl_invb q = 0 ∧ s.dev.rd F.fqCtrl_swap q = 0; let turn := (quadPos a b + 4 - quadPos h.a h.b) % 4; 6 ≤ s.seq.released ∧ works ∧ mode = 1 ∧ plain ∧ filt < na ∧ turn = 2) ∧
    (let s : State := fq3 {}; let q : Fin 4 := 3; let a : Bool := false; let b : Bool := false; let na : Nat := 900; let h := s.dev.fq q; let mode := s.dev.rd F.fqCtrl_mode q; let filt := s.dev.rd F.fqCtrl_filt q; let works := s.dev.rd F.fqCtrl_en q = 1 ∧ s.dev.rd F.axCfg_kind (s.dev.rd F.fqCtrl_axis q) ≠ 0; let plain := s.dev.rd F.fqCtrl_inva q = 0 ∧ s.dev.rd F.fqCtrl_invb q = 0 ∧ s.dev.rd F.fqCtrl_swap q = 0; let turn := (quadPos a b + 4 - quadPos h.a h.b) % 4; 6 ≤ s.seq.released ∧ works ∧ mode = 1 ∧ plain ∧ filt < na ∧ turn = 0) ∧
    (let s : State := fq3 {b:=true} [(F.fqCtrl_mode,2)]; let q : Fin 4 := 3; let a : Bool := true; let b : Bool := true; let na : Nat := 900; let h := s.dev.fq q; let mode := s.dev.rd F.fqCtrl_mode q; let filt := s.dev.rd F.fqCtrl_filt q; let works := s.dev.rd F.fqCtrl_en q = 1 ∧ s.dev.rd F.axCfg_kind (s.dev.rd F.fqCtrl_axis q) ≠ 0; let plain := s.dev.rd F.fqCtrl_inva q = 0 ∧ s.dev.rd F.fqCtrl_invb q = 0 ∧ s.dev.rd F.fqCtrl_swap q = 0; 6 ≤ s.seq.released ∧ works ∧ mode = 2 ∧ plain ∧ filt < na ∧ a = true ∧ h.a = false ∧ b = h.b) ∧
    (let s : State := fq3 {} [(F.fqCtrl_mode,2)]; let q : Fin 4 := 3; let a : Bool := true; let b : Bool := false; let na : Nat := 900; let h := s.dev.fq q; let mode := s.dev.rd F.fqCtrl_mode q; let filt := s.dev.rd F.fqCtrl_filt q; let works := s.dev.rd F.fqCtrl_en q = 1 ∧ s.dev.rd F.axCfg_kind (s.dev.rd F.fqCtrl_axis q) ≠ 0; let plain := s.dev.rd F.fqCtrl_inva q = 0 ∧ s.dev.rd F.fqCtrl_invb q = 0 ∧ s.dev.rd F.fqCtrl_swap q = 0; 6 ≤ s.seq.released ∧ works ∧ mode = 2 ∧ plain ∧ filt < na ∧ a = true ∧ h.a = false ∧ b = h.b) ∧
    (let s : State := fq3 {} [(F.fqCtrl_filt,7)]; let q : Fin 4 := 3; let na : Nat := 7; let mode := s.dev.rd F.fqCtrl_mode q; let filt := s.dev.rd F.fqCtrl_filt q; 6 ≤ s.seq.released ∧ mode ≠ 4 ∧ na ≤ filt) ∧
    (let s : State := sys {}; let q : Fin 4 := 0; let mode := s.dev.rd F.fqCtrl_mode q; 6 ≤ s.seq.released ∧ s.dev.rd F.fqCtrl_en q = 0 ∧ mode ≠ 4) ∧
    (let s : State := fq3 {b:=true} [(F.fqCtrl_en,0)]; let q : Fin 4 := 3; let mode := s.dev.rd F.fqCtrl_mode q; 6 ≤ s.seq.released ∧ s.dev.rd F.fqCtrl_en q = 0 ∧ mode ≠ 4) ∧
    (let s : State := fq3 {} [(F.fqCtrl_mode,4),(F.fqSc_hyst,1)]; let q : Fin 4 := 3; let mode := s.dev.rd F.fqCtrl_mode q; 6 ≤ s.seq.released ∧ mode = 4) ∧
    (let s : State := fq3 {ca:=true,cb:=true} [(F.fqCtrl_mode,4),(F.fqSc_hyst,1)]; let q : Fin 4 := 3; let mode := s.dev.rd F.fqCtrl_mode q; 6 ≤ s.seq.released ∧ mode = 4) ∧
    (let s : State := fq3 {} [(F.fqCtrl_mode,4),(F.fqCtrl_filt,7)]; let q : Fin 4 := 3; let na : Nat := 7; let mode := s.dev.rd F.fqCtrl_mode q; let filt := s.dev.rd F.fqCtrl_filt q; 6 ≤ s.seq.released ∧ mode = 4 ∧ na ≤ filt) ∧
    (let s : State := fq3 {} [(F.fqCtrl_filt,7)]; let q : Fin 4 := 3; let level : Bool := true; let na : Nat := 7; let h := s.dev.fq q; let filt := s.dev.rd F.fqCtrl_filt q; let z := (level = true ↔ s.dev.rd F.fqCtrl_invz q = 0); 6 ≤ s.seq.released ∧ (na ≤ filt ∨ (z ↔ h.z = true))) ∧
    (let s : State := fq3 {z:=true} [(F.fqCtrl_invz,1)]; let q : Fin 4 := 3; let level : Bool := false; let na : Nat := 1; let h := s.dev.fq q; let filt := s.dev.rd F.fqCtrl_filt q; let z := (level = true ↔ s.dev.rd F.fqCtrl_invz q = 0); 6 ≤ s.seq.released ∧ (na ≤ filt ∨ (z ↔ h.z = true))) ∧
    (let s : State := fq3 {z:=true,idx:=7} [(F.fqCtrl_invz,1)]; let q : Fin 4 := 3; let level : Bool := true; let na : Nat := 900; let h := s.dev.fq q; let filt := s.dev.rd F.fqCtrl_filt q; let z := (level = true ↔ s.dev.rd F.fqCtrl_invz q = 0); 6 ≤ s.seq.released ∧ ¬ z ∧ h.z = true ∧ filt < na) ∧
    (let s : State := fq3 {count:=5}; let q : Fin 4 := 3; let level : Bool := true; let na : Nat := 900; let h := s.dev.fq q; let mode := s.dev.rd F.fqCtrl_mode q; let filt := s.dev.rd F.fqCtrl_filt q; let works := s.dev.rd F.fqCtrl_en q = 1 ∧ s.dev.rd F.axCfg_kind (s.dev.rd F.fqCtrl_axis q) ≠ 0; let z := (level = true ↔ s.dev.rd F.fqCtrl_invz q = 0); 6 ≤ s.seq.released ∧ z ∧ h.z = false ∧ filt < na ∧ works ∧ mode = 1 ∧ s.dev.rd F.fqIdx_lines q = 0) ∧
    (let s : State := fq3 {count:=500,idxOk:=true} [(F.fqIdx_lines,10)]; let q : Fin 4 := 3; let level : Bool := true; let na : Nat := 900; let h := s.dev.fq q; let mode := s.dev.rd F.fqCtrl_mode q; let filt := s.dev.rd F.fqCtrl_filt q; let works := s.dev.rd F.fqCtrl_en q = 1 ∧ s.dev.rd F.axCfg_kind (s.dev.rd F.fqCtrl_axis q) ≠ 0; let z := (level = true ↔ s.dev.rd F.fqCtrl_invz q = 0); 6 ≤ s.seq.released ∧ z ∧ h.z = false ∧ filt < na ∧ works ∧ mode = 1 ∧ s.dev.rd F.fqIdx_lines q ≠ 0 ∧ h.idxOk = true ∧ (s.dev.rd F.fqIdx_tol q : Int) < |(|h.count - h.idx| : Int) - 4 * s.dev.rd F.fqIdx_lines q|) ∧
    (let s : State := fq3 {count:=500,idxOk:=true} [(F.fqIdx_lines,10),(F.fqCtrl_idxchk,1),(F.fqCtrl_invz,1)]; let q : Fin 4 := 3; let level : Bool := false; let na : Nat := 900; let h := s.dev.fq q; let mode := s.dev.rd F.fqCtrl_mode q; let filt := s.dev.rd F.fqCtrl_filt q; let works := s.dev.rd F.fqCtrl_en q = 1 ∧ s.dev.rd F.axCfg_kind (s.dev.rd F.fqCtrl_axis q) ≠ 0; let z := (level = true ↔ s.dev.rd F.fqCtrl_invz q = 0); 6 ≤ s.seq.released ∧ z ∧ h.z = false ∧ filt < na ∧ works ∧ mode = 1 ∧ s.dev.rd F.fqIdx_lines q ≠ 0 ∧ h.idxOk = true ∧ (s.dev.rd F.fqIdx_tol q : Int) < |(|h.count - h.idx| : Int) - 4 * s.dev.rd F.fqIdx_lines q|) ∧
    (let s : State := fq3 {} [(F.fqCtrl_mode,4)] |> (fun s => {s with dev := {s.dev with sns := {sc := [(3, {s:=10000,c:=3,ts:=9,at_:=0,ready:=0})]}}}); let q : Fin 4 := 3; let k : ScHeld := {s:=10000,c:=3,ts:=9,at_:=0,ready:=0}; let h := s.dev.fq q; let mode := s.dev.rd F.fqCtrl_mode q; let works := s.dev.rd F.fqCtrl_en q = 1 ∧ s.dev.rd F.axCfg_kind (s.dev.rd F.fqCtrl_axis q) ≠ 0; let x := k.s - s.dev.rdI F.fqScofs_sofs q; let y := k.c - s.dev.rdI F.fqScofs_cofs q; let a2 := (4 * (x * x + y * y)).toNat; let valid := s.dev.rd F.fqScamp_amin q ^ 2 ≤ a2 ∧ a2 ≤ s.dev.rd F.fqScamp_amax q ^ 2; 6 ≤ s.seq.released ∧ Tbl.find q.val s.dev.sns.sc = some k ∧ mode = 4 ∧ works ∧ k.ready ≤ s.dev.now ∧ h.xt ≠ some k.ts ∧ valid) ∧
    (let s : State := fq3 {amplBad:=true,xt:=some 5} [(F.fqCtrl_mode,4),(F.fqSc_ibits,8)] |> (fun s => {s with dev := {s.dev with sns := {sc := [(3, {s:=-10000,c:=-300,ts:=9,at_:=0,ready:=0})]}}}); let q : Fin 4 := 3; let k : ScHeld := {s:=-10000,c:=-300,ts:=9,at_:=0,ready:=0}; let h := s.dev.fq q; let mode := s.dev.rd F.fqCtrl_mode q; let works := s.dev.rd F.fqCtrl_en q = 1 ∧ s.dev.rd F.axCfg_kind (s.dev.rd F.fqCtrl_axis q) ≠ 0; let x := k.s - s.dev.rdI F.fqScofs_sofs q; let y := k.c - s.dev.rdI F.fqScofs_cofs q; let a2 := (4 * (x * x + y * y)).toNat; let valid := s.dev.rd F.fqScamp_amin q ^ 2 ≤ a2 ∧ a2 ≤ s.dev.rd F.fqScamp_amax q ^ 2; 6 ≤ s.seq.released ∧ Tbl.find q.val s.dev.sns.sc = some k ∧ mode = 4 ∧ works ∧ k.ready ≤ s.dev.now ∧ h.xt ≠ some k.ts ∧ valid) ∧
    (let s : State := fq3 {} [(F.fqCtrl_mode,4)] |> (fun s => {s with dev := {s.dev with sns := {sc := [(3, {s:=10000,c:=3,ts:=9,at_:=0,ready:=1})]}}}); let q : Fin 4 := 3; let k : ScHeld := {s:=10000,c:=3,ts:=9,at_:=0,ready:=1}; 6 ≤ s.seq.released ∧ Tbl.find q.val s.dev.sns.sc = some k ∧ s.dev.now < k.ready) ∧
    (let s : State := sys {}; let q : Fin 4 := 0; let mode := s.dev.rd F.fqCtrl_mode q; 6 ≤ s.seq.released ∧ mode ≠ 4) ∧
    (let s : State := fq3 {x:=5} [(F.fqCtrl_mode,4)]; let w : Who := w3; let q : Fin 4 := 3; let mode := s.dev.rd F.fqCtrl_mode q; let cmd := F.fqCmd_mainret.addr q 0; s.GrantsPart w cmd ∧ (∀ n < 8, s.dev.rd F.fbkSel_src n = 9 + q → s.dev.axState n ≤ 1) ∧ mode = 4) ∧
    (let s : State := set [(F.fbkSel_src,12,0),(F.axState_state,2,0)]; let w : Who := w3; let q : Fin 4 := 3; let n : Nat := 0; let cmd := F.fqCmd_mainret.addr q 0; n < 8 ∧ s.GrantsPart w cmd ∧ s.dev.rd F.fbkSel_src n = 9 + q ∧ 2 ≤ s.dev.axState n) ∧
    (let s : State := fq3 {} [(F.fqSt_fault,1)]; let w : Who := w3; let q : Fin 4 := 3; let cmd := F.fqCmd_mainret.addr q 0; s.GrantsPart w cmd ∧ s.dev.chanFree (9 + q) = true) ∧
    (let s : State := set [(F.fbkSel_src,12,0),(F.axState_state,1,0)]; let w : Who := w3; let q : Fin 4 := 3; let cmd := F.fqCmd_mainret.addr q 0; s.GrantsPart w cmd ∧ s.dev.chanFree (9 + q) = false) := by
  refine ⟨?_, ?_, ?_, ?_, ?_, ?_, ?_, ?_, ?_, ?_, ?_, ?_, ?_, ?_, ?_, ?_, ?_, ?_, ?_, ?_, ?_, ?_, ?_, ?_, ?_, ?_, ?_, ?_, ?_, ?_, ?_, ?_, ?_, ?_, ?_, ?_, ?_, ?_, ?_, ?_, ?_⟩ <;> decide +kernel

/-- LatchUnits. -/
theorem test_LatchUnits_witnesses :
    (let s : State := set [(F.ltCfg_en,1,7),(F.ltCfg_edge,0,7)] {now:=10^9,fbk:={lt:=[(7,{edge:=some (25*10^6-250)})]}}; let k : Fin 8 := 7; let age : Nat := 0; let n_ : Nat := 1; let h := s.dev.lt k; let stamp := s.dev.now / 40 - age; let stands := if k.val < 4 then s.dev.rd F.fioVf_state < 2 ∧ s.dev.rd F.fiCfg_filt k ≤ n_ else s.dev.rd F.ltCfg_filt k < n_; 6 ≤ s.seq.released ∧ stands ∧ (∀ e ∈ h.edge, e + 250 ≤ stamp)) ∧
    (let s : State := sys {fbk:={lt:=[(7,{edge:=some 5})]}}; let k : Fin 8 := 7; let age : Nat := 0; let n_ : Nat := 1; let e : Nat := 5; let h := s.dev.lt k; let stamp := s.dev.now / 40 - age; let stands := if k.val < 4 then s.dev.rd F.fioVf_state < 2 ∧ s.dev.rd F.fiCfg_filt k ≤ n_ else s.dev.rd F.ltCfg_filt k < n_; 6 ≤ s.seq.released ∧ e ∈ h.edge ∧ stands ∧ stamp < e + 250) ∧
    (let s : State := set [(F.fioVf_state,2,0)]; let k : Fin 8 := 2; let n_ : Nat := 99; let stands := if k.val < 4 then s.dev.rd F.fioVf_state < 2 ∧ s.dev.rd F.fiCfg_filt k ≤ n_ else s.dev.rd F.ltCfg_filt k < n_; 6 ≤ s.seq.released ∧ ¬ stands) ∧
    (let s : State := set [(F.ltCfg_axis,7,7),(F.fbkSel_src,3,7)] {ax:=[(7,{fb:={hist:=[b1,a1]}})],fbk:={lt:=[(7,{wait:=[0]})]}}; let k : Fin 8 := 7; let te : Int := 0; let rest : List Int := []; let a : VTick := a1; let b : VTick := b1; let l : List VTick := []; let h := s.dev.lt k; let ax := s.dev.rd F.ltCfg_axis k; 6 ≤ s.seq.released ∧ h.wait = te :: rest ∧ s.dev.fbSrc ax ≠ 0 ∧ (s.dev.axis ax).fb.hist = b :: a :: l ∧ a.t ≤ te ∧ te < b.t ∧ s.dev.rd F.ltCfg_winen k = 0 ∧ h.q.length < 4) ∧
    (let s : State := set [(F.ltCfg_axis,7,7),(F.axCfg_kind,1,7)] {fbk:={lt:=[(7,{wait:=[9,10]})]}}; let k : Fin 8 := 7; let te : Int := 9; let rest : List Int := [10]; let h := s.dev.lt k; let ax := s.dev.rd F.ltCfg_axis k; 6 ≤ s.seq.released ∧ h.wait = te :: rest ∧ s.dev.fbSrc ax = 0 ∧ h.q.length < 4) ∧
    (let s : State := set [(F.ltCfg_axis,7,7),(F.fbkSel_src,3,7)] {ax:=[(7,{fb:={hist:=[b1]}})],fbk:={lt:=[(7,{wait:=[10]})]}}; let k : Fin 8 := 7; let te : Int := 10; let rest : List Int := []; let b : VTick := b1; let l : List VTick := []; let h := s.dev.lt k; let ax := s.dev.rd F.ltCfg_axis k; 6 ≤ s.seq.released ∧ h.wait = te :: rest ∧ s.dev.fbSrc ax ≠ 0 ∧ (s.dev.axis ax).fb.hist = b :: l ∧ b.t ≤ te) ∧
    (let s : State := sys {}; let k : Fin 8 := 7; let h := s.dev.lt k; 6 ≤ s.seq.released ∧ h.wait = []) ∧
    (let s : State := sys {}; let w : Who := w3; let k : Fin 8 := 7; let info := R.ltQinfo.base + 0x40 * k.val; s.GrantsRead w info) ∧
    (let s : State := sys {fbk:={lt:=[(7,{q:=[{x:=5,te:=9,extrap:=true,old:=false}]})]}}; let w : Who := w3; let k : Fin 8 := 7; let info := R.ltQinfo.base + 0x40 * k.val; s.GrantsRead w info) ∧
    (let s : State := sys {}; let w : Who := w3; let k : Fin 8 := 7; let dly := F.ltDly_dly.addr k 0; s.Grants w dly ∧ s.dev.rd F.ltCfg_en k = 0) ∧
    (let s : State := set [(F.ltCfg_en,1,7)]; let w : Who := w3; let k : Fin 8 := 7; let dly := F.ltDly_dly.addr k 0; s.Grants w dly ∧ s.dev.rd F.ltCfg_en k = 1) ∧
    (let s : State := set [(F.ltCfg_en,1,7)]; let w : Who := w3; let k : Fin 8 := 7; let v : BitVec 32 := 0; let cfg := F.ltCfg_en.addr k 0; s.Grants w cfg ∧ s.dev.rd F.ltCfg_en k = 1 ∧ bitOf v.toNat 0 = false ∧ bitsOf v.toNat 1 2 ≤ 2) ∧
    (let s : State := sys {}; let w : Who := w3; let n : Fin 8 := 7; let tim := (FbkReg.fa n 4).addr; s.Grants w tim ∧ s.dev.chanFree (n + 1) = true ∧ s.dev.rd F.faCtrl_en n = 0) ∧
    (let s : State := set [(F.fbkSel_src,8,0),(F.axState_state,1,0)]; let w : Who := w3; let n : Fin 8 := 7; let r : FbkReg := .fa 7 0; s.Grants w r.addr ∧ (match r with | .fa n _ => s.dev.chanFree (n + 1) | .fq q _ => s.dev.chanFree (q + 9)) = false) ∧
    (let s : State := set [(F.fbkSel_src,12,0),(F.axState_state,1,0)]; let w : Who := w3; let n : Fin 8 := 7; let r : FbkReg := .fq 3 6; s.Grants w r.addr ∧ (match r with | .fa n _ => s.dev.chanFree (n + 1) | .fq q _ => s.dev.chanFree (q + 9)) = false) := by
  refine ⟨?_, ?_, ?_, ?_, ?_, ?_, ?_, ?_, ?_, ?_, ?_, ?_, ?_, ?_, ?_⟩ <;> decide +kernel

/-- GatherUnit. -/
theorem test_GatherUnit_witnesses :
    (let s : State := gth 0 {edges:=[(1,5)]}; let w : Who := w3; let d := s.dev; let cmd := F.gthCmd_arm.addr 0 0; s.GrantsPart w cmd ∧ d.armRange = false ∧ d.gthRuns = false) ∧
    (let s : State := gth 0 {} [(F.gthPre_pre,0,0)]; let w : Who := w3; let d := s.dev; let cmd := F.gthCmd_arm.addr 0 0; s.GrantsPart w cmd ∧ d.armRange = false ∧ d.gthRuns = false) ∧
    (let s : State := gth 2 {} [(F.gthPost_post,0,0)]; let w : Who := w3; let d := s.dev; let cmd := F.gthCmd_arm.addr 0 0; s.GrantsPart w cmd ∧ d.armRange = true ∧ d.gthRuns = true) ∧
    (let s : State := sys {}; let w : Who := w3; let d := s.dev; let cmd := F.gthCmd_arm.addr 0 0; s.GrantsPart w cmd ∧ d.armRange = true ∧ d.gthRuns = false) ∧
    (let s : State := gth 1; let w : Who := w3; let d := s.dev; let cmd := F.gthCmd_arm.addr 0 0; s.GrantsPart w cmd ∧ d.armRange = false ∧ d.gthRuns = true) ∧
    (let s : State := gth 1; let w : Who := w3; let d := s.dev; let st := d.rd F.gthStat_state; let cmd := F.gthCmd_arm.addr 0 0; s.GrantsPart w cmd ∧ (st = 1 ∨ st = 2)) ∧
    (let s : State := gth 2; let w : Who := w3; let d := s.dev; let st := d.rd F.gthStat_state; let cmd := F.gthCmd_arm.addr 0 0; s.GrantsPart w cmd ∧ (st = 1 ∨ st = 2)) ∧
    (let s : State := gth 3; let w : Who := w3; let d := s.dev; let st := d.rd F.gthStat_state; let cmd := F.gthCmd_arm.addr 0 0; s.GrantsPart w cmd ∧ st = 3) ∧
    (let s : State := gth 0; let w : Who := w3; let d := s.dev; let st := d.rd F.gthStat_state; let cmd := F.gthCmd_arm.addr 0 0; s.GrantsPart w cmd ∧ (st = 0 ∨ 4 ≤ st)) ∧
    (let s : State := gth 4; let w : Who := w3; let d := s.dev; let st := d.rd F.gthStat_state; let cmd := F.gthCmd_arm.addr 0 0; s.GrantsPart w cmd ∧ (st = 0 ∨ 4 ≤ st)) ∧
    (let s : State := gth 1; let w : Who := w3; let d := s.dev; let st := d.rd F.gthStat_state; let cmd := F.gthCmd_arm.addr 0 0; s.GrantsPart w cmd ∧ st = 1) ∧
    (let s : State := gth 2 {newest:=some (9,0),next:=some 10}; let w : Who := w3; let newest : Int := 9; let tk : Int := 0; let d := s.dev; let g := d.gth; let st := d.rd F.gthStat_state; let cmd := F.gthCmd_arm.addr 0 0; let k := d.nextRow; s.GrantsPart w cmd ∧ st = 2 ∧ (g.newest = some (newest, tk) ∧ newest < k ∨ g.newest = none ∧ g.row0 ≤ k)) ∧
    (let s : State := gth 3; let w : Who := w3; let d := s.dev; let st := d.rd F.gthStat_state; let cmd := F.gthCmd_arm.addr 0 0; let holdoff := st = 4 ∧ d.rd F.gthCtrl_auto = 1; s.GrantsPart w cmd ∧ (st = 3 ∨ holdoff)) ∧
    (let s : State := gth 0; let w : Who := w3; let d := s.dev; let st := d.rd F.gthStat_state; let cmd := F.gthCmd_arm.addr 0 0; s.GrantsPart w cmd ∧ (st = 0 ∨ st = 4 ∧ d.rd F.gthCtrl_auto = 0)) ∧
    (let s : State := gth 0; let w : Who := w3; let d := s.dev; let st := d.rd F.gthStat_state; let cmd := F.gthCmd_arm.addr 0 0; s.GrantsPart w cmd ∧ st ≠ 4) ∧
    (let s : State := gth 3; let w : Who := w3; let d := s.dev; let st := d.rd F.gthStat_state; let cmd := F.gthCmd_arm.addr 0 0; s.GrantsPart w cmd ∧ st ≠ 4) ∧
    (let s : State := gth 4 {cap:=[(1,[5])]}; let w : Who := w3; let d := s.dev; let st := d.rd F.gthStat_state; let cmd := F.gthCmd_arm.addr 0 0; s.GrantsPart w cmd ∧ st = 4) ∧
    (let s : State := gth 4 {}; let w : Who := w3; let d := s.dev; let st := d.rd F.gthStat_state; let cmd := F.gthCmd_arm.addr 0 0; s.GrantsPart w cmd ∧ st = 4) ∧
    (let s : State := gth 0; let d := s.dev; let st := d.rd F.gthStat_state; let due := d.commitDue; let holdoff := st = 4 ∧ d.rd F.gthCtrl_auto = 1; 8 ≤ s.seq.released ∧ (d.gthRuns = false ∧ ¬ holdoff ∨ due = false)) ∧
    (let s : State := gth 1 {next:=some 0} [] {tim:=later}; let d := s.dev; let due := d.commitDue; 8 ≤ s.seq.released ∧ d.gthRuns = true ∧ due = true) ∧
    (let s : State := gth 3 {next:=some 0} [] {tim:=later}; let d := s.dev; let due := d.commitDue; 8 ≤ s.seq.released ∧ d.gthRuns = true ∧ due = true) ∧
    (let s : State := gth 4 {next:=some 0,cap:=[(1,[5])]} [(F.gthCtrl_auto,1,0)] {tim:=later}; let d := s.dev; let st := d.rd F.gthStat_state; let due := d.commitDue; let holdoff := st = 4 ∧ d.rd F.gthCtrl_auto = 1; 8 ≤ s.seq.released ∧ holdoff ∧ due = true) ∧
    (let s : State := gth 1 {next:=some 2,row0:=0,newest:=some (1,0)} [] {tim:=later}; let d := s.dev; let g := d.gth; let st := d.rd F.gthStat_state; let due := d.commitDue; 8 ≤ s.seq.released ∧ st = 1 ∧ due = true ∧ d.rd F.gthTrig_sen = 0 ∧ g.wait = none) ∧
    (let s : State := gth 1 {next:=some 0} [] {tim:=later}; let d := s.dev; let g := d.gth; let st := d.rd F.gthStat_state; let due := d.commitDue; 8 ≤ s.seq.released ∧ st = 1 ∧ due = true ∧ d.rd F.gthTrig_sen = 0 ∧ g.wait = none) ∧
    (let s : State := gth 3 {next:=some 2,count:=9,trigSeq:=5,newest:=some (1,0)} [] {tim:=later}; let d := s.dev; let g := d.gth; let st := d.rd F.gthStat_state; let due := d.commitDue; 8 ≤ s.seq.released ∧ st = 3 ∧ due = true ∧ d.rd F.gthTrig_sen = 0 ∧ g.wait = none) ∧
    (let s : State := gth 2 {next:=some 2,count:=9,newest:=some (1,0),prevW:=some (-1),low:=true} [(F.gthTrig_sen,1,0)] {tim:=later}; let p : Int := -1; let word : Int := 0; let c : Nat := 0; let d := s.dev; let g := d.gth; let st := d.rd F.gthStat_state; let pre := d.rd F.gthPre_pre; let k := d.nextRow; let due := d.commitDue; let words := (d.rowWords (d.rowTime (k - 1)) (d.rowTime k)).2; let L := d.rdI F.gthTlevel_l; 8 ≤ s.seq.released ∧ st = 2 ∧ due = true ∧ d.rd F.gthTrig_sen = 1 ∧ d.rd F.gthTrig_cond = 0 ∧ g.wait = none ∧ words.find? (fun x => x.1 == d.rd F.gthTrig_sch) = some (c, word) ∧ g.prevW = some p ∧ g.low = true ∧ p < L ∧ L ≤ word ∧ pre ≤ g.count ∧ pre ≤ d.gthDepth ∧ 1 ≤ d.gthDepth) ∧
    (let s : State := gth 2; let d := s.dev; let g := d.gth; 8 ≤ s.seq.released ∧ g.edges = []) ∧
    (let s : State := gth 1 {edges:=[(3,5)]}; let te : Int := 5; let src : Nat := 3; let rest : List (Nat × Int) := []; let d := s.dev; let g := d.gth; let st := d.rd F.gthStat_state; 8 ≤ s.seq.released ∧ g.edges = (src, te) :: rest ∧ st = 1) ∧
    (let s : State := gth 2 {edges:=[(3,10^13)],newest:=some (9,0),next:=some 10}; let newest : Int := 9; let te : Int := 10^13; let tk : Int := 0; let src : Nat := 3; let rest : List (Nat × Int) := []; let d := s.dev; let g := d.gth; let st := d.rd F.gthStat_state; let row := d.rowOf te; 8 ≤ s.seq.released ∧ g.edges = (src, te) :: rest ∧ st = 2 ∧ (g.newest = some (newest, tk) ∧ newest < row ∨ g.newest = none ∧ g.row0 ≤ row)) ∧
    (let s : State := gth 2 {edges:=[(3,5)],newest:=some (9,0),rows:=[(9,0,[]),(1,0,[]),(0,0,[])],count:=4}; let newest : Int := 9; let te : Int := 5; let tk : Int := 0; let src : Nat := 3; let b : Nat := 2; let rest : List (Nat × Int) := []; let d := s.dev; let g := d.gth; let st := d.rd F.gthStat_state; let pre := d.rd F.gthPre_pre; let row := d.rowOf te; let behind := g.newest = some (newest, tk) ∧ row ≤ newest ∧ g.rows.findIdx? (fun r => decide (r.1 ≤ row)) = some b; 8 ≤ s.seq.released ∧ g.edges = (src, te) :: rest ∧ st = 2 ∧ behind ∧ g.count < pre + 1 + b) ∧
    (let s : State := gth 2 {edges:=[(3,5)],newest:=some (9,0),rows:=[(9,0,[]),(1,0,[]),(0,0,[])],count:=10^7} [(F.gthPre_pre,131071,0)]; let newest : Int := 9; let te : Int := 5; let tk : Int := 0; let src : Nat := 3; let b : Nat := 2; let rest : List (Nat × Int) := []; let d := s.dev; let g := d.gth; let st := d.rd F.gthStat_state; let pre := d.rd F.gthPre_pre; let row := d.rowOf te; let behind := g.newest = some (newest, tk) ∧ row ≤ newest ∧ g.rows.findIdx? (fun r => decide (r.1 ≤ row)) = some b; 8 ≤ s.seq.released ∧ g.edges = (src, te) :: rest ∧ st = 2 ∧ behind ∧ pre + 1 + b ≤ g.count ∧ d.gthDepth < pre + b) ∧
    (let s : State := gth 2 {edges:=[(3,5)],newest:=some (9,0),rows:=[(9,0,[]),(1,0,[]),(0,0,[])],count:=10}; let newest : Int := 9; let te : Int := 5; let tk : Int := 0; let src : Nat := 3; let b : Nat := 2; let rest : List (Nat × Int) := []; let d := s.dev; let g := d.gth; let st := d.rd F.gthStat_state; let pre := d.rd F.gthPre_pre; let row := d.rowOf te; let behind := g.newest = some (newest, tk) ∧ row ≤ newest ∧ g.rows.findIdx? (fun r => decide (r.1 ≤ row)) = some b; 8 ≤ s.seq.released ∧ g.edges = (src, te) :: rest ∧ st = 2 ∧ behind ∧ pre + 1 + b ≤ g.count ∧ pre + b ≤ d.gthDepth) ∧
    (let s : State := gth 4 {} [(F.gthCtrl_auto,1,0),(F.gthHold_hold,0,0)]; let d := s.dev; let st := d.rd F.gthStat_state; 8 ≤ s.seq.released ∧ st = 4 ∧ d.rd F.gthCtrl_auto = 1 ∧ d.rd F.gthStat_streaming = 0 ∧ d.holdOver = true) ∧
    (let s : State := gth 4; let d := s.dev; let st := d.rd F.gthStat_state; 8 ≤ s.seq.released ∧ (st ≠ 4 ∨ d.rd F.gthCtrl_auto = 0 ∨ d.rd F.gthStat_streaming = 1 ∨ d.holdOver = false)) ∧
    (let s : State := gth 4 {} [(F.gthStat_streaming,1,0)]; let d := s.dev; let g := d.gth; 8 ≤ s.seq.released ∧ d.rd F.gthFrame_sport < 2 ∧ d.rd F.gthStat_streaming = 1 ∧ g.rest = [] ∧ g.q30 = []) ∧
    (let s : State := gth 4; let d := s.dev; let g := d.gth; 8 ≤ s.seq.released ∧ d.rd F.gthFrame_sport < 2 ∧ (d.rd F.gthStat_streaming = 0 ∨ g.rest ≠ [] ∨ g.q30 ≠ [])) ∧
    (let s : State := gth 4 {q30:=[(true,[1,2,3,4])]} [(F.gthFrame_sport,2,0),(F.gthStat_streaming,1,0)]; let last : Bool := true; let body : List Nat := [1,2,3,4]; let frames : List (Bool × List Nat) := []; let d := s.dev; let g := d.gth; 8 ≤ s.seq.released ∧ 2 ≤ d.rd F.gthFrame_sport ∧ g.q30 = (last, body) :: frames ∧ g.rest = []) := by
  refine ⟨?_, ?_, ?_, ?_, ?_, ?_, ?_, ?_, ?_, ?_, ?_, ?_, ?_, ?_, ?_, ?_, ?_, ?_, ?_, ?_, ?_, ?_, ?_, ?_, ?_, ?_, ?_, ?_, ?_, ?_, ?_, ?_, ?_, ?_, ?_, ?_, ?_⟩ <;> decide +kernel

/-- LinksAndControl. -/
theorem test_LinksAndControl_witnesses :
    (let s : State := sys {}; let p : Fin 2 := 1; let d := s.dev; let up := d.rd F.netPLink_up p; 11 ≤ s.seq.released ∧ up = 0) ∧
    (let s : State := sys {}; let p : Fin 2 := 1; let ms : Nat := 1; let d := s.dev; let up := d.rd F.netPLink_up p; 11 ≤ s.seq.released ∧ up = 0 ∧ d.rd F.netPCtrl_updly p ≤ ms) ∧
    (let s : State := set [(F.netPLink_up,1,1)]; let p : Fin 2 := 1; let ms : Nat := 1; let d := s.dev; let up := d.rd F.netPLink_up p; 11 ≤ s.seq.released ∧ (up = 1 ∨ ms < d.rd F.netPCtrl_updly p)) ∧
    (let s : State := set [(F.netPCtrl_updly,255,1)]; let p : Fin 2 := 1; let ms : Nat := 254; let d := s.dev; let up := d.rd F.netPLink_up p; 11 ≤ s.seq.released ∧ (up = 1 ∨ ms < d.rd F.netPCtrl_updly p)) ∧
    (let s : State := set [(F.netPLink_up,1,0)] {net:={cmdq:=[(0,[rec0])]}}; let p : Fin 2 := 0; let d := s.dev; let up := d.rd F.netPLink_up p; 11 ≤ s.seq.released ∧ up = 1) ∧
    (let s : State := set [(F.netPMdio_busy,1,1)]; let p : Fin 2 := 1; let d := s.dev; 11 ≤ s.seq.released ∧ d.rd F.netPMdio_busy p = 1) ∧
    (let s : State := set [(F.netPMdio_busy,1,1),(F.netPMdio_op,2,1)]; let p : Fin 2 := 1; let d := s.dev; 11 ≤ s.seq.released ∧ d.rd F.netPMdio_busy p = 1) ∧
    (let s : State := sys {}; let p : Fin 2 := 0; let d := s.dev; 11 ≤ s.seq.released ∧ d.rd F.netPMdio_busy p = 0) ∧
    (let s : State := set [(F.netStat_stgated,1,0),(F.tbState_state,3,0)]; let p : Fin 2 := 0; let d := s.dev; 11 ≤ s.seq.released ∧ d.tbGood (d.portTb p) = true ∧ d.rd F.netStat_stgated = 1) ∧
    (let s : State := set [(F.netStat_stgated,0,0)]; let p : Fin 2 := 1; let d := s.dev; 11 ≤ s.seq.released ∧ d.tbGood (d.portTb p) = false ∧ d.rd F.netStat_stgated = 0) ∧
    (let s : State := set [(F.tbState_state,3,0),(F.netStat_stgated,0,0)]; let p : Fin 2 := 0; let d := s.dev; 11 ≤ s.seq.released ∧ d.tbGood (d.portTb p) = true ∧ d.rd F.netStat_stgated = 0) ∧
    (let s : State := sys {}; let p : Fin 2 := 1; 12 + p.val ≤ s.seq.released) ∧
    (let s : State := sys {}; let p : Fin 2 := 0; 12 + p.val ≤ s.seq.released) ∧
    (let s : State := set [(F.netPLink_andone,1,1)]; let w : Who := w0; let p : Fin 2 := 1; let d := s.dev; let ctrl := F.netPCtrl_restart.addr p 0; s.GrantsPart w ctrl ∧ 1 ≤ d.rd F.netPCtrl_updly p) ∧
    (let s : State := sys {}; let w : Who := w0; let p : Fin 2 := 1; let d := s.dev; let mdio := F.netPMdio_op.addr p 0; s.Grants w mdio ∧ d.rd F.netPMdio_busy p = 0) ∧
    (let s : State := set [(F.netPMdio_busy,1,1)]; let w : Who := w0; let p : Fin 2 := 1; let d := s.dev; let mdio := F.netPMdio_op.addr p 0; s.Grants w mdio ∧ d.rd F.netPMdio_busy p = 1) ∧
    (let s : State := set [(F.netStper_period,250000,0),(F.netCycle_cycle,250000,0)]; let w : Who := w3; let d := s.dev; let cfg := F.netStcfg_en.addr 0 0; let per := d.rd F.netStper_period; let nl := d.rd F.netStcfg_nlist; let slots := per % d.rd F.netCycle_cycle = 0 ∧ 250000 ≤ per ∧ d.rd F.netStofs_offset < per ∧ nl ≤ 48 ∧ ∀ k < nl, ∃ q, placeOf (d.rd F.netStlist_addr k) = some q; s.GrantsPart w cfg ∧ slots) ∧
    (let s : State := set [(F.netStper_period,250000,0),(F.netCycle_cycle,0,0),(F.netStcfg_nlist,49,0)]; let w : Who := w3; let d := s.dev; let cfg := F.netStcfg_en.addr 0 0; let per := d.rd F.netStper_period; let nl := d.rd F.netStcfg_nlist; let slots := per % d.rd F.netCycle_cycle = 0 ∧ 250000 ≤ per ∧ d.rd F.netStofs_offset < per ∧ nl ≤ 48 ∧ ∀ k < nl, ∃ q, placeOf (d.rd F.netStlist_addr k) = some q; s.GrantsPart w cfg ∧ d.rd F.netStcfg_en = 0 ∧ ¬ slots) ∧
    (let s : State := set [(F.netStcfg_en,1,0)]; let w : Who := w0; let cfg := F.netStcfg_en.addr 0 0; s.GrantsPart w cfg) := by
  refine ⟨?_, ?_, ?_, ?_, ?_, ?_, ?_, ?_, ?_, ?_, ?_, ?_, ?_, ?_, ?_, ?_, ?_, ?_, ?_⟩ <;>
    first | decide +kernel | (simp only [← Option.isSome_iff_exists]; decide +kernel)

/-- ReceivedFrames. -/
theorem test_ReceivedFrames_witnesses :
    (let s : State := set [(F.netMaclo_mac,1,0),(F.netCtrl_etype,0x88B5,0)] {net:={preconfig:=false}}; let p : Fin 2 := 1; let f0 : Frame := (evx 1 []).frame; let good : Bool := true; let d := s.dev; let f : Frame  := { f0 with fcs := good }; let own := f.dst = d.mac ∧ d.net.preconfig = false ∧ f.etype ≠ 0x8100; let evx := f.etype = d.rd F.netCtrl_etype; let whole := f.octets ≤ 1522; 12 + p.val ≤ s.seq.released ∧ own ∧ evx ∧ d.switchMode ≠ 1 ∧ whole ∧ good = true) ∧
    (let s : State := set [(F.netMaclo_mac,1,0),(F.netCtrl_etype,0x88B5,0)] {net:={preconfig:=false}}; let p : Fin 2 := 1; let f0 : Frame := (evx 1 []).frame; let good : Bool := false; let d := s.dev; let f : Frame  := { f0 with fcs := good }; let own := f.dst = d.mac ∧ d.net.preconfig = false ∧ f.etype ≠ 0x8100; let evx := f.etype = d.rd F.netCtrl_etype; let whole := f.octets ≤ 1522; let once := d.switchMode ≠ 1 ∨ ¬ evx; 12 + p.val ≤ s.seq.released ∧ own ∧ once ∧ whole ∧ good = false) ∧
    (let s : State := set [(F.netMaclo_mac,1,0),(F.netCtrl_mode,1,0),(F.netCtrl_etype,0x88B5,0)] {net:={preconfig:=false}}; let p : Fin 2 := 1; let f0 : Frame := {(evx 1 []).frame with etype:=0x800}; let good : Bool := false; let d := s.dev; let f : Frame  := { f0 with fcs := good }; let own := f.dst = d.mac ∧ d.net.preconfig = false ∧ f.etype ≠ 0x8100; let evx := f.etype = d.rd F.netCtrl_etype; let whole := f.octets ≤ 1522; let once := d.switchMode ≠ 1 ∨ ¬ evx; 12 + p.val ≤ s.seq.released ∧ own ∧ once ∧ whole ∧ good = false) ∧
    (let s : State := set [(F.netMaclo_mac,1,0),(F.netCtrl_etype,0x88B5,0)] {net:={preconfig:=false}}; let p : Fin 2 := 1; let f0 : Frame := {(evx 1 []).frame with etype:=0x800}; let good : Bool := true; let d := s.dev; let f : Frame  := { f0 with fcs := good }; let own := f.dst = d.mac ∧ d.net.preconfig = false ∧ f.etype ≠ 0x8100; let evx := f.etype = d.rd F.netCtrl_etype; let whole := f.octets ≤ 1522; 12 + p.val ≤ s.seq.released ∧ own ∧ ¬ evx ∧ whole ∧ good = true) ∧
    (let s : State := set [(F.netMaclo_mac,1,0),(F.netCtrl_mode,1,0),(F.netCtrl_etype,0x88B5,0)] {net:={preconfig:=false}}; let p : Fin 2 := 0; let f0 : Frame := {(evx 1 []).frame with etype:=0x800}; let good : Bool := true; let d := s.dev; let f : Frame  := { f0 with fcs := good }; let own := f.dst = d.mac ∧ d.net.preconfig = false ∧ f.etype ≠ 0x8100; let evx := f.etype = d.rd F.netCtrl_etype; let whole := f.octets ≤ 1522; 12 + p.val ≤ s.seq.released ∧ own ∧ ¬ evx ∧ whole ∧ good = true) ∧
    (let s : State := set [(F.netMaclo_mac,1,0),(F.netCtrl_etype,0x88B5,0)] {net:={preconfig:=false}}; let p : Fin 2 := 1; let f0 : Frame := (evx 1 (List.replicate 1600 0)).frame; let good : Bool := true; let d := s.dev; let f : Frame  := { f0 with fcs := good }; let own := f.dst = d.mac ∧ d.net.preconfig = false ∧ f.etype ≠ 0x8100; let evx := f.etype = d.rd F.netCtrl_etype; let whole := f.octets ≤ 1522; let once := d.switchMode ≠ 1 ∨ ¬ evx; 12 + p.val ≤ s.seq.released ∧ own ∧ once ∧ ¬ whole) ∧
    (let s : State := set [(F.netMaclo_mac,1,0),(F.netCtrl_mode,1,0),(F.netCtrl_etype,0x88B5,0)] {net:={preconfig:=false}}; let p : Fin 2 := 1; let f0 : Frame := {(evx 1 (List.replicate 1600 0)).frame with etype:=0x800}; let good : Bool := true; let d := s.dev; let f : Frame  := { f0 with fcs := good }; let own := f.dst = d.mac ∧ d.net.preconfig = false ∧ f.etype ≠ 0x8100; let evx := f.etype = d.rd F.netCtrl_etype; let whole := f.octets ≤ 1522; let once := d.switchMode ≠ 1 ∨ ¬ evx; 12 + p.val ≤ s.seq.released ∧ own ∧ once ∧ ¬ whole) ∧
    (let s : State := set [(F.netPLink_up,1,0)]; let p : Fin 2 := 1; let f0 : Frame := {(evx 1 []).frame with etype:=0x800}; let good : Bool := true; let d := s.dev; let f : Frame  := { f0 with fcs := good }; let o := 1 - p.val; let evx := f.etype = d.rd F.netCtrl_etype; let other := f.dst ≠ macPdelay ∧ f.dst ≠ macPause ∧ f.dst ≠ d.mac ∧ f.dst ≠ d.mcast ∧ ¬ evx ∧ f.etype ≠ etPtp ∧ f.octets ≤ 1522; let free := Tbl.get false o d.net.busy = false ∧ d.waitingAt o = []; 12 + p.val ≤ s.seq.released ∧ other ∧ d.switchMode ≠ 2 ∧ d.rd F.netPLink_up o = 1 ∧ free) ∧
    (let s : State := set [(F.netPLink_up,1,0)] {now:=77}; let p : Fin 2 := 1; let f0 : Frame := {(evx 1 []).frame with etype:=0x800}; let good : Bool := false; let d := s.dev; let f : Frame  := { f0 with fcs := good }; let o := 1 - p.val; let evx := f.etype = d.rd F.netCtrl_etype; let other := f.dst ≠ macPdelay ∧ f.dst ≠ macPause ∧ f.dst ≠ d.mac ∧ f.dst ≠ d.mcast ∧ ¬ evx ∧ f.etype ≠ etPtp ∧ f.octets ≤ 1522; let free := Tbl.get false o d.net.busy = false ∧ d.waitingAt o = []; 12 + p.val ≤ s.seq.released ∧ other ∧ d.switchMode ≠ 2 ∧ d.rd F.netPLink_up o = 1 ∧ free) ∧
    (let s : State := set [(F.netPLink_up,1,0)] {net:={busy:=[(0,true)]}}; let p : Fin 2 := 1; let f0 : Frame := {(evx 1 []).frame with etype:=0x800}; let good : Bool := true; let d := s.dev; let f : Frame  := { f0 with fcs := good }; let o := 1 - p.val; let evx := f.etype = d.rd F.netCtrl_etype; let other := f.dst ≠ macPdelay ∧ f.dst ≠ macPause ∧ f.dst ≠ d.mac ∧ f.dst ≠ d.mcast ∧ ¬ evx ∧ f.etype ≠ etPtp ∧ f.octets ≤ 1522; let free := Tbl.get false o d.net.busy = false ∧ d.waitingAt o = []; 12 + p.val ≤ s.seq.released ∧ other ∧ d.switchMode ≠ 2 ∧ d.rd F.netPLink_up o = 1 ∧ ¬ free ∧ d.held o + f.octets ≤ 4096) ∧
    (let s : State := set [(F.netPLink_up,1,0)] {now:=5,net:={egress:=[(0,[wt4 6])]}}; let p : Fin 2 := 1; let f0 : Frame := {(evx 1 []).frame with etype:=0x800}; let good : Bool := true; let d := s.dev; let f : Frame  := { f0 with fcs := good }; let o := 1 - p.val; let evx := f.etype = d.rd F.netCtrl_etype; let other := f.dst ≠ macPdelay ∧ f.dst ≠ macPause ∧ f.dst ≠ d.mac ∧ f.dst ≠ d.mcast ∧ ¬ evx ∧ f.etype ≠ etPtp ∧ f.octets ≤ 1522; let free := Tbl.get false o d.net.busy = false ∧ d.waitingAt o = []; 12 + p.val ≤ s.seq.released ∧ other ∧ d.switchMode ≠ 2 ∧ d.rd F.netPLink_up o = 1 ∧ ¬ free ∧ d.held o + f.octets ≤ 4096) ∧
    (let s : State := set [(F.netPLink_up,1,0)] {net:={busy:=[(0,true)],egress:=[(0,List.replicate 3 {cls:=4,frame:={(evx 1 (List.replicate 1480 0)).frame with etype:=0x800},from_:=1})]}}; let p : Fin 2 := 1; let f0 : Frame := {(evx 1 []).frame with etype:=0x800}; let good : Bool := true; let d := s.dev; let f : Frame  := { f0 with fcs := good }; let o := 1 - p.val; let evx := f.etype = d.rd F.netCtrl_etype; let other := f.dst ≠ macPdelay ∧ f.dst ≠ macPause ∧ f.dst ≠ d.mac ∧ f.dst ≠ d.mcast ∧ ¬ evx ∧ f.etype ≠ etPtp ∧ f.octets ≤ 1522; let free := Tbl.get false o d.net.busy = false ∧ d.waitingAt o = []; 12 + p.val ≤ s.seq.released ∧ other ∧ d.switchMode ≠ 2 ∧ d.rd F.netPLink_up o = 1 ∧ ¬ free ∧ 4096 < d.held o + f.octets) ∧
    (let s : State := sys {}; let p : Fin 2 := 1; let f0 : Frame := {(evx 1 []).frame with etype:=0x800}; let good : Bool := true; let d := s.dev; let f : Frame  := { f0 with fcs := good }; let o := 1 - p.val; let evx := f.etype = d.rd F.netCtrl_etype; let other := f.dst ≠ macPdelay ∧ f.dst ≠ macPause ∧ f.dst ≠ d.mac ∧ f.dst ≠ d.mcast ∧ ¬ evx ∧ f.etype ≠ etPtp ∧ f.octets ≤ 1522; 12 + p.val ≤ s.seq.released ∧ other ∧ (d.switchMode = 2 ∨ d.rd F.netPLink_up o = 0)) ∧
    (let s : State := set [(F.netCtrl_mode,2,0),(F.netPLink_up,1,0)] {net:={preconfig:=false}}; let p : Fin 2 := 1; let f0 : Frame := {(evx 1 []).frame with etype:=0x800}; let good : Bool := true; let d := s.dev; let f : Frame  := { f0 with fcs := good }; let o := 1 - p.val; let evx := f.etype = d.rd F.netCtrl_etype; let other := f.dst ≠ macPdelay ∧ f.dst ≠ macPause ∧ f.dst ≠ d.mac ∧ f.dst ≠ d.mcast ∧ ¬ evx ∧ f.etype ≠ etPtp ∧ f.octets ≤ 1522; 12 + p.val ≤ s.seq.released ∧ other ∧ (d.switchMode = 2 ∨ d.rd F.netPLink_up o = 0)) ∧
    (let s : State := set [(F.netCtrl_mode,1,0),(F.netCtrl_etype,0x88B5,0),(F.netPLink_up,1,0)] {net:={preconfig:=false,dup:=[{mac:=2,high:=9}]}}; let p : Fin 2 := 1; let f0 : Frame := (evx 1 []).frame; let good : Bool := true; let e : DupSrc := {mac:=2,high:=9}; let d := s.dev; let f : Frame  := { f0 with fcs := good }; let evx := f.etype = d.rd F.netCtrl_etype; let whole := f.octets ≤ 1522; 12 + p.val ≤ s.seq.released ∧ evx ∧ whole ∧ d.switchMode = 1 ∧ f.type ≠ 6 ∧ d.net.dup.find? (·.mac == f.src) = some e ∧ e.has f.seq = true) ∧
    (let s : State := set [(F.netCtrl_etype,0x88B5,0)] {net:={rxq:=[evx 2 [],{evx 1 [] with checked:=false},evx 7 []]}}; let x : RxFrame := {evx 1 [] with checked:=false}; let l1 : List RxFrame := [evx 2 []]; let l2 : List RxFrame := [evx 7 []]; let d := s.dev; 11 ≤ s.seq.released ∧ d.net.rxq = l1 ++ x :: l2 ∧ (∀ y ∈ l1, y.checked = true) ∧ x.checked = false ∧ d.evxBad x.frame = false) ∧
    (let s : State := sys {net:={rxq:=[evx 2 [],{evx 0 [] with checked:=false},evx 7 []]}}; let x : RxFrame := {evx 0 [] with checked:=false}; let l1 : List RxFrame := [evx 2 []]; let l2 : List RxFrame := [evx 7 []]; let d := s.dev; 11 ≤ s.seq.released ∧ d.net.rxq = l1 ++ x :: l2 ∧ (∀ y ∈ l1, y.checked = true) ∧ x.checked = false ∧ d.evxBad x.frame = true) ∧
    (let s : State := sys {net:={rxq:=[evx 2 []]}}; let d := s.dev; 11 ≤ s.seq.released ∧ (∀ y ∈ d.net.rxq, y.checked = true)) ∧
    (let s : State := rx (evx 1 (5 :: List.replicate 51 0)) {} [(F.netGmap_en,1,7),(F.netGmap_master,5,7),(F.netGmap_ports,1,7)]; let x : RxFrame := evx 1 (5 :: List.replicate 51 0); let d1 : Dev := (set [(F.netGmap_en,1,7),(F.netGmap_master,5,7),(F.netGmap_ports,1,7)]).dev; let n : Fin 8 := 7; let d := s.dev; let b := x.frame.payload; let mapped := fun (m : Nat) => d.rd F.netGmap_en m = 1 ∧ d.rd F.netGmap_master m = at8 b 0 ∧ bitOf (d.rd F.netGmap_ports m) x.port = true; let taken := fun (ty : Nat) => d.takeType ty = some (x, d1); 11 ≤ s.seq.released ∧ taken 1 ∧ d.right x.port 12 = 0 ∧ b.length = 52 ∧ (∀ m < 8, mapped m ↔ m = n)) ∧
    (let s : State := rx (evx 1 (5 :: List.replicate 51 0)); let x : RxFrame := evx 1 (5 :: List.replicate 51 0); let d1 : Dev := {}; let d := s.dev; let b := x.frame.payload; let mapped := fun (m : Nat) => d.rd F.netGmap_en m = 1 ∧ d.rd F.netGmap_master m = at8 b 0 ∧ bitOf (d.rd F.netGmap_ports m) x.port = true; let taken := fun (ty : Nat) => d.takeType ty = some (x, d1); 11 ≤ s.seq.released ∧ taken 1 ∧ d.right x.port 12 = 0 ∧ b.length = 52 ∧ (∀ m < 8, ¬ mapped m)) ∧
    (let s : State := rx (evx 1 []) {} [] noRight; let x : RxFrame := evx 1 []; let d1 : Dev := noRight; let d := s.dev; let taken := fun (ty : Nat) => d.takeType ty = some (x, d1); 11 ≤ s.seq.released ∧ taken 1 ∧ d.right x.port 12 ≠ 0) ∧
    (let s : State := rx (evx 6 [1,2]) {q24:=List.replicate 3 {port:=0,body:=[]}}; let x : RxFrame := evx 6 [1,2]; let d1 : Dev := {net:={q24:=List.replicate 3 {port:=0,body:=[]}}}; let d := s.dev; let taken := fun (ty : Nat) => d.takeType ty = some (x, d1); 11 ≤ s.seq.released ∧ taken 6 ∧ d.net.q24.length < 4) ∧
    (let s : State := rx (evx 6 [1,2]) {q24:=List.replicate 4 {port:=0,body:=[]}}; let x : RxFrame := evx 6 [1,2]; let d1 : Dev := {net:={q24:=List.replicate 4 {port:=0,body:=[]}}}; let d := s.dev; let taken := fun (ty : Nat) => d.takeType ty = some (x, d1); 11 ≤ s.seq.released ∧ taken 6 ∧ 4 ≤ d.net.q24.length) ∧
    (let s : State := rx (evx 7 [3,0,0,0,9,9,9,9,8,8,8,8,7,7,7,7]) {}; let x : RxFrame := evx 7 [3,0,0,0,9,9,9,9,8,8,8,8,7,7,7,7]; let d1 : Dev := {}; let d := s.dev; let taken := fun (ty : Nat) => d.takeType ty = some (x, d1); 11 ≤ s.seq.released ∧ taken 7 ∧ d.net.q25.length < 8) ∧
    (let s : State := rx (evx 7 []) {q25:=List.replicate 8 {group:=3,sec:=5,ns:=6,frac:=7}}; let x : RxFrame := evx 7 []; let d1 : Dev := {net:={q25:=List.replicate 8 {group:=3,sec:=5,ns:=6,frac:=7}}}; let d := s.dev; let taken := fun (ty : Nat) => d.takeType ty = some (x, d1); 11 ≤ s.seq.released ∧ taken 7 ∧ 8 ≤ d.net.q25.length) ∧
    (let s : State := set [(F.gthFrame_rxen,1,0),(F.gthFrame_group,3,0)] {net:={q25:=[{group:=3,sec:=5,ns:=6,frac:=7}]}}; let q : TrigIn := {group:=3,sec:=5,ns:=6,frac:=7}; let l : List TrigIn := []; let d := s.dev; 11 ≤ s.seq.released ∧ d.net.q25 = q :: l ∧ d.rd F.gthFrame_rxen = 1 ∧ q.group = d.rd F.gthFrame_group) ∧
    (let s : State := set [(F.gthFrame_group,3,0)] {net:={q25:=[{group:=3,sec:=5,ns:=6,frac:=7}]}}; let q : TrigIn := {group:=3,sec:=5,ns:=6,frac:=7}; let l : List TrigIn := []; let d := s.dev; 11 ≤ s.seq.released ∧ d.net.q25 = q :: l ∧ (d.rd F.gthFrame_rxen = 0 ∨ q.group ≠ d.rd F.gthFrame_group)) ∧
    (let s : State := sys {}; let d := s.dev; 11 ≤ s.seq.released ∧ d.net.q25 = []) ∧
    (let s : State := rx (evx 8 (1 :: List.replicate 11 0)) {}; let x : RxFrame := evx 8 (1 :: List.replicate 11 0); let d1 : Dev := {}; let d := s.dev; let b := x.frame.payload; let taken := fun (ty : Nat) => d.takeType ty = some (x, d1); let chunk := at8 b 0 = 1 ∧ at8 b 1 = 0 ∧ 12 ≤ b.length ∧ b.length ≤ 1448 ∧ b.length % 4 = 0; 11 ≤ s.seq.released ∧ taken 8 ∧ chunk ∧ d.right x.port 3 = 0 ∧ d.mgt.q31.length < 8 ∧ d.rd F.mgtState_core ≠ 1) ∧
    (let s : State := rx (evx 8 (1 :: List.replicate 11 0)) {} [] noRight; let x : RxFrame := evx 8 (1 :: List.replicate 11 0); let d1 : Dev := noRight; let d := s.dev; let b := x.frame.payload; let taken := fun (ty : Nat) => d.takeType ty = some (x, d1); let chunk := at8 b 0 = 1 ∧ at8 b 1 = 0 ∧ 12 ≤ b.length ∧ b.length ≤ 1448 ∧ b.length % 4 = 0; 11 ≤ s.seq.released ∧ taken 8 ∧ chunk ∧ d.right x.port 3 ≠ 0) ∧
    (let s : State := rx (evx 8 (1 :: List.replicate 11 0)) {} [(F.mgtState_core,1,0)]; let x : RxFrame := evx 8 (1 :: List.replicate 11 0); let d1 : Dev := (set [(F.mgtState_core,1,0)]).dev; let d := s.dev; let b := x.frame.payload; let taken := fun (ty : Nat) => d.takeType ty = some (x, d1); let chunk := at8 b 0 = 1 ∧ at8 b 1 = 0 ∧ 12 ≤ b.length ∧ b.length ≤ 1448 ∧ b.length % 4 = 0; 11 ≤ s.seq.released ∧ taken 8 ∧ chunk ∧ d.right x.port 3 = 0 ∧ (8 ≤ d.mgt.q31.length ∨ d.rd F.mgtState_core = 1)) ∧
    (let s : State := rx (evx 8 (1 :: List.replicate 12 0)) {}; let x : RxFrame := evx 8 (1 :: List.replicate 12 0); let d1 : Dev := {}; let d := s.dev; let b := x.frame.payload; let taken := fun (ty : Nat) => d.takeType ty = some (x, d1); let chunk := at8 b 0 = 1 ∧ at8 b 1 = 0 ∧ 12 ≤ b.length ∧ b.length ≤ 1448 ∧ b.length % 4 = 0; 11 ≤ s.seq.released ∧ taken 8 ∧ ¬ chunk) := by
  refine ⟨?_, ?_, ?_, ?_, ?_, ?_, ?_, ?_, ?_, ?_, ?_, ?_, ?_, ?_, ?_, ?_, ?_, ?_, ?_, ?_, ?_, ?_, ?_, ?_, ?_, ?_, ?_, ?_, ?_, ?_, ?_, ?_⟩ <;> decide +kernel

/-- SentFramesAndMessages. -/
theorem test_SentFramesAndMessages_witnesses :
    (let s : State := sys {net:={busy:=[(1,true)]}}; let p : Fin 2 := 1; let d := s.dev; 11 ≤ s.seq.released ∧ d.rd F.netPLink_up p = 0) ∧
    (let s : State := set [(F.netPLink_up,1,1)] {net:={busy:=[(1,true)]}}; let p : Fin 2 := 1; let d := s.dev; 11 ≤ s.seq.released ∧ d.rd F.netPLink_up p = 1 ∧ d.waitingAt p = [] ∧ d.gth.q30 = []) ∧
    (let s : State := set [(F.netPLink_up,1,1),(F.tbState_state,0,0)] {net:={egress:=[(1,[wt4 3])],busy:=[(1,true)]}}; let p : Fin 2 := 1; let d := s.dev; let good_ := d.tbGood (d.portTb p) = true; 11 ≤ s.seq.released ∧ d.rd F.netPLink_up p = 1 ∧ ¬ good_ ∧ (∀ y ∈ d.waitingAt p, y.cls = 3) ∧ d.gth.q30 = []) ∧
    (let s : State := set [(F.netPLink_up,1,1),(F.tbState_state,3,0)] {now:=9,net:={egress:=[(1,[wt4 6,wt4 4,wt4 4])],busy:=[(1,true)]}}; let p : Fin 2 := 1; let wt : Waiting := wt4 4; let a : List Waiting := [wt4 6]; let b : List Waiting := [wt4 4]; let d := s.dev; let good_ := d.tbGood (d.portTb p) = true; 11 ≤ s.seq.released ∧ d.rd F.netPLink_up p = 1 ∧ good_ ∧ d.waitingAt p = a ++ wt :: b ∧ (∀ y ∈ a, wt.cls < y.cls) ∧ (∀ y ∈ b, wt.cls ≤ y.cls)) ∧
    (let s : State := sys {net:={q21:=[rsp 1]}}; let p : Fin 2 := 1; let r : Rsp := rsp 1; let l : List Rsp := []; let d := s.dev; let single := d.rd F.netCtrl_mode ≠ 1; 11 ≤ s.seq.released ∧ d.net.q21 = r :: l ∧ r.port = p ∧ (∀ y ∈ l, y.port ≠ p) ∧ d.net.rspWait = [] ∧ 8 + 4 * r.data.length ≤ 1484 ∧ single) ∧
    (let s : State := sys {}; let p : Fin 2 := 1; let d := s.dev; 11 ≤ s.seq.released ∧ (∀ y ∈ d.net.q21, y.port ≠ p.val)) ∧
    (let s : State := set [(F.netStcfg_en,1,0),(F.netStcfg_ports,1,0),(F.netStper_period,250000,0),(F.tbState_state,3,0)]; let p : Fin 2 := 0; let d := s.dev; let good_ := d.tbGood (d.portTb p) = true; let st := d.slotNow 0; let due := 0 ≤ st ∧ ((d.tb (d.portTb 0)).val : Int) - 4 * (2 ^ 40 + d.rdI F.tbRate_rate (d.portTb 0)) < st * 2 ^ 40; 11 ≤ s.seq.released ∧ d.rd F.netStcfg_en = 1 ∧ d.rd F.netCtrl_mode = 0 ∧ p = 0 ∧ good_ ∧ due ∧ Tbl.find 0 d.net.snap = none ∧ Tbl.find 0 d.net.slot ≠ some st.toNat ∧ d.rd F.netStcfg_ports = 1 ∧ d.rd F.netStcfg_nlist = 0) ∧
    (let s : State := set [(F.netStcfg_en,1,0),(F.netStcfg_ports,1,0),(F.netStper_period,300000,0),(F.tbState_state,3,0)] {tim:=later}; let d := s.dev; let st := d.slotNow 0; let due := 0 ≤ st ∧ ((d.tb (d.portTb 0)).val : Int) - 4 * (2 ^ 40 + d.rdI F.tbRate_rate (d.portTb 0)) < st * 2 ^ 40; 11 ≤ s.seq.released ∧ d.rd F.netCtrl_mode ≠ 2 ∧ ¬ due) ∧
    (let s : State := sys {}; let d := s.dev; 11 ≤ s.seq.released ∧ d.rd F.netStcfg_en = 0) ∧
    (let s : State := sys {net:={q21:=[rsp 3]}}; let r : Rsp := rsp 3; let l : List Rsp := []; let d := s.dev; 2 ≤ s.seq.released ∧ d.net.q21 = r :: l ∧ r.port = 3 ∧ (∀ y ∈ l, y.port ≠ 3) ∧ d.net.rspWait = [] ∧ 8 + 4 * r.data.length ≤ 1484) ∧
    (let s : State := set [(F.netEvcfg_en,1,0),(F.netEvcfg_dest,3,0)] {net:={q22:=List.replicate 41 evrec}}; let d := s.dev; 2 ≤ s.seq.released ∧ d.net.q22 ≠ [] ∧ d.rd F.netEvcfg_en = 1 ∧ d.rd F.netEvcfg_dest = 3) ∧
    (let s : State := set [(F.netEvcfg_en,1,0),(F.netEvcfg_dest,1,0)] {net:={q22:=List.replicate 41 evrec}}; let p : Fin 2 := 1; let d := s.dev; let single := d.rd F.netCtrl_mode ≠ 1; 2 ≤ s.seq.released ∧ d.net.q22 ≠ [] ∧ d.rd F.netEvcfg_en = 1 ∧ d.rd F.netEvcfg_dest = p ∧ single) ∧
    (let s : State := sys {}; let d := s.dev; 2 ≤ s.seq.released ∧ (d.net.q22 = [] ∨ d.rd F.netEvcfg_en = 0 ∨ d.rd F.netEvcfg_dest = 2)) ∧
    (let s : State := sys {}; let w0 : BitVec 32 := 0x00400501; let d := s.dev; let tag := w0.toNat / 2 ^ 8 % 2 ^ 7; let count := w0.toNat / 2 ^ 16; let reads := w0.toNat % 256 = 1 ∧ bitOf w0.toNat 15 = false ∧ 1 ≤ count ∧ count ≤ 64 ∧ (∀ e ∈ d.net.inflight, e.1 ≠ tag); let room := fun (q : Nat) => (d.net.inflight.filter fun e => e.2 == q).length < d.quota q; 2 ≤ s.seq.released ∧ reads ∧ room 2) ∧
    (let s : State := sys {}; 2 ≤ s.seq.released) ∧
    (let s : State := sys {net:={q21:=[rsp 2]}}; let r : Rsp := rsp 2; let l : List Rsp := []; let len : Nat := 16; let d := s.dev; 2 ≤ s.seq.released ∧ d.net.q21 = r :: l ∧ r.port = 2 ∧ (∀ y ∈ l, y.port ≠ 2) ∧ d.net.rspWait = [] ∧ 8 + 4 * r.data.length ≤ len ∧ len < 65536 ∧ len % 4 = 0) ∧
    (let s : State := sys {net:={q21:=[rsp 2]}}; let r : Rsp := rsp 2; let l : List Rsp := []; let cut : Nat := 11; let d := s.dev; 2 ≤ s.seq.released ∧ d.net.q21 = r :: l ∧ r.port = 2 ∧ d.net.rspWait = [] ∧ cut < 8 + 4 * r.data.length) ∧
    (let s : State := set [(F.netEvcfg_dest,2,0)] {net:={q22:=[evrec,evrec]}}; let cut : Nat := 31; 2 ≤ s.seq.released ∧ cut < 32) ∧
    (let s : State := set [(F.netEvcfg_dest,2,0)] {net:={q22:=[evrec]}}; let len : Nat := 32; let d := s.dev; 2 ≤ s.seq.released ∧ d.rd F.netEvcfg_dest = 2 ∧ len = 32 * d.net.q22.length ∧ len < 65536) ∧
    (let s : State := sys {}; let raw : List (BitVec 8) := [5]; let bytes := slipBytes (raw.map BitVec.toNat); let n := bytes.length - 4; let good := 8 ≤ bytes.length ∧ crc32.over_ (bytes.take n) = ofBytes (bytes.drop n); 2 ≤ s.seq.released ∧ ¬ good) ∧
    (let s : State := sys {}; let raw : List (BitVec 8) := ([2,0,0,0] ++ (bytesOf 4 (crc32.over_ [2,0,0,0])).map (BitVec.ofNat 8)); let bytes := slipBytes (raw.map BitVec.toNat); let n := bytes.length - 4; let good := 8 ≤ bytes.length ∧ crc32.over_ (bytes.take n) = ofBytes (bytes.drop n); 2 ≤ s.seq.released ∧ good ∧ at8 bytes 0 ≠ 1) ∧
    (let s : State := sys {}; let raw : List (BitVec 8) := [1,0,8,0,1,6,0x40,0,0,8,0xC,0] ++ ((bytesOf 4 (crc32.over_ [1,0,8,0,1,6,0x40,0,0,8,0xC,0])).map (BitVec.ofNat 8)); let w0 : BitVec 32 := 0x00400601; let addr : BitVec 32 := 0xC0800; let d := s.dev; let tag := w0.toNat / 2 ^ 8 % 2 ^ 7; let count := w0.toNat / 2 ^ 16; let reads := w0.toNat % 256 = 1 ∧ bitOf w0.toNat 15 = false ∧ 1 ≤ count ∧ count ≤ 64 ∧ (∀ e ∈ d.net.inflight, e.1 ≠ tag); let room := fun (q : Nat) => (d.net.inflight.filter fun e => e.2 == q).length < d.quota q; let bytes := slipBytes (raw.map BitVec.toNat); let n := bytes.length - 4; let good := 8 ≤ bytes.length ∧ crc32.over_ (bytes.take n) = ofBytes (bytes.drop n); 2 ≤ s.seq.released ∧ good ∧ at8 bytes 0 = 1 ∧ bytes.take 4 = [1, 0, 8, 0] ∧ n = 12 ∧ wordsOf (bytes.drop 4) 2 = [w0.toNat, addr.toNat] ∧ reads ∧ room 3) := by
  refine ⟨?_, ?_, ?_, ?_, ?_, ?_, ?_, ?_, ?_, ?_, ?_, ?_, ?_, ?_, ?_, ?_, ?_, ?_, ?_, ?_, ?_, ?_⟩ <;> decide +kernel

/-- CanTransmission. -/
theorem test_CanTransmission_witnesses :
    (let s : State := sys {}; let w : Who := w3; let d := s.dev; let ctrl := F.canCtrl_en.addr 0 0; let on := d.rd F.canCtrl_en = 1; let fields := d.rd F.canCtrl_mode ≤ 2 ∧ 1 ≤ d.rd F.canCtrl_wfilt ∧ 129 ≤ d.rd F.canCtrl_elim; s.GrantsPart w ctrl ∧ fields ∧ ¬ on ∧ d.canTimingBad = false) ∧
    (let s : State := set [(F.canNbt_brp,1,0),(F.canNbt_tseg1,62,0)]; let w : Who := w3; let d := s.dev; let ctrl := F.canCtrl_en.addr 0 0; let fields := d.rd F.canCtrl_mode ≤ 2 ∧ 1 ≤ d.rd F.canCtrl_wfilt ∧ 129 ≤ d.rd F.canCtrl_elim; s.GrantsPart w ctrl ∧ fields ∧ d.canTimingBad = true) ∧
    (let s : State := canOn; let w : Who := w3; let d := s.dev; let ctrl := F.canCtrl_en.addr 0 0; let on := d.rd F.canCtrl_en = 1; let fields := d.rd F.canCtrl_mode ≤ 2 ∧ 1 ≤ d.rd F.canCtrl_wfilt ∧ 129 ≤ d.rd F.canCtrl_elim; let pend := d.rd F.canTxpend_pend; s.GrantsPart w ctrl ∧ fields ∧ on ∧ pend = 0 ∧ d.can.q20 = []) ∧
    (let s : State := canOn {} [(F.canTxpend_pend,4,0)]; let w : Who := w3; let d := s.dev; let ctrl := F.canCtrl_en.addr 0 0; let fields := d.rd F.canCtrl_mode ≤ 2 ∧ 1 ≤ d.rd F.canCtrl_wfilt ∧ 129 ≤ d.rd F.canCtrl_elim; let pend := d.rd F.canTxpend_pend; s.GrantsPart w ctrl ∧ fields ∧ (pend ≠ 0 ∨ d.can.q20 ≠ [])) ∧
    (let s : State := canOn; let w : Who := w3; let mask : BitVec 16 := 0x8001; let d := s.dev; let req := F.canTxreq_req.addr 0 0; let on := d.rd F.canCtrl_en = 1; let m := mask.toNat; let tec := d.rd F.canErr_tec; let bad := ∃ k < 16, bitOf m k = true ∧ canCtlBad (d.cellWord R.txoCtl k) = true; s.Grants w req ∧ ¬ bad ∧ on ∧ tec ≤ 255) ∧
    (let s : State := canOn {} [(F.txoCtl_brs,1,15)]; let w : Who := w3; let mask : BitVec 16 := 0x8000; let d := s.dev; let req := F.canTxreq_req.addr 0 0; let m := mask.toNat; let bad := ∃ k < 16, bitOf m k = true ∧ canCtlBad (d.cellWord R.txoCtl k) = true; s.Grants w req ∧ bad) ∧
    (let s : State := sys {}; let w : Who := w3; let mask : BitVec 16 := 3; let d := s.dev; let req := F.canTxreq_req.addr 0 0; let on := d.rd F.canCtrl_en = 1; let m := mask.toNat; let tec := d.rd F.canErr_tec; let bad := ∃ k < 16, bitOf m k = true ∧ canCtlBad (d.cellWord R.txoCtl k) = true; s.Grants w req ∧ ¬ bad ∧ (¬ on ∨ 255 < tec)) ∧
    (let s : State := canOn {} [(F.canTxpend_pend,7,0)]; let w : Who := w3; let d := s.dev; let abt := F.canTxabort_abort.addr 0 0; s.Grants w abt ∧ d.can.tx = none) ∧
    (let s : State := canOn {tx:=some tx3} [(F.canTxpend_pend,9,0)]; let w : Who := w3; let mask : BitVec 16 := 8; let o : Fin 16 := 3; let tx : CanTx := tx3; let d := s.dev; let abt := F.canTxabort_abort.addr 0 0; let m := mask.toNat; s.Grants w abt ∧ d.can.tx = some tx ∧ tx.obj = o ∧ bitOf m o = true) ∧
    (let s : State := canOn {q20:=[qent 7]}; let e : QEnt := qent 7; let l : List QEnt := []; let d := s.dev; let pend := d.rd F.canTxpend_pend; let word := fun (k : Nat) => e.words.getD k 0; let obj := word 0 % 16; 10 ≤ s.seq.released ∧ d.can.q20 = e :: l ∧ bitOf pend obj = false) ∧
    (let s : State := canOn {q20:=[qent 7]} [(F.canTxpend_pend,128,0)]; let e : QEnt := qent 7; let l : List QEnt := []; let d := s.dev; let pend := d.rd F.canTxpend_pend; let word := fun (k : Nat) => e.words.getD k 0; let obj := word 0 % 16; 10 ≤ s.seq.released ∧ d.can.q20 = e :: l ∧ bitOf pend obj = true) ∧
    (let s : State := canOn; let d := s.dev; 10 ≤ s.seq.released ∧ d.can.q20 = []) ∧
    (let s : State := canOn {} [(F.canTxpend_pend,0x18,0),(F.txoId_id,5,3),(F.txoId_id,6,4)]; let o : Fin 16 := 3; let d := s.dev; let on := d.rd F.canCtrl_en = 1; let pend := d.rd F.canTxpend_pend; let tec := d.rd F.canErr_tec; let live := on ∧ d.can.ready = true ∧ tec ≤ 255; let suspended := d.rd F.canErr_estate = 1 ∧ (d.can.own = true ∨ d.now < d.can.till); 10 ≤ s.seq.released ∧ live ∧ d.can.tx = none ∧ d.can.mode = 2 ∧ ¬ suspended ∧ bitOf pend o = true ∧ (∀ k < 16, bitOf pend k = true → k ≠ o → d.canKey o < d.canKey k)) ∧
    (let s : State := canOn; let d := s.dev; let on := d.rd F.canCtrl_en = 1; let pend := d.rd F.canTxpend_pend; let tec := d.rd F.canErr_tec; let live := on ∧ d.can.ready = true ∧ tec ≤ 255; let suspended := d.rd F.canErr_estate = 1 ∧ (d.can.own = true ∨ d.now < d.can.till); 10 ≤ s.seq.released ∧ live ∧ d.can.tx = none ∧ (pend = 0 ∨ d.can.mode ≠ 2 ∨ suspended)) ∧
    (let s : State := canOn {tx:=some tx3} [(F.canTxpend_pend,9,0)]; let d := s.dev; let on := d.rd F.canCtrl_en = 1; let tec := d.rd F.canErr_tec; let live := on ∧ d.can.ready = true ∧ tec ≤ 255; 10 ≤ s.seq.released ∧ (¬ live ∨ d.can.tx ≠ none)) ∧
    (let s : State := canOn {tx:=some tx3} [(F.canTxpend_pend,9,0)]; let o : Fin 16 := 3; let tx : CanTx := tx3; let d := s.dev; 10 ≤ s.seq.released ∧ d.can.tx = some tx ∧ tx.obj = o) ∧
    (let s : State := canOn; let d := s.dev; 10 ≤ s.seq.released ∧ d.can.tx = none) := by
  refine ⟨?_, ?_, ?_, ?_, ?_, ?_, ?_, ?_, ?_, ?_, ?_, ?_, ?_, ?_, ?_, ?_, ?_⟩ <;> decide +kernel

/-- CanReceptionAndStates. -/
theorem test_CanReceptionAndStates_witnesses :
    (let s : State := rx5 [] {sof:=some (7,8)}; let f0 : CanFrame := fr5; let esi : Bool := true; let so : Nat × Nat := (7,8); let k : Fin 64 := 63; let j : Nat := 0; let d := s.dev; let f : CanFrame  := { f0 with esi := esi }; let on := d.rd F.canCtrl_en = 1; let TEC := d.rd F.canErr_tec; let live := on ∧ d.can.ready = true ∧ TEC ≤ 255; let hits := fun (k : Nat) => d.rd F.rxoId_en k = 1 ∧ d.rd F.rxoId_id k = f.id ∧ (d.rd F.rxoId_ide k = 1 ↔ f.ide = true); let free := d.rd F.rxoCtl_locked k = 0; 10 ≤ s.seq.released ∧ live ∧ d.can.mode ≠ 1 ∧ d.can.tx = none ∧ d.can.sof = some so ∧ hits k ∧ (∀ j < k.val, ¬ hits j) ∧ free) ∧
    (let s : State := rx5 [(F.rxoCtl_new,1,63)] {sof:=some (7,8)}; let f0 : CanFrame := fr5; let esi : Bool := true; let so : Nat × Nat := (7,8); let k : Fin 64 := 63; let j : Nat := 0; let d := s.dev; let f : CanFrame  := { f0 with esi := esi }; let on := d.rd F.canCtrl_en = 1; let TEC := d.rd F.canErr_tec; let live := on ∧ d.can.ready = true ∧ TEC ≤ 255; let hits := fun (k : Nat) => d.rd F.rxoId_en k = 1 ∧ d.rd F.rxoId_id k = f.id ∧ (d.rd F.rxoId_ide k = 1 ↔ f.ide = true); let free := d.rd F.rxoCtl_locked k = 0; 10 ≤ s.seq.released ∧ live ∧ d.can.mode ≠ 1 ∧ d.can.tx = none ∧ d.can.sof = some so ∧ hits k ∧ (∀ j < k.val, ¬ hits j) ∧ free) ∧
    (let s : State := rx5 [(F.rxoCtl_locked,1,63)] {sof:=some (7,8)}; let f0 : CanFrame := fr5; let esi : Bool := true; let so : Nat × Nat := (7,8); let k : Fin 64 := 63; let j : Nat := 0; let d := s.dev; let f : CanFrame  := { f0 with esi := esi }; let on := d.rd F.canCtrl_en = 1; let TEC := d.rd F.canErr_tec; let live := on ∧ d.can.ready = true ∧ TEC ≤ 255; let hits := fun (k : Nat) => d.rd F.rxoId_en k = 1 ∧ d.rd F.rxoId_id k = f.id ∧ (d.rd F.rxoId_ide k = 1 ↔ f.ide = true); let free := d.rd F.rxoCtl_locked k = 0; 10 ≤ s.seq.released ∧ live ∧ d.can.mode ≠ 1 ∧ d.can.tx = none ∧ d.can.sof = some so ∧ hits k ∧ (∀ j < k.val, ¬ hits j) ∧ ¬ free) ∧
    (let s : State := rx5 [(F.rxoCtl_locked,1,63)] {sof:=some (7,8),shadow:=[(63,{f:=fr5,sec:=1,ns:=2,lost:=false})]}; let f0 : CanFrame := fr5; let esi : Bool := true; let so : Nat × Nat := (7,8); let k : Fin 64 := 63; let j : Nat := 0; let d := s.dev; let f : CanFrame  := { f0 with esi := esi }; let on := d.rd F.canCtrl_en = 1; let TEC := d.rd F.canErr_tec; let live := on ∧ d.can.ready = true ∧ TEC ≤ 255; let hits := fun (k : Nat) => d.rd F.rxoId_en k = 1 ∧ d.rd F.rxoId_id k = f.id ∧ (d.rd F.rxoId_ide k = 1 ↔ f.ide = true); let free := d.rd F.rxoCtl_locked k = 0; 10 ≤ s.seq.released ∧ live ∧ d.can.mode ≠ 1 ∧ d.can.tx = none ∧ d.can.sof = some so ∧ hits k ∧ (∀ j < k.val, ¬ hits j) ∧ ¬ free) ∧
    (let s : State := canOn {sof:=some (7,8)}; let f0 : CanFrame := fr5; let esi : Bool := true; let so : Nat × Nat := (7,8); let k : Fin 64 := 0; let j : Nat := 0; let d := s.dev; let f : CanFrame  := { f0 with esi := esi }; let on := d.rd F.canCtrl_en = 1; let TEC := d.rd F.canErr_tec; let live := on ∧ d.can.ready = true ∧ TEC ≤ 255; let hits := fun (k : Nat) => d.rd F.rxoId_en k = 1 ∧ d.rd F.rxoId_id k = f.id ∧ (d.rd F.rxoId_ide k = 1 ↔ f.ide = true); 10 ≤ s.seq.released ∧ live ∧ d.can.mode ≠ 1 ∧ d.can.tx = none ∧ d.can.sof = some so ∧ (∀ j < 64, ¬ hits j)) ∧
    (let s : State := rx5 [(F.canErr_rec,127,0)] {sof:=some (7,8)}; let so : Nat × Nat := (7,8); let d := s.dev; let on := d.rd F.canCtrl_en = 1; let TEC := d.rd F.canErr_tec; let REC := d.rd F.canErr_rec; let live := on ∧ d.can.ready = true ∧ TEC ≤ 255; 10 ≤ s.seq.released ∧ live ∧ d.can.mode ≠ 1 ∧ d.can.tx = none ∧ d.can.sof = some so ∧ d.can.mode = 2 ∧ REC ≤ 127) ∧
    (let s : State := rx5 [(F.canErr_rec,0,0)] {sof:=some (7,8)}; let so : Nat × Nat := (7,8); let d := s.dev; let on := d.rd F.canCtrl_en = 1; let TEC := d.rd F.canErr_tec; let REC := d.rd F.canErr_rec; let live := on ∧ d.can.ready = true ∧ TEC ≤ 255; 10 ≤ s.seq.released ∧ live ∧ d.can.mode ≠ 1 ∧ d.can.tx = none ∧ d.can.sof = some so ∧ d.can.mode = 2 ∧ REC ≤ 127) ∧
    (let s : State := sys {}; let d := s.dev; let on := d.rd F.canCtrl_en = 1; 10 ≤ s.seq.released ∧ (¬ on ∨ d.can.mode = 1 ∨ d.can.sof = none)) ∧
    (let s : State := rx5; let d := s.dev; let on := d.rd F.canCtrl_en = 1; 10 ≤ s.seq.released ∧ (¬ on ∨ d.can.mode = 1 ∨ d.can.sof = none)) ∧
    (let s : State := canOn {lockAt:=[(63,7)]} [(F.rxoCtl_locked,1,63)] |> fun s => s.put {s.dev with now:=7+10^9}; let k : Fin 64 := 63; let t0 : Nat := 7; let d := s.dev; 10 ≤ s.seq.released ∧ Tbl.find k.val d.can.lockAt = some t0 ∧ t0 + 10 ^ 9 ≤ d.now ∧ Tbl.find k.val d.can.shadow = none) ∧
    (let s : State := canOn {lockAt:=[(63,7)]} [(F.rxoCtl_locked,1,63)] |> fun s => s.put {s.dev with now:=6+10^9}; let k : Fin 64 := 63; let t0 : Nat := 7; let d := s.dev; 10 ≤ s.seq.released ∧ Tbl.find k.val d.can.lockAt = some t0 ∧ d.now < t0 + 10 ^ 9) ∧
    (let s : State := canOn; let k : Fin 64 := 63; let d := s.dev; 10 ≤ s.seq.released ∧ Tbl.find k.val d.can.lockAt = none) ∧
    (let s : State := set [(F.canCtrl_en,1,0)] {can:={mode:=1}}; let m : Fin 4 := 0; let len : Nat := 10; let d := s.dev; let on := d.rd F.canCtrl_en = 1; let clock := d.now / 12500; let lowest := fun (m : Nat) => ∀ e ∈ d.can.asked, e.1 = clock → m ≤ e.2; 10 ≤ s.seq.released ∧ on ∧ d.can.mode = 1 ∧ d.rd F.canCtrl_wake = 0 ∧ d.rd F.canCtrl_wfilt ≤ len ∧ lowest 2) ∧
    (let s : State := set [(F.canCtrl_en,1,0)] {can:={mode:=1,asked:=some (0,2)}}; let m : Fin 4 := 0; let len : Nat := 10; let d := s.dev; let on := d.rd F.canCtrl_en = 1; let clock := d.now / 12500; let lowest := fun (m : Nat) => ∀ e ∈ d.can.asked, e.1 = clock → m ≤ e.2; 10 ≤ s.seq.released ∧ on ∧ d.can.mode = 1 ∧ d.rd F.canCtrl_wake = 0 ∧ d.rd F.canCtrl_wfilt ≤ len ∧ lowest 2) ∧
    (let s : State := set [(F.canCtrl_en,1,0)] {now:=12500,can:={mode:=1,asked:=some (0,0)}}; let m : Fin 4 := 0; let len : Nat := 10; let d := s.dev; let on := d.rd F.canCtrl_en = 1; let clock := d.now / 12500; let lowest := fun (m : Nat) => ∀ e ∈ d.can.asked, e.1 = clock → m ≤ e.2; 10 ≤ s.seq.released ∧ on ∧ d.can.mode = 1 ∧ d.rd F.canCtrl_wake = 0 ∧ d.rd F.canCtrl_wfilt ≤ len ∧ lowest 2) ∧
    (let s : State := set [(F.canCtrl_en,1,0)] {now:=12499,can:={mode:=1,asked:=some (0,1)}}; let j : Nat := 1; let d := s.dev; let on := d.rd F.canCtrl_en = 1; let clock := d.now / 12500; 10 ≤ s.seq.released ∧ on ∧ d.can.mode = 1 ∧ d.can.asked = some (clock, j) ∧ j < 2) ∧
    (let s : State := set [(F.canCtrl_en,1,0)] {can:={mode:=1}}; let len : Nat := 9; let d := s.dev; 10 ≤ s.seq.released ∧ d.rd F.canCtrl_wake = 0 ∧ len < d.rd F.canCtrl_wfilt) ∧
    (let s : State := set [(F.canCtrl_en,1,0),(F.canCtrl_wake,1,0),(F.canWakeid_id,4,0),(F.canWakemask_mask,2,0)] {can:={mode:=1,ready:=true,sof:=some (7,8)}}; let f0 : CanFrame := fr5; let esi : Bool := true; let so : Nat × Nat := (7,8); let m : Fin 4 := 0; let d := s.dev; let f : CanFrame  := { f0 with esi := esi }; let on := d.rd F.canCtrl_en = 1; let clock := d.now / 12500; let lowest := fun (m : Nat) => ∀ e ∈ d.can.asked, e.1 = clock → m ≤ e.2; 10 ≤ s.seq.released ∧ on ∧ d.can.mode = 1 ∧ d.can.ready = true ∧ d.can.sof = some so ∧ lowest 2 ∧ d.rd F.canCtrl_wake = 1 ∧ f.ide = d.flag F.canWakeid_ide ∧ (f.id ^^^ d.rd F.canWakeid_id) &&& d.rd F.canWakemask_mask = 0) ∧
    (let s : State := sys {}; let d := s.dev; let on := d.rd F.canCtrl_en = 1; 10 ≤ s.seq.released ∧ (¬ on ∨ d.can.mode ≠ 1)) ∧
    (let s : State := canOn; let d := s.dev; let on := d.rd F.canCtrl_en = 1; 10 ≤ s.seq.released ∧ (¬ on ∨ d.can.mode ≠ 1)) ∧
    (let s : State := canOn {} [(F.canErr_tec,256,0)]; let d := s.dev; let TEC := d.rd F.canErr_tec; 10 ≤ s.seq.released ∧ 255 < TEC ∧ d.rd F.canErr_estate ≠ 2) ∧
    (let s : State := canOn {} [(F.canErr_tec,255,0)]; let d := s.dev; let TEC := d.rd F.canErr_tec; let REC := d.rd F.canErr_rec; 10 ≤ s.seq.released ∧ TEC ≤ 255 ∧ (127 < TEC ∨ 127 < REC)) ∧
    (let s : State := canOn {} [(F.canErr_rec,128,0)]; let d := s.dev; let TEC := d.rd F.canErr_tec; let REC := d.rd F.canErr_rec; 10 ≤ s.seq.released ∧ TEC ≤ 255 ∧ (127 < TEC ∨ 127 < REC)) ∧
    (let s : State := canOn {} [(F.canErr_rec,127,0),(F.canErr_estate,1,0)]; let d := s.dev; let TEC := d.rd F.canErr_tec; let REC := d.rd F.canErr_rec; 10 ≤ s.seq.released ∧ TEC ≤ 127 ∧ REC ≤ 127) ∧
    (let s : State := canOn {} [(F.canErr_tec,256,0),(F.canCnt_recov,127,0)]; let d := s.dev; let on := d.rd F.canCtrl_en = 1; let TEC := d.rd F.canErr_tec; 10 ≤ s.seq.released ∧ on ∧ 255 < TEC ∧ d.rd F.canCnt_recov = 127) ∧
    (let s : State := canOn {} [(F.canErr_tec,256,0),(F.canCnt_recov,126,0)]; let d := s.dev; let on := d.rd F.canCtrl_en = 1; let TEC := d.rd F.canErr_tec; 10 ≤ s.seq.released ∧ (¬ on ∨ TEC ≤ 255 ∨ d.rd F.canCnt_recov ≠ 127)) ∧
    (let s : State := canOn {} [(F.canErr_tec,255,0),(F.canCnt_recov,127,0)]; let d := s.dev; let on := d.rd F.canCtrl_en = 1; let TEC := d.rd F.canErr_tec; 10 ≤ s.seq.released ∧ (¬ on ∨ TEC ≤ 255 ∨ d.rd F.canCnt_recov ≠ 127)) ∧
    (let s : State := canOn; let failed : Bool := true; let d := s.dev; let on := d.rd F.canCtrl_en = 1; let TEC := d.rd F.canErr_tec; let live := on ∧ d.can.ready = true ∧ TEC ≤ 255; 10 ≤ s.seq.released ∧ live ∧ d.can.mode = 2 ∧ (failed = false ∨ d.can.tx = none)) ∧
    (let s : State := canOn {tx:=some tx3} [(F.canErr_rec,127,0),(F.canErr_tec,255,0),(F.canErr_estate,1,0)]; let failed : Bool := false; let d := s.dev; let on := d.rd F.canCtrl_en = 1; let TEC := d.rd F.canErr_tec; let live := on ∧ d.can.ready = true ∧ TEC ≤ 255; 10 ≤ s.seq.released ∧ live ∧ d.can.mode = 2 ∧ (failed = false ∨ d.can.tx = none)) ∧
    (let s : State := canOn {tx:=some tx3} [(F.canTxpend_pend,9,0),(F.txoId_id,5,3),(F.txoId_id,6,0),(F.canErr_tec,121,0)]; let x : CanTx := tx3; let j : Nat := 0; let d := s.dev; let on := d.rd F.canCtrl_en = 1; let TEC := d.rd F.canErr_tec; let live := on ∧ d.can.ready = true ∧ TEC ≤ 255; let pend := d.rd F.canTxpend_pend; 10 ≤ s.seq.released ∧ live ∧ d.can.mode = 2 ∧ d.can.tx = some x ∧ d.can.abort = false ∧ x.obj < 16 ∧ bitOf pend x.obj = true ∧ (∀ j < 16, bitOf pend j = true → j ≠ x.obj → d.canKey x.obj < d.canKey j)) ∧
    (let s : State := canOn {tx:=some tx3} [(F.canTxpend_pend,9,0),(F.txoId_id,5,3),(F.txoId_id,6,0),(F.canErr_tec,120,0)]; let x : CanTx := tx3; let j : Nat := 0; let d := s.dev; let on := d.rd F.canCtrl_en = 1; let TEC := d.rd F.canErr_tec; let live := on ∧ d.can.ready = true ∧ TEC ≤ 255; let pend := d.rd F.canTxpend_pend; 10 ≤ s.seq.released ∧ live ∧ d.can.mode = 2 ∧ d.can.tx = some x ∧ d.can.abort = false ∧ x.obj < 16 ∧ bitOf pend x.obj = true ∧ (∀ j < 16, bitOf pend j = true → j ≠ x.obj → d.canKey x.obj < d.canKey j)) ∧
    (let s : State := canOn {tx:=some tx3} [(F.canTxpend_pend,9,0),(F.txoId_id,5,3),(F.txoId_id,6,0),(F.canErr_tec,250,0)]; let x : CanTx := tx3; let j : Nat := 0; let d := s.dev; let on := d.rd F.canCtrl_en = 1; let TEC := d.rd F.canErr_tec; let live := on ∧ d.can.ready = true ∧ TEC ≤ 255; let pend := d.rd F.canTxpend_pend; 10 ≤ s.seq.released ∧ live ∧ d.can.mode = 2 ∧ d.can.tx = some x ∧ d.can.abort = false ∧ x.obj < 16 ∧ bitOf pend x.obj = true ∧ (∀ j < 16, bitOf pend j = true → j ≠ x.obj → d.canKey x.obj < d.canKey j)) ∧
    (let s : State := canOn {tx:=some tx3} [(F.canTxpend_pend,9,0),(F.txoId_id,7,3),(F.txoId_id,6,0),(F.canErr_tec,140,0)]; let x : CanTx := tx3; let j : Nat := 0; let d := s.dev; let on := d.rd F.canCtrl_en = 1; let TEC := d.rd F.canErr_tec; let live := on ∧ d.can.ready = true ∧ TEC ≤ 255; let pend := d.rd F.canTxpend_pend; 10 ≤ s.seq.released ∧ live ∧ d.can.mode = 2 ∧ d.can.tx = some x ∧ d.can.abort = false ∧ x.obj < 16 ∧ bitOf pend x.obj = true ∧ j < 16 ∧ bitOf pend j = true ∧ d.canKey j < d.canKey x.obj) ∧
    (let s : State := sys {}; let d := s.dev; let on := d.rd F.canCtrl_en = 1; let TEC := d.rd F.canErr_tec; let live := on ∧ d.can.ready = true ∧ TEC ≤ 255; 10 ≤ s.seq.released ∧ (¬ live ∨ d.can.mode ≠ 2)) ∧
    (let s : State := sys {}; let d := s.dev; let on := d.rd F.canCtrl_en = 1; 10 ≤ s.seq.released ∧ ¬ on) ∧
    (let s : State := canOn {} [(F.canErr_tec,256,0),(F.canCnt_recov,127,0)]; let d := s.dev; let on := d.rd F.canCtrl_en = 1; let TEC := d.rd F.canErr_tec; 10 ≤ s.seq.released ∧ on ∧ 255 < TEC) ∧
    (let s : State := set [(F.canCtrl_en,1,0)]; let d := s.dev; let on := d.rd F.canCtrl_en = 1; let TEC := d.rd F.canErr_tec; 10 ≤ s.seq.released ∧ on ∧ TEC ≤ 255 ∧ d.can.tx = none) ∧
    (let s : State := set [(F.canCtrl_en,1,0)] {now:=100,can:={own:=true,sof:=some (1,2)}}; let d := s.dev; let on := d.rd F.canCtrl_en = 1; let TEC := d.rd F.canErr_tec; 10 ≤ s.seq.released ∧ on ∧ TEC ≤ 255 ∧ d.can.tx = none) ∧
    (let s : State := canOn; let w : Who := w3; let k : Fin 64 := 63; let d := s.dev; let free := d.rd F.rxoCtl_locked k = 0; let word0 := 0x71000 + 0x80 * k.val; s.GrantsRead w word0 ∧ free) ∧
    (let s : State := canOn {} [(F.rxoCtl_locked,1,63)]; let w : Who := w3; let k : Fin 64 := 63; let d := s.dev; let free := d.rd F.rxoCtl_locked k = 0; let word0 := 0x71000 + 0x80 * k.val; s.GrantsRead w word0 ∧ ¬ free) ∧
    (let s : State := canOn {lockAt:=[(63,7)]} [(F.rxoCtl_locked,1,63),(F.rxoCtl_new,1,63)]; let w : Who := w3; let k : Fin 64 := 63; let d := s.dev; let free := d.rd F.rxoCtl_locked k = 0; let word0 := 0x71000 + 0x80 * k.val; let last := word0 + 4 * d.rxoLast k; s.GrantsRead w last ∧ ¬ free ∧ Tbl.find k.val d.can.shadow = none) ∧
    (let s : State := canOn {lockAt:=[(63,7)],shadow:=[(63,{f:=fr5,sec:=1,ns:=2,lost:=true})]} [(F.rxoCtl_locked,1,63),(F.rxoCtl_new,1,63)]; let w : Who := w3; let k : Fin 64 := 63; let r : CanRx := {f:=fr5,sec:=1,ns:=2,lost:=true}; let d := s.dev; let free := d.rd F.rxoCtl_locked k = 0; let word0 := 0x71000 + 0x80 * k.val; let last := word0 + 4 * d.rxoLast k; s.GrantsRead w last ∧ ¬ free ∧ Tbl.find k.val d.can.shadow = some r) ∧
    (let s : State := canOn {idle:=true}; let w : Who := w3; let m : Fin 4 := 1; let d := s.dev; let on := d.rd F.canCtrl_en = 1; let TEC := d.rd F.canErr_tec; let ctrl := F.canCtrl_mode.addr 0 0; let legal := 1 ≤ d.rd F.canCtrl_wfilt ∧ 129 ≤ d.rd F.canCtrl_elim ∧ (on → d.canTimingBad = false) ∧ (¬ on → d.rd F.canTxpend_pend = 0 ∧ d.can.q20 = []); let clock := d.now / 12500; let lowest := fun (m : Nat) => ∀ e ∈ d.can.asked, e.1 = clock → m ≤ e.2; s.GrantsPart w ctrl ∧ legal ∧ m.val ≤ 2 ∧ (¬ on ∨ TEC ≤ 255) ∧ lowest m) ∧
    (let s : State := canOn; let w : Who := w3; let m : Fin 4 := 1; let d := s.dev; let on := d.rd F.canCtrl_en = 1; let TEC := d.rd F.canErr_tec; let ctrl := F.canCtrl_mode.addr 0 0; let legal := 1 ≤ d.rd F.canCtrl_wfilt ∧ 129 ≤ d.rd F.canCtrl_elim ∧ (on → d.canTimingBad = false) ∧ (¬ on → d.rd F.canTxpend_pend = 0 ∧ d.can.q20 = []); let clock := d.now / 12500; let lowest := fun (m : Nat) => ∀ e ∈ d.can.asked, e.1 = clock → m ≤ e.2; s.GrantsPart w ctrl ∧ legal ∧ m.val ≤ 2 ∧ (¬ on ∨ TEC ≤ 255) ∧ lowest m) ∧
    (let s : State := sys {}; let w : Who := w3; let m : Fin 4 := 2; let d := s.dev; let on := d.rd F.canCtrl_en = 1; let TEC := d.rd F.canErr_tec; let ctrl := F.canCtrl_mode.addr 0 0; let legal := 1 ≤ d.rd F.canCtrl_wfilt ∧ 129 ≤ d.rd F.canCtrl_elim ∧ (on → d.canTimingBad = false) ∧ (¬ on → d.rd F.canTxpend_pend = 0 ∧ d.can.q20 = []); let clock := d.now / 12500; let lowest := fun (m : Nat) => ∀ e ∈ d.can.asked, e.1 = clock → m ≤ e.2; s.GrantsPart w ctrl ∧ legal ∧ m.val ≤ 2 ∧ (¬ on ∨ TEC ≤ 255) ∧ lowest m) ∧
    (let s : State := canOn {ready:=false,idle:=false,asked:=some (0,2)}; let w : Who := w3; let m : Fin 4 := 0; let d := s.dev; let on := d.rd F.canCtrl_en = 1; let TEC := d.rd F.canErr_tec; let ctrl := F.canCtrl_mode.addr 0 0; let legal := 1 ≤ d.rd F.canCtrl_wfilt ∧ 129 ≤ d.rd F.canCtrl_elim ∧ (on → d.canTimingBad = false) ∧ (¬ on → d.rd F.canTxpend_pend = 0 ∧ d.can.q20 = []); let clock := d.now / 12500; let lowest := fun (m : Nat) => ∀ e ∈ d.can.asked, e.1 = clock → m ≤ e.2; s.GrantsPart w ctrl ∧ legal ∧ m.val ≤ 2 ∧ (¬ on ∨ TEC ≤ 255) ∧ lowest m) ∧
    (let s : State := canOn {asked:=some (0,2)}; let w : Who := w3; let m : Fin 4 := 2; let d := s.dev; let on := d.rd F.canCtrl_en = 1; let TEC := d.rd F.canErr_tec; let ctrl := F.canCtrl_mode.addr 0 0; let legal := 1 ≤ d.rd F.canCtrl_wfilt ∧ 129 ≤ d.rd F.canCtrl_elim ∧ (on → d.canTimingBad = false) ∧ (¬ on → d.rd F.canTxpend_pend = 0 ∧ d.can.q20 = []); let clock := d.now / 12500; let lowest := fun (m : Nat) => ∀ e ∈ d.can.asked, e.1 = clock → m ≤ e.2; s.GrantsPart w ctrl ∧ legal ∧ m.val ≤ 2 ∧ (¬ on ∨ TEC ≤ 255) ∧ lowest m) ∧
    (let s : State := canOn; let w : Who := w3; let m : Fin 4 := 3; let d := s.dev; let on := d.rd F.canCtrl_en = 1; let ctrl := F.canCtrl_mode.addr 0 0; let legal := 1 ≤ d.rd F.canCtrl_wfilt ∧ 129 ≤ d.rd F.canCtrl_elim ∧ (on → d.canTimingBad = false) ∧ (¬ on → d.rd F.canTxpend_pend = 0 ∧ d.can.q20 = []); s.GrantsPart w ctrl ∧ legal ∧ m = 3) ∧
    (let s : State := canOn {} [(F.canErr_tec,256,0)]; let w : Who := w3; let m : Fin 4 := 0; let d := s.dev; let on := d.rd F.canCtrl_en = 1; let TEC := d.rd F.canErr_tec; let ctrl := F.canCtrl_mode.addr 0 0; let legal := 1 ≤ d.rd F.canCtrl_wfilt ∧ 129 ≤ d.rd F.canCtrl_elim ∧ (on → d.canTimingBad = false) ∧ (¬ on → d.rd F.canTxpend_pend = 0 ∧ d.can.q20 = []); s.GrantsPart w ctrl ∧ legal ∧ on ∧ 255 < TEC ∧ m.val ≤ 2) := by
  refine ⟨?_, ?_, ?_, ?_, ?_, ?_, ?_, ?_, ?_, ?_, ?_, ?_, ?_, ?_, ?_, ?_, ?_, ?_, ?_, ?_, ?_, ?_, ?_, ?_, ?_, ?_, ?_, ?_, ?_, ?_, ?_, ?_, ?_, ?_, ?_, ?_, ?_, ?_, ?_, ?_, ?_, ?_, ?_, ?_, ?_, ?_, ?_, ?_, ?_⟩ <;> decide +kernel

/-- FieldIo. -/
theorem test_FieldIo_witnesses :
    (let s : State := sys {}; let w : Who := w3; let x : BitVec 32 := 9; let d := s.dev; let cmd := d.rd F.fioOut_cmd; let cfg := F.fioCfg_parlo.addr 0 0; let lo := bitsOf x.toNat 0 2; let hi := bitsOf x.toNat 2 2; s.Grants w cfg ∧ lo ≤ 2 ∧ hi ≤ 2 ∧ cmd = 0) ∧
    (let s : State := set [(F.fioCfg_parlo,2,0)]; let w : Who := w3; let x : BitVec 32 := 0xFF0000; let d := s.dev; let cmd := d.rd F.fioOut_cmd; let cfg := F.fioCfg_parlo.addr 0 0; let lo := bitsOf x.toNat 0 2; let hi := bitsOf x.toNat 2 2; s.Grants w cfg ∧ lo ≤ 2 ∧ hi ≤ 2 ∧ cmd = 0) ∧
    (let s : State := set [(F.fioOut_cmd,0xFF,0)]; let w : Who := w3; let x : BitVec 32 := 3; let cfg := F.fioCfg_parlo.addr 0 0; let lo := bitsOf x.toNat 0 2; let hi := bitsOf x.toNat 2 2; s.Grants w cfg ∧ (lo = 3 ∨ hi = 3)) ∧
    (let s : State := sys {}; let w : Who := w3; let x : BitVec 32 := 12; let cfg := F.fioCfg_parlo.addr 0 0; let lo := bitsOf x.toNat 0 2; let hi := bitsOf x.toNat 2 2; s.Grants w cfg ∧ (lo = 3 ∨ hi = 3)) ∧
    (let s : State := set [(F.fioOut_cmd,8,0)]; let w : Who := w3; let x : BitVec 32 := 1; let k : Fin 8 := 3; let d := s.dev; let cmd := d.rd F.fioOut_cmd; let cfg := F.fioCfg_parlo.addr 0 0; let lo := bitsOf x.toNat 0 2; let hi := bitsOf x.toNat 2 2; s.Grants w cfg ∧ d.rd F.fioCfg_parlo = 0 ∧ 1 ≤ lo ∧ lo ≤ 2 ∧ hi ≤ 2 ∧ k.val < 4 ∧ bitOf cmd k = true) ∧
    (let s : State := set [(F.fioOut_cmd,0x81,0)] {now:=40000,fio:={reqs:=(1,4,2),asks:=[(7,.off),(1,.on),(2,.pulse 9),(3,.pulse 9)]}}; let d := s.dev; 1 ≤ s.seq.released ∧ d.rd F.fioWd_wdtrip = 0) ∧
    (let s : State := set [(F.fioWd_wdtrip,1,0)] {fio:={asks:=[(7,.on)]}}; let d := s.dev; 1 ≤ s.seq.released ∧ d.rd F.fioWd_wdtrip = 1) ∧
    (let s : State := set [(F.fioOut_cmd,0x81,0)] {now:=9,fio:={pulse:=[(7,9)],reqs:=(0,0,1)}}; let k : Fin 8 := 7; let t0 : Nat := 9; let d := s.dev; let ons := if d.fio.reqs.1 = d.now / 40000 then d.fio.reqs.2.2 else 0; let mine := fun (k : Nat) => d.fio.asks.filter fun a => a.1 == k; 1 ≤ s.seq.released ∧ Tbl.find k.val d.fio.pulse = some t0 ∧ t0 ≤ d.now ∧ mine k = [] ∧ bitOf ons k = false) ∧
    (let s : State := set [(F.fioOut_cmd,0x81,0)] {now:=9,fio:={pulse:=[(7,9)],reqs:=(0,0,128)}}; let k : Fin 8 := 7; let t0 : Nat := 9; let d := s.dev; let ons := if d.fio.reqs.1 = d.now / 40000 then d.fio.reqs.2.2 else 0; let mine := fun (k : Nat) => d.fio.asks.filter fun a => a.1 == k; 1 ≤ s.seq.released ∧ Tbl.find k.val d.fio.pulse = some t0 ∧ t0 ≤ d.now ∧ (bitOf ons k = true ∨ ∃ a ∈ mine k, a.2 ≠ .off)) ∧
    (let s : State := set [(F.fioOut_cmd,0x81,0)] {now:=40009,fio:={pulse:=[(7,9)],reqs:=(0,0,128),asks:=[(7,.pulse 3)]}}; let k : Fin 8 := 7; let t0 : Nat := 9; let d := s.dev; let ons := if d.fio.reqs.1 = d.now / 40000 then d.fio.reqs.2.2 else 0; let mine := fun (k : Nat) => d.fio.asks.filter fun a => a.1 == k; 1 ≤ s.seq.released ∧ Tbl.find k.val d.fio.pulse = some t0 ∧ t0 ≤ d.now ∧ (bitOf ons k = true ∨ ∃ a ∈ mine k, a.2 ≠ .off)) ∧
    (let s : State := set [(F.fioOut_cmd,0x81,0)] {now:=8,fio:={pulse:=[(7,9)]}}; let k : Fin 8 := 7; let t0 : Nat := 9; let d := s.dev; 1 ≤ s.seq.released ∧ Tbl.find k.val d.fio.pulse = some t0 ∧ d.now < t0) ∧
    (let s : State := sys {}; let k : Fin 8 := 0; let d := s.dev; 1 ≤ s.seq.released ∧ Tbl.find k.val d.fio.pulse = none) ∧
    (let s : State := set [(F.fioVf_state,0,0),(F.fioOut_cmd,0x81,0)]; let k : Fin 8 := 7; let us : Nat := 200; let d := s.dev; 1 ≤ s.seq.released ∧ d.foDrive k = true ∧ d.rd F.fioDiagt_olt ≤ us) ∧
    (let s : State := sys {}; let k : Fin 8 := 0; let us : Nat := 200; let d := s.dev; 1 ≤ s.seq.released ∧ (d.foDrive k = false ∨ us < d.rd F.fioDiagt_olt)) ∧
    (let s : State := set [(F.fioVf_state,0,0),(F.fioOut_cmd,0x81,0)]; let k : Fin 8 := 7; let us : Nat := 199; let d := s.dev; 1 ≤ s.seq.released ∧ (d.foDrive k = false ∨ us < d.rd F.fioDiagt_olt)) ∧
    (let s : State := set [(F.fioOut_cmd,0x81,0)]; let k : Fin 8 := 7; let d := s.dev; 1 ≤ s.seq.released ∧ d.rd F.foSt_overtemp k = 0) ∧
    (let s : State := set [(F.foSt_overtemp,1,7),(F.foSt_sticky,4,7)]; 1 ≤ s.seq.released) ∧
    (let s : State := set [(F.fioVf_state,0,0)]; 1 ≤ s.seq.released) ∧
    (let s : State := set [(F.fioVf_state,0,0),(F.fioCfg_owen,0x80,0)] {now:=30*10^9,fio:={switched:=[(7,0)],normalAt:=20*10^9}}; let k : Fin 8 := 7; let ms : Nat := 10; let d := s.dev; let l := d.foLeader k; let wired := bitOf (d.rd F.fioCfg_owen) l = true ∧ d.foJudged l ms = true; 1 ≤ s.seq.released ∧ wired ∧ d.rd F.foSt_openWire l = 0) ∧
    (let s : State := set [(F.fioVf_state,0,0),(F.fioCfg_owen,0x80,0)] {now:=30*10^9-1,fio:={switched:=[(7,0)]}}; let k : Fin 8 := 7; let ms : Nat := 10; let d := s.dev; let l := d.foLeader k; let wired := bitOf (d.rd F.fioCfg_owen) l = true ∧ d.foJudged l ms = true; 1 ≤ s.seq.released ∧ ¬ wired) ∧
    (let s : State := set [(F.fioVf_state,0,0),(F.fioCfg_owen,0x80,0)] {now:=30*10^9-1,fio:={normalAt:=20*10^9}}; let k : Fin 8 := 7; let ms : Nat := 10; let d := s.dev; let l := d.foLeader k; let wired := bitOf (d.rd F.fioCfg_owen) l = true ∧ d.foJudged l ms = true; 1 ≤ s.seq.released ∧ ¬ wired) ∧
    (let s : State := set [(F.fioVf_state,0,0)] {now:=10^10}; let k : Fin 8 := 7; let ms : Nat := 10; let d := s.dev; let l := d.foLeader k; 1 ≤ s.seq.released ∧ d.foCmd l = false ∧ d.foJudged l ms = true ∧ d.rd F.foSt_shortToVf l = 0) ∧
    (let s : State := set [(F.fioOut_cmd,0x80,0)] {now:=10^10}; let k : Fin 8 := 7; let ms : Nat := 10; let d := s.dev; let l := d.foLeader k; 1 ≤ s.seq.released ∧ (d.foCmd l = true ∨ d.foJudged l ms = false)) ∧
    (let s : State := set [(F.fioVf_state,0,0)] {now:=10^10}; let k : Fin 8 := 7; let ms : Nat := 9; let d := s.dev; let l := d.foLeader k; 1 ≤ s.seq.released ∧ (d.foCmd l = true ∨ d.foJudged l ms = false)) ∧
    (let s : State := set [(F.fioVf_state,0,0),(F.foSt_openWire,1,7)] {now:=10^10}; let k : Fin 8 := 7; let ms : Nat := 10; let d := s.dev; let l := d.foLeader k; 1 ≤ s.seq.released ∧ d.foJudged l ms = true) ∧
    (let s : State := set [(F.fioVf_state,0,0),(F.foSt_shortToVf,1,7)] {now:=10^10}; let k : Fin 8 := 7; let ms : Nat := 255; let d := s.dev; let l := d.foLeader k; 1 ≤ s.seq.released ∧ d.foJudged l ms = true) ∧
    (let s : State := set [(F.fioVf_state,1,0),(F.foSt_shortToVf,1,7)] {now:=10^10}; let k : Fin 8 := 7; let ms : Nat := 10; let d := s.dev; let l := d.foLeader k; 1 ≤ s.seq.released ∧ d.foJudged l ms = false) ∧
    (let s : State := set [(F.fioVf_state,0,0),(F.foSt_shortToVf,1,7)] {now:=10^10}; let k : Fin 8 := 7; let ms : Nat := 9; let d := s.dev; let l := d.foLeader k; 1 ≤ s.seq.released ∧ d.foJudged l ms = false) ∧
    (let s : State := set [(F.fiCfg_wben,1,7),(F.fioVf_state,0,0),(F.fiCfg_wbt,5,7)] {now:=5*10^9}; let n : Fin 16 := 7; let ms : Nat := 5; let d := s.dev; let st := d.rd F.fioVf_state; let broken := bitOf (d.rd F.fioInst_wireBreak) n; let judged := d.rd F.fiCfg_wben n = 1 ∧ st = 0 ∧ d.rd F.fiCfg_wbt n ≤ ms ∧ d.fio.normalAt + d.rd F.fiCfg_wbt n * 1000000000 ≤ d.now; 1 ≤ s.seq.released ∧ judged ∧ broken = false) ∧
    (let s : State := set [(F.fiCfg_wben,1,7),(F.fioVf_state,0,0),(F.fiCfg_wbt,5,7),(F.fioInst_wireBreak,128,0)] {now:=5*10^9}; let n : Fin 16 := 7; let ms : Nat := 5; let d := s.dev; let st := d.rd F.fioVf_state; let broken := bitOf (d.rd F.fioInst_wireBreak) n; let judged := d.rd F.fiCfg_wben n = 1 ∧ st = 0 ∧ d.rd F.fiCfg_wbt n ≤ ms ∧ d.fio.normalAt + d.rd F.fiCfg_wbt n * 1000000000 ≤ d.now; 1 ≤ s.seq.released ∧ judged ∧ broken = true) ∧
    (let s : State := set [(F.fiCfg_wben,1,7),(F.fioVf_state,0,0),(F.fiCfg_wbt,5,7)] {now:=5*10^9}; let n : Fin 16 := 7; let ms : Nat := 4; let d := s.dev; let st := d.rd F.fioVf_state; let judged := d.rd F.fiCfg_wben n = 1 ∧ st = 0 ∧ d.rd F.fiCfg_wbt n ≤ ms ∧ d.fio.normalAt + d.rd F.fiCfg_wbt n * 1000000000 ≤ d.now; 1 ≤ s.seq.released ∧ ¬ judged) ∧
    (let s : State := set [(F.fiCfg_wben,1,7),(F.fioVf_state,0,0),(F.fiCfg_wbt,5,7)] {now:=5*10^9,fio:={normalAt:=1}}; let n : Fin 16 := 7; let ms : Nat := 5; let d := s.dev; let st := d.rd F.fioVf_state; let judged := d.rd F.fiCfg_wben n = 1 ∧ st = 0 ∧ d.rd F.fiCfg_wbt n ≤ ms ∧ d.fio.normalAt + d.rd F.fiCfg_wbt n * 1000000000 ≤ d.now; 1 ≤ s.seq.released ∧ ¬ judged) ∧
    (let s : State := set [(F.fioOut_cmd,0xFF,0)] {now:=40000,fio:={wdAt:=some 5,pulse:=[(1,9)]}}; let t0 : Nat := 5; let d := s.dev; 1 ≤ s.seq.released ∧ d.fio.wdAt = some t0 ∧ (t0 / 40000 + 1) * 40000 ≤ d.now ∧ d.rd F.fioWd_wdtrip = 0) ∧
    (let s : State := set [(F.fioOut_cmd,0xFF,0)] {now:=39999,fio:={wdAt:=some 5,pulse:=[(1,9)]}}; let t0 : Nat := 5; let d := s.dev; 1 ≤ s.seq.released ∧ d.fio.wdAt = some t0 ∧ d.now < (t0 / 40000 + 1) * 40000) ∧
    (let s : State := set [(F.fioVf_state,0,0)]; let mv : Nat := 11999; let us : Nat := 10; let d := s.dev; let st := d.rd F.fioVf_state; let st' := if mv < 12000 ∨ (st = 3 ∧ mv < 12500) then 3 else if mv < 16000 ∨ (2 ≤ st ∧ mv < 16400) then 2 else if mv < 19200 ∨ (1 ≤ st ∧ mv < 19600) then 1 else 0; 1 ≤ s.seq.released ∧ st' ≠ st ∧ 10 ≤ us) ∧
    (let s : State := set [(F.fioVf_state,3,0)] {now:=77}; let mv : Nat := 19600; let us : Nat := 10; let d := s.dev; let st := d.rd F.fioVf_state; let st' := if mv < 12000 ∨ (st = 3 ∧ mv < 12500) then 3 else if mv < 16000 ∨ (2 ≤ st ∧ mv < 16400) then 2 else if mv < 19200 ∨ (1 ≤ st ∧ mv < 19600) then 1 else 0; 1 ≤ s.seq.released ∧ st' ≠ st ∧ 10 ≤ us) ∧
    (let s : State := set [(F.fioVf_state,2,0)] {now:=77}; let mv : Nat := 16400; let us : Nat := 255; let d := s.dev; let st := d.rd F.fioVf_state; let st' := if mv < 12000 ∨ (st = 3 ∧ mv < 12500) then 3 else if mv < 16000 ∨ (2 ≤ st ∧ mv < 16400) then 2 else if mv < 19200 ∨ (1 ≤ st ∧ mv < 19600) then 1 else 0; 1 ≤ s.seq.released ∧ st' ≠ st ∧ 10 ≤ us) ∧
    (let s : State := set [(F.fioVf_state,3,0)]; let mv : Nat := 12499; let us : Nat := 10; let d := s.dev; let st := d.rd F.fioVf_state; let st' := if mv < 12000 ∨ (st = 3 ∧ mv < 12500) then 3 else if mv < 16000 ∨ (2 ≤ st ∧ mv < 16400) then 2 else if mv < 19200 ∨ (1 ≤ st ∧ mv < 19600) then 1 else 0; 1 ≤ s.seq.released ∧ (st' = st ∨ us < 10)) ∧
    (let s : State := set [(F.fioVf_state,1,0)]; let mv : Nat := 19599; let us : Nat := 10; let d := s.dev; let st := d.rd F.fioVf_state; let st' := if mv < 12000 ∨ (st = 3 ∧ mv < 12500) then 3 else if mv < 16000 ∨ (2 ≤ st ∧ mv < 16400) then 2 else if mv < 19200 ∨ (1 ≤ st ∧ mv < 19600) then 1 else 0; 1 ≤ s.seq.released ∧ (st' = st ∨ us < 10)) ∧
    (let s : State := set [(F.fioVf_state,1,0)]; let mv : Nat := 19600; let us : Nat := 9; let d := s.dev; let st := d.rd F.fioVf_state; let st' := if mv < 12000 ∨ (st = 3 ∧ mv < 12500) then 3 else if mv < 16000 ∨ (2 ≤ st ∧ mv < 16400) then 2 else if mv < 19200 ∨ (1 ≤ st ∧ mv < 19600) then 1 else 0; 1 ≤ s.seq.released ∧ (st' = st ∨ us < 10)) ∧
    (let s : State := set [(F.fioWd_src,3,0),(F.fioWdTimeout_timeout,7,0)] {now:=9}; let w : Who := w3; let d := s.dev; let wd := F.fioWd_kick.addr 0 0; let tmo := d.rd F.fioWdTimeout_timeout; let runs := s.GrantsPart w wd ∧ d.rd F.fioWd_src ≤ 3; runs ∧ w.port = d.rd F.fioWd_src ∧ tmo ≠ 0 ∧ d.rd F.fioWd_wdtrip = 0) ∧
    (let s : State := set [(F.fioWd_src,3,0)]; let w : Who := w3; let d := s.dev; let wd := F.fioWd_kick.addr 0 0; let tmo := d.rd F.fioWdTimeout_timeout; let runs := s.GrantsPart w wd ∧ d.rd F.fioWd_src ≤ 3; runs ∧ (w.port ≠ d.rd F.fioWd_src ∨ tmo = 0 ∨ d.rd F.fioWd_wdtrip = 1)) ∧
    (let s : State := set [(F.fioWd_wdtrip,1,0),(F.fioWdTimeout_timeout,7,0)] {now:=5}; let w : Who := w3; let d := s.dev; let wd := F.fioWd_kick.addr 0 0; let runs := s.GrantsPart w wd ∧ d.rd F.fioWd_src ≤ 3; runs) := by
  refine ⟨?_, ?_, ?_, ?_, ?_, ?_, ?_, ?_, ?_, ?_, ?_, ?_, ?_, ?_, ?_, ?_, ?_, ?_, ?_, ?_, ?_, ?_, ?_, ?_, ?_, ?_, ?_, ?_, ?_, ?_, ?_, ?_, ?_, ?_, ?_, ?_, ?_, ?_, ?_, ?_, ?_, ?_, ?_⟩ <;> decide +kernel

/-- SafeStop. -/
theorem test_SafeStop_witnesses :
    (let s : State := saf {} [(F.safStat_state,3,0),(F.safStat_demand,1,0)]; let d := s.dev; let st := d.rd F.safStat_state; let dm := d.rd F.safStat_demand; let lt := d.rd F.safStat_latch; let frame := bitOf lt 1 = true; let stop := bitOf dm 0 = true ∨ bitOf dm 1 = true ∨ 4 ≤ lt ∨ (frame ∧ d.rd F.safCfg_react = 0); 1 ≤ s.seq.released ∧ 2 ≤ st ∧ stop) ∧
    (let s : State := saf {} [(F.safStat_state,2,0),(F.safStat_latch,4,0)]; let d := s.dev; let st := d.rd F.safStat_state; let dm := d.rd F.safStat_demand; let lt := d.rd F.safStat_latch; let frame := bitOf lt 1 = true; let stop := bitOf dm 0 = true ∨ bitOf dm 1 = true ∨ 4 ≤ lt ∨ (frame ∧ d.rd F.safCfg_react = 0); 1 ≤ s.seq.released ∧ 2 ≤ st ∧ stop) ∧
    (let s : State := saf {} [(F.safStat_state,1,0),(F.safStat_demand,1,0)]; let d := s.dev; let st := d.rd F.safStat_state; let dm := d.rd F.safStat_demand; let lt := d.rd F.safStat_latch; let frame := bitOf lt 1 = true; let stop := bitOf dm 0 = true ∨ bitOf dm 1 = true ∨ 4 ≤ lt ∨ (frame ∧ d.rd F.safCfg_react = 0); 1 ≤ s.seq.released ∧ (st < 2 ∨ ¬ stop)) ∧
    (let s : State := saf {} [(F.safStat_state,3,0),(F.safStat_demand,0,0),(F.safStat_latch,0,0)]; let d := s.dev; let st := d.rd F.safStat_state; let dm := d.rd F.safStat_demand; let lt := d.rd F.safStat_latch; let frame := bitOf lt 1 = true; let stop := bitOf dm 0 = true ∨ bitOf dm 1 = true ∨ 4 ≤ lt ∨ (frame ∧ d.rd F.safCfg_react = 0); 1 ≤ s.seq.released ∧ (st < 2 ∨ ¬ stop)) ∧
    (let s : State := saf {} [(F.safStat_state,3,0),(F.safStat_demand,4,0),(F.safStat_latch,0,0)] 77; let d := s.dev; let st := d.rd F.safStat_state; let dm := d.rd F.safStat_demand; let lt := d.rd F.safStat_latch; let frame := bitOf lt 1 = true; let stop := bitOf dm 0 = true ∨ bitOf dm 1 = true ∨ 4 ≤ lt ∨ (frame ∧ d.rd F.safCfg_react = 0); let ss1 := bitOf dm 2 = true ∨ (frame ∧ d.rd F.safCfg_react = 1); 1 ≤ s.seq.released ∧ st = 3 ∧ ¬ stop ∧ ss1) ∧
    (let s : State := saf {} [(F.safStat_state,3,0),(F.safStat_demand,0,0),(F.safStat_latch,2,0),(F.safCfg_react,1,0)] 77; let d := s.dev; let st := d.rd F.safStat_state; let dm := d.rd F.safStat_demand; let lt := d.rd F.safStat_latch; let frame := bitOf lt 1 = true; let stop := bitOf dm 0 = true ∨ bitOf dm 1 = true ∨ 4 ≤ lt ∨ (frame ∧ d.rd F.safCfg_react = 0); let ss1 := bitOf dm 2 = true ∨ (frame ∧ d.rd F.safCfg_react = 1); 1 ≤ s.seq.released ∧ st = 3 ∧ ¬ stop ∧ ss1) ∧
    (let s : State := saf {} [(F.safStat_state,2,0),(F.safStat_demand,4,0)]; let d := s.dev; let st := d.rd F.safStat_state; let dm := d.rd F.safStat_demand; let lt := d.rd F.safStat_latch; let frame := bitOf lt 1 = true; let stop := bitOf dm 0 = true ∨ bitOf dm 1 = true ∨ 4 ≤ lt ∨ (frame ∧ d.rd F.safCfg_react = 0); let ss1 := bitOf dm 2 = true ∨ (frame ∧ d.rd F.safCfg_react = 1); 1 ≤ s.seq.released ∧ (st ≠ 3 ∨ stop ∨ ¬ ss1)) ∧
    (let s : State := saf {ss1At:=some 5} [(F.safStat_state,2,0)] 5; let t0 : Nat := 5; let d := s.dev; let h := d.saf; let st := d.rd F.safStat_state; 1 ≤ s.seq.released ∧ h.ss1At = some t0 ∧ t0 ≤ d.now ∧ st = 2) ∧
    (let s : State := saf {ss1At:=some 5} [(F.safStat_state,2,0)] 4; let t0 : Nat := 5; let d := s.dev; let h := d.saf; let st := d.rd F.safStat_state; 1 ≤ s.seq.released ∧ h.ss1At = some t0 ∧ (d.now < t0 ∨ st ≠ 2)) ∧
    (let s : State := saf {section_:=true,paired:=true} [(F.safStat_state,0,0),(F.safStat_demand,0,0),(F.safStat_latch,0,0),(F.safTest_startok,1,0),(F.safCfg_fen,1,0)] 9; let d := s.dev; let h := d.saf; let st := d.rd F.safStat_state; let dm := d.rd F.safStat_demand; let lt := d.rd F.safStat_latch; 1 ≤ s.seq.released ∧ st = 0 ∧ dm = 0 ∧ lt = 0 ∧ d.rd F.safTest_startok = 1 ∧ h.section_ = true ∧ (d.rd F.safCfg_fen = 0 ∨ h.paired = true)) ∧
    (let s : State := saf {} [(F.safStat_state,1,0),(F.safStat_demand,0,0),(F.safStat_latch,0,0)]; let d := s.dev; let st := d.rd F.safStat_state; let dm := d.rd F.safStat_demand; let lt := d.rd F.safStat_latch; 1 ≤ s.seq.released ∧ st = 1 ∧ dm = 0 ∧ lt = 0) ∧
    (let s : State := saf {} [(F.safStat_state,1,0),(F.safStat_demand,0,0),(F.safStat_latch,8,0)]; let d := s.dev; let st := d.rd F.safStat_state; let dm := d.rd F.safStat_demand; let lt := d.rd F.safStat_latch; 1 ≤ s.seq.released ∧ (2 ≤ st ∨ dm ≠ 0 ∨ lt ≠ 0)) ∧
    (let s : State := saf {} [(F.safTp_tpw,0,0),(F.safStat_demand,0,0)]; let clocks : Nat := 13; let d := s.dev; let tpw := d.rd F.safTp_tpw; let low := if tpw = 0 then 500 ≤ 40 * clocks else 1000 * tpw < 40 * clocks; 1 ≤ s.seq.released ∧ low) ∧
    (let s : State := saf {} [(F.safTp_tpw,1,0),(F.safStat_demand,6,0)]; let clocks : Nat := 26; let d := s.dev; let tpw := d.rd F.safTp_tpw; let low := if tpw = 0 then 500 ≤ 40 * clocks else 1000 * tpw < 40 * clocks; 1 ≤ s.seq.released ∧ low) ∧
    (let s : State := saf {} [(F.safTp_tpw,1,0)]; let clocks : Nat := 25; let d := s.dev; let tpw := d.rd F.safTp_tpw; let low := if tpw = 0 then 500 ≤ 40 * clocks else 1000 * tpw < 40 * clocks; 1 ≤ s.seq.released ∧ ¬ low) ∧
    (let s : State := saf {} [(F.safTp_tpw,1,0)] 5; let clocks : Nat := 25; let d := s.dev; let tpw := d.rd F.safTp_tpw; let pulse := 500 ≤ 40 * clocks ∧ 40 * clocks ≤ 1000 * tpw; 1 ≤ s.seq.released ∧ pulse) ∧
    (let s : State := saf {} [(F.safTp_tpw,1,0)] 5; let clocks : Nat := 13; let d := s.dev; let tpw := d.rd F.safTp_tpw; let pulse := 500 ≤ 40 * clocks ∧ 40 * clocks ≤ 1000 * tpw; 1 ≤ s.seq.released ∧ pulse) ∧
    (let s : State := saf {} [(F.safTp_tpw,1,0)]; let clocks : Nat := 12; let d := s.dev; let tpw := d.rd F.safTp_tpw; let pulse := 500 ≤ 40 * clocks ∧ 40 * clocks ≤ 1000 * tpw; 1 ≤ s.seq.released ∧ ¬ pulse) ∧
    (let s : State := saf {} [(F.safTp_tpw,1,0)]; let clocks : Nat := 26; let d := s.dev; let tpw := d.rd F.safTp_tpw; let pulse := 500 ≤ 40 * clocks ∧ 40 * clocks ≤ 1000 * tpw; 1 ≤ s.seq.released ∧ ¬ pulse) ∧
    (let s : State := saf {} [(F.safStat_demand,7,0),(F.safStat_latch,4,0),(F.safCfg_autorel,0,0)]; let clocks : Nat := 2500; let d := s.dev; let dm := d.rd F.safStat_demand; 1 ≤ s.seq.released ∧ bitOf dm 0 = true ∧ 2500 ≤ clocks) ∧
    (let s : State := saf {} [(F.safStat_demand,7,0),(F.safStat_latch,4,0),(F.safCfg_autorel,1,0)]; let clocks : Nat := 2500; let d := s.dev; let dm := d.rd F.safStat_demand; 1 ≤ s.seq.released ∧ bitOf dm 0 = true ∧ 2500 ≤ clocks) ∧
    (let s : State := saf {} [(F.safStat_demand,6,0)]; let clocks : Nat := 2500; let d := s.dev; let dm := d.rd F.safStat_demand; 1 ≤ s.seq.released ∧ (bitOf dm 0 = false ∨ clocks < 2500)) ∧
    (let s : State := saf {} [(F.safStat_demand,1,0)]; let clocks : Nat := 2499; let d := s.dev; let dm := d.rd F.safStat_demand; 1 ≤ s.seq.released ∧ (bitOf dm 0 = false ∨ clocks < 2500)) ∧
    (let s : State := saf {pulseAt:=9} [(F.safCfg_tpexp,1,0),(F.safStat_state,3,0),(F.safStat_latch,0,0),(F.safTp_tpper,1,0)] (9+10^9); let d := s.dev; let h := d.saf; let st := d.rd F.safStat_state; let lt := d.rd F.safStat_latch; 1 ≤ s.seq.released ∧ d.rd F.safCfg_tpexp = 1 ∧ st ≠ 0 ∧ bitOf lt 5 = false ∧ h.pulseAt + d.rd F.safTp_tpper * 10 ^ 9 ≤ d.now) ∧
    (let s : State := saf {pulseAt:=0,fails:=(25001,[8])} [(F.safCfg_tpexp,1,0),(F.safStat_state,3,0),(F.safStat_latch,2,0),(F.safTp_tpper,1,0)] 1000040000; let d := s.dev; let h := d.saf; let st := d.rd F.safStat_state; let lt := d.rd F.safStat_latch; 1 ≤ s.seq.released ∧ d.rd F.safCfg_tpexp = 1 ∧ st ≠ 0 ∧ bitOf lt 5 = false ∧ h.pulseAt + d.rd F.safTp_tpper * 10 ^ 9 ≤ d.now) ∧
    (let s : State := saf {pulseAt:=9} [(F.safCfg_tpexp,1,0),(F.safStat_state,3,0),(F.safStat_latch,0,0),(F.safTp_tpper,1,0)] (8+10^9); let d := s.dev; let h := d.saf; let st := d.rd F.safStat_state; 1 ≤ s.seq.released ∧ (d.rd F.safCfg_tpexp = 0 ∨ st = 0 ∨ d.now < h.pulseAt + d.rd F.safTp_tpper * 10 ^ 9)) ∧
    (let s : State := saf {pairAt:=some 5} [(F.safStat_demand,0,0),(F.safTest_startok,1,0),(F.safCfg_fen,1,0),(F.safTo_to,1,0),(F.safStat_latch,63,0)] (5+10^9); let clocks : Nat := 1250000; let d := s.dev; let h := d.saf; let dm := d.rd F.safStat_demand; let causes := if h.fails.1 = d.now / 40000 then h.fails.2 else []; let heard := ∃ p ∈ h.pairAt, d.now ≤ p + d.rd F.safTo_to * 10 ^ 9; let press := 1250000 ≤ clocks ∧ clocks ≤ 50000000; let passes := dm = 0 ∧ d.rd F.safTest_startok = 1 ∧ (d.rd F.safCfg_fen = 0 ∨ heard) ∧ causes = []; let inTime := (d.rd F.safCfg_fen = 0 ∨ ∀ p ∈ h.lastPair, d.now < p + d.rd F.safTo_to * 10 ^ 9) ∧ ∀ f ∈ h.first, d.now ≤ f.at_ + d.rd F.safWin_win * 10 ^ 6; 1 ≤ s.seq.released ∧ press ∧ passes ∧ inTime) ∧
    (let s : State := saf {fails:=(7,[3])} [(F.safStat_demand,0,0),(F.safTest_startok,1,0),(F.safCfg_fen,0,0),(F.safStat_latch,63,0)] 5; let clocks : Nat := 50000000; let d := s.dev; let h := d.saf; let dm := d.rd F.safStat_demand; let causes := if h.fails.1 = d.now / 40000 then h.fails.2 else []; let heard := ∃ p ∈ h.pairAt, d.now ≤ p + d.rd F.safTo_to * 10 ^ 9; let press := 1250000 ≤ clocks ∧ clocks ≤ 50000000; let passes := dm = 0 ∧ d.rd F.safTest_startok = 1 ∧ (d.rd F.safCfg_fen = 0 ∨ heard) ∧ causes = []; let inTime := (d.rd F.safCfg_fen = 0 ∨ ∀ p ∈ h.lastPair, d.now < p + d.rd F.safTo_to * 10 ^ 9) ∧ ∀ f ∈ h.first, d.now ≤ f.at_ + d.rd F.safWin_win * 10 ^ 6; 1 ≤ s.seq.released ∧ press ∧ passes ∧ inTime) ∧
    (let s : State := saf {pairAt:=some 5} [(F.safStat_demand,0,0),(F.safTest_startok,1,0),(F.safCfg_fen,1,0),(F.safTo_to,1,0),(F.safStat_latch,63,0)] (6+10^9); let clocks : Nat := 1250000; let d := s.dev; let h := d.saf; let dm := d.rd F.safStat_demand; let causes := if h.fails.1 = d.now / 40000 then h.fails.2 else []; let heard := ∃ p ∈ h.pairAt, d.now ≤ p + d.rd F.safTo_to * 10 ^ 9; let press := 1250000 ≤ clocks ∧ clocks ≤ 50000000; let passes := dm = 0 ∧ d.rd F.safTest_startok = 1 ∧ (d.rd F.safCfg_fen = 0 ∨ heard) ∧ causes = []; let inTime := (d.rd F.safCfg_fen = 0 ∨ ∀ p ∈ h.lastPair, d.now < p + d.rd F.safTo_to * 10 ^ 9) ∧ ∀ f ∈ h.first, d.now ≤ f.at_ + d.rd F.safWin_win * 10 ^ 6; 1 ≤ s.seq.released ∧ press ∧ ¬ passes ∧ inTime) ∧
    (let s : State := saf {} [(F.safStat_demand,1,0),(F.safTest_startok,1,0),(F.safCfg_fen,0,0)]; let clocks : Nat := 50000000; let d := s.dev; let h := d.saf; let dm := d.rd F.safStat_demand; let causes := if h.fails.1 = d.now / 40000 then h.fails.2 else []; let heard := ∃ p ∈ h.pairAt, d.now ≤ p + d.rd F.safTo_to * 10 ^ 9; let press := 1250000 ≤ clocks ∧ clocks ≤ 50000000; let passes := dm = 0 ∧ d.rd F.safTest_startok = 1 ∧ (d.rd F.safCfg_fen = 0 ∨ heard) ∧ causes = []; let inTime := (d.rd F.safCfg_fen = 0 ∨ ∀ p ∈ h.lastPair, d.now < p + d.rd F.safTo_to * 10 ^ 9) ∧ ∀ f ∈ h.first, d.now ≤ f.at_ + d.rd F.safWin_win * 10 ^ 6; 1 ≤ s.seq.released ∧ press ∧ ¬ passes ∧ inTime) ∧
    (let s : State := saf {fails:=(0,[3])} [(F.safStat_demand,0,0),(F.safTest_startok,1,0),(F.safCfg_fen,0,0),(F.safStat_latch,2,0)] 5; let clocks : Nat := 1250000; let d := s.dev; let h := d.saf; let dm := d.rd F.safStat_demand; let causes := if h.fails.1 = d.now / 40000 then h.fails.2 else []; let heard := ∃ p ∈ h.pairAt, d.now ≤ p + d.rd F.safTo_to * 10 ^ 9; let press := 1250000 ≤ clocks ∧ clocks ≤ 50000000; let passes := dm = 0 ∧ d.rd F.safTest_startok = 1 ∧ (d.rd F.safCfg_fen = 0 ∨ heard) ∧ causes = []; let inTime := (d.rd F.safCfg_fen = 0 ∨ ∀ p ∈ h.lastPair, d.now < p + d.rd F.safTo_to * 10 ^ 9) ∧ ∀ f ∈ h.first, d.now ≤ f.at_ + d.rd F.safWin_win * 10 ^ 6; 1 ≤ s.seq.released ∧ press ∧ ¬ passes ∧ inTime) ∧
    (let s : State := saf {lastPair:=some 5,pairAt:=some 5} [(F.safStat_demand,0,0),(F.safTest_startok,1,0),(F.safCfg_fen,1,0),(F.safTo_to,1,0),(F.safStat_latch,8,0)] (5+10^9); let clocks : Nat := 1250000; let d := s.dev; let h := d.saf; let press := 1250000 ≤ clocks ∧ clocks ≤ 50000000; let inTime := (d.rd F.safCfg_fen = 0 ∨ ∀ p ∈ h.lastPair, d.now < p + d.rd F.safTo_to * 10 ^ 9) ∧ ∀ f ∈ h.first, d.now ≤ f.at_ + d.rd F.safWin_win * 10 ^ 6; 1 ≤ s.seq.released ∧ press ∧ ¬ inTime) ∧
    (let s : State := saf {first:=some {port:=0,body:=[],at_:=0}} [(F.safWin_win,1,0),(F.safTest_startok,1,0)] (10^6+1); let clocks : Nat := 1250000; let d := s.dev; let h := d.saf; let press := 1250000 ≤ clocks ∧ clocks ≤ 50000000; let inTime := (d.rd F.safCfg_fen = 0 ∨ ∀ p ∈ h.lastPair, d.now < p + d.rd F.safTo_to * 10 ^ 9) ∧ ∀ f ∈ h.first, d.now ≤ f.at_ + d.rd F.safWin_win * 10 ^ 6; 1 ≤ s.seq.released ∧ press ∧ ¬ inTime) ∧
    (let s : State := saf {}; let clocks : Nat := 1249999; let press := 1250000 ≤ clocks ∧ clocks ≤ 50000000; 1 ≤ s.seq.released ∧ ¬ press) ∧
    (let s : State := saf {}; let clocks : Nat := 50000001; let press := 1250000 ≤ clocks ∧ clocks ≤ 50000000; 1 ≤ s.seq.released ∧ ¬ press) ∧
    (let s : State := saf {lastSeal:=some 3} [(F.safSeal_valid,0,0)]; let r1 : BitVec 8 := 1; let r2 : BitVec 8 := 2; let r3 : BitVec 8 := 0; let v : Nat := 3; let d := s.dev; let h := d.saf; let read := sealOf r1.toNat r2.toNat r3.toNat; 1 ≤ s.seq.released ∧ d.rd F.safSeal_valid = 0 ∧ read = some v ∧ h.lastSeal = some v ∧ v ≠ 0) ∧
    (let s : State := saf {lastSeal:=some 2} [(F.safSeal_valid,0,0)]; let r1 : BitVec 8 := 1; let r2 : BitVec 8 := 2; let r3 : BitVec 8 := 0; let v : Nat := 3; let d := s.dev; let h := d.saf; let read := sealOf r1.toNat r2.toNat r3.toNat; 1 ≤ s.seq.released ∧ d.rd F.safSeal_valid = 0 ∧ read = some v ∧ h.lastSeal ≠ some v) ∧
    (let s : State := saf {diff:=1} [(F.safSeal_valid,1,0),(F.safSeal_addr,3,0)]; let r1 : BitVec 8 := 1; let r2 : BitVec 8 := 2; let r3 : BitVec 8 := 0; let d := s.dev; let read := sealOf r1.toNat r2.toNat r3.toNat; let addr := d.rd F.safSeal_addr; 1 ≤ s.seq.released ∧ d.rd F.safSeal_valid = 1 ∧ read = some addr) ∧
    (let s : State := saf {incons:=1} [(F.safSeal_valid,1,0),(F.safSeal_addr,3,0)]; let r1 : BitVec 8 := 1; let r2 : BitVec 8 := 1; let r3 : BitVec 8 := 0; let d := s.dev; let h := d.saf; let read := sealOf r1.toNat r2.toNat r3.toNat; 1 ≤ s.seq.released ∧ d.rd F.safSeal_valid = 1 ∧ read = none ∧ h.incons = 1) ∧
    (let s : State := saf {diff:=1,lastSeal:=some 3} [(F.safSeal_valid,1,0),(F.safSeal_addr,7,0)]; let r1 : BitVec 8 := 1; let r2 : BitVec 8 := 2; let r3 : BitVec 8 := 0; let v : Nat := 3; let d := s.dev; let h := d.saf; let read := sealOf r1.toNat r2.toNat r3.toNat; let addr := d.rd F.safSeal_addr; 1 ≤ s.seq.released ∧ d.rd F.safSeal_valid = 1 ∧ read = some v ∧ v ≠ addr ∧ h.lastSeal = some v ∧ h.diff = 1) ∧
    (let s : State := saf {} [(F.safStat_state,1,0),(F.safStat_latch,0,0),(F.safStat_gen,1,0)]; let us : Nat := 10; let d := s.dev; let st := d.rd F.safStat_state; 1 ≤ s.seq.released ∧ st = 1 ∧ 10 ≤ us) ∧
    (let s : State := saf {} [(F.safStat_state,2,0)]; let us : Nat := 10; let d := s.dev; let st := d.rd F.safStat_state; 1 ≤ s.seq.released ∧ (st ≠ 1 ∨ us < 10)) ∧
    (let s : State := saf {} [(F.safStat_state,1,0)]; let us : Nat := 9; let d := s.dev; let st := d.rd F.safStat_state; 1 ≤ s.seq.released ∧ (st ≠ 1 ∨ us < 10)) ∧
    (let s : State := saf {} [(F.safStat_state,2,0)]; let us : Nat := 20; let g : Fin 6 := 5; let d := s.dev; let st := d.rd F.safStat_state; 1 ≤ s.seq.released ∧ 2 ≤ st ∧ d.groupIdle g = true ∧ 20 ≤ us) ∧
    (let s : State := saf {} [(F.safStat_state,1,0)]; let us : Nat := 20; let g : Fin 6 := 5; let d := s.dev; let st := d.rd F.safStat_state; 1 ≤ s.seq.released ∧ (st < 2 ∨ d.groupIdle g = false ∨ us < 20)) ∧
    (let s : State := saf {} [(F.safStat_state,3,0),(F.legCfg_use,2,20)]; let us : Nat := 20; let g : Fin 6 := 5; let d := s.dev; let st := d.rd F.safStat_state; 1 ≤ s.seq.released ∧ (st < 2 ∨ d.groupIdle g = false ∨ us < 20)) ∧
    (let s : State := saf {} [(F.safStat_state,2,0)]; let us : Nat := 19; let g : Fin 6 := 5; let d := s.dev; let st := d.rd F.safStat_state; 1 ≤ s.seq.released ∧ (st < 2 ∨ d.groupIdle g = false ∨ us < 20)) ∧
    (let s : State := saf {} [(F.safTest_maxage,1,0)] hourPs; let g : Fin 6 := 5; let d := s.dev; let h := d.saf; let due := d.rd F.safTest_maxage * hourPs ≤ d.now - Tbl.get 0 g.val h.passAt; 1 ≤ s.seq.released ∧ g.val ∉ h.overdue ∧ due) ∧
    (let s : State := saf {} [(F.safTest_maxage,1,0)] (hourPs-1); let g : Fin 6 := 5; let d := s.dev; let h := d.saf; let due := d.rd F.safTest_maxage * hourPs ≤ d.now - Tbl.get 0 g.val h.passAt; 1 ≤ s.seq.released ∧ (g.val ∈ h.overdue ∨ ¬ due)) ∧
    (let s : State := saf {overdue:=[5]} [(F.safTest_maxage,1,0)] hourPs; let g : Fin 6 := 5; let d := s.dev; let h := d.saf; let due := d.rd F.safTest_maxage * hourPs ≤ d.now - Tbl.get 0 g.val h.passAt; 1 ≤ s.seq.released ∧ (g.val ∈ h.overdue ∨ ¬ due)) ∧
    (let s : State := safRx 1 [] {} [(F.safCfg_fen,0,0)]; let x : SafeIn := {port:=1,body:=[]}; let l : List SafeIn := [{port:=0,body:=[]}]; let d := s.dev; 1 ≤ s.seq.released ∧ d.net.q24 = x :: l ∧ d.rd F.safCfg_fen = 0) ∧
    (let s : State := safRx 1 (safBody 5) {}; let x : SafeIn := {port:=1,body:=safBody 5}; let l : List SafeIn := [{port:=0,body:=[]}]; let d := s.dev; let h := d.saf; let valid := d.rd F.safCfg_fen = 1 ∧ d.safCheck x.port x.body = 0; let inTime := d.rd F.safCfg_fen = 0 ∨ ∀ p ∈ h.lastPair, d.now < p + d.rd F.safTo_to * 10 ^ 9; 1 ≤ s.seq.released ∧ d.net.q24 = x :: l ∧ valid ∧ h.first = none ∧ inTime) ∧
    (let s : State := safRx 1 (safBody 5) {lastPair:=some 0} [(F.safTo_to,1,0)] (10^9); let x : SafeIn := {port:=1,body:=safBody 5}; let l : List SafeIn := [{port:=0,body:=[]}]; let d := s.dev; let h := d.saf; let valid := d.rd F.safCfg_fen = 1 ∧ d.safCheck x.port x.body = 0; let inTime := d.rd F.safCfg_fen = 0 ∨ ∀ p ∈ h.lastPair, d.now < p + d.rd F.safTo_to * 10 ^ 9; 1 ≤ s.seq.released ∧ d.net.q24 = x :: l ∧ valid ∧ h.first = none ∧ ¬ inTime) ∧
    (let s : State := safRx 1 (List.replicate 48 0) {}; let x : SafeIn := {port:=1,body:=List.replicate 48 0}; let l : List SafeIn := [{port:=0,body:=[]}]; let c : Nat := 1; let d := s.dev; let h := d.saf; let inTime := d.rd F.safCfg_fen = 0 ∨ ∀ p ∈ h.lastPair, d.now < p + d.rd F.safTo_to * 10 ^ 9; 1 ≤ s.seq.released ∧ d.net.q24 = x :: l ∧ d.rd F.safCfg_fen = 1 ∧ h.first = none ∧ inTime ∧ d.safCheck x.port x.body = c ∧ 1 ≤ c ∧ c ≤ 9) ∧
    (let s : State := safRx 1 (safBody 5) {first:=some {port:=1,body:=safBody 5,at_:=0}}; let x : SafeIn := {port:=1,body:=safBody 5}; let l : List SafeIn := [{port:=0,body:=[]}]; let f : SafeFirst := {port:=1,body:=safBody 5,at_:=0}; let d := s.dev; let h := d.saf; let live := f.at_ + d.rd F.safWin_win * 10 ^ 6; let valid := d.rd F.safCfg_fen = 1 ∧ d.safCheck x.port x.body = 0; let inTime := d.rd F.safCfg_fen = 0 ∨ ∀ p ∈ h.lastPair, d.now < p + d.rd F.safTo_to * 10 ^ 9; let second := valid ∧ h.first = some f ∧ d.now ≤ live ∧ inTime; 1 ≤ s.seq.released ∧ d.net.q24 = x :: l ∧ second ∧ f.port = x.port) ∧
    (let s : State := safRx 1 (safBody 5) {first:=some {port:=0,body:=safBody 4,at_:=0}}; let x : SafeIn := {port:=1,body:=safBody 5}; let l : List SafeIn := [{port:=0,body:=[]}]; let f : SafeFirst := {port:=0,body:=safBody 4,at_:=0}; let d := s.dev; let h := d.saf; let live := f.at_ + d.rd F.safWin_win * 10 ^ 6; let valid := d.rd F.safCfg_fen = 1 ∧ d.safCheck x.port x.body = 0; let inTime := d.rd F.safCfg_fen = 0 ∨ ∀ p ∈ h.lastPair, d.now < p + d.rd F.safTo_to * 10 ^ 9; let second := valid ∧ h.first = some f ∧ d.now ≤ live ∧ inTime; 1 ≤ s.seq.released ∧ d.net.q24 = x :: l ∧ second ∧ f.port ≠ x.port ∧ f.body ≠ x.body) ∧
    (let s : State := safRx 1 (safBody 5) {fresh:=false,first:=some {port:=0,body:=safBody 5,at_:=0}} [(F.safAlive_rxalive,5,0)]; let x : SafeIn := {port:=1,body:=safBody 5}; let l : List SafeIn := [{port:=0,body:=[]}]; let f : SafeFirst := {port:=0,body:=safBody 5,at_:=0}; let d := s.dev; let h := d.saf; let live := f.at_ + d.rd F.safWin_win * 10 ^ 6; let alive := at8 x.body 2 + 256 * at8 x.body 3; let jump := (alive + 65536 - d.rd F.safAlive_rxalive) % 65536; let valid := d.rd F.safCfg_fen = 1 ∧ d.safCheck x.port x.body = 0; let inTime := d.rd F.safCfg_fen = 0 ∨ ∀ p ∈ h.lastPair, d.now < p + d.rd F.safTo_to * 10 ^ 9; let second := valid ∧ h.first = some f ∧ d.now ≤ live ∧ inTime; 1 ≤ s.seq.released ∧ d.net.q24 = x :: l ∧ second ∧ f.port ≠ x.port ∧ f.body = x.body ∧ h.fresh = false ∧ jump = 0) ∧
    (let s : State := safRx 1 (safBody 5) {fresh:=false,first:=some {port:=0,body:=safBody 5,at_:=0}} [(F.safAlive_rxalive,3,0),(F.safWin_maxjump,1,0)]; let x : SafeIn := {port:=1,body:=safBody 5}; let l : List SafeIn := [{port:=0,body:=[]}]; let f : SafeFirst := {port:=0,body:=safBody 5,at_:=0}; let d := s.dev; let h := d.saf; let live := f.at_ + d.rd F.safWin_win * 10 ^ 6; let alive := at8 x.body 2 + 256 * at8 x.body 3; let jump := (alive + 65536 - d.rd F.safAlive_rxalive) % 65536; let valid := d.rd F.safCfg_fen = 1 ∧ d.safCheck x.port x.body = 0; let inTime := d.rd F.safCfg_fen = 0 ∨ ∀ p ∈ h.lastPair, d.now < p + d.rd F.safTo_to * 10 ^ 9; let second := valid ∧ h.first = some f ∧ d.now ≤ live ∧ inTime; 1 ≤ s.seq.released ∧ d.net.q24 = x :: l ∧ second ∧ f.port ≠ x.port ∧ f.body = x.body ∧ h.fresh = false ∧ jump ≠ 0 ∧ d.rd F.safWin_maxjump < jump) ∧
    (let s : State := safRx 1 (safBody 5) {fresh:=false,first:=some {port:=0,body:=safBody 5,at_:=0}} [(F.safAlive_rxalive,4,0),(F.safWin_maxjump,1,0)]; let x : SafeIn := {port:=1,body:=safBody 5}; let l : List SafeIn := [{port:=0,body:=[]}]; let f : SafeFirst := {port:=0,body:=safBody 5,at_:=0}; let d := s.dev; let h := d.saf; let live := f.at_ + d.rd F.safWin_win * 10 ^ 6; let alive := at8 x.body 2 + 256 * at8 x.body 3; let jump := (alive + 65536 - d.rd F.safAlive_rxalive) % 65536; let valid := d.rd F.safCfg_fen = 1 ∧ d.safCheck x.port x.body = 0; let inTime := d.rd F.safCfg_fen = 0 ∨ ∀ p ∈ h.lastPair, d.now < p + d.rd F.safTo_to * 10 ^ 9; let second := valid ∧ h.first = some f ∧ d.now ≤ live ∧ inTime; 1 ≤ s.seq.released ∧ d.net.q24 = x :: l ∧ second ∧ f.port ≠ x.port ∧ f.body = x.body ∧ (h.fresh = true ∨ (jump ≠ 0 ∧ jump ≤ d.rd F.safWin_maxjump))) ∧
    (let s : State := safRx 1 (safBody 5) {first:=some {port:=0,body:=safBody 5,at_:=0}} [(F.safAlive_rxalive,5,0),(F.safWin_maxjump,1,0)]; let x : SafeIn := {port:=1,body:=safBody 5}; let l : List SafeIn := [{port:=0,body:=[]}]; let f : SafeFirst := {port:=0,body:=safBody 5,at_:=0}; let d := s.dev; let h := d.saf; let live := f.at_ + d.rd F.safWin_win * 10 ^ 6; let alive := at8 x.body 2 + 256 * at8 x.body 3; let jump := (alive + 65536 - d.rd F.safAlive_rxalive) % 65536; let valid := d.rd F.safCfg_fen = 1 ∧ d.safCheck x.port x.body = 0; let inTime := d.rd F.safCfg_fen = 0 ∨ ∀ p ∈ h.lastPair, d.now < p + d.rd F.safTo_to * 10 ^ 9; let second := valid ∧ h.first = some f ∧ d.now ≤ live ∧ inTime; 1 ≤ s.seq.released ∧ d.net.q24 = x :: l ∧ second ∧ f.port ≠ x.port ∧ f.body = x.body ∧ (h.fresh = true ∨ (jump ≠ 0 ∧ jump ≤ d.rd F.safWin_maxjump))) ∧
    (let s : State := sys {}; let d := s.dev; 1 ≤ s.seq.released ∧ d.net.q24 = []) ∧
    (let s : State := saf {first:=some {port:=0,body:=[],at_:=0}} [(F.safWin_win,1,0)] (10^6+1); let f : SafeFirst := {port:=0,body:=[],at_:=0}; let d := s.dev; let h := d.saf; let live := f.at_ + d.rd F.safWin_win * 10 ^ 6; 1 ≤ s.seq.released ∧ h.first = some f ∧ live < d.now) ∧
    (let s : State := saf {first:=some {port:=0,body:=[],at_:=0}} [(F.safWin_win,1,0)] (10^6); let f : SafeFirst := {port:=0,body:=[],at_:=0}; let d := s.dev; let h := d.saf; let live := f.at_ + d.rd F.safWin_win * 10 ^ 6; 1 ≤ s.seq.released ∧ h.first = some f ∧ d.now ≤ live) ∧
    (let s : State := saf {}; let d := s.dev; let h := d.saf; 1 ≤ s.seq.released ∧ h.first = none) ∧
    (let s : State := saf {lastPair:=some 5} [(F.safCfg_fen,1,0),(F.safTo_to,1,0)] (5+10^9); let t0 : Nat := 5; let d := s.dev; let h := d.saf; 1 ≤ s.seq.released ∧ h.lastPair = some t0 ∧ d.rd F.safCfg_fen = 1 ∧ t0 + d.rd F.safTo_to * 10 ^ 9 ≤ d.now ∧ h.first = none) ∧
    (let s : State := saf {lastPair:=some 5} [(F.safCfg_fen,1,0),(F.safTo_to,1,0)] (4+10^9); let t0 : Nat := 5; let d := s.dev; let h := d.saf; 1 ≤ s.seq.released ∧ h.lastPair = some t0 ∧ (d.rd F.safCfg_fen = 0 ∨ d.now < t0 + d.rd F.safTo_to * 10 ^ 9)) ∧
    (let s : State := saf {}; let d := s.dev; let h := d.saf; 1 ≤ s.seq.released ∧ h.lastPair = none) := by
  refine ⟨?_, ?_, ?_, ?_, ?_, ?_, ?_, ?_, ?_, ?_, ?_, ?_, ?_, ?_, ?_, ?_, ?_, ?_, ?_, ?_, ?_, ?_, ?_, ?_, ?_, ?_, ?_, ?_, ?_, ?_, ?_, ?_, ?_, ?_, ?_, ?_, ?_, ?_, ?_, ?_, ?_, ?_, ?_, ?_, ?_, ?_, ?_, ?_, ?_, ?_, ?_, ?_, ?_, ?_, ?_, ?_, ?_, ?_, ?_, ?_, ?_, ?_, ?_, ?_, ?_, ?_, ?_⟩ <;> decide +kernel

/-- CheckUnits. -/
theorem test_CheckUnits_witnesses :
    (let s : State := chk1; let w : Who := w3; let k : Fin 4 := 3; let off : Fin 4 := 2; let width : Fin 5 := 2; let d := s.dev; let u := d.chkh k; let data := F.chkData_data.addr k 0; let fits := width = 1 ∨ (width = 2 ∧ off.val % 2 = 0) ∨ (width = 4 ∧ off = 0); s.Grants w data ∧ fits ∧ w.port ≠ 4 ∧ u.feed = []) ∧
    (let s : State := chk1; let w : Who := w3; let k : Fin 4 := 3; let off : Fin 4 := 3; let width : Fin 5 := 1; let d := s.dev; let u := d.chkh k; let data := F.chkData_data.addr k 0; let fits := width = 1 ∨ (width = 2 ∧ off.val % 2 = 0) ∨ (width = 4 ∧ off = 0); s.Grants w data ∧ fits ∧ w.port ≠ 4 ∧ u.feed = []) ∧
    (let s : State := chk1 {feed:=[1]}; let w : Who := w3; let k : Fin 4 := 3; let off : Fin 4 := 0; let width : Fin 5 := 4; let d := s.dev; let u := d.chkh k; let data := F.chkData_data.addr k 0; let fits := width = 1 ∨ (width = 2 ∧ off.val % 2 = 0) ∨ (width = 4 ∧ off = 0); s.Grants w data ∧ fits ∧ w.port ≠ 4 ∧ u.feed ≠ []) ∧
    (let s : State := chk1; let w : Who := w3; let k : Fin 4 := 3; let off : Fin 4 := 1; let width : Fin 5 := 2; let data := F.chkData_data.addr k 0; let fits := width = 1 ∨ (width = 2 ∧ off.val % 2 = 0) ∨ (width = 4 ∧ off = 0); s.Grants w data ∧ ¬ fits) ∧
    (let s : State := chk1; let w : Who := w3; let k : Fin 4 := 3; let off : Fin 4 := 0; let width : Fin 5 := 3; let data := F.chkData_data.addr k 0; let fits := width = 1 ∨ (width = 2 ∧ off.val % 2 = 0) ∨ (width = 4 ∧ off = 0); s.Grants w data ∧ ¬ fits) ∧
    (let off : Fin 4 := 0; let width : Fin 5 := 4; let fits := width = 1 ∨ (width = 2 ∧ off.val % 2 = 0) ∨ (width = 4 ∧ off = 0); fits) ∧
    (let s : State := chk1 {mgt:=[({port:=4,tag:=1},.start)]}; let k : Fin 4 := 3; let x : Cmdr × ChkWrite := ({port:=4,tag:=1},.start); let d := s.dev; let u := d.chkh k; u.feed = [] ∧ u.wait = [] ∧ u.mgt = [x] ∧ x.2 = .start ∧ x.1.port = 4) ∧
    (let s : State := chk1 {feed:=[1],wait:=[chkDw],mgt:=[chkDw]}; let k : Fin 4 := 3; let d := s.dev; let u := d.chkh k; u.feed ≠ []) ∧
    (let s : State := chk1 {feed:=[1,2],fedAt:=12000}; let k : Fin 4 := 3; let d := s.dev; let u := d.chkh k; 2 ≤ s.seq.released ∧ u.feed ≠ [] ∧ d.now < u.fedAt) ∧
    (let s : State := chk1 {feed:=[1,2]}; let k : Fin 4 := 3; let d := s.dev; let u := d.chkh k; 2 ≤ s.seq.released ∧ u.feed ≠ [] ∧ u.fedAt ≤ d.now ∧ u.wait = []) ∧
    (let s : State := chk1 {feed:=[1,2],wait:=[chkDw,chkDw]}; let k : Fin 4 := 3; let x : Cmdr × ChkWrite := chkDw; let l : List (Cmdr × ChkWrite) := [chkDw]; let d := s.dev; let u := d.chkh k; let data := F.chkData_data.addr k 0; 2 ≤ s.seq.released ∧ u.feed ≠ [] ∧ u.fedAt ≤ d.now ∧ u.wait = x :: l ∧ (∃ b, b ≠ [] ∧ x.2 = .data b)) ∧
    (let s : State := chk1; let k : Fin 4 := 3; let d := s.dev; let u := d.chkh k; 2 ≤ s.seq.released ∧ u.feed = []) ∧
    (let s : State := chk1; let w : Who := w3; let k : Fin 4 := 3; let p : Fin 16 := 1; let d := s.dev; let u := d.chkh k; let cfg := F.chkCfg_preset.addr k 0; s.Grants w cfg ∧ w.port ≠ 4 ∧ u.feed = [] ∧ p = 1) ∧
    (let s : State := chk1; let w : Who := w3; let k : Fin 4 := 3; let p : Fin 16 := 2; let d := s.dev; let u := d.chkh k; let cfg := F.chkCfg_preset.addr k 0; s.Grants w cfg ∧ w.port ≠ 4 ∧ u.feed = [] ∧ p = 2) ∧
    (let s : State := chk1; let w : Who := w3; let k : Fin 4 := 3; let p : Fin 16 := 3; let d := s.dev; let u := d.chkh k; let cfg := F.chkCfg_preset.addr k 0; s.Grants w cfg ∧ w.port ≠ 4 ∧ u.feed = [] ∧ p = 3) ∧
    (let p : Fin 16 := 4; 4 ≤ p.val) ∧
    (let v : BitVec 32 := 33; (v.toNat % 64 = 0 ∨ 32 < v.toNat % 64)) ∧
    (let v : BitVec 32 := 64; (v.toNat % 64 = 0 ∨ 32 < v.toNat % 64)) ∧
    (let s : State := chk1; let w : Who := w3; let k : Fin 4 := 3; let v : BitVec 32 := 32; let d := s.dev; let u := d.chkh k; let cfg := F.chkCfg_preset.addr k 0; 1 ≤ v.toNat % 64 ∧ v.toNat % 64 ≤ 32 ∧ s.Grants w cfg ∧ w.port ≠ 4 ∧ u.feed = []) ∧
    (let s : State := chk1; let w : Who := w3; let k : Fin 4 := 3; let v : BitVec 32 := 1; let d := s.dev; let u := d.chkh k; let cfg := F.chkCfg_preset.addr k 0; 1 ≤ v.toNat % 64 ∧ v.toNat % 64 ≤ 32 ∧ s.Grants w cfg ∧ w.port ≠ 4 ∧ u.feed = []) ∧
    (let s : State := chk1 {} [(F.chkAlvcfg_width,4)]; let k : Fin 4 := 3; let c : BitVec 16 := 16; let d := s.dev; let m := 2 ^ d.rd F.chkAlvcfg_width k; let n := c.toNat; m ≤ n) ∧
    (let s : State := chk1 {} [(F.chkAlvcfg_width,4),(F.chkAlvst_first,1)]; let k : Fin 4 := 3; let c : BitVec 16 := 15; let d := s.dev; let m := 2 ^ d.rd F.chkAlvcfg_width k; let n := c.toNat; n < m ∧ d.rd F.chkAlvst_first k = 1) ∧
    (let s : State := chk1 {} [(F.chkAlvcfg_width,4),(F.chkAlvst_first,0),(F.chkAlvst_last,15)]; let k : Fin 4 := 3; let c : BitVec 16 := 0; let d := s.dev; let last := d.rd F.chkAlvst_last k; let m := 2 ^ d.rd F.chkAlvcfg_width k; let n := c.toNat; n < m ∧ d.rd F.chkAlvst_first k = 0 ∧ n = (last + 1) % m ∧ 2 ≤ m ∧ last < m) ∧
    (let s : State := chk1 {} [(F.chkAlvcfg_width,4),(F.chkAlvst_first,0),(F.chkAlvst_last,15)]; let w : Who := w3; let k : Fin 4 := 3; let c : BitVec 16 := 15; let d := s.dev; let u := d.chkh k; let last := d.rd F.chkAlvst_last k; let m := 2 ^ d.rd F.chkAlvcfg_width k; let n := c.toNat; n < m ∧ d.rd F.chkAlvst_first k = 0 ∧ n = last ∧ 2 ≤ m ∧ s.Grants w (F.chkAlvin_c.addr k 0) ∧ w.port ≠ 4 ∧ u.feed = []) ∧
    (let s : State := chk1 {} [(F.chkAlvcfg_width,4),(F.chkAlvst_first,0),(F.chkAlvst_last,15)]; let w : Who := w3; let k : Fin 4 := 3; let c : BitVec 16 := 1; let d := s.dev; let u := d.chkh k; let last := d.rd F.chkAlvst_last k; let m := 2 ^ d.rd F.chkAlvcfg_width k; let n := c.toNat; n < m ∧ d.rd F.chkAlvst_first k = 0 ∧ n ≠ last ∧ n ≠ (last + 1) % m ∧ last < m ∧ s.Grants w (F.chkAlvin_c.addr k 0) ∧ w.port ≠ 4 ∧ u.feed = []) ∧
    (let aw : Fin 32 := 17; (aw = 0 ∨ 16 < aw.val)) ∧
    (let aw : Fin 32 := 0; (aw = 0 ∨ 16 < aw.val)) ∧
    (let s : State := chk1; let w : Who := w3; let k : Fin 4 := 3; let aw : Fin 32 := 16; let d := s.dev; let u := d.chkh k; 1 ≤ aw.val ∧ aw.val ≤ 16 ∧ s.Grants w (F.chkAlvcfg_width.addr k 0) ∧ w.port ≠ 4 ∧ u.feed = []) ∧
    (let s : State := chk1 {} [(F.chkAlvst_first,0)]; let w : Who := w3; let k : Fin 4 := 3; let aw : Fin 32 := 1; let d := s.dev; let u := d.chkh k; 1 ≤ aw.val ∧ aw.val ≤ 16 ∧ s.Grants w (F.chkAlvcfg_width.addr k 0) ∧ w.port ≠ 4 ∧ u.feed = []) := by
  refine ⟨?_, ?_, ?_, ?_, ?_, ?_, ?_, ?_, ?_, ?_, ?_, ?_, ?_, ?_, ?_, ?_, ?_, ?_, ?_, ?_, ?_, ?_, ?_, ?_, ?_, ?_, ?_, ?_, ?_⟩ <;>
    first | decide +kernel | exact ⟨by decide +kernel, by decide +kernel, by decide +kernel, rfl, [1], by decide +kernel, rfl⟩

/-- EventRecorder. -/
theorem test_EventRecorder_witnesses :
    (let s : State := evr {q28:=List.replicate 63 (rc 0)}; let code : BitVec 16 := 0x0203; let d := s.dev; let h := d.evr; let mine := h.waiting.filter fun x => x.code / 256 == code.toNat / 256; 2 ≤ s.seq.released ∧ h.q28.length < 64 ∧ mine = []) ∧
    (let s : State := evr {q28:=List.replicate 64 (rc 0)}; let code : BitVec 16 := 0x0203; let d := s.dev; let h := d.evr; let mine := h.waiting.filter fun x => x.code / 256 == code.toNat / 256; 2 ≤ s.seq.released ∧ (64 ≤ h.q28.length ∨ mine ≠ []) ∧ mine.length < 4) ∧
    (let s : State := evr {waiting:=[oc,oc,oc]}; let code : BitVec 16 := 0x0203; let d := s.dev; let h := d.evr; let mine := h.waiting.filter fun x => x.code / 256 == code.toNat / 256; 2 ≤ s.seq.released ∧ (64 ≤ h.q28.length ∨ mine ≠ []) ∧ mine.length < 4) ∧
    (let s : State := evr {waiting:=[oc,oc,oc,oc]}; let code : BitVec 16 := 0x0203; let d := s.dev; let h := d.evr; let mine := h.waiting.filter fun x => x.code / 256 == code.toNat / 256; 2 ≤ s.seq.released ∧ 4 ≤ mine.length) ∧
    (let s : State := evr {q28:=[rc 9,rc 8],settled:=1} [(F.evrRl_exempt,2,0)]; let r : Rec := rc 9; let l : List Rec := [rc 8]; let d := s.dev; let h := d.evr; let takes := h.cleared = none ∧ h.tookAt ≠ some (d.now / 4000) ∧ h.waiting = []; let other := r.code ≠ E.netFrameDrop.code; let exempt := bitOf (d.rd F.evrRl_exempt) r.sev = true; 2 ≤ s.seq.released ∧ takes ∧ other ∧ 0 < h.settled ∧ h.q28 = r :: l ∧ h.chip.length < 4096 ∧ exempt) ∧
    (let s : State := evr {q28:=[rc 9],settled:=1} [(F.evrRl_exempt,1,0)]; let r : Rec := rc 9; let l : List Rec := []; let d := s.dev; let h := d.evr; let takes := h.cleared = none ∧ h.tookAt ≠ some (d.now / 4000) ∧ h.waiting = []; let other := r.code ≠ E.netFrameDrop.code; let exempt := bitOf (d.rd F.evrRl_exempt) r.sev = true; 2 ≤ s.seq.released ∧ takes ∧ other ∧ 0 < h.settled ∧ h.q28 = r :: l ∧ h.chip.length < 4096 ∧ ¬ exempt ∧ 0 < d.tokens r.code) ∧
    (let s : State := evr {q28:=[rc 9],settled:=1,tokens:=[(0x0203,0)]} [(F.evrRl_exempt,1,0)]; let r : Rec := rc 9; let l : List Rec := []; let d := s.dev; let h := d.evr; let takes := h.cleared = none ∧ h.tookAt ≠ some (d.now / 4000) ∧ h.waiting = []; let exempt := bitOf (d.rd F.evrRl_exempt) r.sev = true; 2 ≤ s.seq.released ∧ takes ∧ 0 < h.settled ∧ h.q28 = r :: l ∧ ¬ exempt ∧ d.tokens r.code = 0) ∧
    (let s : State := evr {cleared:=some (3,17)} [(F.evrRl_exempt,31,0)]; let src : Fin 8 := 3; let n : Nat := 17; let d := s.dev; let h := d.evr; 2 ≤ s.seq.released ∧ h.cleared = some (src.val, n) ∧ h.chip = [] ∧ bitOf (d.rd F.evrRl_exempt) E.evrCleared.sev = true) ∧
    (let s : State := (let s := evr {q28:=[{ rc 9 with code := E.netFrameDrop.code }],settled:=1} [(F.evrRl_exempt,31,0)]; s.put {s.dev with net := {s.dev.net with drops := [(1,7)]}}); let r : Rec := { rc 9 with code := E.netFrameDrop.code }; let l : List Rec := []; let d := s.dev; let h := d.evr; let takes := h.cleared = none ∧ h.tookAt ≠ some (d.now / 4000) ∧ h.waiting = []; let other := r.code ≠ E.netFrameDrop.code; let exempt := bitOf (d.rd F.evrRl_exempt) r.sev = true; 2 ≤ s.seq.released ∧ takes ∧ ¬ other ∧ 0 < h.settled ∧ h.q28 = r :: l ∧ h.chip.length < 4096 ∧ exempt) ∧
    (let s : State := evr {q28:=[rcS 9 0],settled:=1,chip:=List.replicate 4096 {r:=rc 1}} [(F.evrRl_exempt,31,0)]; let r : Rec := rcS 9 0; let l : List Rec := []; let d := s.dev; let h := d.evr; let takes := h.cleared = none ∧ h.tookAt ≠ some (d.now / 4000) ∧ h.waiting = []; let exempt := bitOf (d.rd F.evrRl_exempt) r.sev = true; 2 ≤ s.seq.released ∧ takes ∧ 0 < h.settled ∧ h.q28 = r :: l ∧ 4096 ≤ h.chip.length ∧ exempt ∧ (∀ c ∈ h.chip, r.sev < c.r.sev) ∧ r.sev < 5) ∧
    (let s : State := evr {q28:=[rcS 9 1],settled:=1,chip:={r:=rcS 1 2} :: {r:=rcS 2 1,written:=true} :: List.replicate 4094 {r:=rcS 3 1}} [(F.evrRl_exempt,31,0)]; let r : Rec := rcS 9 1; let l : List Rec := []; let l1 : List ChipRec := [{r:=rcS 1 2}]; let l2 : List ChipRec := List.replicate 4094 {r:=rcS 3 1}; let c : ChipRec := {r:=rcS 2 1,written:=true}; let d := s.dev; let h := d.evr; let takes := h.cleared = none ∧ h.tookAt ≠ some (d.now / 4000) ∧ h.waiting = []; let exempt := bitOf (d.rd F.evrRl_exempt) r.sev = true; 2 ≤ s.seq.released ∧ takes ∧ 0 < h.settled ∧ h.q28 = r :: l ∧ 4096 ≤ h.chip.length ∧ exempt ∧ h.chip = l1 ++ c :: l2 ∧ c.written = true ∧ c.r.sev ≤ r.sev ∧ (∀ x ∈ l1, c.r.sev < x.r.sev) ∧ (∀ x ∈ l2, c.r.sev ≤ x.r.sev)) ∧
    (let s : State := evr {q28:=[rc 9,{ rc 8 with code := 0x0103 }]} [(F.evrRl_exempt,31,0)]; let r : Rec := rc 9; let r2 : Rec := { rc 8 with code := 0x0103 }; let d := s.dev; let h := d.evr; let takes := h.cleared = none ∧ h.tookAt ≠ some (d.now / 4000) ∧ h.waiting = []; 2 ≤ s.seq.released ∧ takes ∧ h.settled = 0 ∧ h.q28 = [r, r2] ∧ r2.code / 256 < r.code / 256 ∧ h.chip.length < 4096 ∧ bitOf (d.rd F.evrRl_exempt) r2.sev = true ∧ r2.code ≠ E.netFrameDrop.code) ∧
    (let s : State := evr {}; let d := s.dev; let h := d.evr; 2 ≤ s.seq.released ∧ h.cleared = none ∧ (h.q28 = [] ∨ h.tookAt = some (d.now / 4000))) ∧
    (let s : State := evr {q28:=[rc 9],settled:=1,tookAt:=some 0}; let d := s.dev; let h := d.evr; 2 ≤ s.seq.released ∧ h.cleared = none ∧ (h.q28 = [] ∨ h.tookAt = some (d.now / 4000))) ∧
    (let s : State := evr {tokens:=[(0x0203,0)]}; let code : BitVec 16 := 0x0203; let d := s.dev; let h := d.evr; let span := d.now / (d.rd F.evrRl_ivl * 1000000000); 2 ≤ s.seq.released ∧ Tbl.find code.toNat h.refilled ≠ some span) ∧
    (let s : State := (let s := evr {tokens:=[(0x0203,0)],refilled:=[(0x0203,0)]}; s.put {s.dev with now := 10^12}); let code : BitVec 16 := 0x0203; let d := s.dev; let h := d.evr; let span := d.now / (d.rd F.evrRl_ivl * 1000000000); 2 ≤ s.seq.released ∧ Tbl.find code.toNat h.refilled ≠ some span) ∧
    (let s : State := (let s := evr {tokens:=[(0x0203,0)],refilled:=[(0x0203,0)]}; s.put {s.dev with now := 10^12-1}); let code : BitVec 16 := 0x0203; let d := s.dev; let h := d.evr; let span := d.now / (d.rd F.evrRl_ivl * 1000000000); 2 ≤ s.seq.released ∧ Tbl.find code.toNat h.refilled = some span) ∧
    (let s : State := evrRun {chip:=[{r:=rc 8,written:=true},{r:=rc 9}],sector:=some 0}; let r : Rec := rc 9; let d := s.dev; let h := d.evr; let runs := d.mgt.fwRun = true ∧ d.rd F.mgtState_core = 0; 3 ≤ s.seq.released ∧ runs ∧ d.rd F.evrStat_erasing = 0 ∧ firstUnwritten h.chip = some r) ∧
    (let s : State := evr {chip:=[{r:=rc 9}]}; let d := s.dev; let h := d.evr; let runs := d.mgt.fwRun = true ∧ d.rd F.mgtState_core = 0; 3 ≤ s.seq.released ∧ (¬ runs ∨ d.rd F.evrStat_erasing = 1 ∨ firstUnwritten h.chip = none)) ∧
    (let s : State := evrRun {chip:=[{r:=rc 9}]} [(F.evrStat_erasing,1,0)]; let d := s.dev; let h := d.evr; let runs := d.mgt.fwRun = true ∧ d.rd F.mgtState_core = 0; 3 ≤ s.seq.released ∧ (¬ runs ∨ d.rd F.evrStat_erasing = 1 ∨ firstUnwritten h.chip = none)) ∧
    (let s : State := (let s := evrRun {fetchReq:=some 9} [(F.evrStat_pend,1,0)]; s.put {s.dev with flash := {ring:=[(8,rc 8),(9,rc 9),(70,rc 74)]}}); let n : Nat := 9; let d := s.dev; let h := d.evr; let runs := d.mgt.fwRun = true ∧ d.rd F.mgtState_core = 0; 3 ≤ s.seq.released ∧ runs ∧ h.fetchReq = some n) ∧
    (let s : State := evrRun {}; let d := s.dev; let h := d.evr; let runs := d.mgt.fwRun = true ∧ d.rd F.mgtState_core = 0; 3 ≤ s.seq.released ∧ (¬ runs ∨ h.fetchReq = none)) ∧
    (let s : State := set [(F.evrStat_erasing,1,0)]; 3 ≤ s.seq.released) ∧
    (let s : State := evr {chip:=[{r:=rc 9}]}; let w : Who := w3; let r : Rec := rc 9; let k : Fin 8 := 0; let d := s.dev; let h := d.evr; let win := F.evrWin_word.addr k 0; s.GrantsRead w win ∧ k = 0 ∧ lowestAt (Tbl.get 0 w.port.val h.cursor) (h.chip.map (·.r) ++ d.flash.ring.map (·.2)) = some r ∧ (∃ c ∈ h.chip, c.r.seq = r.seq)) ∧
    (let s : State := (let s := evr {chip:=[{r:=rc 9}],win:=[(3,rc 7)]}; s.put {s.dev with flash := {ring:=[(8,rc 8)]}}); let w : Who := w3; let r : Rec := rc 8; let k : Fin 8 := 0; let d := s.dev; let h := d.evr; let win := F.evrWin_word.addr k 0; s.GrantsRead w win ∧ k = 0 ∧ lowestAt (Tbl.get 0 w.port.val h.cursor) (h.chip.map (·.r) ++ d.flash.ring.map (·.2)) = some r ∧ (∀ c ∈ h.chip, c.r.seq ≠ r.seq) ∧ (∀ x ∈ h.fetchBuf, x.seq ≠ r.seq)) ∧
    (let s : State := evr {chip:=[{r:=rc 9}],cursor:=[(3,10)]} [(F.evrStat_pend,1,0)]; let w : Who := w3; let r : Rec := evrec; let k : Fin 8 := 0; let d := s.dev; let h := d.evr; let win := F.evrWin_word.addr k 0; s.GrantsRead w win ∧ k = 0 ∧ lowestAt (Tbl.get 0 w.port.val h.cursor) (h.chip.map (·.r) ++ d.flash.ring.map (·.2)) = none) ∧
    (let s : State := evr {win:=[(3,rc 9)]}; let w : Who := w3; let r : Rec := rc 9; let k : Fin 8 := 7; let d := s.dev; let h := d.evr; let win := F.evrWin_word.addr k 0; s.GrantsRead w win ∧ k ≠ 0 ∧ Tbl.find w.port.val h.win = some r) ∧
    (let s : State := evr {win:=[(3,rc 9)]}; let w : Who := w3; let r : Rec := rc 9; let k : Fin 8 := 1; let d := s.dev; let h := d.evr; let win := F.evrWin_word.addr k 0; s.GrantsRead w win ∧ k ≠ 0 ∧ Tbl.find w.port.val h.win = some r) ∧
    (let s : State := evr {chip:=[{r:=rc 9}]}; let w : Who := w3; let key : BitVec 8 := 0xC1; let cmd := F.evrCmd_clear.addr 0 0; s.Grants w cmd ∧ key = 0xC1) ∧
    (let s : State := evr {chip:=[{r:=rc 9}]}; let w : Who := w3; let key : BitVec 8 := 0xC0; let cmd := F.evrCmd_clear.addr 0 0; s.Grants w cmd ∧ key ≠ 0xC1) := by
  refine ⟨?_, ?_, ?_, ?_, ?_, ?_, ?_, ?_, ?_, ?_, ?_, ?_, ?_, ?_, ?_, ?_, ?_, ?_, ?_, ?_, ?_, ?_, ?_, ?_, ?_, ?_, ?_, ?_, ?_, ?_⟩ <;> decide +kernel

/-- ResetSequence. -/
theorem test_ResetSequence_witnesses :
    (let clocks : Nat := 250; 250 ≤ clocks) ∧
    (let clocks : Nat := 300; 250 ≤ clocks) ∧
    (let clocks : Nat := 249; clocks < 250) ∧
    (let clocks : Nat := 50; let rails : Rails := {core:=719,io:=3300,a:=1800,drv:=5000}; 50 ≤ clocks ∧ (rails.core < 720 ∨ rails.io < 2900 ∨ rails.a < 1620 ∨ rails.drv < 4500)) ∧
    (let clocks : Nat := 50; let rails : Rails := {core:=800,io:=3300,a:=1800,drv:=4499}; 50 ≤ clocks ∧ (rails.core < 720 ∨ rails.io < 2900 ∨ rails.a < 1620 ∨ rails.drv < 4500)) ∧
    (let clocks : Nat := 49; let rails : Rails := {core:=719,io:=3300,a:=1800,drv:=5000}; (clocks < 50 ∨ railsLow rails = [])) ∧
    (let clocks : Nat := 500; let rails : Rails := {core:=720,io:=2900,a:=1620,drv:=4500}; (clocks < 50 ∨ railsLow rails = [])) ∧
    (let clocks : Nat := 50; let mV : Nat := 1599; mV < 1600 ∧ 50 ≤ clocks) ∧
    (let clocks : Nat := 50; let mV : Nat := 1600; (1600 ≤ mV ∨ clocks < 50)) ∧
    (let clocks : Nat := 49; let mV : Nat := 1599; (1600 ≤ mV ∨ clocks < 50)) ∧
    (let clocks : Nat := 50; let mV : Nat := 1701; 1700 < mV ∧ 50 ≤ clocks) ∧
    (let clocks : Nat := 50; let mV : Nat := 1700; (mV ≤ 1700 ∨ clocks < 50)) ∧
    (let clocks : Nat := 49; let mV : Nat := 1701; (mV ≤ 1700 ∨ clocks < 50)) ∧
    (let s : State := seqAt {buck:=false}; let mV : Nat := 26001; let q := s.seq; q.buck = false ∧ 26000 < mV) ∧
    (let s : State := seqAt {buck:=false}; let mV : Nat := 26000; let q := s.seq; (q.buck = true ∨ mV ≤ 26000)) ∧
    (let s : State := sys {}; let mV : Nat := 48000; let q := s.seq; (q.buck = true ∨ mV ≤ 26000)) ∧
    (let s : State := canOn; let mV : Nat := 23999; let q := s.seq; q.buck = true ∧ mV < 24000) ∧
    (let s : State := sys {}; let mV : Nat := 24000; let q := s.seq; (q.buck = false ∨ 24000 ≤ mV)) ∧
    (let s : State := seqAt {buck:=false}; let mV : Nat := 0; let q := s.seq; (q.buck = false ∨ 24000 ≤ mV)) ∧
    (let s : State := seqAt {since:=[.resetN],cut:=true}; let clocks : Nat := 0; let high : Nat := 250; let rails : Rails := {core:=0,io:=0,a:=0,drv:=0}; let d := s.dev; let q := s.seq; let back := 7416 < 10 * rails.core ∧ 29870 < 10 * rails.io ∧ 16686 < 10 * rails.a ∧ 46350 < 10 * rails.drv; let freed := q.buck = true ∧ q.railsAt ≤ d.now ∧ (.resetN ∈ q.since → 250 ≤ high) ∧ ((∃ m ∈ q.since, m ≠ .resetN) → back ∧ 50 ≤ clocks); q.phase = .held ∧ freed) ∧
    (let s : State := seqAt {since:=[.core,.resetN],railsAt:=7} [] {now:=7}; let clocks : Nat := 50; let high : Nat := 250; let rails : Rails := {core:=742,io:=2988,a:=1669,drv:=4636}; let d := s.dev; let q := s.seq; let back := 7416 < 10 * rails.core ∧ 29870 < 10 * rails.io ∧ 16686 < 10 * rails.a ∧ 46350 < 10 * rails.drv; let freed := q.buck = true ∧ q.railsAt ≤ d.now ∧ (.resetN ∈ q.since → 250 ≤ high) ∧ ((∃ m ∈ q.since, m ≠ .resetN) → back ∧ 50 ≤ clocks); q.phase = .held ∧ freed) ∧
    (let s : State := seqAt {since:=[.drv],backup:=true}; let clocks : Nat := 50; let high : Nat := 0; let rails : Rails := {core:=742,io:=2988,a:=1669,drv:=4636}; let d := s.dev; let q := s.seq; let back := 7416 < 10 * rails.core ∧ 29870 < 10 * rails.io ∧ 16686 < 10 * rails.a ∧ 46350 < 10 * rails.drv; let freed := q.buck = true ∧ q.railsAt ≤ d.now ∧ (.resetN ∈ q.since → 250 ≤ high) ∧ ((∃ m ∈ q.since, m ≠ .resetN) → back ∧ 50 ≤ clocks); q.phase = .held ∧ freed) ∧
    (let s : State := seqAt {since:=[.resetN]}; let clocks : Nat := 50; let high : Nat := 249; let rails : Rails := {core:=800,io:=3300,a:=1800,drv:=5000}; let d := s.dev; let q := s.seq; let back := 7416 < 10 * rails.core ∧ 29870 < 10 * rails.io ∧ 16686 < 10 * rails.a ∧ 46350 < 10 * rails.drv; let freed := q.buck = true ∧ q.railsAt ≤ d.now ∧ (.resetN ∈ q.since → 250 ≤ high) ∧ ((∃ m ∈ q.since, m ≠ .resetN) → back ∧ 50 ≤ clocks); (q.phase ≠ .held ∨ ¬ freed)) ∧
    (let s : State := seqAt {since:=[.drv]}; let clocks : Nat := 50; let high : Nat := 250; let rails : Rails := {core:=742,io:=2988,a:=1669,drv:=4635}; let d := s.dev; let q := s.seq; let back := 7416 < 10 * rails.core ∧ 29870 < 10 * rails.io ∧ 16686 < 10 * rails.a ∧ 46350 < 10 * rails.drv; let freed := q.buck = true ∧ q.railsAt ≤ d.now ∧ (.resetN ∈ q.since → 250 ≤ high) ∧ ((∃ m ∈ q.since, m ≠ .resetN) → back ∧ 50 ≤ clocks); (q.phase ≠ .held ∨ ¬ freed)) ∧
    (let s : State := seqAt {since:=[.drv]}; let clocks : Nat := 49; let high : Nat := 250; let rails : Rails := {core:=800,io:=3300,a:=1800,drv:=5000}; let d := s.dev; let q := s.seq; let back := 7416 < 10 * rails.core ∧ 29870 < 10 * rails.io ∧ 16686 < 10 * rails.a ∧ 46350 < 10 * rails.drv; let freed := q.buck = true ∧ q.railsAt ≤ d.now ∧ (.resetN ∈ q.since → 250 ≤ high) ∧ ((∃ m ∈ q.since, m ≠ .resetN) → back ∧ 50 ≤ clocks); (q.phase ≠ .held ∨ ¬ freed)) ∧
    (let s : State := seqAt {since:=[.drv],railsAt:=1}; let clocks : Nat := 50; let high : Nat := 250; let rails : Rails := {core:=800,io:=3300,a:=1800,drv:=5000}; let d := s.dev; let q := s.seq; let back := 7416 < 10 * rails.core ∧ 29870 < 10 * rails.io ∧ 16686 < 10 * rails.a ∧ 46350 < 10 * rails.drv; let freed := q.buck = true ∧ q.railsAt ≤ d.now ∧ (.resetN ∈ q.since → 250 ≤ high) ∧ ((∃ m ∈ q.since, m ≠ .resetN) → back ∧ 50 ≤ clocks); (q.phase ≠ .held ∨ ¬ freed)) ∧
    (let s : State := seqAt {since:=[.drv],buck:=false}; let clocks : Nat := 50; let high : Nat := 250; let rails : Rails := {core:=800,io:=3300,a:=1800,drv:=5000}; let d := s.dev; let q := s.seq; let back := 7416 < 10 * rails.core ∧ 29870 < 10 * rails.io ∧ 16686 < 10 * rails.a ∧ 46350 < 10 * rails.drv; let freed := q.buck = true ∧ q.railsAt ≤ d.now ∧ (.resetN ∈ q.since → 250 ≤ high) ∧ ((∃ m ∈ q.since, m ≠ .resetN) → back ∧ 50 ≤ clocks); (q.phase ≠ .held ∨ ¬ freed)) ∧
    (let s : State := sys {}; let clocks : Nat := 50; let high : Nat := 250; let rails : Rails := {core:=800,io:=3300,a:=1800,drv:=5000}; let d := s.dev; let q := s.seq; let back := 7416 < 10 * rails.core ∧ 29870 < 10 * rails.io ∧ 16686 < 10 * rails.a ∧ 46350 < 10 * rails.drv; let freed := q.buck = true ∧ q.railsAt ≤ d.now ∧ (.resetN ∈ q.since → 250 ≤ high) ∧ ((∃ m ∈ q.since, m ≠ .resetN) → back ∧ 50 ≤ clocks); (q.phase ≠ .held ∨ ¬ freed)) ∧
    (let s : State := seqAt {phase:=.source,clksrc:=true} [] {now:=20*10^9+39999}; let edges : Nat := 1024; let d := s.dev; let q := s.seq; let late := fun (ps : Nat) => q.at_ + ps + 40000 ≤ d.now; let ms20 := 20 * 10 ^ 9; q.phase = .source ∧ ¬ late ms20 ∧ 1024 ≤ edges) ∧
    (let s : State := seqAt {phase:=.source}; let edges : Nat := 1023; let d := s.dev; let q := s.seq; let late := fun (ps : Nat) => q.at_ + ps + 40000 ≤ d.now; let ms20 := 20 * 10 ^ 9; (q.phase ≠ .source ∨ ¬ late ms20 ∧ edges < 1024)) ∧
    (let s : State := sys {}; let edges : Nat := 1024; let d := s.dev; let q := s.seq; let late := fun (ps : Nat) => q.at_ + ps + 40000 ≤ d.now; let ms20 := 20 * 10 ^ 9; (q.phase ≠ .source ∨ ¬ late ms20 ∧ edges < 1024)) ∧
    (let s : State := seqAt {phase:=.pll} [] {now:=20*10^9+39999}; let clocks : Nat := 64; let d := s.dev; let q := s.seq; let late := fun (ps : Nat) => q.at_ + ps + 40000 ≤ d.now; let ms20 := 20 * 10 ^ 9; q.phase = .pll ∧ ¬ late ms20 ∧ 64 ≤ clocks) ∧
    (let s : State := seqAt {phase:=.step 12,released:=11,at_:=7} [] {now:=10^8+40006}; let clocks : Nat := 64; let i : Nat := 12; let d := s.dev; let q := s.seq; let late := fun (ps : Nat) => q.at_ + ps + 40000 ≤ d.now; let us100 := 10 ^ 8; q.phase = .step i ∧ i ≠ 13 ∧ ¬ late us100 ∧ 64 ≤ clocks) ∧
    (let s : State := seqAt {phase:=.step 2,released:=1}; let clocks : Nat := 64; let i : Nat := 2; let d := s.dev; let q := s.seq; let late := fun (ps : Nat) => q.at_ + ps + 40000 ≤ d.now; let us100 := 10 ^ 8; q.phase = .step i ∧ i ≠ 13 ∧ ¬ late us100 ∧ 64 ≤ clocks) ∧
    (let s : State := seqAt {phase:=.step 13,released:=12}; let clocks : Nat := 64; let d := s.dev; let q := s.seq; let late := fun (ps : Nat) => q.at_ + ps + 40000 ≤ d.now; let us100 := 10 ^ 8; q.phase = .step 13 ∧ ¬ late us100 ∧ 64 ≤ clocks) ∧
    (let s : State := seqAt {phase:=.step 2,released:=1}; let clocks : Nat := 63; let i : Nat := 2; let d := s.dev; let q := s.seq; let late := fun (ps : Nat) => q.at_ + ps + 40000 ≤ d.now; let ms20 := 20 * 10 ^ 9; let us100 := 10 ^ 8; (q.phase = .step i ∧ ¬ late us100 ∨ q.phase = .pll ∧ ¬ late ms20) ∧ clocks < 64) ∧
    (let s : State := seqAt {phase:=.pll} [] {now:=20*10^9+39999}; let clocks : Nat := 63; let i : Nat := 0; let d := s.dev; let q := s.seq; let late := fun (ps : Nat) => q.at_ + ps + 40000 ≤ d.now; let ms20 := 20 * 10 ^ 9; let us100 := 10 ^ 8; (q.phase = .step i ∧ ¬ late us100 ∨ q.phase = .pll ∧ ¬ late ms20) ∧ clocks < 64) ∧
    (let s : State := seqAt {phase:=.step 2,released:=1}; let i : Nat := 2; let d := s.dev; let q := s.seq; let late := fun (ps : Nat) => q.at_ + ps + 40000 ≤ d.now; let ms20 := 20 * 10 ^ 9; let us100 := 10 ^ 8; (q.phase = .step i ∧ ¬ late us100 ∨ q.phase = .pll ∧ ¬ late ms20)) ∧
    (let s : State := seqAt {phase:=.pll} [] {now:=20*10^9+39999}; let i : Nat := 0; let d := s.dev; let q := s.seq; let late := fun (ps : Nat) => q.at_ + ps + 40000 ≤ d.now; let ms20 := 20 * 10 ^ 9; let us100 := 10 ^ 8; (q.phase = .step i ∧ ¬ late us100 ∨ q.phase = .pll ∧ ¬ late ms20)) ∧
    (let s : State := seqAt {phase:=.gap 3,released:=3}; let i : Nat := 0; let q := s.seq; (∀ i, q.phase ≠ .step i) ∧ q.phase ≠ .pll) ∧
    (let s : State := seqAt {phase:=.gap 3,released:=3}; let i : Nat := 0; let q := s.seq; (∀ i, q.phase ≠ .step i) ∧ q.phase ≠ .pll ∧ q.phase ≠ .source) ∧
    (let s : State := seqAt {phase:=.gap 3,released:=3,at_:=7} [(F.rstGap_gap,64,0)] {now:=2560007}; let i : Nat := 3; let d := s.dev; let q := s.seq; q.phase = .gap i ∧ q.at_ + d.rd F.rstGap_gap * 40000 ≤ d.now) ∧
    (let s : State := seqAt {phase:=.gap 3,released:=3,at_:=7} [(F.rstGap_gap,64,0)] {now:=2560006}; let i : Nat := 3; let d := s.dev; let q := s.seq; ((∀ i, q.phase ≠ .gap i) ∨ d.now < q.at_ + d.rd F.rstGap_gap * 40000)) ∧
    (let s : State := seqAt {phase:=.step 3,released:=2}; let i : Nat := 0; let d := s.dev; let q := s.seq; ((∀ i, q.phase ≠ .gap i) ∨ d.now < q.at_ + d.rd F.rstGap_gap * 40000)) ∧
    (let s : State := seqAt {phase:=.source} [] {now:=20*10^9+39999}; let d := s.dev; let q := s.seq; let late := fun (ps : Nat) => q.at_ + ps + 40000 ≤ d.now; let ms20 := 20 * 10 ^ 9; q.phase = .source ∧ ¬ late ms20) ∧
    (let s : State := seqAt {phase:=.step 3,released:=2,at_:=7} [] {now:=10^8+40007}; let i : Nat := 3; let d := s.dev; let q := s.seq; let late := fun (ps : Nat) => q.at_ + ps + 40000 ≤ d.now; let us100 := 10 ^ 8; q.phase = .step i ∧ late us100) ∧
    (let s : State := seqAt {phase:=.step 13,released:=12,backup:=true} [] {now:=10^9}; let i : Nat := 13; let d := s.dev; let q := s.seq; let late := fun (ps : Nat) => q.at_ + ps + 40000 ≤ d.now; let us100 := 10 ^ 8; q.phase = .step i ∧ late us100) ∧
    (let s : State := seqAt {phase:=.source} [] {now:=20*10^9+40000}; let d := s.dev; let q := s.seq; let late := fun (ps : Nat) => q.at_ + ps + 40000 ≤ d.now; let ms20 := 20 * 10 ^ 9; (q.phase = .source ∨ q.phase = .pll) ∧ late ms20) ∧
    (let s : State := seqAt {phase:=.pll} [] {now:=20*10^9+40000}; let d := s.dev; let q := s.seq; let late := fun (ps : Nat) => q.at_ + ps + 40000 ≤ d.now; let ms20 := 20 * 10 ^ 9; (q.phase = .source ∨ q.phase = .pll) ∧ late ms20) ∧
    (let s : State := seqAt {phase:=.source} [] {now:=20*10^9+40000}; let d := s.dev; let q := s.seq; let late := fun (ps : Nat) => q.at_ + ps + 40000 ≤ d.now; let ms20 := 20 * 10 ^ 9; q.phase = .source ∧ late ms20) ∧
    (let s : State := seqAt {phase:=.pll} [] {now:=20*10^9+40000}; let d := s.dev; let q := s.seq; let late := fun (ps : Nat) => q.at_ + ps + 40000 ≤ d.now; let ms20 := 20 * 10 ^ 9; q.phase = .pll ∧ late ms20) := by
  refine ⟨?_, ?_, ?_, ?_, ?_, ?_, ?_, ?_, ?_, ?_, ?_, ?_, ?_, ?_, ?_, ?_, ?_, ?_, ?_, ?_, ?_, ?_, ?_, ?_, ?_, ?_, ?_, ?_, ?_, ?_, ?_, ?_, ?_, ?_, ?_, ?_, ?_, ?_, ?_, ?_, ?_, ?_, ?_, ?_, ?_, ?_, ?_, ?_, ?_, ?_, ?_⟩ <;>
    first | decide +kernel | exact Or.inr (by decide +kernel) | simp [seqAt]

/-- StartUp. -/
theorem test_StartUp_witnesses :
    (let s : State := set [(F.mgtState_core,0,0)] fwDev; let i : Fin 2 := 0; let l : List Nat := []; let d := s.dev; let core := d.rd F.mgtState_core; let fw := slotBase 0 i; 3 ≤ s.seq.released ∧ d.mgt.fwRun = false ∧ core = 0 ∧ d.candidates 0 = i.val :: l ∧ d.laterCheck 0 fw = 0) ∧
    (let s : State := set [(F.mgtState_core,0,0)] {fwDev with pwr:={}}; let i : Fin 2 := 0; let r : Nat := 7; let d := s.dev; let core := d.rd F.mgtState_core; let fw := slotBase 0 i; 3 ≤ s.seq.released ∧ d.mgt.fwRun = false ∧ core = 0 ∧ d.candidates 0 = [i.val] ∧ d.laterCheck 0 fw = r ∧ r ≠ 0) ∧
    (let s : State := set [(F.mgtState_core,0,0)]; let d := s.dev; let core := d.rd F.mgtState_core; 3 ≤ s.seq.released ∧ d.mgt.fwRun = false ∧ core = 0 ∧ d.candidates 0 = []) ∧
    (let s : State := mgtRuns {}; let d := s.dev; let core := d.rd F.mgtState_core; 3 ≤ s.seq.released ∧ ((d.mgt.fwRun = true ∨ core ≠ 0))) ∧
    (let s : State := mgtRuns (bdDev 0x300000); let i : Fin 2 := 1; let l : List Nat := []; let d := s.dev; let core := d.rd F.mgtState_core; let img := slotBase 1 i; let p := ((d.ev E.rstStart (d.cellWord R.rstEvidence) (d.rd F.rstCount_count)).ev E.bootSlot (2 * d.rd F.rstBoot_fwslot) (d.rd F.mgtFwgen_gen)).countersRestore.recordsRestore d; 3 ≤ s.seq.released ∧ (((d.mgt.fwRun = true ∧ core = 0) ∧ d.devstate = 0 ∧ d.mgt.noImage = false)) ∧ d.pwr.stopNote = none ∧ p.candidates 1 = i.val :: l ∧ p.laterCheck 1 img = 0) ∧
    (let s : State := mgtRuns {}; let d := s.dev; let core := d.rd F.mgtState_core; let p := ((d.ev E.rstStart (d.cellWord R.rstEvidence) (d.rd F.rstCount_count)).ev E.bootSlot (2 * d.rd F.rstBoot_fwslot) (d.rd F.mgtFwgen_gen)).countersRestore.recordsRestore d; 3 ≤ s.seq.released ∧ (((d.mgt.fwRun = true ∧ core = 0) ∧ d.devstate = 0 ∧ d.mgt.noImage = false)) ∧ d.pwr.stopNote = none ∧ p.candidates 1 = []) ∧
    (let s : State := sys {}; let d := s.dev; let core := d.rd F.mgtState_core; 3 ≤ s.seq.released ∧ (¬ ((d.mgt.fwRun = true ∧ core = 0) ∧ d.devstate = 0 ∧ d.mgt.noImage = false))) ∧
    (let s : State := mgtRuns {noSect 0x100000 with devstate:=1}; let fail : Option (Nat × Nat) := none; let e : Dev := (mgtRuns {noSect 0x100000 with devstate:=1}).dev; let d := s.dev; let core := d.rd F.mgtState_core; let pass := d.writePass (slotBase 1 (d.rd F.rstBoot_imgslot)) fail (d.passOrder (slotBase 1 (d.rd F.rstBoot_imgslot))); 3 ≤ s.seq.released ∧ (((d.mgt.fwRun = true ∧ core = 0) ∧ d.devstate = 1 ∧ d.mgt.cfgFail = false)) ∧ pass = (none, e)) ∧
    (let s : State := mgtRuns {bdDev 0x100000 with devstate:=1}; let fail : Option (Nat × Nat) := some (0,0x70034); let k : Nat := 0; let a : Nat := 0x70034; let e : Dev := (mgtRuns {bdDev 0x100000 with devstate:=1}).dev; let d := s.dev; let core := d.rd F.mgtState_core; let pass := d.writePass (slotBase 1 (d.rd F.rstBoot_imgslot)) fail (d.passOrder (slotBase 1 (d.rd F.rstBoot_imgslot))); 3 ≤ s.seq.released ∧ (((d.mgt.fwRun = true ∧ core = 0) ∧ d.devstate = 1 ∧ d.mgt.cfgFail = false)) ∧ pass = (some (k, a), e)) ∧
    (let s : State := mgtRuns {}; let d := s.dev; let core := d.rd F.mgtState_core; 3 ≤ s.seq.released ∧ (¬ ((d.mgt.fwRun = true ∧ core = 0) ∧ d.devstate = 1 ∧ d.mgt.cfgFail = false))) ∧
    (let s : State := sys {devstate:=2}; let d := s.dev; 2 ≤ s.seq.released ∧ d.devstate = 2 ∧ ((∀ n < 4, d.rd F.tbCtrl_src n = 0 ∨ d.rd F.tbState_state n = 3 ∨ (n = 0 ∧ d.rd F.tbCtrl_gm 0 = 1)))) ∧
    (let s : State := sys {devstate:=1}; let d := s.dev; 2 ≤ s.seq.released ∧ ((d.devstate ≠ 2 ∨ ¬ (∀ n < 4, d.rd F.tbCtrl_src n = 0 ∨ d.rd F.tbState_state n = 3 ∨ (n = 0 ∧ d.rd F.tbCtrl_gm 0 = 1))))) ∧
    (let s : State := set [(F.tbCtrl_src,1,3),(F.tbState_state,2,3)] {devstate:=2}; let d := s.dev; 2 ≤ s.seq.released ∧ ((d.devstate ≠ 2 ∨ ¬ (∀ n < 4, d.rd F.tbCtrl_src n = 0 ∨ d.rd F.tbState_state n = 3 ∨ (n = 0 ∧ d.rd F.tbCtrl_gm 0 = 1))))) ∧
    (let s : State := sys {now:=7,pwr:={sel:=2}}; let w : Who := w3; let v : Fin 128 := 51; let d := s.dev; let vdrv := F.pwrVdrv_set.addr 0 0; s.GrantsPart w vdrv ∧ ((50 ≤ v.val ∧ v.val ≤ strapLevel d.pwr.sel)) ∧ ((∀ n < 8, d.axState n = 0)) ∧ v.val ≠ d.pwr.vdrv ∧ d.pwr.ramp = none) ∧
    (let s : State := sys {pwr:={sel:=2}}; let w : Who := w3; let v : Fin 128 := 50; let d := s.dev; let vdrv := F.pwrVdrv_set.addr 0 0; s.GrantsPart w vdrv ∧ ((50 ≤ v.val ∧ v.val ≤ strapLevel d.pwr.sel)) ∧ ((∀ n < 8, d.axState n = 0)) ∧ v.val = d.pwr.vdrv) ∧
    (let s : State := set [(F.axState_state,1,7)] {pwr:={sel:=2}}; let w : Who := w3; let v : Fin 128 := 51; let d := s.dev; let vdrv := F.pwrVdrv_set.addr 0 0; s.GrantsPart w vdrv ∧ ((50 ≤ v.val ∧ v.val ≤ strapLevel d.pwr.sel)) ∧ (¬ (∀ n < 8, d.axState n = 0))) ∧
    (let s : State := sys {}; let w : Who := w3; let v : Fin 128 := 49; let d := s.dev; let vdrv := F.pwrVdrv_set.addr 0 0; s.GrantsPart w vdrv ∧ (¬ (50 ≤ v.val ∧ v.val ≤ strapLevel d.pwr.sel))) ∧
    (let s : State := sys {}; let w : Who := w3; let v : Fin 128 := 51; let d := s.dev; let vdrv := F.pwrVdrv_set.addr 0 0; s.GrantsPart w vdrv ∧ (¬ (50 ≤ v.val ∧ v.val ≤ strapLevel d.pwr.sel))) ∧
    (let s : State := sys {now:=9,pwr:={ramp:=some (0,9)}}; let k : Nat := 0; let t0 : Nat := 9; let d := s.dev; 1 ≤ s.seq.released ∧ d.pwr.ramp = some (k, t0) ∧ t0 ≤ d.now) ∧
    (let s : State := sys {now:=8,pwr:={ramp:=some (0,9)}}; let k : Nat := 0; let t0 : Nat := 9; let d := s.dev; 1 ≤ s.seq.released ∧ ((d.pwr.ramp = none ∨ (d.pwr.ramp = some (k, t0) ∧ d.now < t0)))) ∧
    (let s : State := sys {}; let k : Nat := 0; let t0 : Nat := 9; let d := s.dev; 1 ≤ s.seq.released ∧ ((d.pwr.ramp = none ∨ (d.pwr.ramp = some (k, t0) ∧ d.now < t0)))) ∧
    (let s : State := sys {pwr:={prog:=some (3,5)}}; let x : Nat × Nat := (3,5); let d := s.dev; 1 ≤ s.seq.released ∧ d.pwr.prog = some x) ∧
    (let s : State := sys {}; let d := s.dev; 1 ≤ s.seq.released ∧ d.pwr.prog = none) ∧
    (let s : State := set [(F.fusePaddr_word,3,0),(F.fusePdata_bits,5,0),(F.fuseKey_key,0xA5C3,0)]; let w : Who := w3; let word : Nat := 3; let bits : Nat := 5; let d := s.dev; let go := F.fusePcmd_go.addr 0 0; s.GrantsPart w go ∧ (((word < 4 ∨ (12 ≤ word ∧ word ≤ 28)) ∧ d.rd F.fusePaddr_word = word ∧ d.rd F.fusePdata_bits = bits)) ∧ (((∀ n < 8, d.axState n = 0) ∧ d.rd F.fusePstat_busy = 0 ∧ d.rd F.fuseKey_key = 0xA5C3)) ∧ (bitOf (Tbl.get 0 28 d.pwr.fuses) 14 = false)) ∧
    (let s : State := set [(F.fusePaddr_word,3,0),(F.fusePdata_bits,5,0),(F.fuseKey_key,0xA5C2,0)]; let w : Who := w3; let word : Nat := 3; let bits : Nat := 5; let d := s.dev; let go := F.fusePcmd_go.addr 0 0; s.GrantsPart w go ∧ (((word < 4 ∨ (12 ≤ word ∧ word ≤ 28)) ∧ d.rd F.fusePaddr_word = word ∧ d.rd F.fusePdata_bits = bits)) ∧ (¬ ((∀ n < 8, d.axState n = 0) ∧ d.rd F.fusePstat_busy = 0 ∧ d.rd F.fuseKey_key = 0xA5C3))) ∧
    (let s : State := set [(F.fusePaddr_word,3,0),(F.fusePdata_bits,5,0),(F.fuseKey_key,0xA5C3,0)] {pwr:={fuses:=[(28,0x4000)]}}; let w : Who := w3; let word : Nat := 3; let bits : Nat := 5; let d := s.dev; let go := F.fusePcmd_go.addr 0 0; s.GrantsPart w go ∧ (((word < 4 ∨ (12 ≤ word ∧ word ≤ 28)) ∧ d.rd F.fusePaddr_word = word ∧ d.rd F.fusePdata_bits = bits)) ∧ ¬ (bitOf (Tbl.get 0 28 d.pwr.fuses) 14 = false) ∧ word ≠ 28) ∧
    (let s : State := set [(F.fusePaddr_word,11,0)]; let w : Who := w3; let word : Nat := 11; let d := s.dev; let go := F.fusePcmd_go.addr 0 0; s.GrantsPart w go ∧ (¬ (word < 4 ∨ (12 ≤ word ∧ word ≤ 28))) ∧ d.rd F.fusePaddr_word = word) ∧
    (let s : State := set [(F.fusePaddr_word,29,0)]; let w : Who := w3; let word : Nat := 29; let d := s.dev; let go := F.fusePcmd_go.addr 0 0; s.GrantsPart w go ∧ (¬ (word < 4 ∨ (12 ≤ word ∧ word ≤ 28))) ∧ d.rd F.fusePaddr_word = word) ∧
    (let s : State := sys {now:=10^9,pwr:={sel:=2,vdrv:=100,ramp:=some (50,5*10^9),rampFrom:=5*10^9}}; let w : Who := w3; let k : Nat := 50; let t0 : Nat := 5*10^9; let v : Fin 128 := 50; let d := s.dev; let vdrv := F.pwrVdrv_set.addr 0 0; let fits := 50 ≤ v.val ∧ v.val ≤ strapLevel d.pwr.sel; let still := ∀ n < 8, d.axState n = 0; s.GrantsPart w vdrv ∧ fits ∧ still ∧ v.val ≠ d.pwr.vdrv ∧ d.pwr.ramp = some (k, t0) ∧ d.pwr.rampFrom + (t0 - d.now) ≤ d.pwr.vdrv * 10 ^ 8 ∧ d.now ≤ t0) := by
  refine ⟨?_, ?_, ?_, ?_, ?_, ?_, ?_, ?_, ?_, ?_, ?_, ?_, ?_, ?_, ?_, ?_, ?_, ?_, ?_, ?_, ?_, ?_, ?_, ?_, ?_, ?_, ?_, ?_, ?_⟩ <;> decide +kernel

/-- ManagementUpdates. -/
theorem test_ManagementUpdates_witnesses :
    (let s : State := mbRun [1,0x70001,8] [] {} {devstate:=2}; let e : QEnt := mb [1,0x70001,8]; let k : Fin 8 := 0; let d := s.dev; let word := fun (k : Nat) => e.words.getD k 0; let kind := word 1 % 2; let slot := 1 - d.rd (if kind = 0 then F.rstBoot_fwslot else F.rstBoot_imgslot); let len := word 2; let free := (d.devstate ≠ 0 ∨ d.mgt.noImage = true) ∧ (kind = 1 → ∀ a < 8, bitsOf (d.rd F.mgtAximg_slot) a 1 ≠ slot); 3 ≤ s.seq.released ∧ d.mbHead 1 = some e ∧ len % 4 = 0 ∧ len ≤ slotSize kind ∧ d.rd F.mgtUpd_open = 0 ∧ free) ∧
    (let s : State := mbRun [1,0x70001,8]; let e : QEnt := mb [1,0x70001,8]; let k : Fin 8 := 0; let d := s.dev; let word := fun (k : Nat) => e.words.getD k 0; let kind := word 1 % 2; let slot := 1 - d.rd (if kind = 0 then F.rstBoot_fwslot else F.rstBoot_imgslot); let len := word 2; let free := (d.devstate ≠ 0 ∨ d.mgt.noImage = true) ∧ (kind = 1 → ∀ a < 8, bitsOf (d.rd F.mgtAximg_slot) a 1 ≠ slot); 3 ≤ s.seq.released ∧ d.mbHead 1 = some e ∧ len % 4 = 0 ∧ len ≤ slotSize kind ∧ (d.rd F.mgtUpd_open = 1 ∨ ¬ free)) ∧
    (let s : State := mbRun [1,0x70001,9] [] {} {devstate:=2}; let e : QEnt := mb [1,0x70001,9]; let k : Fin 8 := 0; let d := s.dev; let word := fun (k : Nat) => e.words.getD k 0; let kind := word 1 % 2; let len := word 2; 3 ≤ s.seq.released ∧ d.mbHead 1 = some e ∧ (len % 4 ≠ 0 ∨ slotSize kind < len)) ∧
    (let s : State := mbRun [1,0x70001,0x200004] [] {} {devstate:=2}; let e : QEnt := mb [1,0x70001,0x200004]; let k : Fin 8 := 0; let d := s.dev; let word := fun (k : Nat) => e.words.getD k 0; let kind := word 1 % 2; let len := word 2; 3 ≤ s.seq.released ∧ d.mbHead 1 = some e ∧ (len % 4 ≠ 0 ∨ slotSize kind < len)) ∧
    (let s : State := sys {}; let d := s.dev; 3 ≤ s.seq.released ∧ d.mbHead 1 = none) ∧
    (let s : State := mgtRuns {mgt:={q31:=[ck],updLen:=8}} [(F.mgtUpd_open,1,0),(F.mgtUpd_stream,7,0)]; let c : Chunk := ck; let l : List Chunk := []; let d := s.dev; let fits := c.offset % 4 = 0 ∧ c.offset + c.data.length ≤ d.mgt.updLen; let streams := d.rd F.mgtUpd_open = 1 ∧ d.rd F.mgtUpd_stream = c.stream; 3 ≤ s.seq.released ∧ d.mgt.q31 = c :: l ∧ d.rd F.mgtState_core ≠ 1 ∧ fits ∧ streams ∧ (∀ j < c.data.length, Tbl.find (c.offset + j) d.mgt.updBytes = none)) ∧
    (let s : State := mgtRuns {mgt:={q31:=[ck],updLen:=8}} [(F.mgtUpd_open,1,0),(F.mgtUpd_stream,6,0)]; let c : Chunk := ck; let l : List Chunk := []; let d := s.dev; let fits := c.offset % 4 = 0 ∧ c.offset + c.data.length ≤ d.mgt.updLen; let streams := d.rd F.mgtUpd_open = 1 ∧ d.rd F.mgtUpd_stream = c.stream; 3 ≤ s.seq.released ∧ d.mgt.q31 = c :: l ∧ d.rd F.mgtState_core ≠ 1 ∧ c.offset % 4 = 0 ∧ (d.rd F.mgtUpd_open = 0 ∨ (fits ∧ ¬ streams)) ∧ c.by_ = none) ∧
    (let s : State := mgtRuns {mgt:={q31:=[{ck with by_:=some {port:=3,tag:=9}}]}}; let c : Chunk := {ck with by_:=some {port:=3,tag:=9}}; let l : List Chunk := []; let by_ : Cmdr := {port:=3,tag:=9}; let d := s.dev; let fits := c.offset % 4 = 0 ∧ c.offset + c.data.length ≤ d.mgt.updLen; let streams := d.rd F.mgtUpd_open = 1 ∧ d.rd F.mgtUpd_stream = c.stream; 3 ≤ s.seq.released ∧ d.mgt.q31 = c :: l ∧ d.rd F.mgtState_core ≠ 1 ∧ c.offset % 4 = 0 ∧ (d.rd F.mgtUpd_open = 0 ∨ (fits ∧ ¬ streams)) ∧ c.by_ = some by_) ∧
    (let s : State := sys {}; let d := s.dev; 3 ≤ s.seq.released ∧ (d.mgt.q31 = [] ∨ d.rd F.mgtState_core = 1)) ∧
    (let s : State := mbRun [2,0x70000] [(F.mgtUpd_open,1,0),(F.mgtUpd_stream,7,0),(F.mgtUpd_kind,1,0),(F.mgtUpd_slot,1,0)] {updLen:=88,updBytes:=(List.range 88).map fun k => (k,0)} (bdDev 0x300000); let e : QEnt := mb [2,0x70000]; let k : Fin 8 := 0; let d := s.dev; let word := fun (k : Nat) => e.words.getD k 0; let sbase := slotBase (d.rd F.mgtUpd_kind) (d.rd F.mgtUpd_slot); let ours := d.rd F.mgtUpd_open = 1 ∧ d.rd F.mgtUpd_stream = word 1 / 65536; let ukind := d.rd F.mgtUpd_kind; let whole := d.mgt.updLen ≤ d.mgt.updBytes.length ∧ d.rd F.mgtUpd_broken = 0; 3 ≤ s.seq.released ∧ d.mbHead 2 = some e ∧ ours ∧ whole ∧ d.headerCheck ukind sbase = 0 ∧ d.laterCheck ukind sbase = 0) ∧
    (let s : State := mbRun [2,0x70000] [(F.mgtUpd_open,1,0),(F.mgtUpd_stream,7,0),(F.mgtUpd_kind,1,0)] {updLen:=88}; let e : QEnt := mb [2,0x70000]; let k : Fin 8 := 0; let d := s.dev; let word := fun (k : Nat) => e.words.getD k 0; let ours := d.rd F.mgtUpd_open = 1 ∧ d.rd F.mgtUpd_stream = word 1 / 65536; let whole := d.mgt.updLen ≤ d.mgt.updBytes.length ∧ d.rd F.mgtUpd_broken = 0; 3 ≤ s.seq.released ∧ d.mbHead 2 = some e ∧ ours ∧ ¬ whole) ∧
    (let s : State := mbRun [2,0x70000] [(F.mgtUpd_open,1,0),(F.mgtUpd_stream,6,0)]; let e : QEnt := mb [2,0x70000]; let k : Fin 8 := 0; let d := s.dev; let word := fun (k : Nat) => e.words.getD k 0; let ours := d.rd F.mgtUpd_open = 1 ∧ d.rd F.mgtUpd_stream = word 1 / 65536; 3 ≤ s.seq.released ∧ d.mbHead 2 = some e ∧ ¬ ours) ∧
    (let s : State := mbRun [3] [(F.rstBoot_fwslot,1,0),(F.mgtFwgen_gen,9,0)] {verified:=[0]} fwDev; let e : QEnt := mb [3]; let d := s.dev; let fwSlot := 1 - d.rd F.rstBoot_fwslot; let fwGen := d.imgGen (slotBase 0 fwSlot); 3 ≤ s.seq.released ∧ d.mbHead 3 = some e ∧ fwSlot ∈ d.mgt.verified ∧ genNewer fwGen (d.rd F.mgtFwgen_gen) = true) ∧
    (let s : State := mbRun [3]; let e : QEnt := mb [3]; let d := s.dev; let fwSlot := 1 - d.rd F.rstBoot_fwslot; let fwGen := d.imgGen (slotBase 0 fwSlot); 3 ≤ s.seq.released ∧ d.mbHead 3 = some e ∧ (fwSlot ∉ d.mgt.verified ∨ genNewer fwGen (d.rd F.mgtFwgen_gen) = false)) ∧
    (let s : State := mbRun [4,0x80] [(F.rstBoot_imgslot,1,0)] {verified:=[2]} {bdDev 0x100000 with flash:={bytes:=flashOf 0x100000 88 bdBytes ++ [(0x30000C,8),(0x30000D,0),(0x30000E,0),(0x30000F,0)]}}; let e : QEnt := mb [4,0x80]; let k : Fin 8 := 0; let d := s.dev; let word := fun (k : Nat) => e.words.getD k 0; let imSlot := 1 - d.rd F.rstBoot_imgslot; let im := slotBase 1 imSlot; let imGen := d.imgGen im; let axes := (List.range 8).filter (bitOf (word 1)); let sects := axes.flatMap (d.axisSects im); let reached := axes ++ sects.flatMap (d.legOwners im) ++ sects.flatMap d.boundNow; let allowed := (2 + imSlot) ∈ d.mgt.verified ∧ genNewer imGen (d.imgGen (slotBase 1 (d.rd F.rstBoot_imgslot))) = true ∧ ∀ a ∈ reached, d.axState a = 0; 3 ≤ s.seq.released ∧ d.mbHead 4 = some e ∧ allowed ∧ d.valid d im sects = true) ∧
    (let s : State := mbRun [4,0x80] [(F.rstBoot_imgslot,1,0)] {verified:=[2]} {bdDev 0x100000 with flash:={bytes:=flashOf 0x100000 88 bdBytes ++ [(0x30000C,8),(0x30000D,0),(0x30000E,0),(0x30000F,0)]}}; let e : QEnt := mb [4,0x80]; let k : Fin 8 := 0; let n : Fin 8 := 7; let d := s.dev; let word := fun (k : Nat) => e.words.getD k 0; let imSlot := 1 - d.rd F.rstBoot_imgslot; let im := slotBase 1 imSlot; let imGen := d.imgGen im; let axes := (List.range 8).filter (bitOf (word 1)); let sects := axes.flatMap (d.axisSects im); let reached := axes ++ sects.flatMap (d.legOwners im) ++ sects.flatMap d.boundNow; let allowed := (2 + imSlot) ∈ d.mgt.verified ∧ genNewer imGen (d.imgGen (slotBase 1 (d.rd F.rstBoot_imgslot))) = true ∧ ∀ a ∈ reached, d.axState a = 0; 3 ≤ s.seq.released ∧ d.mbHead 4 = some e ∧ allowed ∧ d.valid d im sects = true ∧ word 1 = 2 ^ n.val ∧ d.axisSects im n = []) ∧
    (let s : State := mbRun [4,0x80] [(F.rstBoot_imgslot,1,0)] {verified:=[2]} badDev; let e : QEnt := mb [4,0x80]; let k : Fin 8 := 0; let d := s.dev; let word := fun (k : Nat) => e.words.getD k 0; let imSlot := 1 - d.rd F.rstBoot_imgslot; let im := slotBase 1 imSlot; let imGen := d.imgGen im; let axes := (List.range 8).filter (bitOf (word 1)); let sects := axes.flatMap (d.axisSects im); let reached := axes ++ sects.flatMap (d.legOwners im) ++ sects.flatMap d.boundNow; let allowed := (2 + imSlot) ∈ d.mgt.verified ∧ genNewer imGen (d.imgGen (slotBase 1 (d.rd F.rstBoot_imgslot))) = true ∧ ∀ a ∈ reached, d.axState a = 0; 3 ≤ s.seq.released ∧ d.mbHead 4 = some e ∧ allowed ∧ d.valid d im sects = false) ∧
    (let s : State := mbRun [4,0x80]; let e : QEnt := mb [4,0x80]; let k : Fin 8 := 0; let d := s.dev; let word := fun (k : Nat) => e.words.getD k 0; let imSlot := 1 - d.rd F.rstBoot_imgslot; let im := slotBase 1 imSlot; let imGen := d.imgGen im; let axes := (List.range 8).filter (bitOf (word 1)); let sects := axes.flatMap (d.axisSects im); let reached := axes ++ sects.flatMap (d.legOwners im) ++ sects.flatMap d.boundNow; let allowed := (2 + imSlot) ∈ d.mgt.verified ∧ genNewer imGen (d.imgGen (slotBase 1 (d.rd F.rstBoot_imgslot))) = true ∧ ∀ a ∈ reached, d.axState a = 0; 3 ≤ s.seq.released ∧ d.mbHead 4 = some e ∧ ¬ allowed) ∧
    (let s : State := mbRun [5] [(F.mgtUpd_open,1,0)]; let e : QEnt := mb [5]; let d := s.dev; 3 ≤ s.seq.released ∧ d.mbHead 5 = some e) ∧
    (let s : State := sys {}; let d := s.dev; 3 ≤ s.seq.released ∧ d.mbHead 5 = none) ∧
    (let s : State := mbRun [1,0x70001,8] [] {} {devstate:=2}; let d := s.dev; let runs := d.mgt.fwRun = true ∧ d.rd F.mgtState_core = 0; 3 ≤ s.seq.released ∧ runs) ∧
    (let s : State := sys {}; let d := s.dev; let runs := d.mgt.fwRun = true ∧ d.rd F.mgtState_core = 0; 3 ≤ s.seq.released ∧ ¬ runs) ∧
    (let s : State := set [(F.mgtState_core,1,0)] {fwDev with now:=5,mgt:={fwRun:=true,recycle:=some (5,3)}}; let i : Fin 2 := 0; let li : List Nat := []; let t0 : Nat := 5; let cause : Nat := 3; let d := s.dev; 3 ≤ s.seq.released ∧ d.mgt.recycle = some (t0, cause) ∧ t0 ≤ d.now ∧ d.mgt.fwRun = true ∧ d.rd F.mgtState_core = 1 ∧ d.candidates 0 = i.val :: li ∧ d.laterCheck 0 (slotBase 0 i) = 0) ∧
    (let s : State := set [(F.mgtState_core,1,0)] {now:=5,mgt:={fwRun:=true,recycle:=some (5,3)}}; let t0 : Nat := 5; let cause : Nat := 3; let d := s.dev; 3 ≤ s.seq.released ∧ d.mgt.recycle = some (t0, cause) ∧ t0 ≤ d.now ∧ d.mgt.fwRun = true ∧ d.rd F.mgtState_core = 1 ∧ d.candidates 0 = []) ∧
    (let s : State := mgtRuns {now:=5,mgt:={recycle:=some (5,1)}} [(F.mgtUpd_open,1,0)]; let t0 : Nat := 5; let cause : Nat := 1; let d := s.dev; 3 ≤ s.seq.released ∧ d.mgt.recycle = some (t0, cause) ∧ t0 ≤ d.now ∧ d.mgt.fwRun = true ∧ d.rd F.mgtState_core = 0) ∧
    (let s : State := mgtRuns {now:=9,mgt:={recycle:=some (5,1),q26:=[mb [5]]}}; let t0 : Nat := 5; let cause : Nat := 1; let d := s.dev; 3 ≤ s.seq.released ∧ d.mgt.recycle = some (t0, cause) ∧ t0 ≤ d.now ∧ d.mgt.fwRun = true ∧ d.rd F.mgtState_core = 0) ∧
    (let s : State := sys {}; let d := s.dev; 3 ≤ s.seq.released ∧ d.mgt.recycle = none) ∧
    (let s : State := mgtRuns {now:=4,mgt:={recycle:=some (5,3)}}; let t0 : Nat := 5; let cause : Nat := 3; let d := s.dev; 3 ≤ s.seq.released ∧ d.mgt.recycle = some (t0, cause) ∧ d.now < t0) ∧
    (let s : State := sys {}; let w : Who := w3; let k : Fin 8 := 7; let win := F.mgtMbout_word.addr k 0; s.GrantsRead w win) := by
  refine ⟨?_, ?_, ?_, ?_, ?_, ?_, ?_, ?_, ?_, ?_, ?_, ?_, ?_, ?_, ?_, ?_, ?_, ?_, ?_, ?_, ?_, ?_, ?_, ?_, ?_, ?_, ?_, ?_, ?_⟩ <;> decide +kernel

/-- BackgroundWork. -/
theorem test_BackgroundWork_witnesses :
    (let s : State := mgtRuns {}; let d := s.dev; let runs := d.mgt.fwRun = true ∧ d.rd F.mgtState_core = 0; 3 ≤ s.seq.released ∧ runs) ∧
    (let s : State := mgtRuns {bad:=[0x70034]}; let a : Nat := 0x70034; let d := s.dev; let runs := d.mgt.fwRun = true ∧ d.rd F.mgtState_core = 0; 3 ≤ s.seq.released ∧ runs ∧ d.hasSource a = true) ∧
    (let s : State := mgtRuns {mgt:={noSrc:=[0x70034]}}; let a : Nat := 0x70034; let d := s.dev; let runs := d.mgt.fwRun = true ∧ d.rd F.mgtState_core = 0; 3 ≤ s.seq.released ∧ runs ∧ d.hasSource a = false) ∧
    (let s : State := mgtRuns {}; let a : Nat := 0x37FFFC; let d := s.dev; let runs := d.mgt.fwRun = true ∧ d.rd F.mgtState_core = 0; 3 ≤ s.seq.released ∧ runs ∧ 0x300000 ≤ a ∧ a < 0x380000) ∧
    (let s : State := mgtRuns {mgt:={stage:=[(0x70034,7),(0x70038,8)],q29:=[.mirror 1 2]}}; let d := s.dev; let runs := d.mgt.fwRun = true ∧ d.rd F.mgtState_core = 0; 3 ≤ s.seq.released ∧ runs ∧ d.mgt.mirrorWait = none) ∧
    (let s : State := mgtRuns {mgt:={stage:=[(0x70034,7),(0x70038,8)],q29:=List.replicate 31 (.mirror 1 2)}}; let d := s.dev; let runs := d.mgt.fwRun = true ∧ d.rd F.mgtState_core = 0; 3 ≤ s.seq.released ∧ runs ∧ d.mgt.mirrorWait = none) ∧
    (let s : State := mgtRuns {mgt:={q29:=[.journal 0x70034 5,.mirror 2 7]}}; let a : Nat := 0x70034; let v : Nat := 5; let q : List FlashWr := [.mirror 2 7]; let d := s.dev; let runs := d.mgt.fwRun = true ∧ d.rd F.mgtState_core = 0; 3 ≤ s.seq.released ∧ runs ∧ d.mgt.q29 = .journal a v :: q ∧ d.flash.journal.length < 131071 ∧ d.mgt.mirrorWait = none ∧ d.mgt.flush = 0) ∧
    (let s : State := mgtRuns {mgt:={q29:=[.mirror 2 7,.journal 0x70034 5]}}; let a : Nat := 2; let v : Nat := 7; let q : List FlashWr := [.journal 0x70034 5]; let d := s.dev; let runs := d.mgt.fwRun = true ∧ d.rd F.mgtState_core = 0; 3 ≤ s.seq.released ∧ runs ∧ d.mgt.q29 = .mirror a v :: q ∧ d.mgt.mirrorWait = none ∧ d.mgt.flush = 0) ∧
    (let s : State := mgtRuns {mgt:={q29:=[.mirror 2 7,.journal 0x70034 5]}}; let a : Nat := 2; let v : Nat := 7; let q : List FlashWr := [.journal 0x70034 5]; let d := s.dev; let runs := d.mgt.fwRun = true ∧ d.rd F.mgtState_core = 0; 3 ≤ s.seq.released ∧ runs ∧ d.mgt.q29 = .mirror a v :: q ∧ s.pending = []) ∧
    (let s : State := mgtRuns {mgt:={q29:=[.mirror 2 7,.mirror 2 8],mirrorWait:=some 5,flush:=1}}; let a : Nat := 2; let v : Nat := 7; let q : List FlashWr := [.mirror 2 8]; let d := s.dev; let runs := d.mgt.fwRun = true ∧ d.rd F.mgtState_core = 0; 3 ≤ s.seq.released ∧ runs ∧ d.mgt.q29 = .mirror a v :: q ∧ s.pending = []) ∧
    (let s : State := mgtRuns {mgt:={q29:=[.journal 0x70034 5,.mirror 2 7],flush:=1}}; let a : Nat := 0x70034; let v : Nat := 5; let q : List FlashWr := [.mirror 2 7]; let d := s.dev; let runs := d.mgt.fwRun = true ∧ d.rd F.mgtState_core = 0; 3 ≤ s.seq.released ∧ runs ∧ d.mgt.q29 = .journal a v :: q ∧ d.flash.journal.length < 131071 ∧ s.pending = []) ∧
    (let s : State := mgtRuns {now:=7,mgt:={lehrAt:=[(3,9)]}}; let i : Fin 6 := 5; let d := s.dev; let runs := d.mgt.fwRun = true ∧ d.rd F.mgtState_core = 0; 3 ≤ s.seq.released ∧ runs ∧ Tbl.find i d.mgt.lehrAt = none) ∧
    (let s : State := mgtRuns {now:=2*10^12-1,mgt:={lehrAt:=[(5,10^12)]}}; let t0 : Nat := 10^12; let i : Fin 6 := 5; let d := s.dev; let runs := d.mgt.fwRun = true ∧ d.rd F.mgtState_core = 0; 3 ≤ s.seq.released ∧ runs ∧ Tbl.find i d.mgt.lehrAt = some t0 ∧ d.now < t0 + 10 ^ 12) ∧
    (let s : State := mgtRuns {now:=2*10^12,mgt:={lehrAt:=[(5,10^12)]}} [(F.lehrStarve_mask,63,0)]; let t0 : Nat := 10^12; let i : Fin 6 := 5; let d := s.dev; let runs := d.mgt.fwRun = true ∧ d.rd F.mgtState_core = 0; 3 ≤ s.seq.released ∧ runs ∧ Tbl.find i d.mgt.lehrAt = some t0 ∧ t0 + 10 ^ 12 ≤ d.now) ∧
    (let s : State := mgtRuns {now:=2*10^12,mgt:={lehrAt:=[(0,10^12)],lehrBase:=[(0,4),(123,7),(205,7),(300,1),(331,0),(400,1),(401,0),(402,2),(403,0),(500,9)],did:=[(0,4),(1,10),(2,9),(3,9),(4,9)],q31:=[ck],stage:=[(0x70034,7)],q29:=[.mirror 1 2]},sns:={cals:=[(23,106),(105,106),(200,1),(231,0)]},evr:={chip:=[{r:=rc 9}],writes:=11}} [(F.legCfg_use,1,23),(F.legCfg_axis,7,23),(F.snsCal_ofsen,1,5),(F.axState_state,1,7),(F.snsCal_injen,1,5),(F.mgtTele_en,1,0),(F.netEvcfg_en,1,0)]; let t0 : Nat := 10^12; let i : Fin 6 := 0; let d := s.dev; let runs := d.mgt.fwRun = true ∧ d.rd F.mgtState_core = 0; 3 ≤ s.seq.released ∧ runs ∧ Tbl.find i d.mgt.lehrAt = some t0 ∧ t0 + 10 ^ 12 ≤ d.now) ∧
    (let s : State := mgtRuns {now:=2*10^12,mgt:={lehrAt:=[(0,10^12)],lehrBase:=[(0,4),(123,7),(205,7),(300,1),(331,0),(400,1),(401,0),(402,2),(403,0),(500,9)],did:=[(0,5),(1,11),(2,10),(3,10),(4,10)],q31:=[ck],stage:=[(0x70034,7)],q29:=[.mirror 1 2]},sns:={cals:=[(23,107),(105,107),(200,2),(231,1)]},evr:={chip:=[{r:=rc 9}],writes:=12}} [(F.legCfg_use,1,23),(F.legCfg_axis,7,23),(F.snsCal_ofsen,1,5),(F.axState_state,1,7),(F.snsCal_injen,1,5),(F.mgtTele_en,1,0),(F.netEvcfg_en,1,0)]; let t0 : Nat := 10^12; let i : Fin 6 := 0; let d := s.dev; let runs := d.mgt.fwRun = true ∧ d.rd F.mgtState_core = 0; 3 ≤ s.seq.released ∧ runs ∧ Tbl.find i d.mgt.lehrAt = some t0 ∧ t0 + 10 ^ 12 ≤ d.now) ∧
    (let s : State := mgtRuns {now:=2*10^12,mgt:={lehrAt:=[(1,10^12)],lehrBase:=[(0,4),(123,7),(205,7),(300,1),(331,0),(400,1),(401,0),(402,2),(403,0),(500,9)],did:=[(0,4),(1,10),(2,9),(3,9),(4,9)],q31:=[ck],stage:=[(0x70034,7)],q29:=[.mirror 1 2]},sns:={cals:=[(23,106),(105,106),(200,1),(231,0)]},evr:={chip:=[{r:=rc 9}],writes:=11}} [(F.legCfg_use,1,23),(F.legCfg_axis,7,23),(F.snsCal_ofsen,1,5),(F.axState_state,1,7),(F.snsCal_injen,1,5),(F.mgtTele_en,1,0),(F.netEvcfg_en,1,0)]; let t0 : Nat := 10^12; let i : Fin 6 := 1; let d := s.dev; let runs := d.mgt.fwRun = true ∧ d.rd F.mgtState_core = 0; 3 ≤ s.seq.released ∧ runs ∧ Tbl.find i d.mgt.lehrAt = some t0 ∧ t0 + 10 ^ 12 ≤ d.now) ∧
    (let s : State := mgtRuns {now:=2*10^12,mgt:={lehrAt:=[(1,10^12)],lehrBase:=[(0,4),(123,7),(205,7),(300,1),(331,0),(400,1),(401,0),(402,2),(403,0),(500,9)],did:=[(0,5),(1,11),(2,10),(3,10),(4,10)],q31:=[ck],stage:=[(0x70034,7)],q29:=[.mirror 1 2]},sns:={cals:=[(23,107),(105,107),(200,2),(231,1)]},evr:={chip:=[{r:=rc 9}],writes:=12}} [(F.legCfg_use,1,23),(F.legCfg_axis,7,23),(F.snsCal_ofsen,1,5),(F.axState_state,1,7),(F.snsCal_injen,1,5),(F.mgtTele_en,1,0),(F.netEvcfg_en,1,0)]; let t0 : Nat := 10^12; let i : Fin 6 := 1; let d := s.dev; let runs := d.mgt.fwRun = true ∧ d.rd F.mgtState_core = 0; 3 ≤ s.seq.released ∧ runs ∧ Tbl.find i d.mgt.lehrAt = some t0 ∧ t0 + 10 ^ 12 ≤ d.now) ∧
    (let s : State := mgtRuns {now:=2*10^12,mgt:={lehrAt:=[(2,10^12)],lehrBase:=[(0,4),(123,7),(205,7),(300,1),(331,0),(400,1),(401,0),(402,2),(403,0),(500,9)],did:=[(0,4),(1,10),(2,9),(3,9),(4,9)],q31:=[ck],stage:=[(0x70034,7)],q29:=[.mirror 1 2]},sns:={cals:=[(23,106),(105,106),(200,1),(231,0)]},evr:={chip:=[{r:=rc 9}],writes:=11}} [(F.legCfg_use,1,23),(F.legCfg_axis,7,23),(F.snsCal_ofsen,1,5),(F.axState_state,1,7),(F.snsCal_injen,1,5),(F.mgtTele_en,1,0),(F.netEvcfg_en,1,0)]; let t0 : Nat := 10^12; let i : Fin 6 := 2; let d := s.dev; let runs := d.mgt.fwRun = true ∧ d.rd F.mgtState_core = 0; 3 ≤ s.seq.released ∧ runs ∧ Tbl.find i d.mgt.lehrAt = some t0 ∧ t0 + 10 ^ 12 ≤ d.now) ∧
    (let s : State := mgtRuns {now:=2*10^12,mgt:={lehrAt:=[(2,10^12)],lehrBase:=[(0,4),(123,7),(205,7),(300,1),(331,0),(400,1),(401,0),(402,2),(403,0),(500,9)],did:=[(0,5),(1,11),(2,10),(3,10),(4,10)],q31:=[ck],stage:=[(0x70034,7)],q29:=[.mirror 1 2]},sns:={cals:=[(23,107),(105,107),(200,2),(231,1)]},evr:={chip:=[{r:=rc 9}],writes:=12}} [(F.legCfg_use,1,23),(F.legCfg_axis,7,23),(F.snsCal_ofsen,1,5),(F.axState_state,1,7),(F.snsCal_injen,1,5),(F.mgtTele_en,1,0),(F.netEvcfg_en,1,0)]; let t0 : Nat := 10^12; let i : Fin 6 := 2; let d := s.dev; let runs := d.mgt.fwRun = true ∧ d.rd F.mgtState_core = 0; 3 ≤ s.seq.released ∧ runs ∧ Tbl.find i d.mgt.lehrAt = some t0 ∧ t0 + 10 ^ 12 ≤ d.now) ∧
    (let s : State := mgtRuns {now:=2*10^12,mgt:={lehrAt:=[(3,10^12)],lehrBase:=[(0,4),(123,7),(205,7),(300,1),(331,0),(400,1),(401,0),(402,2),(403,0),(500,9)],did:=[(0,4),(1,10),(2,9),(3,9),(4,9)],q31:=[ck],stage:=[(0x70034,7)],q29:=[.mirror 1 2]},sns:={cals:=[(23,106),(105,106),(200,1),(231,0)]},evr:={chip:=[{r:=rc 9}],writes:=11}} [(F.legCfg_use,1,23),(F.legCfg_axis,7,23),(F.snsCal_ofsen,1,5),(F.axState_state,1,7),(F.snsCal_injen,1,5),(F.mgtTele_en,1,0),(F.netEvcfg_en,1,0)]; let t0 : Nat := 10^12; let i : Fin 6 := 3; let d := s.dev; let runs := d.mgt.fwRun = true ∧ d.rd F.mgtState_core = 0; 3 ≤ s.seq.released ∧ runs ∧ Tbl.find i d.mgt.lehrAt = some t0 ∧ t0 + 10 ^ 12 ≤ d.now) ∧
    (let s : State := mgtRuns {now:=2*10^12,mgt:={lehrAt:=[(3,10^12)],lehrBase:=[(0,4),(123,7),(205,7),(300,1),(331,0),(400,1),(401,0),(402,2),(403,0),(500,9)],did:=[(0,5),(1,11),(2,10),(3,10),(4,10)],q31:=[ck],stage:=[(0x70034,7)],q29:=[.mirror 1 2]},sns:={cals:=[(23,107),(105,107),(200,2),(231,1)]},evr:={chip:=[{r:=rc 9}],writes:=12}} [(F.legCfg_use,1,23),(F.legCfg_axis,7,23),(F.snsCal_ofsen,1,5),(F.axState_state,1,7),(F.snsCal_injen,1,5),(F.mgtTele_en,1,0),(F.netEvcfg_en,1,0)]; let t0 : Nat := 10^12; let i : Fin 6 := 3; let d := s.dev; let runs := d.mgt.fwRun = true ∧ d.rd F.mgtState_core = 0; 3 ≤ s.seq.released ∧ runs ∧ Tbl.find i d.mgt.lehrAt = some t0 ∧ t0 + 10 ^ 12 ≤ d.now) ∧
    (let s : State := mgtRuns {now:=2*10^12,mgt:={lehrAt:=[(4,10^12)],lehrBase:=[(0,4),(123,7),(205,7),(300,1),(331,0),(400,1),(401,0),(402,2),(403,0),(500,9)],did:=[(0,4),(1,10),(2,9),(3,9),(4,9)],q31:=[ck],stage:=[(0x70034,7)],q29:=[.mirror 1 2]},sns:={cals:=[(23,106),(105,106),(200,1),(231,0)]},evr:={chip:=[{r:=rc 9}],writes:=11}} [(F.legCfg_use,1,23),(F.legCfg_axis,7,23),(F.snsCal_ofsen,1,5),(F.axState_state,1,7),(F.snsCal_injen,1,5),(F.mgtTele_en,1,0),(F.netEvcfg_en,1,0)]; let t0 : Nat := 10^12; let i : Fin 6 := 4; let d := s.dev; let runs := d.mgt.fwRun = true ∧ d.rd F.mgtState_core = 0; 3 ≤ s.seq.released ∧ runs ∧ Tbl.find i d.mgt.lehrAt = some t0 ∧ t0 + 10 ^ 12 ≤ d.now) ∧
    (let s : State := mgtRuns {now:=2*10^12,mgt:={lehrAt:=[(4,10^12)],lehrBase:=[(0,4),(123,7),(205,7),(300,1),(331,0),(400,1),(401,0),(402,2),(403,0),(500,9)],did:=[(0,5),(1,11),(2,10),(3,10),(4,10)],q31:=[ck],stage:=[(0x70034,7)],q29:=[.mirror 1 2]},sns:={cals:=[(23,107),(105,107),(200,2),(231,1)]},evr:={chip:=[{r:=rc 9}],writes:=12}} [(F.legCfg_use,1,23),(F.legCfg_axis,7,23),(F.snsCal_ofsen,1,5),(F.axState_state,1,7),(F.snsCal_injen,1,5),(F.mgtTele_en,1,0),(F.netEvcfg_en,1,0)]; let t0 : Nat := 10^12; let i : Fin 6 := 4; let d := s.dev; let runs := d.mgt.fwRun = true ∧ d.rd F.mgtState_core = 0; 3 ≤ s.seq.released ∧ runs ∧ Tbl.find i d.mgt.lehrAt = some t0 ∧ t0 + 10 ^ 12 ≤ d.now) ∧
    (let s : State := mgtRuns {now:=2*10^12,mgt:={lehrAt:=[(5,10^12)],lehrBase:=[(0,4),(123,7),(205,7),(300,1),(331,0),(400,1),(401,0),(402,2),(403,0),(500,9)],did:=[(0,4),(1,10),(2,9),(3,9),(4,9)],q31:=[ck],stage:=[(0x70034,7)],q29:=[.mirror 1 2]},sns:={cals:=[(23,106),(105,106),(200,1),(231,0)]},evr:={chip:=[{r:=rc 9}],writes:=11}} [(F.legCfg_use,1,23),(F.legCfg_axis,7,23),(F.snsCal_ofsen,1,5),(F.axState_state,1,7),(F.snsCal_injen,1,5),(F.mgtTele_en,1,0),(F.netEvcfg_en,1,0)]; let t0 : Nat := 10^12; let i : Fin 6 := 5; let d := s.dev; let runs := d.mgt.fwRun = true ∧ d.rd F.mgtState_core = 0; 3 ≤ s.seq.released ∧ runs ∧ Tbl.find i d.mgt.lehrAt = some t0 ∧ t0 + 10 ^ 12 ≤ d.now) ∧
    (let s : State := mgtRuns {now:=2*10^12,mgt:={lehrAt:=[(5,10^12)],lehrBase:=[(0,4),(123,7),(205,7),(300,1),(331,0),(400,1),(401,0),(402,2),(403,0),(500,9)],did:=[(0,5),(1,11),(2,10),(3,10),(4,10)],q31:=[ck],stage:=[(0x70034,7)],q29:=[.mirror 1 2]},sns:={cals:=[(23,107),(105,107),(200,2),(231,1)]},evr:={chip:=[{r:=rc 9}],writes:=12}} [(F.legCfg_use,1,23),(F.legCfg_axis,7,23),(F.snsCal_ofsen,1,5),(F.axState_state,1,7),(F.snsCal_injen,1,5),(F.mgtTele_en,1,0),(F.netEvcfg_en,1,0)]; let t0 : Nat := 10^12; let i : Fin 6 := 5; let d := s.dev; let runs := d.mgt.fwRun = true ∧ d.rd F.mgtState_core = 0; 3 ≤ s.seq.released ∧ runs ∧ Tbl.find i d.mgt.lehrAt = some t0 ∧ t0 + 10 ^ 12 ≤ d.now) ∧
    (let s : State := mgtRuns {mgt:={q29:=List.replicate 31 (.mirror 1 2)}} [(F.mgtOpsec_opsec,77,0)]; let d := s.dev; let runs := d.mgt.fwRun = true ∧ d.rd F.mgtState_core = 0; 3 ≤ s.seq.released ∧ runs ∧ d.mgt.flush = 0 ∧ d.mgt.q29.length < 32) ∧
    (let s : State := mgtRuns {mgt:={q29:=List.replicate 32 (.mirror 1 2)}} [(F.mgtOpsec_opsec,77,0)]; let d := s.dev; let runs := d.mgt.fwRun = true ∧ d.rd F.mgtState_core = 0; 3 ≤ s.seq.released ∧ runs ∧ d.mgt.flush = 0 ∧ 32 ≤ d.mgt.q29.length) ∧
    (let s : State := mgtRuns {bad:=[0x70034],reloads:=[0x70034]}; let addr : BitVec 32 := 0x70034; let d := s.dev; let runs := d.mgt.fwRun = true ∧ d.rd F.mgtState_core = 0; let x := addr.toNat; 3 ≤ s.seq.released ∧ runs ∧ x ∈ d.reloads ∧ laneDataAt x = false ∧ d.hasSource x = true) ∧
    (let s : State := mgtRuns {bad:=[0x178000],reloads:=[0x178000]}; let addr : BitVec 32 := 0x178000; let d := s.dev; let runs := d.mgt.fwRun = true ∧ d.rd F.mgtState_core = 0; let x := addr.toNat; 3 ≤ s.seq.released ∧ runs ∧ x ∈ d.reloads ∧ laneDataAt x = true) ∧
    (let s : State := mgtRuns {}; let addr : BitVec 32 := 0x70034; let d := s.dev; let runs := d.mgt.fwRun = true ∧ d.rd F.mgtState_core = 0; let x := addr.toNat; 3 ≤ s.seq.released ∧ runs ∧ x ∉ d.reloads) ∧
    (let s : State := mgtRuns {} [(F.mgtTele_en,1,0),(F.netEvcfg_en,1,0)]; let d := s.dev; let runs := d.mgt.fwRun = true ∧ d.rd F.mgtState_core = 0; 3 ≤ s.seq.released ∧ runs ∧ d.rd F.mgtTele_en = 1 ∧ d.rd F.netEvcfg_en = 1 ∧ d.net.q22.length < 32) ∧
    (let s : State := sys {}; let d := s.dev; let runs := d.mgt.fwRun = true ∧ d.rd F.mgtState_core = 0; 3 ≤ s.seq.released ∧ ¬ runs) ∧
    (let s : State := sys {}; 3 ≤ s.seq.released) ∧
    (let s : State := mgtRuns {} [(F.mgtTele_en,0,0)]; 3 ≤ s.seq.released) ∧
    (let s : State := sys {}; let w : Who := w3; let clr := F.mgtSensctl_clr.addr 0 0; 3 ≤ s.seq.released ∧ s.GrantsPart w clr) := by
  refine ⟨?_, ?_, ?_, ?_, ?_, ?_, ?_, ?_, ?_, ?_, ?_, ?_, ?_, ?_, ?_, ?_, ?_, ?_, ?_, ?_, ?_, ?_, ?_, ?_, ?_, ?_, ?_, ?_, ?_, ?_, ?_, ?_, ?_, ?_, ?_, ?_⟩ <;> decide +kernel

/-- StepTakesFront. -/
theorem test_StepTakesFront_witnesses :
    (let s : State := {(sys {}) with pending:=[.resetN 250,.resetN 3]}; let c : Instr := .resetN 250; let l : List Instr := [.resetN 3]; s.pending = c :: l) ∧
    (let s : State := sys {now:=7}; s.pending = []) ∧
    (let s : State := { (sys {now:=10^9}) with seq := { released := 10, phase := .done } }; s.pending = [] ∧ 4 ≤ s.seq.released ∧ s.seq.released < 11 ∧ (∀ k < 4, (s.dev.chkh k).mgt = [])) := by
  refine ⟨?_, ?_, ?_⟩ <;> decide +kernel


end Sys2Proof.Tests
end

section
/-!
PROOFS. The peer delay of a port (R61, R62, R65): one equation per outcome of a Pdelay exchange, and what the delay filter makes of a sample.
-/

namespace Sys2Proof.Machine

/-! ### The delay filter -/

/-- The filter loads the first sample directly (R65). -/
theorem linkDelay_first (old twice : Int) :
    linkDelay false old twice = max (-(2 ^ 31)) (min (2 ^ 31 - 1) (rneDiv twice 2)) := by
  simp [linkDelay, satS_eq_max_min]

/-- A later sample `twice / 2` moves D to D + (twice / 2 - D) / 8, which over the common denominator of its one rounding is
(16 D + (twice - 2 D)) / 16. -/
theorem linkDelay_later (old twice : Int) :
    linkDelay true old twice = max (-(2 ^ 31)) (min (2 ^ 31 - 1) (rneDiv (16 * old + (twice - 2 * old)) 16)) := by
  have hnum : twice + 14 * old = 16 * old + (twice - 2 * old) := by ring
  simp [linkDelay, satS_eq_max_min, hnum]

/-! ### The outcomes of an exchange -/

theorem exec_pdelayExchange (s : State) (p : Fin 2) (answer : Option (Nat × Int)) :
    exec (.pdelayExchange p answer) s = s.event 4 (·.pdelay p answer) := rfl

/-- The bookkeeping of a port is no register field. -/
@[simp] theorem Dev.rd_modTsu (d : Dev) (p : Nat) (g : TsuH → TsuH) (f : Fld) (i j : Nat) : (d.modTsu p g).rd f i j = d.rd f i j :=
  Dev.rd_congr (Dev.modTsu_regs d p g) f i j

/-- An answer without a request is ignored. -/
theorem Dev.pdelay_unasked {d : Dev} {p : Nat} (hreq : (d.tsu p).req = none) (age : Nat) (t32 : Int) :
    d.pdelay p (some (age, t32)) = d := by
  have hspan : d.pdelaySpan p age = none := by simp [Dev.pdelaySpan, hreq]
  simp [Dev.pdelay, hspan]

section
variable {d : Dev} {p : Nat} (hpdly : d.rd F.tsuCtrl_pdly p = 1)
include hpdly

/-- An answered exchange hands t4 - t1 - (t3 - t2), both stamps of the base of the request, to the filter, and ends the run of
unanswered ones. -/
theorem Dev.pdelay_answered {t1 : Int} {base : Nat} {loaded : Bool} (hreq : (d.tsu p).req = some (t1, base))
    (hloaded : (d.tsu p).loaded = loaded) (age : Nat) (t32 : Int) :
    d.pdelay p (some (age, t32)) =
      (d.wrI F.tsuLinkdly_d (linkDelay loaded (d.rdI F.tsuLinkdly_d p)
        (d.stampAt base age - d.rd F.tsuLat_inlat p * 32768 - t1 - t32)) p).modTsu p fun t =>
          { t with missed := 0, loaded := true, req := none } := by
  have hspan : d.pdelaySpan p age = some (d.stampAt base age - d.rd F.tsuLat_inlat p * 32768 - t1) := by
    simp [Dev.pdelaySpan, Dev.ingress, hreq]
  simp [Dev.pdelay, Dev.flag, hpdly, hspan, hloaded]

/-- An exchange without an answer is counted, and logs nothing unless it is the third in a row. -/
theorem Dev.pdelay_unanswered (hmissed : (d.tsu p).missed ≠ 2) :
    d.pdelay p none = d.modTsu p fun t => { t with missed := t.missed + 1, req := none } := by
  have hthird : (d.tsu p).missed + 1 ≠ 3 := by omega
  simp only [Dev.pdelay, Dev.flag, hpdly, hthird, if_false]
  rfl

/-- The third exchange in a row without an answer keeps D and logs it. -/
theorem Dev.pdelay_lost (hmissed : (d.tsu p).missed = 2) :
    d.pdelay p none =
      (d.modTsu p fun t => { t with missed := 3, req := none }).ev E.pdelayLost (p + 1) (d.rd F.tsuLinkdly_d p) := by
  simp [Dev.pdelay, Dev.flag, hpdly, hmissed]

end

/-- Settles O17: each clause is the equation of its outcome of `Dev.pdelay`, which runs because the time domain is out of reset.
That D is held in 2^-16 ns is log entry 31, the grid that the stamps lie on log entry 130. -/
theorem peerDelay : Obligations.PeerDelay := by
  unfold Obligations.PeerDelay
  intro s p age base t1 t32 d tsu twice D sat answered silent asked hreleased hpdly
  have hexec (answer : Option (Nat × Int)) : exec (.pdelayExchange p answer) s = .next (s.put (s.dev.pdelay p answer)) := by
    rw [exec_pdelayExchange, State.event_released _ hreleased]; rfl
  refine ⟨fun hreq hfirst => (hexec _).trans ?first, fun hreq hlater => (hexec _).trans ?later, fun hreq => (hexec _).trans ?unasked,
    fun hmissed => (hexec _).trans ?unanswered, fun hmissed => (hexec _).trans ?lost⟩
  case first => rw [Dev.pdelay_answered hpdly hreq hfirst, linkDelay_first]
  case later => rw [Dev.pdelay_answered hpdly hreq hlater, linkDelay_later]
  case unasked => rw [Dev.pdelay_unasked hreq]; rfl
  case unanswered => rw [Dev.pdelay_unanswered hpdly hmissed]
  case lost => rw [Dev.pdelay_lost hpdly hmissed]

end Sys2Proof.Machine
end

section
/-!
PROOFS. Lane instructions with an index or a memory access (R250, R253, R255): what a data word reads as, what a post-modify does to the
address registers, one rule for each way in which an instruction completes, and from these MAXI and MINI, the loads, the stores and MACM.
-/

namespace Sys2Proof

/-! ### Patterns and the integers they spell -/

/-- The reading of a pattern is the pattern up to a multiple of 2^n. -/
theorem sx_emod (n v : Nat) : sx n v % 2 ^ n = ((v % 2 ^ n : Nat) : Int) := by
  have hlt : ((v % 2 ^ n : Nat) : Int) < 2 ^ n := by exact_mod_cast Nat.mod_lt v (Nat.two_pow_pos n)
  have hfix : ((v % 2 ^ n : Nat) : Int) % 2 ^ n = ((v % 2 ^ n : Nat) : Int) := Int.emod_eq_of_lt (Int.natCast_nonneg _) hlt
  unfold sx
  split
  · exact hfix
  · rw [Int.sub_emod_right, hfix]

/-- A pattern survives being read as an integer and written back. -/
@[simp] theorem ux_sx (n v : Nat) : ux n (sx n v) = v % 2 ^ n := by rw [ux, sx_emod, Int.toNat_natCast]

/-- Only the low `n` bits of a pattern are read. -/
@[simp] theorem sx_mod (n v : Nat) : sx n (v % 2 ^ n) = sx n v := by simp [sx]

/-- A number is written as its low `n` bits. -/
@[simp] theorem ux_natCast (n v : Nat) : ux n (v : Int) = v % 2 ^ n := by
  rw [ux]; norm_cast

end Sys2Proof

namespace Sys2Proof.Machine

/-! ### Data registers -/

/-- D_i takes the word of D_k. -/
theorem Lane.setD_dr (p : Lane) (i k : Nat) : p.setD i (p.dr k) = { p with d := Tbl.set 0 i (Tbl.get 0 k p.d % 2 ^ 32) p.d } := by
  simp [Lane.setD, Lane.dr]

/-- D_i takes a number that needs no sign. -/
theorem Lane.setD_natCast (p : Lane) (i v : Nat) : p.setD i v = { p with d := Tbl.set 0 i (v % 2 ^ 32) p.d } := by
  simp [Lane.setD]

/-! ### Post-modified address registers (R253) -/

/-- A post-modify changes the address registers alone. -/
theorem Lane.post_eq (p : Lane) (i : Nat) (on : Bool) : p.post i on = { p with a := p.postA i on } := by cases on <;> rfl

/-- A post-modify replaces A_i by (A_i + M_i) mod 2^14 and no other register. -/
theorem Lane.get_postA_true (p : Lane) (i k : Nat) :
    Tbl.get 0 k (p.postA i true) = if k = i then (Tbl.get 0 i p.a + Tbl.get 0 i p.m) % 2 ^ 14 else Tbl.get 0 k p.a := by
  by_cases h : k = i
  · simp [Lane.postA, h]
  · simp [Lane.postA, h, Tbl.get_set_other _ _ h]

/-- Two post-modifies of A_i add M_i twice. -/
theorem Lane.get_postA_twice (p : Lane) (i : Nat) :
    Tbl.get 0 i (({ p with a := p.postA i true } : Lane).postA i true) = (Tbl.get 0 i p.a + 2 * Tbl.get 0 i p.m) % 2 ^ 14 := by
  simp only [Lane.get_postA_true, if_true]
  omega

/-! ### Data words (R250) -/

/-- A lane reads the word that stands at a data address as a signed integer, where there is one. -/
theorem State.laneRead_eq (s : State) (n : Nat) (r : LaneRun) (a : Nat) :
    s.dev.laneRead n r a = (s.laneWord n r a).map (sx 32) := by
  have hdata : a < 0x2000 ↔ a ≤ 0x1FFF := by omega
  simp only [Dev.laneRead, State.laneWord, hdata, apply_ite (Option.map (sx 32)), Option.map_some, Option.map_none, sx_mod]
  cases Tbl.find (a - 0x2020) r.outs <;> rfl

/-- A data word is a word. -/
theorem State.laneWord_lt {s : State} {n : Nat} {r : LaneRun} {a v : Nat} (h : s.laneWord n r a = some v) : v < 2 ^ 32 := by
  unfold State.laneWord at h
  split_ifs at h <;> cases h <;> exact Nat.mod_lt _ (Nat.two_pow_pos 32)

/-- No parity error is met at a good address. -/
theorem State.dmemBad_of_laneGood {s : State} {n a : Nat} (h : s.laneGood n a) : s.dev.dmemBad n a = false := by
  rw [State.laneGood] at h
  rw [Dev.dmemBad, h, Bool.and_false]

/-! ### Completion of an instruction -/

section
variable {s : State} {n : Nat} {o : LOp} {r : LaneRun} (hat : s.LaneAt n o r)
include hat

/-- An instruction that raises no sticky bit and counts no cycle itself leads to its lane and its run. -/
theorem State.lane_next {p : Lane} {r' : LaneRun} {cost : Nat} (hcycles : r'.cycles = r.cycles)
    (hdo : s.dev.laneDo n r o = .next p r' cost false false) : s.lane n o = .next (s.laneTo n p r' cost) := by
  rw [State.lane_at hat, hdo]
  simp [Dev.laneApply, State.laneTo, hcycles]

/-- A store to data memory also takes away the bad mark of its word. -/
theorem State.lane_stored {p : Lane} {addr : Nat} (hdo : s.dev.laneDo n r o = .stored p r.advanced addr) :
    s.lane n o = .next ((s.laneTo n p r.advanced 1).put ((s.laneTo n p r.advanced 1).dev.mended addr)) := by
  rw [State.lane_at hat, hdo]; rfl

/-- An accumulator instruction leaves the saturated result and marks a saturation. -/
theorem State.lane_accum {p : Lane} {x : Fin 2} {v : Int} (hdo : s.dev.laneDo n r o = r.accum p x v) :
    s.lane n o = .next (s.accDone n p r x v) := by
  have hsat : sat72 v = max (-(2 ^ 71)) (min (2 ^ 71 - 1) v) := satS_eq_max_min 72 v
  have hacc : p.setAcc x (sat72 v) = if x = 0 then { p with acc0 := sat72 v } else { p with acc1 := sat72 v } := by
    simp [Lane.setAcc]
  rw [State.lane_at hat, hdo, LaneRun.accum, hacc, State.accDone, ← hsat]
  by_cases hv : sat72 v = v
  · rw [if_pos hv, decide_eq_false (not_not.mpr hv)]; rfl
  · rw [if_neg hv, decide_eq_true hv]; rfl

end

/-! ### MAXI and MINI (R255) -/

/-- A better entry is taken with its index. -/
theorem LaneRun.extreme_better (r : LaneRun) (p : Lane) (i k t : Nat) :
    r.extreme p i k t true =
      .next { p with d := Tbl.set 0 t (r.lc % 2 ^ 32) (Tbl.set 0 i (Tbl.get 0 k p.d % 2 ^ 32) p.d) }
        (r.flagged (aluFlags (p.dr k))).advanced 1 false false := by
  simp only [LaneRun.extreme, if_true, Lane.setD_dr, Lane.setD_natCast]

/-- An entry that is not better leaves the registers alone. -/
theorem LaneRun.extreme_kept (r : LaneRun) (p : Lane) (i k t : Nat) :
    r.extreme p i k t false = .next p (r.flagged (aluFlags (p.dr i))).advanced 1 false false := rfl

theorem Dev.laneDo_maxi (d : Dev) (n : Nat) (r : LaneRun) (i k t : Fin 16) :
    d.laneDo n r (.maxi i k t) = r.extreme (d.pl n) i k t (decide ((d.pl n).dr i < (d.pl n).dr k)) := rfl

theorem Dev.laneDo_mini (d : Dev) (n : Nat) (r : LaneRun) (i k t : Fin 16) :
    d.laneDo n r (.mini i k t) = r.extreme (d.pl n) i k t (decide ((d.pl n).dr k < (d.pl n).dr i)) := rfl

/-- Settles O3: MAXI and MINI differ in what counts as better alone, and a better entry is one that is strictly so. -/
theorem laneExtremes : Obligations.LaneExtremes := by
  unfold Obligations.LaneExtremes
  intro s n r d a b l lc took gives
  have hlc : r.lc = lc := by simp only [LaneRun.lc, lc]; cases r.stack <;> rfl
  have hbetter {o : LOp} (hat : s.LaneAt n o r) (hdo : s.dev.laneDo n r o = r.extreme l d a b true) : gives (s.lane n o) took :=
    ⟨_, _, _, State.lane_next hat rfl (hdo.trans (hlc ▸ r.extreme_better l d a b))⟩
  have hkept {o : LOp} (hat : s.LaneAt n o r) (hdo : s.dev.laneDo n r o = r.extreme l d a b false) : gives (s.lane n o) l :=
    ⟨_, _, _, State.lane_next hat rfl (hdo.trans (r.extreme_kept l d a b))⟩
  refine ⟨fun hat h => hbetter hat ?_, fun hat h => hkept hat ?_, fun hat h => hbetter hat ?_, fun hat h => hkept hat ?_⟩
  · rw [Dev.laneDo_maxi, decide_eq_true h]
  · rw [Dev.laneDo_maxi, decide_eq_false (not_lt.mpr h)]
  · rw [Dev.laneDo_mini, decide_eq_true h]
  · rw [Dev.laneDo_mini, decide_eq_false (not_lt.mpr h)]

/-! ### Loads, stores and MACM (R253) -/

section
variable {s : State} {n : Nat} {r : LaneRun} {a v : Nat}

/-- A load of a good word that is there. -/
theorem State.laneLoad_of_laneWord (hgood : s.laneGood n a) (hword : s.laneWord n r a = some v) (i : Nat) (post : Lane → Lane) :
    s.dev.laneLoad n r i a post = r.step (post { s.dev.pl n with d := Tbl.set 0 i v (s.dev.pl n).d }) := by
  have hv : v % 2 ^ 32 = v := Nat.mod_eq_of_lt (State.laneWord_lt hword)
  simp only [Dev.laneLoad, State.dmemBad_of_laneGood hgood, State.laneRead_eq, hword, Option.map_some, Lane.setD, ux_sx, hv]
  rfl

/-- A store to data memory. -/
theorem Dev.laneStore_dmem (d : Dev) (n : Nat) (r : LaneRun) (i : Nat) (ha : a ≤ 0x1FFF) (post : Lane → Lane) :
    d.laneStore n r i a post =
      .stored (post { d.pl n with dmem := Tbl.set 0 a (Tbl.get 0 i (d.pl n).d) (d.pl n).dmem }) r.advanced (dmemAddr n a) := by
  rw [Dev.laneStore, if_pos (Nat.lt_succ_of_le ha)]

/-- A store to an output of the run. -/
theorem Dev.laneStore_out (d : Dev) (n : Nat) (r : LaneRun) (i : Nat) (hlo : 0x2020 ≤ a) (hhi : a ≤ 0x202B) (post : Lane → Lane) :
    d.laneStore n r i a post =
      .next (post (d.pl n)) { r.advanced with outs := Tbl.put (a - 0x2020) (Tbl.get 0 i (d.pl n).d) r.outs } 1 false false := by
  rw [Dev.laneStore, if_neg (by omega), if_pos ⟨hlo, hhi⟩]
  rfl

end

/-- MACM with two good words that are there. -/
theorem State.laneMacm_of_laneWord {s : State} {n : Nat} {r : LaneRun} {i j u v : Nat}
    (hgoodI : s.laneGood n ((s.dev.pl n).ar i)) (hgoodJ : s.laneGood n ((s.dev.pl n).ar j))
    (hwordI : s.laneWord n r ((s.dev.pl n).ar i) = some u) (hwordJ : s.laneWord n r ((s.dev.pl n).ar j) = some v)
    (x : Nat) (pa pb : Bool) :
    s.dev.laneMacm n r x i pa j pb =
      r.accum (((s.dev.pl n).post i pa).post j pb) x ((s.dev.pl n).acc x + sx 32 u * sx 32 v) := by
  simp only [Dev.laneMacm, State.dmemBad_of_laneGood hgoodI, State.dmemBad_of_laneGood hgoodJ, State.laneRead_eq, hwordI, hwordJ,
    Option.map_some]
  rfl

/-- Settles O5: each clause is the rule of how its instruction completes, applied to what it does at its address. -/
theorem laneMemory : Obligations.LaneMemory := by
  unfold Obligations.LaneMemory
  intro s n r d i j pa pb k x u v l a acc m stored
  refine ⟨l.get_postA_true i, rfl, l.get_postA_twice i, ?ld, ?ldd, ?st, ?stOut, ?std, ?stdOut, ?macm⟩
  case ld =>
    intro hat hgood hword
    refine State.lane_next hat rfl ((State.laneLoad_of_laneWord hgood hword d (·.post i pa)).trans ?_)
    rw [Lane.post_eq]; rfl
  case ldd =>
    intro hat hgood hword
    exact State.lane_next hat rfl (State.laneLoad_of_laneWord hgood hword d id)
  case st =>
    intro hat ha
    refine State.lane_stored hat ((Dev.laneStore_dmem s.dev n r d ha (·.post i pa)).trans ?_)
    rw [Lane.post_eq]; rfl
  case stOut =>
    intro hat hlo hhi
    refine State.lane_next hat rfl ((Dev.laneStore_out s.dev n r d hlo hhi (·.post i pa)).trans ?_)
    rw [Lane.post_eq]
  case std =>
    intro hat hk
    exact State.lane_stored hat (Dev.laneStore_dmem s.dev n r d hk id)
  case stdOut =>
    intro hat hlo hhi
    exact State.lane_next hat rfl (Dev.laneStore_out s.dev n r d hlo hhi id)
  case macm =>
    intro hat hgoodA hgoodB hwordA hwordB
    have hacc : l.acc x = acc := by simp [Lane.acc, acc]
    refine State.lane_accum hat ((State.laneMacm_of_laneWord hgoodA hgoodB hwordA hwordB x pa pb).trans ?_)
    rw [hacc, Lane.post_eq, Lane.post_eq]

end Sys2Proof.Machine
end
